-- ==== Sys2Proof/Word.lean ====
section
/-! DEFINITION. The word types of the module and their plainest arithmetic: 64-bit
registers of the WALVAS cores (R63), 32-bit registers of the peripheral space (R5),
bytes in little-endian order (R9). -/

namespace Sys2Proof

/-- One byte of an array (R9). -/
abbrev Byte := BitVec 8

/-- One register of the peripheral space (R5). -/
abbrev Reg := BitVec 32

/-- A general register of a WALVAS core (R63). -/
abbrev Word := BitVec 64

/-- The little-endian value of a byte list (R9). -/
def leNat : List Byte → Nat
  | [] => 0
  | b :: bs => b.toNat + 256 * leNat bs

/-- The `n` little-endian bytes of a number (R9). -/
def leBytes : Nat → Nat → List Byte
  | 0, _ => []
  | n + 1, v => BitVec.ofNat 8 v :: leBytes n (v / 256)

/-- Bits `[hi:lo]` of a number, the notation of the scope chapter. -/
def bits (v hi lo : Nat) : Nat := v / 2 ^ lo % 2 ^ (hi - lo + 1)

/-- Bit `k` of a number. -/
def bitOf (v k : Nat) : Bool := v.testBit k

/-- `v` with bits `[hi:lo]` replaced by `x` (cut to the field's width). -/
def putBits (v hi lo x : Nat) : Nat :=
  v - bits v hi lo * 2 ^ lo + x % 2 ^ (hi - lo + 1) * 2 ^ lo

/-- A count that saturates at `top`. -/
def satInc (v top : Nat) : Nat := if v < top then v + 1 else v

/-- 0 or 1. -/
def b2n (b : Bool) : Nat := if b then 1 else 0

/-- The number read as a two's complement value of `w` bits (R65). -/
def signed (w v : Nat) : Int :=
  let u := v % 2 ^ w
  if u < 2 ^ (w - 1) then (u : Int) else (u : Int) - (2 ^ w : Nat)

/-- An integer wrapped to `w` bits (R65). -/
def wrapInt (w : Nat) (i : Int) : Nat := (i % (2 ^ w : Nat)).toNat

/-- Division rounded to nearest, halves away from zero (R262). -/
def divNearest (a : Int) (b : Nat) : Int :=
  if 0 ≤ a then (2 * a + b) / (2 * b) else -((2 * (-a) + b) / (2 * b))

/-- Replace item `n` of a list, which keeps its length. -/
def setAt {α : Type} : List α → Nat → α → List α
  | [], _, _ => []
  | _ :: xs, 0, v => v :: xs
  | x :: xs, n + 1, v => x :: setAt xs n v

/-- Numbers `start, start + 1, …` (`n` of them). -/
def countFrom : Nat → Nat → List Nat
  | _, 0 => []
  | start, n + 1 => start :: countFrom (start + 1) n

end Sys2Proof
end

