-- ==== Sys2Proof/Syntax.lean ====
section
/-! DEFINITION. The commands that the module takes: the rows of the table of operations and
events, each with its operands. A WALVAS instruction is a command to a cluster to execute it. -/

namespace Sys2Proof

/-- A Kiln cluster, 0 or 1. -/
abbrev ClusterId := Fin 2

/-- A port of the Gexia, CAN FD or similar set of four. -/
abbrev PortId := Fin 4

/-- A master class (R380), which names who writes a register: 6 the Curator, 9 a session. -/
abbrev Writer := Fin 10

/-- The fields of the RR format (R94): d, a, b, the predicate condition and its negation. -/
structure RR where
  d  : BitVec 5
  a  : BitVec 5
  b  : BitVec 5
  pc : BitVec 3
  pn : Bool
  deriving DecidableEq, Repr

/-- The fields of the RI format (R94). -/
structure RI where
  d   : BitVec 5
  a   : BitVec 5
  imm : BitVec 16
  deriving DecidableEq, Repr

/-- The fields of the MEM format (R94): d or s, the base register and the signed offset. -/
structure MemForm where
  r    : BitVec 5
  base : BitVec 5
  off  : BitVec 16
  deriving DecidableEq, Repr

/-- The block form of MEM (R94): the condition bit, the base register and the offset. -/
structure BlockForm where
  c    : BitVec 3
  base : BitVec 5
  off  : BitVec 16
  deriving DecidableEq, Repr

/-- The two floating-point opcodes (R105): FPS on binary32, FPD on binary64. -/
inductive FFmt where
  | s
  | d
  deriving DecidableEq, Repr

/-- How the test sequence of a rebuild ends (R167): the rebuilt core agrees, it differs, or the two
healthy cores disagree. -/
inductive RebuildEnd where
  | pass
  | coreDiffers
  | healthyDiffer
  deriving DecidableEq, Repr

/-- An injection that gave an unexpected result (R175): voter instance, FIELD and POINT of
VOT_INJCTL, mask, and bits [15:0] of VOT_INJRES as observed. -/
structure InjFail where
  v     : Fin 2
  field : BitVec 2
  point : BitVec 4
  mask  : BitVec 32
  res   : BitVec 16
  deriving DecidableEq, Repr

/-- What a debugger writes in a stopped cluster (R181, R185): the general register that KLN_DBGSEL
selects, the pc, or the flags and condition bits of KLN_DBGCOND. -/
inductive DbgTarget where
  | data (v : BitVec 64)
  | pc (v : BitVec 32)
  | cond (v : BitVec 32)
  deriving DecidableEq, Repr

/-- The three time registers of the real-time clock (R301). -/
inductive RtcReg where
  | sub
  | time
  | date
  deriving DecidableEq, Repr

/-- A write that re-arms the alarm (R305): RTC_ALMTIME, RTC_ALMDATE or ALMEN. -/
inductive AlarmWrite where
  | time (v : BitVec 32)
  | date (v : BitVec 32)
  | almen (on : Bool)
  deriving DecidableEq, Repr

/-- The results of an injected conversion sequence (R433): its four codes. -/
structure Codes where
  r0 : BitVec 12
  r1 : BitVec 12
  r2 : BitVec 12
  r3 : BitVec 12
  deriving DecidableEq, Repr

/-- Who asks for an extension of a provenance slot (R400, R401): the ROM, the firmware on its own
account, or the firmware for a session. -/
inductive PsSource where
  | rom
  | firmware
  | session
  deriving DecidableEq, Repr

/-- A Provenance request datagram (R402): whether it came to the pair address, where the answer goes,
and its bytes. -/
structure PvReq where
  pair : Bool
  addr : List (BitVec 8)
  port : BitVec 16
  data : List (BitVec 8)
  deriving DecidableEq, Repr

/-- A configuration that a session commits (R412): its generation and register values by address. -/
structure CfgCommit where
  gen  : BitVec 32
  regs : List (BitVec 28 × BitVec 32)
  deriving DecidableEq, Repr

/-- An entry of a ring (R216, R233): its ring and its PATH. -/
structure StnKey where
  ring : Fin 4
  path : BitVec 32
  deriving DecidableEq, Repr

/-- Who originates a collector or enumerate train (R217): a module port, or an entry whose link is down
toward the side the train leaves from. -/
inductive Origin where
  | port (p : Fin 4)
  | entry (k : StnKey) (west : Bool)
  deriving DecidableEq, Repr

/-- An identity record of an entry (R228) as the entry holds it. -/
structure IdRec where
  path     : BitVec 32
  vendor   : BitVec 16
  product  : BitVec 16
  revision : BitVec 16
  kind     : BitVec 8
  serial   : BitVec 32
  deriving DecidableEq, Repr

/-- A datagram on the accession port (R357): whether it came to a maintenance address, its source, and
its bytes. -/
structure HostMsg where
  maint : Bool
  addr  : List (BitVec 8)
  port  : BitVec 16
  data  : List (BitVec 8)
  deriving DecidableEq, Repr

/-- A journal mirror write that completes (R351, R352): the record of an order, or the record of a
commit. -/
inductive MirrorItem where
  | order (n : BitVec 64)
  | commit (tick : BitVec 64)
  deriving DecidableEq, Repr

/-- An item of a force batch (R211): OP, SPACE, KIND, POINT, VALUE, and its reserved bytes. -/
structure ForceItem where
  op    : BitVec 8
  space : BitVec 8
  kind  : BitVec 8
  point : BitVec 32
  value : BitVec 16
  rsv   : BitVec 56
  deriving DecidableEq, Repr

/-- What the standby's tests in the guard phase find (R341): a failed voter injection with its cluster,
a failed comparator injection as DLE_COMPARATOR_TEST_COMPLETE gives it, a failed read-back of MRAM. -/
structure SelfTest where
  inj  : Option (Fin 2 × InjFail)
  cmp  : Option (BitVec 2 × Bool × BitVec 32 × BitVec 11)
  mram : Bool
  deriving DecidableEq, Repr

/-- What a BOOT finds outside its own state (R397): the levels of the slot identity contacts SID1 and SID0
(R495), the partner's role line, the lanes of the partner link, Gexia ports and host ports with a synchronised PCS, HOLDOK, and
the results of its tests: usable DDR5 (R376), the injection tests (R175), the comparator test (R274). -/
structure BootEnv where
  sid      : BitVec 2
  partLine : Bool
  lanes    : BitVec 2
  gexia    : BitVec 4
  hosts    : BitVec 2
  holdOk   : Bool
  ddrOk    : Bool
  inj0     : Option InjFail
  inj1     : Option InjFail
  cmp      : Option (BitVec 2 × Bool × BitVec 32 × BitVec 11)
  deriving DecidableEq, Repr

/-- The commands of the block: one constructor for each row of the table of operations and
events (spec/opcode_table.json), in its order. -/
inductive Instr where
  /-- POWER_ON_RESET (R481). A supply ramp or the end of the shutdown hold resets the whole module except the backup domain and starts BOOT. -/
  | powerOnReset (env : BootEnv)
  /-- BACKPLANE_RESET (R497). RESET_N held low for 10 µs starts a backplane reset, held until RESET_N rises, followed by BOOT. -/
  | backplaneReset
  /-- WATCHDOG_EXPIRY (R483). The Curator watchdog period runs out without a kick and causes a module reset. -/
  | watchdogExpiry (env : BootEnv)
  /-- WDKICK (R483). A write to CUR_WDKICK restarts the watchdog period with key 0x0000_A55A, or ends the period at once with any other value. -/
  | wdkick (key : BitVec 32) (w : Writer) (env : BootEnv)
  /-- MODULE_SOFTWARE_RESET (R418). CUR_RST with KEY 0xC0DE and GO performs a module reset; another key is ignored and recorded with BAD_CODE. -/
  | moduleSoftwareReset (key : BitVec 16) (go : Bool) (w : Writer) (env : BootEnv)
  /-- KILN_CLUSTER_RESET (R482). A CUR_KLNRST write resets one cluster's cores and voters, if its state allows, and then starts its injection test. -/
  | kilnClusterReset (w : Writer) (key : BitVec 16) (sel : BitVec 2)
  /-- SEEDING_COMPLETE (R376). DDR5 check-bit seeding ends after a power-on and sets DDC_STAT.SEEDED. -/
  | seedingComplete (env : BootEnv)
  /-- CLAIM_WAIT_EXPIRY (R333). The claim wait ends with the partner's line released, and the module claims or enters HALTED with CLAIM_WITHHELD. -/
  | claimWaitExpiry
  /-- TICK_BOUNDARY (R21). Plant time reaches a multiple of the tick length; the sample instant starts a new tick, and mode, role and boundary events take effect. -/
  | tickBoundary (mis : Bool)
  /-- REBUILD_RESULT (R167). The rebuild test sequence ends, and the core is restored to TRIPLE, stays fenced, or a cluster fault is raised. -/
  | rebuildResult (cl : ClusterId) (r : RebuildEnd)
  /-- DETECT_ONLY (R168). The count of consecutive failed rebuilds reaches 2, and the cluster enters two-core detect-only. -/
  | detectOnly (cl : ClusterId)
  /-- ROLE_SAMPLE_POINT (R310). Both role lines are sampled 2 µs before the boundary for the role decisions that take effect there. -/
  | roleSamplePoint (own part : Bool)
  /-- KEEPER_RELEASE (R311). No keeper refresh arrives for 1.25 tick lengths, and the role line driver releases the line. -/
  | keeperRelease
  /-- ROLE_LOST (R313). A PRIMARY whose own line reads back released stops acting as primary at once and enters HALTED at the next boundary. -/
  | roleLost
  /-- ROLE_CONTENTION (R312). Both role lines become asserted within 100 ns, and module B's driver releases its line. -/
  | roleContention
  /-- COLLECTOR_RECEIVE (R241). A collector telegram arrives at a module port, and its present slots enter the back input buffer and the axis records. -/
  | collectorReceive (p : PortId) (f : List Byte)
  /-- INPUT_CLOSE (R54). At input close late collectors are discarded, the digests are finished, INPUT is sent and the delivery set is fixed. -/
  | inputClose
  /-- INPUT_MESSAGE (R323). A partner's INPUT message is received; the standby compares the pair state and sends FILL. -/
  | inputMessage (f : List Byte) (ready : Bool) (ofs : BitVec 32)
  /-- FILL_MESSAGE (R323). The primary writes the filled leaves, recomputes digests and sends DELTA blocks and FINAL. -/
  | fillMessage (f : List Byte)
  /-- FILL_DEADLINE (R323). At the fill deadline the primary proceeds without FILL, and a standby without INPUT treats the tick as partner-silent. -/
  | fillDeadline
  /-- PARTNER_LINK_LOST (R330). A second consecutive partner-silent tick with the partner's line asserted makes the standby stop copies and enter RESYNC. -/
  | partnerLinkLost
  /-- DELTA_MESSAGE (R323). The standby writes a received DELTA block into its back input buffer. -/
  | deltaMessage (f : List Byte)
  /-- FINAL_MESSAGE (R323). The standby compares its whole-image digest with FINAL and is in step when they are equal. -/
  | finalMessage (f : List Byte)
  /-- ADOPTION_DEADLINE (R323). Input forces are applied, the input buffers swap and the rate snapshots are taken, or adoption fails. -/
  | adoptionDeadline
  /-- FIRING_START (R45). The firing phase begins; due slices are dispatched, and the Deadline Engine request phase runs. -/
  | firingStart (mis : Option (BitVec 16))
  /-- AXIS_LOST (R251). An axis's miss count exceeds COAST, and the axis becomes LOST with its tracks STALE. -/
  | axisLost (a : Fin 1024)
  /-- SLICE_BUDGET (R119). A slice's cycle count reaches its budget, and the slice ends with SLICE_BUDGET or continues with a run-on record. -/
  | sliceBudget (cl : ClusterId)
  /-- WINDOW_CLOSE (R164). A signature window closes at its 1,024th instruction, slice end or firing end. -/
  | windowClose (cl : ClusterId)
  /-- SIGNATURE_COMPARISON (R165). The comparators' result for a closed window is ready and is classified. -/
  | signatureComparison (cl : ClusterId) (x0 x1 x2 : BitVec 32) (pairMis chainErr : Bool)
  /-- ACTION_EMIT (R262). At the action emit offset the action telegrams leave and the recompute phase begins. -/
  | actionEmit (mis : Option (BitVec 16))
  /-- RECORD_FREE (R258). An ended action record reaches its UNTIL tick and is freed. -/
  | recordFree (r : Fin 65536)
  /-- FIRING_END (R22). All due slices of both clusters have ended; output forces are applied, outputs are emitted and the commit begins. -/
  | firingEnd
  /-- OUTPUT_DEADLINE (R55). At the output deadline a still-running firing is an overrun, the guard begins and a pending time step is applied. -/
  | outputDeadline (t : SelfTest)
  /-- OVERRUN_LIMIT (R58). The consecutive overrun count reaches 3, and the module enters HALTED, or stops the scheduler in BENCH. -/
  | overrunLimit
  /-- ROLE_GATE_TEST (R341). Every 256 ticks the standby checks that its role line stays released while the partner's is asserted. -/
  | roleGateTest (released : Bool)
  /-- MODULE_APPLY_INSTANT (R454). At the apply instant the module sets local outputs, takes schedule records and takes CAN transmit areas. -/
  | moduleApplyInstant
  /-- LIO_FALLBACK (R454). WDOG consecutive missed ticks put each mode 2 local channel into its fallback. -/
  | lioFallback (partnerReleased : Bool)
  /-- SCHEDULE_FIRE (R456). A mode 3 channel switches at its schedule's FIRE time. -/
  | scheduleFire (ch : Fin 16)
  /-- PULSE_END (R456). A scheduled pulse ends after WIDTH and the channel switches off. -/
  | pulseEnd (ch : Fin 16)
  /-- EDGE_ACCEPT (R452). A local input level holds for DEB and is accepted as an edge with the time of its raw transition. -/
  | edgeAccept (ch : Fin 16) (level : Bool) (raw : BitVec 64)
  /-- SHORT_DETECT (R457). The current limit is active for 100 µs, the driver switches off and SHORT is latched. -/
  | shortDetect (ch : Fin 16)
  /-- OPENLOAD_DETECT (R457). An on-state current below 5 mA for 10 ms latches OPENLOAD. -/
  | openloadDetect (ch : Fin 16)
  /-- FOREIGN_DETECT (R457). An off channel whose terminal reads high for longer than DEB latches FOREIGN. -/
  | foreignDetect (ch : Fin 16)
  /-- SHORT_CLEAR (R457). Clearing a SHORT bit in LIO_FAULT allows the driver to switch on again. -/
  | shortClear (ch : Fin 16)
  /-- CAN_FRAME_RECEIVE (R460). A received CAN frame that passes a filter enters the receive FIFO. -/
  | canFrameReceive (p : PortId) (f : List Byte)
  /-- CAN_FRAME_TRANSMITTED (R462). The frame at the head of the transmit queue completes and the next frame enters arbitration. -/
  | canFrameTransmitted (p : PortId) (time : BitVec 32)
  /-- CAN_TX_ERROR (R463). A frame loses arbitration or meets an error and is retried or dropped into TXLOST. -/
  | canTxError (p : PortId) (error : Bool)
  /-- CAN_BUSOFF (R464). A port goes bus-off, its queue is discarded and recovery starts if AUTOREC is set. -/
  | canBusoff (p : PortId)
  /-- CAN_RECOVER (R464). CFD_CTL.RECOVER starts the bus-off recovery sequence. -/
  | canRecover (p : PortId)
  /-- CAN_RECOVERED (R464). The bus-off recovery sequence completes and the port returns to error-active. -/
  | canRecovered (p : PortId)
  /-- STATION_SAMPLE (R40). A station latches its inputs and encoder counts at the sample instant in station time. -/
  | stationSample (k : StnKey) (west east io : Bool) (data : List Byte)
  /-- COLLECTOR_INSERT (R223). A direct entry writes its slot into a passing collector telegram and repeats it onward. -/
  | collectorInsert (k : StnKey) (f : List Byte)
  /-- COLLECTOR_ORIGINATE (R218). A module port or an originating entry starts its collector train after its holdback. -/
  | collectorOriginate (o : Origin)
  /-- STATION_OUTPUT_RECEIVE (R244). An entry accepts or discards an output telegram by sequence, lateness and generation. -/
  | stationOutputReceive (k : StnKey) (f : List Byte) (now : BitVec 32)
  /-- STATION_ACTION_RECEIVE (R266). A station accepts, replaces, cancels or refuses an action entry. -/
  | stationActionReceive (k : StnKey) (f : List Byte) (now : BitVec 32)
  /-- STATION_APPLY (R245). At A(T) an entry applies the accepted outputs of tick T or counts the tick as missed. -/
  | stationApply (k : StnKey) (t : BitVec 64)
  /-- STATION_FALLBACK (R245). The missed-tick count reaches WDOG and the entry applies its fallback table. -/
  | stationFallback (k : StnKey)
  /-- STATION_ACTION_FIRE (R267). A station's time reaches FIRE and it sets its action output. -/
  | stationActionFire (k : StnKey) (aid : BitVec 32) (now : BitVec 32)
  /-- STATION_PULSE_END (R267). A station's pulse off event at FIRE + WIDTH takes effect. -/
  | stationPulseEnd (k : StnKey) (output : BitVec 16) (now : BitVec 32)
  /-- STATION_CONFIGURE (R229). An entry applies a complete configuration received in configure telegrams. -/
  | stationConfigure (k : StnKey) (f : List Byte)
  /-- STATION_ENUMERATE (R228). A direct entry appends its identity group to a passing enumerate telegram. -/
  | stationEnumerate (k : StnKey) (f : List Byte) (recs : List IdRec)
  /-- STATION_SYNC (R296). An entry repeats a Sync with its residence time and synchronises to it. -/
  | stationSync (k : StnKey) (f : List Byte) (residence delay : BitVec 32) (within : Bool)
  /-- ENUMERATE_RECEIVE (R237). The module matches each identity record against the Catalogue and sends configure telegrams. -/
  | enumerateReceive (p : PortId) (f : List Byte)
  /-- ENUMERATE_PERIODIC (R237). A driving port sends an enumerate train in its first driving tick and when N mod 256 = 128. -/
  | enumeratePeriodic (p : PortId)
  /-- ENUMREQ (R237). GXP_CTL.ENUMREQ sends an enumerate train in the next tick. -/
  | enumreq (p : PortId) (w : Writer)
  /-- RING_STATE_CHANGE (R217). A ring link breaks or is restored, RSTATE changes and RING_BREAK or RING_RESTORED is written. -/
  | ringStateChange (p : PortId) (st : BitVec 2) (link : Bool)
  /-- CAPTURE_GO (R248). GXP_CAPCTL.GO starts a telegram capture to DDR5. -/
  | captureGo (p : PortId) (w : Writer)
  /-- CAPTURE_FULL (R248). A capture area fills, and the capture wraps or stops. -/
  | captureFull (p : PortId)
  /-- GEXIA_SYNC (R295). Every DIV ticks the primary sends a one-step Sync, and the standby an echo Sync, on each ring. -/
  | gexiaSync (p : PortId) (seqid : BitVec 16) (origin : BitVec 80) (corr : BitVec 64)
  /-- PDELAY_MEASURE (R295). Once every 256 ticks each port and direct entry measures its link delays with Pdelay. -/
  | pdelayMeasure (p : PortId) (delay : BitVec 32)
  /-- PTP_MESSAGE (R291). A PTP message on a host port is timestamped and handled by the Curator PTP engine and servo. -/
  | ptpMessage (port : Fin 2) (sent : Bool) (mtype : BitVec 4) (seqid : BitVec 16) (time : BitVec 64)
  /-- PTP_LOCK_CHANGE (R294). The servo reports lock after 16 good Sync intervals, or loses it, and PTP_LOCKED or PTP_LOST is written. -/
  | ptpLockChange (lock : Bool) (time : BitVec 64)
  /-- PTP_WAIT_EXPIRY (R283). The wait for PTP lock ends and the module enters PRIMARY on PTP or RTC time. -/
  | ptpWaitExpiry
  /-- TIME_SET (R284). TMB_CTL.SETGO loads TMB_SET into plant time, if allowed. -/
  | timeSet (ptp : Bool)
  /-- TIME_STEP (R285). TMB_CTL.STEPGO requests a signed step, applied at once or at the next guard, or refused. -/
  | timeStep
  /-- ADDEND_WRITE (R282). A write of TMB_ADDEND_HI checks and loads the plant-time rate from the next 250 MHz cycle. -/
  | addendWrite (hi : BitVec 32) (w : Writer)
  /-- TIMESTAMP_POP (R308). A read of TMB_TSINFO pops the oldest timestamp FIFO entry into TMB_TSTIME. -/
  | timestampPop
  /-- PAIR_TIME_LIMIT (R289). The pair offset exceeds TMB_PAIRLIM in 4 consecutive ticks and the standby marks itself unhealthy. -/
  | pairTimeLimit
  /-- TIMEOK_LIMIT (R342). A standby with TIMEOK = 0 for 1,024 consecutive ticks enters RESYNC. -/
  | timeokLimit
  /-- PPS_PULSE (R499). PPS_OUT rises for 10 µs at each whole second of valid plant time. -/
  | ppsPulse
  /-- RTC_SECOND (R304). The RTC advances a second and matches the alarm. -/
  | rtcSecond
  /-- RTC_TRIM_WINDOW (R303). A new 64 s trim window starts with the current trim count. -/
  | rtcTrimWindow
  /-- RTC_HALT_SET (R302). Setting RTC_CTL.HALT stops the counter at the next pulse and records the halt value. -/
  | rtcHaltSet (sub : BitVec 15)
  /-- RTC_RELEASE (R302). Clearing HALT checks the calendar and restarts the counter, applying the alarm effects of the adjustment. -/
  | rtcRelease
  /-- RTC_SHADOW_READ (R301). A first read while shadowing is on freezes the three time registers into shadows. -/
  | rtcShadowRead (r : RtcReg) (sub : BitVec 15)
  /-- SHADOW_RELEASE (R301). The RTC shadows are released 4 ms after the first read without an RTC_DATE read. -/
  | shadowRelease
  /-- ALARM_REARM (R305). A write to RTC_ALMTIME, RTC_ALMDATE or ALMEN re-arms the alarm and clears HOLD. -/
  | alarmRearm (a : AlarmWrite) (w : Writer)
  /-- VLOST_CLEAR (R299). Writing 1 to RTC_STAT.VLOST clears it and also clears HALT. -/
  | vlostClear
  /-- BACKUP_SUPPLY_LOST (R299). The backup supply falls below retention and VLOST is set. -/
  | backupSupplyLost
  /-- ACTDIG_MESSAGE (R325). The standby receives the primary's action digest and sends or withholds its action copies. -/
  | actdigMessage (f : List Byte)
  /-- OUTDIG_MESSAGE (R325). The standby receives the primary's output digest and sends or withholds its output copies. -/
  | outdigMessage (f : List Byte)
  /-- DIGEST_TIMEOUT (R325). No primary digest arrives within 2 µs of its own, and the standby sends its copies and sets OUTTO. -/
  | digestTimeout
  /-- REJOIN_LIMIT (R328). Divergences in the last 3,600 s exceed RJLIMIT, and the standby enters HALTED. -/
  | rejoinLimit
  /-- NOTICE_MESSAGE (R329). A NOTICE from the partner announces a fault, power-fail warning or hand-over. -/
  | noticeMessage (f : List Byte)
  /-- COMMIT_MESSAGE (R319). A COMMIT part is received and, once complete, the record is stored and CONFIRM sent. -/
  | commitMessage (f : List Byte)
  /-- CONFIRM_MESSAGE (R319). A CONFIRM reports the partner's stored commit record and its mirror write. -/
  | confirmMessage (f : List Byte)
  /-- ORDER_MESSAGE (R355). The standby writes replicated NEW, RELEASE and CLIENT entries and returns ORDERACK. -/
  | orderMessage (f : List Byte)
  /-- ORDERACK_MESSAGE (R355). The primary receives the standby's ORDERACK and commits the order. -/
  | orderackMessage (f : List Byte)
  /-- IMAGE_MESSAGE (R319). A program image or Catalogue part is received over the partner link. -/
  | imageMessage (f : List Byte)
  /-- FORCE_MESSAGE (R319). A replicated force batch is received and is held for its EVTTICK. -/
  | forceMessage (f : List Byte)
  /-- SESSION_MESSAGE (R319). A replicated session operation is received and applied. -/
  | sessionMessage (f : List Byte)
  /-- OUTBLK_MESSAGE (R336). A module in RESYNC writes a changed 1 KiB block of the emitted output image. -/
  | outblkMessage (f : List Byte)
  /-- REQ_MESSAGE (R335). The primary checks a rejoin or claim REQ and answers with acceptance or refusal. -/
  | reqMessage (f : List Byte)
  /-- REQ_ANSWER (R335). A REQ answer is received; acceptance sets plant time from the partner. -/
  | reqAnswer (f : List Byte)
  /-- REQ_RETRY (R335). A module in RESYNC resends REQ every 1 s until it is accepted. -/
  | reqRetry
  /-- PAGE_MESSAGE (R337). A rejoining module writes a received 4 KiB checkpoint page. -/
  | pageMessage (f : List Byte)
  /-- MIRROR_MESSAGE (R338). A rejoining module applies MIRROR records to its track table and axis state. -/
  | mirrorMessage (f : List Byte)
  /-- RESYNC_PASS_END (R339). A checkpoint pass ends, and the primary starts the next pass or fixes the cut tick. -/
  | resyncPassEnd
  /-- CUT_MESSAGE (R339). The CUT with its state block completes the checkpoint and the module becomes STANDBY at C. -/
  | cutMessage (f : List Byte)
  /-- LACK_MESSAGE (R319). A LACK acknowledges one message of classes 1 to 4. -/
  | lackMessage (f : List Byte)
  /-- FRAME_RESEND_TIMEOUT (R318). An unacknowledged frame is resent after 20 µs, and after three resends the link counts as down. -/
  | frameResendTimeout (cls : Fin 5) (mseq : BitVec 32)
  /-- LINK_LANE (R316). A lane loses block lock for 10 µs and the link continues on the other lane, or goes down. -/
  | linkLane (lane : Fin 2)
  /-- SWAP (R332). PTL_CTL.SWAP requests a maintenance swap, checked and fixed at tick W. -/
  | swap (w : Writer)
  /-- MAINTENANCE_SWAP (R329). At boundary W the standby becomes PRIMARY and the old primary becomes STANDBY. -/
  | maintenanceSwap
  /-- RSREQ (R335). PTL_CTL.RSREQ makes the module enter RESYNC at the next boundary. -/
  | rsreq (w : Writer)
  /-- CLAIM (R333). PTL_CTL.CLAIM makes a HALTED module claim the role when the partner's line is released. -/
  | claim (w : Writer)
  /-- RSABORT (R340). PTL_CTL.RSABORT ends RESYNC and the module enters HALTED. -/
  | rsabort (w : Writer)
  /-- HOST_ORDER (R360). The primary checks an ORDER datagram and numbers, duplicates or refuses it. -/
  | hostOrder (p : Fin 2) (h : HostMsg)
  /-- ORDER_ACK_DEADLINE (R347). A pending order not committed by the emit phase of T + 1 is answered with REFUSE TRY_AGAIN. -/
  | orderAckDeadline
  /-- HOST_CACK (R363). The primary frees a completed or dropped record on CACK and replicates a RELEASE. -/
  | hostCack (p : Fin 2) (h : HostMsg)
  /-- HOST_QUERY (R364). A module holding the journal answers QUERY with REPLY. -/
  | hostQuery (p : Fin 2) (h : HostMsg)
  /-- COMPLETE_RETRY (R363). COMPLETE is resent every CRETRY ms until CACK arrives. -/
  | completeRetry (n : BitVec 64)
  /-- CLIENT_STATE_WRITE (R350). A session write of a client state and key is checked whole and applied. -/
  | clientStateWrite (k : BitVec 8) (data key : List Byte)
  /-- IMAGE_LOAD (R192). A program image load in BENCH is checked and accepted, followed by a cold restart. -/
  | imageLoad (img cat : List Byte)
  /-- ONLINE_CHANGE (R201). An image sent for online change is received, checked, classed and staged. -/
  | onlineChange (img cat : List Byte)
  /-- STAGING_COMPLETE (R203). Copies, MRAM writes and the NOR store finish and the change becomes READY. -/
  | stagingComplete
  /-- ONLINE_CHANGE_SWITCH (R206). At the boundary into S the new image, tables, bank and Catalogue take effect. -/
  | onlineChangeSwitch
  /-- WARM_RESTART (R197). KLN_PGMCTL.CMD = 1 requests a warm restart. -/
  | warmRestart (maint : Bool)
  /-- COLD_RESTART (R197). KLN_PGMCTL.CMD = 2 requests a cold restart. -/
  | coldRestart (maint : Bool)
  /-- CANCEL_CHANGE (R201). KLN_PGMCTL.CMD = 3 cancels an online change up to READY. -/
  | cancelChange
  /-- RESTART_SECTIONS_WRITTEN (R198). A restart's sections are written and RESTARTED is reported in the pair state. -/
  | restartSectionsWritten
  /-- RESTART_FIRST_FIRING (R198). The tick s of a restart is reached, the start record is written and firing resumes. -/
  | restartFirstFiring
  /-- FORCE_WRITE (R211). A session force batch is checked whole and fixed for a boundary. -/
  | forceWrite (maint : Bool) (items : List ForceItem)
  /-- FORCE_BATCH_APPLY (R211). At its EVTTICK a force batch takes effect, and PS6 is extended. -/
  | forceBatchApply
  /-- SCHCTL_RUN (R61). Setting KLN_SCHCTL.RUN starts slice dispatch at each firing. -/
  | schctlRun (on : Bool) (w : Writer)
  /-- SCHCTL_STEP (R61). KLN_SCHCTL.STEP in BENCH runs exactly one firing at the next boundary. -/
  | schctlStep (w : Writer)
  /-- TICK_LENGTH_SELECT (R61). A write of KLN_TICKSEL.LEN sets a new tick length and reserve from the next boundary. -/
  | tickLengthSelect (len : BitVec 3) (w : Writer)
  /-- RETRY (R168). KLN_CLCTL.RETRY clears the rebuild count and allows one rebuild at the next boundary. -/
  | retry (cl : ClusterId) (w : Writer)
  /-- DEBUG_ATTACH (R179). KLN_DBGCTL.ATTACH attaches or detaches a debugger session in BENCH. -/
  | debugAttach (cl : ClusterId) (on : Bool) (w : Writer)
  /-- DEBUG_BRKEN (R155). KLN_DBGCTL.BRKEN enables or disables breakpoints for the session. -/
  | debugBrken (cl : ClusterId) (on : Bool)
  /-- DEBUG_HALT (R180). KLN_DBGCTL.HALT stops the cluster at the next instruction boundary. -/
  | debugHalt (cl : ClusterId)
  /-- DEBUG_STEP (R180). KLN_DBGCTL.STEP retires exactly one instruction on a stopped cluster. -/
  | debugStep (cl : ClusterId) (w : Writer)
  /-- DEBUG_RESUME (R182). KLN_DBGCTL.RESUME compares core state signatures and resumes the cluster. -/
  | debugResume (cl : ClusterId) (w : Writer)
  /-- DEBUG_REGISTER_WRITE (R181). A debugger write to a core register, pc or condition bits is applied to core 0 and replayed to cores 1 and 2. -/
  | debugRegisterWrite (cl : ClusterId) (t : DbgTarget) (w : Writer)
  /-- DEBUG_MEMORY_ACCESS (R391). A class 9 access is made, or refused in a locked region with LOCKED_DEBUG. -/
  | debugMemoryAccess (inst : BitVec 4) (a : BitVec 48) (n : BitVec 8) (data : Option (List Byte))
  /-- INJECTION_GO (R178). VOT_INJCTL.GO runs one injection into one voter instance and records its result. -/
  | injectionGo (cl : ClusterId) (v : Fin 2) (w : Writer) (observed : Option (BitVec 16))
  /-- INJECTION_TEST_COMPLETE (R174). A cluster's injection test after reset ends, setting TRIPLE or leaving FAILED. -/
  | injectionTestComplete (cl : ClusterId) (fail : Option InjFail)
  /-- DLE_CMPINJ_GO (R274). DLE_CMPINJ.GO runs one comparator injection. -/
  | dleCmpinjGo (w : Writer) (observed : Option (BitVec 11))
  /-- MPU_APPLY (R387). MPU_CCTL.APPLY checks a class's staged regions and makes them active. -/
  | mpuApply (c : Fin 10) (w : Writer)
  /-- DRAIN_COMPLETE (R388). Accesses checked under the old set complete and DRAIN clears. -/
  | drainComplete (c : Fin 10)
  /-- PATROL_SCRUB (R377). The patrol reads a word or burst, writes back corrections and records uncorrectable words. -/
  | patrolScrub (a : BitVec 48)
  /-- FULL_SCRUB (R378). DDC_SCRUB.FULL requests admission for a full-bandwidth DDR5 scrub. -/
  | fullScrub (w : Writer)
  /-- FULL_SCRUB_END (R378). A full DDR5 scrub reaches the end of DDR5 and stops. -/
  | fullScrubEnd
  /-- PS_EXTEND (R399). CUR_PSCTL.GO extends a provenance slot and logs the measurement, if R400 allows. -/
  | psExtend (n : BitVec 3) (src : PsSource) (data : BitVec 384)
  /-- PROVENANCE_REPORT (R403). A TYPE 1 request is answered with the signed report. -/
  | provenanceReport (q : PvReq)
  /-- LOG_PART (R403). A TYPE 2 request is answered with one part of the measurement log. -/
  | logPart (q : PvReq)
  /-- CERTIFICATE (R403). A TYPE 3 request is answered with the identity certificate. -/
  | certificate (q : PvReq)
  /-- BEGIN (R405). UPD_CTL BEGIN checks an update header for a slot and starts the body transfer. -/
  | begin (slot : Fin 2) (header : List (BitVec 8))
  /-- ABORT (R406). UPD_CTL ABORT stops the running transfer and leaves the slot WRITING. -/
  | abort
  /-- UPDATE_BODY_COMPLETE (R406). The body is written and read back, and the slot becomes VALID or FAILED. -/
  | updateBodyComplete (body : List (BitVec 8))
  /-- ACTIVATE (R408). UPD_CTL ACTIVATE arms a trial of a slot. -/
  | activate (slot : Fin 2)
  /-- CONFIRM (R410). UPD_CTL CONFIRM confirms a running trial. -/
  | confirm
  /-- RECOVER (R414). UPD_CTL RECOVER makes the next reset enter RECOVERY. -/
  | recover
  /-- DISARM (R408). UPD_CTL DISARM cancels an armed trial. -/
  | disarm
  /-- TRIAL_AUTO_CONFIRM (R410). A trial that meets its conditions for SETTLE seconds confirms itself. -/
  | trialAutoConfirm
  /-- TRIAL_EXPIRY (R411). The trial window ends without confirmation and EXPIRED is set. -/
  | trialExpiry
  /-- RECOVERY_DOWNLOAD (R414). A DFU or TFTP image in RECOVERY is checked, stored, armed as a trial, and the module resets. -/
  | recoveryDownload (slot : Fin 2) (header body : List Byte) (env : BootEnv)
  /-- CONFIGURATION_COMMIT (R413). A session configuration commit is written to the active bank and extends PS4, or is refused during a trial. -/
  | configurationCommit (c : CfgCommit)
  /-- LEDGER_FLUSH (R425). LDG_CTL.FLUSH requests a flush of unflushed records to MRAM. -/
  | ledgerFlush
  /-- LEDGER_HWM_FLUSH (R425). Unflushed records reach LDG_HWM and a flush requests admission. -/
  | ledgerHwmFlush
  /-- LEDGER_FLUSH_COMPLETE (R425). A flush finds no unflushed record left and ends. -/
  | ledgerFlushComplete
  /-- RATE_WINDOW_END (R429). A 1 s rate window ends and LEDGER_SUPPRESSED records are written. -/
  | rateWindowEnd
  /-- WINDOW_CHANGE (R434). FILT consecutive results move a channel OUT of or back IN its window, with its action. -/
  | windowChange (ch : Fin 24) (code : BitVec 12)
  /-- INJECTED_SEQUENCE (R433). A trigger starts an injected conversion sequence, which captures its trigger time. -/
  | injectedSequence (k : Fin 4) (codes : Codes) (running : Bool)
  /-- SVA_INJECT_GO (R433). SVA_INJCTLk.GO triggers an injected sequence by software. -/
  | svaInjectGo (k : Fin 4) (codes : Codes) (running : Bool) (w : Writer)
  /-- POWER_FAIL_WARNING (R437). BUS below 18.0 V for 5 µs latches PFW and starts the power-fail sequence. -/
  | powerFailWarning
  /-- SHUTDOWN_HOLD_END (R438). BUS stays at or above 20.4 V for 100 ms in shutdown hold and a power-on reset follows. -/
  | shutdownHoldEnd (env : BootEnv)
  /-- SUPPLY_LOST (R476). The supply is lost after the warning and the module becomes UNPOWERED. -/
  | supplyLost
  /-- HOLDOK_CHANGE (R439). SCAP crosses 24.0 V, changing HOLDOK, with HOLDUP_LOW when it falls. -/
  | holdokChange (up : Bool)
  /-- ADM_REQUEST (R442). ADM_REQ.GO submits an admission request for a class. -/
  | admRequest (w : Writer) (cls : BitVec 3) (port : BitVec 2)
  /-- ADM_RELEASE (R442). ADM_REL.GO releases a grant early. -/
  | admRelease (w : Writer) (cls : BitVec 3) (port : BitVec 2)
  /-- ADM_SLICE_END (R442). A grant's slice ends and the operation renews, pauses or releases. -/
  | admSliceEnd (cls : BitVec 3) (port : BitVec 2)
  /-- ADM_OVERLOAD (R443). Measured power exceeds the budget for 10 ms, setting OVERMEAS. -/
  | admOverload (mw : BitVec 17)
  /-- ADM_OVERLOAD_CLEAR (R443). Measured power stays below the budget for 100 ms and OVERMEAS clears. -/
  | admOverloadClear (mw : BitVec 17)
  /-- LABEL_REDRAW (R467). LBL_CTL.GO requests a redraw of the front label. -/
  | labelRedraw (w : Writer)
  /-- LABEL_ABORT (R474). LBL_CTL.ABORT grounds every drive and ends the redraw. -/
  | labelAbort
  /-- LABEL_PICTURE_WRITE (R465). A new picture is written to the inactive copy and made active. -/
  | labelPictureWrite (bs : List Byte)
  /-- LABEL_PASS_END (R466). A redraw pass ends and the next pass begins or the redraw ends. -/
  | labelPassEnd
  /-- LABEL_DEFER_RESUME (R468). T_BOARD returns to range and a deferred pass starts. -/
  | labelDeferResume
  /-- START_WARM (R479). CUR_MODECTL START_WARM enters PRIMARY from BENCH with a warm restart. -/
  | startWarm
  /-- START_COLD (R479). CUR_MODECTL START_COLD enters PRIMARY from BENCH with a cold restart. -/
  | startCold
  /-- HALT (R479). CUR_MODECTL HALT moves a STANDBY or PRIMARY to HALTED or hands over. -/
  | halt (force : Bool)
  /-- BENCH (R479). CUR_MODECTL BENCH moves a HALTED module to BENCH. -/
  | bench
  /-- LEVER_OPEN (R511). The extraction lever switch opens and the module hands over or halts by mode. -/
  | leverOpen
  /-- PRESENCE_MATED (R498). Both presence contacts read low for 20 ms, and the main path closes. -/
  | presenceMated
  /-- WITHDRAWAL (R512). A presence contact reads high for 2 µs; the module goes silent and runs the hold-up steps. -/
  | withdrawal
  /-- REGISTER_WRITE (R7). A write to a register without its own row takes effect under its access code and field rules, or is refused. -/
  | registerWrite (a : BitVec 48) (v : BitVec 64) (size : BitVec 4) (w : Writer)
  /-- ADD (R120). g[d] = g[a] + g[b]. -/
  | add (cl : ClusterId) (r : RR)
  /-- SUB (R120). g[d] = g[a] − g[b]. -/
  | sub (cl : ClusterId) (r : RR)
  /-- AND (R120). g[d] = g[a] AND g[b]. -/
  | andR (cl : ClusterId) (r : RR)
  /-- OR (R120). g[d] = g[a] OR g[b]. -/
  | orR (cl : ClusterId) (r : RR)
  /-- XOR (R120). g[d] = g[a] XOR g[b]. -/
  | xorR (cl : ClusterId) (r : RR)
  /-- ANDN (R120). g[d] = g[a] AND NOT g[b]. -/
  | andn (cl : ClusterId) (r : RR)
  /-- ORN (R120). g[d] = g[a] OR NOT g[b]. -/
  | orn (cl : ClusterId) (r : RR)
  /-- XNOR (R120). g[d] = NOT (g[a] XOR g[b]). -/
  | xnor (cl : ClusterId) (r : RR)
  /-- SHL (R120). Shifts left by g[b] mod 64. -/
  | shl (cl : ClusterId) (r : RR)
  /-- SHR (R120). Shifts right logically by g[b] mod 64. -/
  | shr (cl : ClusterId) (r : RR)
  /-- SAR (R120). Shifts right arithmetically by g[b] mod 64. -/
  | sar (cl : ClusterId) (r : RR)
  /-- ROR (R120). Rotates right by g[b] mod 64. -/
  | ror (cl : ClusterId) (r : RR)
  /-- MUL (R120). Low 64 bits of the product. -/
  | mul (cl : ClusterId) (r : RR)
  /-- MULH (R120). High 64 bits of the signed product. -/
  | mulh (cl : ClusterId) (r : RR)
  /-- MULHU (R120). High 64 bits of the unsigned product. -/
  | mulhu (cl : ClusterId) (r : RR)
  /-- DIV (R120). Signed quotient rounded toward zero, or DIV_ZERO. -/
  | div (cl : ClusterId) (r : RR)
  /-- DIVU (R120). Unsigned quotient, or DIV_ZERO. -/
  | divu (cl : ClusterId) (r : RR)
  /-- REM (R120). Signed remainder, or DIV_ZERO. -/
  | rem (cl : ClusterId) (r : RR)
  /-- REMU (R120). Unsigned remainder, or DIV_ZERO. -/
  | remu (cl : ClusterId) (r : RR)
  /-- MIN (R120). Signed minimum. -/
  | min (cl : ClusterId) (r : RR)
  /-- MAX (R120). Signed maximum. -/
  | max (cl : ClusterId) (r : RR)
  /-- MINU (R120). Unsigned minimum. -/
  | minu (cl : ClusterId) (r : RR)
  /-- MAXU (R120). Unsigned maximum. -/
  | maxu (cl : ClusterId) (r : RR)
  /-- ADDW (R120). 32-bit addition, sign-extended. -/
  | addw (cl : ClusterId) (r : RR)
  /-- SUBW (R120). 32-bit subtraction, sign-extended. -/
  | subw (cl : ClusterId) (r : RR)
  /-- SHLW (R120). 32-bit shift left by g[b] mod 32. -/
  | shlw (cl : ClusterId) (r : RR)
  /-- SHRW (R120). 32-bit logical shift right. -/
  | shrw (cl : ClusterId) (r : RR)
  /-- SARW (R120). 32-bit arithmetic shift right. -/
  | sarw (cl : ClusterId) (r : RR)
  /-- RORW (R120). 32-bit rotate right. -/
  | rorw (cl : ClusterId) (r : RR)
  /-- MULW (R120). Low 32 bits of the 32-bit product, sign-extended. -/
  | mulw (cl : ClusterId) (r : RR)
  /-- DIVW (R120). 32-bit signed quotient, or DIV_ZERO. -/
  | divw (cl : ClusterId) (r : RR)
  /-- DIVUW (R120). 32-bit unsigned quotient, or DIV_ZERO. -/
  | divuw (cl : ClusterId) (r : RR)
  /-- REMW (R120). 32-bit signed remainder, or DIV_ZERO. -/
  | remw (cl : ClusterId) (r : RR)
  /-- REMUW (R120). 32-bit unsigned remainder, or DIV_ZERO. -/
  | remuw (cl : ClusterId) (r : RR)
  /-- CLZ (R120). Counts leading zero bits of g[a]. -/
  | clz (cl : ClusterId) (r : RR)
  /-- CTZ (R120). Counts trailing zero bits of g[a]. -/
  | ctz (cl : ClusterId) (r : RR)
  /-- POPC (R120). Counts set bits of g[a]. -/
  | popc (cl : ClusterId) (r : RR)
  /-- BSWAP (R120). Reverses the byte order of g[a]. -/
  | bswap (cl : ClusterId) (r : RR)
  /-- SXB (R103). Sign-extends bits [7:0]. -/
  | sxb (cl : ClusterId) (r : RR)
  /-- SXH (R103). Sign-extends bits [15:0]. -/
  | sxh (cl : ClusterId) (r : RR)
  /-- SXW (R103). Sign-extends bits [31:0]. -/
  | sxw (cl : ClusterId) (r : RR)
  /-- ZXB (R103). Zero-extends bits [7:0]. -/
  | zxb (cl : ClusterId) (r : RR)
  /-- ZXH (R103). Zero-extends bits [15:0]. -/
  | zxh (cl : ClusterId) (r : RR)
  /-- ZXW (R103). Zero-extends bits [31:0]. -/
  | zxw (cl : ClusterId) (r : RR)
  /-- JR (R101). Jumps to the checked address in g[a]. -/
  | jr (cl : ClusterId) (r : RR)
  /-- CEQ (R121). c[d] = (g[a] == g[b]). -/
  | ceq (cl : ClusterId) (r : RR)
  /-- CLT (R121). c[d] = signed g[a] < g[b]. -/
  | clt (cl : ClusterId) (r : RR)
  /-- CLTU (R121). c[d] = unsigned g[a] < g[b]. -/
  | cltu (cl : ClusterId) (r : RR)
  /-- CTST (R121). c[d] = (g[a] AND g[b]) != 0. -/
  | ctst (cl : ClusterId) (r : RR)
  /-- CEQW (R104). 32-bit equality compare. -/
  | ceqw (cl : ClusterId) (r : RR)
  /-- CLTW (R104). 32-bit signed less-than compare. -/
  | cltw (cl : ClusterId) (r : RR)
  /-- CLTUW (R104). 32-bit unsigned less-than compare. -/
  | cltuw (cl : ClusterId) (r : RR)
  /-- CAND (R121). c[d] = c[a] AND c[b]. -/
  | cand (cl : ClusterId) (r : RR)
  /-- COR (R121). c[d] = c[a] OR c[b]. -/
  | cor (cl : ClusterId) (r : RR)
  /-- CXOR (R121). c[d] = c[a] XOR c[b]. -/
  | cxor (cl : ClusterId) (r : RR)
  /-- CANDN (R121). c[d] = c[a] AND NOT c[b]. -/
  | candn (cl : ClusterId) (r : RR)
  /-- CORN (R121). c[d] = c[a] OR NOT c[b]. -/
  | corn (cl : ClusterId) (r : RR)
  /-- CNOT (R121). c[d] = NOT c[a]. -/
  | cnot (cl : ClusterId) (r : RR)
  /-- MFC (R121). Copies c7 to c0 into g[d]. -/
  | mfc (cl : ClusterId) (r : RR)
  /-- MTC (R121). Writes c7 to c1 from g[a]. -/
  | mtc (cl : ClusterId) (r : RR)
  /-- FADD (R123). Floating-point addition. -/
  | fadd (cl : ClusterId) (f : FFmt) (r : RR)
  /-- FSUB (R123). Floating-point subtraction. -/
  | fsub (cl : ClusterId) (f : FFmt) (r : RR)
  /-- FMUL (R123). Floating-point multiplication. -/
  | fmul (cl : ClusterId) (f : FFmt) (r : RR)
  /-- FDIV (R123). Floating-point division. -/
  | fdiv (cl : ClusterId) (f : FFmt) (r : RR)
  /-- FSQRT (R123). Floating-point square root. -/
  | fsqrt (cl : ClusterId) (f : FFmt) (r : RR)
  /-- FMIN (R124). Floating-point minimum. -/
  | fmin (cl : ClusterId) (f : FFmt) (r : RR)
  /-- FMAX (R124). Floating-point maximum. -/
  | fmax (cl : ClusterId) (f : FFmt) (r : RR)
  /-- FMAC (R123). Fused multiply-add into g[d]. -/
  | fmac (cl : ClusterId) (f : FFmt) (r : RR)
  /-- FABS (R123). Clears the sign bit. -/
  | fabs (cl : ClusterId) (f : FFmt) (r : RR)
  /-- FNEG (R123). Inverts the sign bit. -/
  | fneg (cl : ClusterId) (f : FFmt) (r : RR)
  /-- FCPYS (R123). Magnitude of a with the sign of b. -/
  | fcpys (cl : ClusterId) (f : FFmt) (r : RR)
  /-- FCEQ (R123). Quiet equality compare into c[d]. -/
  | fceq (cl : ClusterId) (f : FFmt) (r : RR)
  /-- FCLT (R123). Signalling less-than compare. -/
  | fclt (cl : ClusterId) (f : FFmt) (r : RR)
  /-- FCLE (R123). Signalling less-or-equal compare. -/
  | fcle (cl : ClusterId) (f : FFmt) (r : RR)
  /-- FCUN (R123). Sets c[d] when either operand is a NaN. -/
  | fcun (cl : ClusterId) (f : FFmt) (r : RR)
  /-- FTOI (R125). Converts to a signed 64-bit integer. -/
  | ftoi (cl : ClusterId) (f : FFmt) (r : RR)
  /-- FTOU (R125). Converts to an unsigned 64-bit integer. -/
  | ftou (cl : ClusterId) (f : FFmt) (r : RR)
  /-- ITOF (R125). Converts a signed integer to floating point. -/
  | itof (cl : ClusterId) (f : FFmt) (r : RR)
  /-- UTOF (R125). Converts an unsigned integer to floating point. -/
  | utof (cl : ClusterId) (f : FFmt) (r : RR)
  /-- FCVT (R125). Widens or narrows between binary32 and binary64. -/
  | fcvt (cl : ClusterId) (f : FFmt) (r : RR)
  /-- FRFLG (R105). Copies FPF into g[d]. -/
  | frflg (cl : ClusterId) (r : RR)
  /-- FCFLG (R105). Clears FPF. -/
  | fcflg (cl : ClusterId) (r : RR)
  /-- ADDI (R102). Adds a sign-extended immediate. -/
  | addi (cl : ClusterId) (r : RI)
  /-- ADDIW (R102). 32-bit add of an immediate, sign-extended. -/
  | addiw (cl : ClusterId) (r : RI)
  /-- ANDI (R102). ANDs a sign-extended immediate. -/
  | andi (cl : ClusterId) (r : RI)
  /-- ORI (R102). ORs a sign-extended immediate. -/
  | ori (cl : ClusterId) (r : RI)
  /-- XORI (R102). XORs a sign-extended immediate. -/
  | xori (cl : ClusterId) (r : RI)
  /-- SHI (R102). Shifts or rotates by an immediate amount. -/
  | shi (cl : ClusterId) (r : RI)
  /-- SHIN (R102). Shifts g[a] up a halfword and inserts imm16. -/
  | shin (cl : ClusterId) (r : RI)
  /-- SHINW (R102). Builds a 32-bit value from g[a] and imm16, sign-extended. -/
  | shinw (cl : ClusterId) (r : RI)
  /-- CEQI (R102). Compares g[a] with an immediate for equality. -/
  | ceqi (cl : ClusterId) (r : RI)
  /-- CLTI (R102). Signed less-than compare with an immediate. -/
  | clti (cl : ClusterId) (r : RI)
  /-- CLTUI (R102). Unsigned less-than compare with an immediate. -/
  | cltui (cl : ClusterId) (r : RI)
  /-- BC (R100). Branches PC-relative when c[c] equals sense. -/
  | bc (cl : ClusterId) (c : BitVec 3) (sense : Bool) (disp : BitVec 22)
  /-- LDB (R126). Loads a sign-extended byte. -/
  | ldb (cl : ClusterId) (r : MemForm)
  /-- LDBU (R126). Loads a zero-extended byte. -/
  | ldbu (cl : ClusterId) (r : MemForm)
  /-- LDH (R126). Loads a sign-extended halfword. -/
  | ldh (cl : ClusterId) (r : MemForm)
  /-- LDHU (R126). Loads a zero-extended halfword. -/
  | ldhu (cl : ClusterId) (r : MemForm)
  /-- LDW (R126). Loads a sign-extended word. -/
  | ldw (cl : ClusterId) (r : MemForm)
  /-- LDWU (R126). Loads a zero-extended word. -/
  | ldwu (cl : ClusterId) (r : MemForm)
  /-- LDD (R126). Loads a doubleword. -/
  | ldd (cl : ClusterId) (r : MemForm)
  /-- STB (R126). Stores a byte, voted and counted toward the retained delta. -/
  | stb (cl : ClusterId) (r : MemForm)
  /-- STH (R126). Stores a halfword. -/
  | sth (cl : ClusterId) (r : MemForm)
  /-- STW (R126). Stores a word. -/
  | stw (cl : ClusterId) (r : MemForm)
  /-- STD (R126). Stores a doubleword. -/
  | std (cl : ClusterId) (r : MemForm)
  /-- IBLD (R106). Loads an input bit into c. -/
  | ibld (cl : ClusterId) (c : BitVec 3) (idx : BitVec 23)
  /-- IBLDN (R106). Loads an inverted input bit into c. -/
  | ibldn (cl : ClusterId) (c : BitVec 3) (idx : BitVec 23)
  /-- OBLD (R106). Loads an output bit into c. -/
  | obld (cl : ClusterId) (c : BitVec 3) (idx : BitVec 23)
  /-- OBLDN (R106). Loads an inverted output bit into c. -/
  | obldn (cl : ClusterId) (c : BitVec 3) (idx : BitVec 23)
  /-- OBST (R106). Stores c into an owned output bit. -/
  | obst (cl : ClusterId) (c : BitVec 3) (idx : BitVec 23)
  /-- OBSTN (R106). Stores NOT c into an owned output bit. -/
  | obstn (cl : ClusterId) (c : BitVec 3) (idx : BitVec 23)
  /-- OBSET (R106). Sets an output bit when c is 1. -/
  | obset (cl : ClusterId) (c : BitVec 3) (idx : BitVec 23)
  /-- OBCLR (R106). Clears an output bit when c is 1. -/
  | obclr (cl : ClusterId) (c : BitVec 3) (idx : BitVec 23)
  /-- MBLD (R106). Loads a marker bit into c. -/
  | mbld (cl : ClusterId) (c : BitVec 3) (idx : BitVec 23)
  /-- MBLDN (R106). Loads an inverted marker bit into c. -/
  | mbldn (cl : ClusterId) (c : BitVec 3) (idx : BitVec 23)
  /-- MBST (R106). Stores c into a marker bit. -/
  | mbst (cl : ClusterId) (c : BitVec 3) (idx : BitVec 23)
  /-- MBSTN (R106). Stores NOT c into a marker bit. -/
  | mbstn (cl : ClusterId) (c : BitVec 3) (idx : BitVec 23)
  /-- MBSET (R106). Sets a marker bit when c is 1. -/
  | mbset (cl : ClusterId) (c : BitVec 3) (idx : BitVec 23)
  /-- MBCLR (R106). Clears a marker bit when c is 1. -/
  | mbclr (cl : ClusterId) (c : BitVec 3) (idx : BitVec 23)
  /-- IMGR_LOAD (R107). Loads an image bit addressed by register into c. -/
  | imgrLoad (cl : ClusterId) (space : BitVec 2) (r : RR)
  /-- IMGR_LOAD_INVERTED (R107). Loads an inverted image bit addressed by register. -/
  | imgrLoadInverted (cl : ClusterId) (space : BitVec 2) (r : RR)
  /-- IMGR_STORE (R107). Stores c into an image bit addressed by register. -/
  | imgrStore (cl : ClusterId) (space : BitVec 2) (r : RR)
  /-- IMGR_STORE_INVERTED (R107). Stores NOT c into an image bit addressed by register. -/
  | imgrStoreInverted (cl : ClusterId) (space : BitVec 2) (r : RR)
  /-- IMGR_SET (R107). Sets an image bit addressed by register when c is 1. -/
  | imgrSet (cl : ClusterId) (space : BitVec 2) (r : RR)
  /-- IMGR_CLEAR (R107). Clears an image bit addressed by register when c is 1. -/
  | imgrClear (cl : ClusterId) (space : BitVec 2) (r : RR)
  /-- IMGR_WORD_LOAD (R107). Loads an 8 to 64-bit image word into g[d]. -/
  | imgrWordLoad (cl : ClusterId) (space : BitVec 2) (sext : Bool) (width : BitVec 2) (r : RR)
  /-- IMGR_WORD_STORE (R107). Stores an 8 to 64-bit image word from g[d]. -/
  | imgrWordStore (cl : ClusterId) (space : BitVec 2) (sext : Bool) (width : BitVec 2) (r : RR)
  /-- EDG_RISE (R137). Rising-edge evaluation of a state block. -/
  | edgRise (cl : ClusterId) (r : BlockForm)
  /-- EDG_FALL (R137). Falling-edge evaluation of a state block. -/
  | edgFall (cl : ClusterId) (r : BlockForm)
  /-- EDG_EITHER (R137). Either-edge evaluation of a state block. -/
  | edgEither (cl : ClusterId) (r : BlockForm)
  /-- TON (R138). On-delay timer scan. -/
  | ton (cl : ClusterId) (r : BlockForm)
  /-- TOF (R138). Off-delay timer scan. -/
  | tof (cl : ClusterId) (r : BlockForm)
  /-- TP (R138). Pulse timer scan. -/
  | tp (cl : ClusterId) (r : BlockForm)
  /-- CTU (R141). Count-up scan. -/
  | ctu (cl : ClusterId) (r : BlockForm)
  /-- CTD (R141). Count-down scan. -/
  | ctd (cl : ClusterId) (r : BlockForm)
  /-- CRS (R141). Resets the count to 0 while c is 1. -/
  | crs (cl : ClusterId) (r : BlockForm)
  /-- CLD (R141). Loads the count from the preset while c is 1. -/
  | cld (cl : ClusterId) (r : BlockForm)
  /-- UCALL (R81). Calls a unit by number with a frame after its checks. -/
  | ucall (cl : ClusterId) (f : BitVec 5) (unit : BitVec 16)
  /-- UCALLR (R109). Calls a unit whose number is in a register. -/
  | ucallr (cl : ClusterId) (f u : BitVec 5)
  /-- URET (R83). Returns from a unit by the call record. -/
  | uret (cl : ClusterId)
  /-- SLICE (R131). Ends the slice at any call depth. -/
  | slice (cl : ClusterId)
  /-- SINF (R132). Returns a slice-information item. -/
  | sinf (cl : ClusterId) (d : BitVec 5) (item : BitVec 3)
  /-- ACQ (R143). Fetches the next accession of the cluster into a buffer. -/
  | acq (cl : ClusterId) (d a : BitVec 5)
  /-- ACMP (R146). Records a completion code for an accession. -/
  | acmp (cl : ClusterId) (d a b : BitVec 5)
  /-- TACT_AT_TIME (R153). Queues an AT_TIME timed action. -/
  | tactAtTime (cl : ClusterId) (d a : BitVec 5)
  /-- TACT_AT_POSITION (R153). Queues an AT_POSITION timed action on a track. -/
  | tactAtPosition (cl : ClusterId) (d a : BitVec 5)
  /-- TACT_CANCEL (R153). Queues a CANCEL of an action. -/
  | tactCancel (cl : ClusterId) (d a : BitVec 5)
  /-- TRKU_CREATE (R150). Queues a track CREATE. -/
  | trkuCreate (cl : ClusterId) (d a : BitVec 5)
  /-- TRKU_CORRECT (R150). Queues a track CORRECT. -/
  | trkuCorrect (cl : ClusterId) (d a : BitVec 5)
  /-- TRKU_RELEASE (R150). Queues a track RELEASE. -/
  | trkuRelease (cl : ClusterId) (d a : BitVec 5)
  /-- TRKQ_TRACK_QUERY (R151). Posts a track query. -/
  | trkqTrackQuery (cl : ClusterId) (d a : BitVec 5)
  /-- TRKQ_ACTION_QUERY (R151). Posts an action query. -/
  | trkqActionQuery (cl : ClusterId) (d a : BitVec 5)
  /-- TRKQ_COLLECT (R152). Collects the next query result into the block. -/
  | trkqCollect (cl : ClusterId) (d a : BitVec 5)
  /-- MSYNC (R154). Waits until all earlier accesses of the cluster have completed. -/
  | msync (cl : ClusterId)
  /-- BRK (R155). Stops the cluster for the debugger in BENCH when breakpoints are enabled. -/
  | brk (cl : ClusterId) (code : BitVec 16)
  /-- ILLEGAL_ENCODING (R111). A core fetches a reserved encoding, which raises ILLEGAL and ends the slice. -/
  | illegalEncoding (cl : ClusterId) (w : BitVec 32)
  /-- RESET_N_RISE (R497). RESET_N rises and the module held in backplane reset leaves reset and enters BOOT. -/
  | resetNRise (busGood : Bool) (env : BootEnv)
  /-- PARTNER_LINK_START (R316). A partner-link lane regains block lock, or the link comes up, and the latency is measured. -/
  | partnerLinkStart (lane : Fin 2) (delay : BitVec 16)
  /-- DLE_COMPARATOR_TEST_COMPLETE (R273). The comparator test after a Deadline Engine reset ends, passing or leaving the engine stopped. -/
  | dleComparatorTestComplete (fail : Option (BitVec 2 × Bool × BitVec 32 × BitVec 11))
  /-- STATION_SYNC_TIMEOUT (R297). An entry takes no Sync for 4 Sync intervals, reports UNSYNC or falls back to echo Sync. -/
  | stationSyncTimeout (k : StnKey)
  /-- MIRROR_WRITE_COMPLETE (R351). A journal mirror write of an order or commit record completes in MRAM, committing it or sending CONFIRM RESULT 2. -/
  | mirrorWriteComplete (x : MirrorItem)
  /-- PROGRAM_STORE_WRITTEN (R193). The NOR program store write and read-back of an accepted image complete, after which the image can take effect. -/
  | programStoreWritten
  deriving DecidableEq, Repr

end Sys2Proof
end

