-- ==== Sys2Proof/Decode.lean ====
section
/-! DEFINITION. The decoder over the table's bits. No row of the table gives bits: the commands of
this block are events and operations, so no word spells one. -/

namespace Sys2Proof

/-- The command that a word of the table's bits spells: none, since the table gives no row bits. -/
def decodeTableWord (_nbits _w : Nat) : Option Instr := none

end Sys2Proof
end

