-- ==== Sys2Proof/Machine/Hash.lean ====
section
/-! DEFINITION. The check codes and digests that the spec names: CRC-32C (R163), CRC-64 ECMA-182
(R322), SHA-256 and HMAC-SHA-256 (R359), SHA-384 (R187, R399). -/

namespace Sys2Proof.Machine

/-- One byte into a bit-reflected CRC of any width. -/
def crcByteGo (poly : Nat) : Nat → Nat → Nat
  | 0, c => c
  | n + 1, c => crcByteGo poly n (if c % 2 = 1 then (c / 2) ^^^ poly else c / 2)

/-- Fold bytes into a running bit-reflected CRC. -/
def crcFold (poly : Nat) (c : Nat) (bs : List Byte) : Nat :=
  bs.foldl (fun c b => crcByteGo poly 8 (c ^^^ b.toNat)) c

/-- The reflected polynomial 0x1EDC_6F41 of CRC-32C. -/
def poly32c : Nat := 0x82F63B78

/-- Fold bytes into a running CRC-32C, which starts at 0xFFFF_FFFF (R163). -/
def crc32cFold (c : BitVec 32) (bs : List Byte) : BitVec 32 := BitVec.ofNat 32 (crcFold poly32c c.toNat bs)

/-- CRC-32C of a byte list (R163). -/
def crc32c (bs : List Byte) : Nat := crcFold poly32c 0xFFFFFFFF bs ^^^ 0xFFFFFFFF

/-- One bit step of CRC-64, most significant bit first. -/
def crc64Step : Nat → Nat → Nat
  | 0, c => c
  | n + 1, c => crc64Step n (if c.testBit 63 then (2 * c % 2 ^ 64) ^^^ 0x42F0E1EBA9EA3693 else 2 * c % 2 ^ 64)

/-- Fold bytes into a running CRC of 64 bits, most significant bit first. -/
def crc64Fold (c : Nat) (bs : List Byte) : Nat :=
  bs.foldl (fun c b => crc64Step 8 (c ^^^ (b.toNat * 2 ^ 56))) c

/-! ### SHA-2 (FIPS 180-4) -/

/-- The round constants of SHA-256. -/
def k256 : List Nat := [
  0x428A2F98, 0x71374491, 0xB5C0FBCF, 0xE9B5DBA5, 0x3956C25B, 0x59F111F1,
  0x923F82A4, 0xAB1C5ED5, 0xD807AA98, 0x12835B01, 0x243185BE, 0x550C7DC3,
  0x72BE5D74, 0x80DEB1FE, 0x9BDC06A7, 0xC19BF174, 0xE49B69C1, 0xEFBE4786,
  0x0FC19DC6, 0x240CA1CC, 0x2DE92C6F, 0x4A7484AA, 0x5CB0A9DC, 0x76F988DA,
  0x983E5152, 0xA831C66D, 0xB00327C8, 0xBF597FC7, 0xC6E00BF3, 0xD5A79147,
  0x06CA6351, 0x14292967, 0x27B70A85, 0x2E1B2138, 0x4D2C6DFC, 0x53380D13,
  0x650A7354, 0x766A0ABB, 0x81C2C92E, 0x92722C85, 0xA2BFE8A1, 0xA81A664B,
  0xC24B8B70, 0xC76C51A3, 0xD192E819, 0xD6990624, 0xF40E3585, 0x106AA070,
  0x19A4C116, 0x1E376C08, 0x2748774C, 0x34B0BCB5, 0x391C0CB3, 0x4ED8AA4A,
  0x5B9CCA4F, 0x682E6FF3, 0x748F82EE, 0x78A5636F, 0x84C87814, 0x8CC70208,
  0x90BEFFFA, 0xA4506CEB, 0xBEF9A3F7, 0xC67178F2]

/-- The initial hash value of SHA-256. -/
def h256 : List Nat := [
  0x6A09E667, 0xBB67AE85, 0x3C6EF372, 0xA54FF53A,
  0x510E527F, 0x9B05688C, 0x1F83D9AB, 0x5BE0CD19]

/-- The round constants of SHA-384, first half. -/
def k512a : List Nat := [
  0x428A2F98D728AE22, 0x7137449123EF65CD, 0xB5C0FBCFEC4D3B2F,
  0xE9B5DBA58189DBBC, 0x3956C25BF348B538, 0x59F111F1B605D019,
  0x923F82A4AF194F9B, 0xAB1C5ED5DA6D8118, 0xD807AA98A3030242,
  0x12835B0145706FBE, 0x243185BE4EE4B28C, 0x550C7DC3D5FFB4E2,
  0x72BE5D74F27B896F, 0x80DEB1FE3B1696B1, 0x9BDC06A725C71235,
  0xC19BF174CF692694, 0xE49B69C19EF14AD2, 0xEFBE4786384F25E3,
  0x0FC19DC68B8CD5B5, 0x240CA1CC77AC9C65, 0x2DE92C6F592B0275,
  0x4A7484AA6EA6E483, 0x5CB0A9DCBD41FBD4, 0x76F988DA831153B5,
  0x983E5152EE66DFAB, 0xA831C66D2DB43210, 0xB00327C898FB213F,
  0xBF597FC7BEEF0EE4, 0xC6E00BF33DA88FC2, 0xD5A79147930AA725,
  0x06CA6351E003826F, 0x142929670A0E6E70, 0x27B70A8546D22FFC,
  0x2E1B21385C26C926, 0x4D2C6DFC5AC42AED, 0x53380D139D95B3DF,
  0x650A73548BAF63DE, 0x766A0ABB3C77B2A8, 0x81C2C92E47EDAEE6,
  0x92722C851482353B]

/-- The round constants of SHA-384, second half. -/
def k512b : List Nat := [
  0xA2BFE8A14CF10364, 0xA81A664BBC423001, 0xC24B8B70D0F89791,
  0xC76C51A30654BE30, 0xD192E819D6EF5218, 0xD69906245565A910,
  0xF40E35855771202A, 0x106AA07032BBD1B8, 0x19A4C116B8D2D0C8,
  0x1E376C085141AB53, 0x2748774CDF8EEB99, 0x34B0BCB5E19B48A8,
  0x391C0CB3C5C95A63, 0x4ED8AA4AE3418ACB, 0x5B9CCA4F7763E373,
  0x682E6FF3D6B2B8A3, 0x748F82EE5DEFB2FC, 0x78A5636F43172F60,
  0x84C87814A1F0AB72, 0x8CC702081A6439EC, 0x90BEFFFA23631E28,
  0xA4506CEBDE82BDE9, 0xBEF9A3F7B2C67915, 0xC67178F2E372532B,
  0xCA273ECEEA26619C, 0xD186B8C721C0C207, 0xEADA7DD6CDE0EB1E,
  0xF57D4F7FEE6ED178, 0x06F067AA72176FBA, 0x0A637DC5A2C898A6,
  0x113F9804BEF90DAE, 0x1B710B35131C471B, 0x28DB77F523047D84,
  0x32CAAB7B40C72493, 0x3C9EBE0A15C9BEBC, 0x431D67C49C100D4C,
  0x4CC5D4BECB3E42B6, 0x597F299CFC657E2A, 0x5FCB6FAB3AD6FAEC,
  0x6C44198C4A475817]

/-- The initial hash value of SHA-384. -/
def h384 : List Nat := [
  0xCBBB9D5DC1059ED8, 0x629A292A367CD507, 0x9159015A3070DD17,
  0x152FECD8F70E5939, 0x67332667FFC00B31, 0x8EB44A8768581511,
  0xDB0C2E0D64F98FA7, 0x47B5481DBEFA4FA4]

/-- Rotate right in `w` bits. -/
def rotr (w n x : Nat) : Nat := x / 2 ^ n + x % 2 ^ n * 2 ^ (w - n)

/-- The rotation counts of a member of the family: word width, then the counts of the two
functions of the rounds and the two of the schedule. -/
structure ShaParams where
  w  : Nat
  s0 : Nat × Nat × Nat
  s1 : Nat × Nat × Nat
  e0 : Nat × Nat × Nat
  e1 : Nat × Nat × Nat
  deriving DecidableEq, Repr

/-- SHA-256. -/
def sha256P : ShaParams := ⟨32, (2, 13, 22), (6, 11, 25), (7, 18, 3), (17, 19, 10)⟩

/-- SHA-384. -/
def sha512P : ShaParams := ⟨64, (28, 34, 39), (14, 18, 41), (1, 8, 7), (19, 61, 6)⟩

/-- Three rotations. -/
def bigSigma (p : ShaParams) (t : Nat × Nat × Nat) (x : Nat) : Nat :=
  rotr p.w t.1 x ^^^ rotr p.w t.2.1 x ^^^ rotr p.w t.2.2 x

/-- Two rotations and a shift. -/
def smallSigma (p : ShaParams) (t : Nat × Nat × Nat) (x : Nat) : Nat :=
  rotr p.w t.1 x ^^^ rotr p.w t.2.1 x ^^^ x / 2 ^ t.2.2

/-- The big-endian value of a byte list. -/
def beNat (bs : List Byte) : Nat := bs.foldl (fun a b => 256 * a + b.toNat) 0

/-- The `n` big-endian bytes of a number. -/
def beBytes (n v : Nat) : List Byte := (leBytes n v).reverse

/-- Cut a list into pieces of `k` items, at most `fuel` of them. -/
def chunks (k : Nat) : Nat → List Byte → List (List Byte)
  | 0, _ => []
  | _ + 1, [] => []
  | fuel + 1, b :: bs => (b :: bs).take k :: chunks k fuel ((b :: bs).drop k)

/-- The rounds of one block: constants, the window of 16 schedule words, and the eight
variables. -/
def shaRounds (p : ShaParams) : List Nat → List Nat → List Nat → List Nat
  | [], _, v => v
  | k :: ks, w, v =>
    match v with
    | [a, b, c, d, e, f, g, h] =>
      let m := 2 ^ p.w
      let wt := w.headD 0
      let t1 := h + bigSigma p p.s1 e + ((e &&& f) ^^^ ((m - 1 - e) &&& g)) + k + wt
      let t2 := bigSigma p p.s0 a + ((a &&& b) ^^^ (a &&& c) ^^^ (b &&& c))
      let wn := (smallSigma p p.e1 (w.getD 14 0) + w.getD 9 0 + smallSigma p p.e0 (w.getD 1 0) + wt) % m
      shaRounds p ks (w.drop 1 ++ [wn]) [(t1 + t2) % m, a, b, c, (d + t1) % m, e, f, g]
    | _ => v

/-- One block into the hash value. -/
def shaBlock (p : ShaParams) (ks : List Nat) (h : List Nat) (blk : List Byte) : List Nat :=
  let words := (chunks (p.w / 8) 16 blk).map beNat
  List.zipWith (fun a b => (a + b) % 2 ^ p.w) h (shaRounds p ks words h)

/-- The padded message. -/
def shaPad (p : ShaParams) (bs : List Byte) : List Byte :=
  let blk := 2 * p.w
  let tail := p.w / 4
  let n := bs.length
  let z := (2 * blk - (n + 1 + tail) % blk) % blk
  bs ++ [0x80] ++ List.replicate z 0 ++ beBytes tail (8 * n)

/-- A digest of the family. -/
def sha (p : ShaParams) (ks h : List Nat) (bs : List Byte) : List Byte :=
  let padded := shaPad p bs
  let hs := (chunks (2 * p.w) (padded.length / (2 * p.w) + 1) padded).foldl (shaBlock p ks) h
  hs.flatMap (beBytes (p.w / 8))

/-- SHA-256. -/
def sha256 (bs : List Byte) : List Byte := sha sha256P k256 h256 bs

/-- SHA-384. -/
def sha384 (bs : List Byte) : List Byte := (sha sha512P (k512a ++ k512b) h384 bs).take 48

/-- HMAC-SHA-256 (R359) under a key of at most 64 bytes. -/
def hmac256 (key msg : List Byte) : List Byte :=
  let k := key ++ List.replicate (64 - key.length) 0
  sha256 (k.map (· ^^^ 0x5C) ++ sha256 (k.map (· ^^^ 0x36) ++ msg))

end Sys2Proof.Machine
end

