-- ==== Sys2Proof/Config.lean ====
section
/-! DEFINITION. What an implementation fixes and the spec leaves open: constants without a body,
so that nothing can be proved from a value of theirs. A value that the spec leaves open at one
event is `Config.freeNat` applied to the counter `freeCtr` of the state. -/

namespace Sys2Proof.Config

/-- A free value: the `n`-th value that the spec leaves open in a run (log entry 3). -/
opaque freeNat : Nat → Nat

/-- Whether tininess is detected after rounding (IEEE 754 leaves it to the implementation, R66). -/
opaque tinyAfterRounding : Bool

/-- Whether a fused multiply-add of zero and infinity with a quiet NaN addend sets invalid
(IEEE 754 leaves it to the implementation, R66). -/
opaque fmaNanInvalid : Bool

/-- ECDSA signature check: public key, digest and signature (R404, R402 name the algorithm;
its arithmetic is outside the manual). -/
opaque ecdsaVerify : List Byte → List Byte → List Byte → Bool

/-- ECDSA signature by the module's identity key (R402, R403). -/
opaque ecdsaSign : List Byte → List Byte

/-- The public key of a firmware signing key held in the ROM, by KEYID (R404). -/
opaque romKey : Nat → Option (List Byte)

/-- The SHA-384 of the boot ROM (R397, R400). -/
opaque romDigest : List Byte

/-- The module's serial number, 16 bytes (R403). -/
opaque serial : List Byte

/-- The board revision (R405). -/
opaque boardRevision : Nat

/-- The conversion of a configuration's register values from one format to another (R412): old
format, new format, values. -/
opaque cfgConvert : Nat → Nat → List (Nat × Nat) → List (Nat × Nat)

/-- The SHA-384 digest of a configuration copy of a format, a generation and register values, whose
byte layout the spec leaves open (R412). -/
opaque cfgDigest : Nat → Nat → List (Nat × Nat) → List Byte

end Sys2Proof.Config
end

