-- ==== Sys2Proof/Machine/RegMap.lean ====
section
/-! DEFINITION. The registers of the peripheral space (R5, R15, R16): their addresses, the value
after power-on of each (the At reset column), and which bits an ordinary write changes. -/

namespace Sys2Proof.Machine

/-- The bits `[hi:lo]` set. -/
def fm (hi lo : Nat) : Nat := (2 ^ (hi - lo + 1) - 1) * 2 ^ lo

/-- A row of the register map: `cnt` registers `stride` apart from `base`; the reset value; the
bits that a write sets (RW, RWL), that a written 1 clears (W1C), and those of the RW bits that
are writable only in BENCH (R61). -/
structure RegRow where
  base   : Nat
  cnt    : Nat
  stride : Nat
  reset  : Nat
  rw     : Nat
  w1c    : Nat
  bench  : Nat
  deriving DecidableEq, Repr

/-- A read-only register. -/
def ro (base reset : Nat) : RegRow := ⟨base, 1, 4, reset, 0, 0, 0⟩

/-! ### Kiln: scheduler, clusters, program (R61, R88, R185, R213) -/

abbrev KLN_SCHCTL : Nat := 0x08000000
abbrev KLN_TICKSEL : Nat := 0x08000004
abbrev KLN_RESERVE : Nat := 0x08000008
abbrev KLN_SCHSTAT : Nat := 0x0800000C
abbrev KLN_TICKNO : Nat := 0x08000010
abbrev KLN_OVRCNT : Nat := 0x08000018
abbrev KLN_OVRSTAT : Nat := 0x0800001C
abbrev KLN_OVRLAST : Nat := 0x08000020
abbrev KLN_FIRECYC (cl : Nat) : Nat := 0x08000024 + 0x8000 * cl
abbrev KLN_FIREMAX (cl : Nat) : Nat := 0x08000028 + 0x8000 * cl
abbrev KLN_PH_INCLOSE : Nat := 0x08000030
abbrev KLN_PH_FIRESTART : Nat := 0x08000034
abbrev KLN_PH_ACTEMIT : Nat := 0x08000038
abbrev KLN_PH_FIREEND : Nat := 0x0800003C
abbrev KLN_PH_APPLY : Nat := 0x08000040
abbrev KLN_TCFG (n : Nat) : Nat := 0x08000100 + 16 * n
abbrev KLN_TBUD (n : Nat) : Nat := 0x08000104 + 16 * n
abbrev KLN_TSTAT (n : Nat) : Nat := 0x08000108 + 16 * n
abbrev KLN_TFLT (n : Nat) : Nat := 0x0800010C + 16 * n
abbrev KLN_CLSTAT (cl : Nat) : Nat := 0x08000200 + 0x8000 * cl
abbrev KLN_CLCTL (cl : Nat) : Nat := 0x08000204 + 0x8000 * cl
abbrev KLN_RBSTAT (cl : Nat) : Nat := 0x08000208 + 0x8000 * cl
abbrev KLN_DIVCNT (cl : Nat) : Nat := 0x0800020C + 0x8000 * cl
abbrev KLN_DIVLAST (cl : Nat) : Nat := 0x08000210 + 0x8000 * cl
abbrev KLN_STAGGER (cl : Nat) : Nat := 0x08000214 + 0x8000 * cl
abbrev KLN_DBGCTL (cl : Nat) : Nat := 0x08000300 + 0x8000 * cl
abbrev KLN_DBGSTAT (cl : Nat) : Nat := 0x08000304 + 0x8000 * cl
abbrev KLN_DBGPC (cl : Nat) : Nat := 0x08000308 + 0x8000 * cl
abbrev KLN_DBGSEL (cl : Nat) : Nat := 0x0800030C + 0x8000 * cl
abbrev KLN_DBGDATA (cl : Nat) : Nat := 0x08000310 + 0x8000 * cl
abbrev KLN_DBGCOND (cl : Nat) : Nat := 0x08000318 + 0x8000 * cl
abbrev KLN_PGMCTL : Nat := 0x08000400
abbrev KLN_PGMSTAT : Nat := 0x08000404
abbrev KLN_PGMGEN : Nat := 0x08000408
abbrev KLN_CHGSTAT : Nat := 0x08000410
abbrev KLN_CHGTICK : Nat := 0x08000414
abbrev KLN_CARRYA : Nat := 0x0800041C
abbrev KLN_CARRYB : Nat := 0x08000420
abbrev KLN_FRCSTAT : Nat := 0x08000424

/-- The registers of the KLN window. The half of cluster 1 repeats the common ones (R61, R213). -/
def klnRows : List RegRow := [
  ⟨KLN_SCHCTL, 1, 4, 0, fm 1 0, 0, 0⟩,
  ⟨KLN_TICKSEL, 1, 4, 1, fm 2 0, 0, fm 2 0⟩,
  ⟨KLN_RESERVE, 1, 4, 1260, fm 19 0, 0, fm 19 0⟩,
  ro KLN_SCHSTAT 0, ro KLN_TICKNO 0, ro (KLN_TICKNO + 4) 0, ro KLN_OVRCNT 0,
  ⟨KLN_OVRSTAT, 1, 4, 0, 0, fm 3 0, 0⟩,
  ro KLN_OVRLAST 0,
  ⟨KLN_FIRECYC 0, 2, 0x8000, 0, 0, 0, 0⟩,
  ⟨KLN_FIREMAX 0, 2, 0x8000, 0, fm 19 0, 0, 0⟩,
  ro KLN_PH_INCLOSE 110000, ro KLN_PH_FIRESTART 120000, ro KLN_PH_ACTEMIT 205000,
  ro KLN_PH_FIREEND 225000, ro KLN_PH_APPLY 100000,
  ⟨KLN_TCFG 0, 16, 16, 0, fm 6 0, 0, fm 6 0⟩,
  ⟨KLN_TBUD 0, 16, 16, 0, fm 19 0, 0, fm 19 0⟩,
  ⟨KLN_TSTAT 0, 16, 16, 0, 0, 0, 0⟩,
  ⟨KLN_TFLT 0, 16, 16, 0, fm 1 0, 0, fm 1 0⟩,
  ⟨KLN_CLSTAT 0, 2, 0x8000, 3 * 8, 0, 0, 0⟩,
  ⟨KLN_CLCTL 0, 2, 0x8000, 3, fm 1 0, 0, fm 1 0⟩,
  ⟨KLN_RBSTAT 0, 2, 0x8000, 0, 0, 0, 0⟩,
  ⟨KLN_DIVCNT 0, 2, 0x8000, 0, 0, 0, 0⟩,
  ⟨KLN_DIVLAST 0, 2, 0x8000, 0, 0, 0, 0⟩,
  ⟨KLN_STAGGER 0, 2, 0x8000, 0x420, 0, 0, 0⟩,
  ⟨KLN_DBGCTL 0, 2, 0x8000, 0, fm 1 0, 0, fm 0 0⟩,
  ⟨KLN_DBGSTAT 0, 2, 0x8000, 0, 0, fm 3 3, 0⟩,
  ⟨KLN_DBGPC 0, 2, 0x8000, 0, 0, 0, 0⟩,
  ⟨KLN_DBGSEL 0, 2, 0x8000, 0, fm 4 0, 0, 0⟩,
  ⟨KLN_DBGDATA 0, 2, 0x8000, 0, 0, 0, 0⟩,
  ⟨KLN_DBGDATA 0 + 4, 2, 0x8000, 0, 0, 0, 0⟩,
  ⟨KLN_DBGCOND 0, 2, 0x8000, 1, 0, 0, 0⟩,
  ⟨KLN_PGMCTL, 1, 4, 0, fm 5 4, 0, 0⟩,
  ro KLN_PGMSTAT 0, ro KLN_PGMGEN 0, ro (KLN_PGMGEN + 4) 0, ro KLN_CHGSTAT 0,
  ro KLN_CHGTICK 0, ro (KLN_CHGTICK + 4) 0, ro KLN_CARRYA 0, ro KLN_CARRYB 0, ro KLN_FRCSTAT 0]

/-! ### Voters (R186) -/

/-- The base of voter instance `v` of cluster `cl` (R186). -/
abbrev votBase (cl v : Nat) : Nat := 0x08010000 + 0x8000 * cl + 0x4000 * v

abbrev VOT_STAT (cl v : Nat) : Nat := votBase cl v
abbrev VOT_WINCNT (cl v : Nat) : Nat := votBase cl v + 4
abbrev VOT_SIG (cl v k : Nat) : Nat := votBase cl v + 8 + 4 * k
abbrev VOT_DISCNT (cl v : Nat) : Nat := votBase cl v + 0x14
abbrev VOT_LASTADDR (cl v : Nat) : Nat := votBase cl v + 0x18
abbrev VOT_INJCTL (cl v : Nat) : Nat := votBase cl v + 0x20
abbrev VOT_INJMASK (cl v : Nat) : Nat := votBase cl v + 0x24
abbrev VOT_INJRES (cl v : Nat) : Nat := votBase cl v + 0x28

/-- The registers of the four voter instances. -/
def votRows : List RegRow := [
  ⟨0x08010000, 4, 0x4000, 7 * 32 + 3 * 8, 0, fm 10 8 + fm 2 1, 0⟩,
  ⟨0x08010004, 4, 0x4000, 0, 0, 0, 0⟩,
  ⟨0x08010008, 4, 0x4000, 0, 0, 0, 0⟩,
  ⟨0x0801000C, 4, 0x4000, 0, 0, 0, 0⟩,
  ⟨0x08010010, 4, 0x4000, 0, 0, 0, 0⟩,
  ⟨0x08010014, 4, 0x4000, 0, 0, 0, 0⟩,
  ⟨0x08010018, 4, 0x4000, 0, 0, 0, 0⟩,
  ⟨0x0801001C, 4, 0x4000, 0, 0, 0, 0⟩,
  ⟨0x08010020, 4, 0x4000, 0, fm 11 8 + fm 5 4 + fm 0 0, 0, 0⟩,
  ⟨0x08010024, 4, 0x4000, 0, fm 31 0, 0, 0⟩,
  ⟨0x08010028, 4, 0x4000, 3 * 2 ^ 11, 0, 0, 0⟩]

/-! ### Memory protection and DDR controller (R393, R394) -/

abbrev MPU_RBASE (c n : Nat) : Nat := 0x080A0000 + 0x200 * c + 16 * n
abbrev MPU_RATTR (c n : Nat) : Nat := 0x080A0008 + 0x200 * c + 16 * n
abbrev MPU_CCTL (c : Nat) : Nat := 0x080A0100 + 0x200 * c
abbrev MPU_CSTAT (c : Nat) : Nat := 0x080A0104 + 0x200 * c
abbrev MPU_VADDR (c : Nat) : Nat := 0x080A0108 + 0x200 * c
abbrev MPU_VINFO (c : Nat) : Nat := 0x080A0110 + 0x200 * c
abbrev MPU_DBGREF : Nat := 0x080AF000

/-- The registers of master class `c`. -/
def mpuRowsOf (c : Nat) : List RegRow := [
  ⟨MPU_RBASE c 0, 16, 16, 0, fm 31 8, 0, 0⟩,
  ⟨MPU_RBASE c 0 + 4, 16, 16, 0, fm 15 0, 0, 0⟩,
  ⟨MPU_RATTR c 0, 16, 16, 0, fm 15 8 + fm 5 0, 0, 0⟩,
  ro (MPU_CCTL c) 0, ro (MPU_CSTAT c) 0, ro (MPU_VADDR c) 0, ro (MPU_VADDR c + 4) 0,
  ⟨MPU_VINFO c, 1, 4, 0, 0, fm 0 0, 0⟩]

/-- The registers of the MPU window. -/
def mpuRows : List RegRow :=
  mpuRowsOf 0 ++ mpuRowsOf 1 ++ mpuRowsOf 2 ++ mpuRowsOf 3 ++ mpuRowsOf 4 ++ mpuRowsOf 5 ++
  mpuRowsOf 6 ++ mpuRowsOf 7 ++ mpuRowsOf 8 ++ mpuRowsOf 9 ++ [ro MPU_DBGREF 0]

abbrev DDC_STAT : Nat := 0x08180000
abbrev DDC_SCRUB : Nat := 0x08180004
abbrev DDC_PATROL : Nat := 0x08180008
abbrev DDC_ECCCNT (n : Nat) : Nat := 0x08180010 + 4 * n
abbrev DDC_ECCADDR : Nat := 0x08180030
abbrev DDC_ECCINFO : Nat := 0x08180038
abbrev DDC_SCRUBPOS : Nat := 0x08180040

/-- The registers of the DDC window. -/
def ddcRows : List RegRow := [
  ro DDC_STAT 0, ro DDC_SCRUB 0,
  ⟨DDC_PATROL, 1, 4, 2 ^ 16 + 60, fm 16 0, 0, 0⟩,
  ⟨DDC_ECCCNT 0, 8, 4, 0, 0, 0, 0⟩,
  ro DDC_ECCADDR 0, ro (DDC_ECCADDR + 4) 0, ro DDC_ECCINFO 0, ro DDC_SCRUBPOS 0,
  ro (DDC_SCRUBPOS + 4) 0]

/-! ### Ledger, supervision converter, power admission (R447 to R449) -/

abbrev LDG_CTL : Nat := 0x080D0000
abbrev LDG_STAT : Nat := 0x080D0004
abbrev LDG_HEAD : Nat := 0x080D0008
abbrev LDG_FLUSHED : Nat := 0x080D000C
abbrev LDG_HWM : Nat := 0x080D0010
abbrev LDG_RATE : Nat := 0x080D0014
abbrev LDG_LOSTCNT : Nat := 0x080D0018
abbrev LDG_SUPCNT : Nat := 0x080D001C

/-- The registers of the LDG window. HEAD and FLUSHED have no reset value of their own: a ring
with no run starts at SEQ 1 (R427). -/
def ldgRows : List RegRow := [
  ro LDG_CTL 0, ⟨LDG_STAT, 1, 4, 0, 0, fm 0 0, 0⟩, ro LDG_HEAD 1, ro LDG_FLUSHED 1,
  ⟨LDG_HWM, 1, 4, 24576, fm 15 0, 0, 0⟩, ⟨LDG_RATE, 1, 4, 32, fm 15 0, 0, 0⟩,
  ro LDG_LOSTCNT 0, ro LDG_SUPCNT 0]

abbrev SVA_STAT : Nat := 0x08110000
abbrev SVA_SEQLEN : Nat := 0x08110004
abbrev SVA_SEQ (k : Nat) : Nat := 0x08110010 + 4 * k
abbrev SVA_RES (n : Nat) : Nat := 0x08110040 + 4 * n
abbrev SVA_INJCTL (k : Nat) : Nat := 0x08110100 + 16 * k
abbrev SVA_INJCH (k : Nat) : Nat := 0x08110104 + 16 * k
abbrev SVA_INJRESA (k : Nat) : Nat := 0x08110108 + 16 * k
abbrev SVA_INJRESB (k : Nat) : Nat := 0x0811010C + 16 * k
abbrev SVA_INJTIME (k : Nat) : Nat := 0x08110180 + 8 * k
abbrev SVA_WIN (n : Nat) : Nat := 0x08110200 + 8 * n
abbrev SVA_WCFG (n : Nat) : Nat := 0x08110204 + 8 * n
abbrev SVA_WINSTAT : Nat := 0x08110300
abbrev SVA_WINEVT : Nat := 0x08110304

/-- The default windows of R431 as codes: low, high, action. A code is the nearest one to the
limit divided by the printed LSB (log entry 12). Channels 20 to 23 have no window: 0 to 4,095. -/
def svaDefaults : List (Nat × Nat × Nat) := [
  (1966, 3072, 2), (1966, 3072, 2), (1935, 3072, 2), (2458, 2969, 2), (0, 2600, 3),
  (2335, 2580, 2), (2432, 2688, 2), (2568, 2838, 2), (2803, 3098, 2), (1749, 1857, 2),
  (1180, 1279, 2), (1344, 1443, 2), (1426, 1525, 2), (2048, 2867, 1), (2867, 3277, 1),
  (0, 2320, 3), (0, 2080, 3), (0, 1920, 3), (0, 2400, 3), (1623, 1656, 0),
  (0, 4095, 0), (0, 4095, 0), (0, 4095, 0), (0, 4095, 0)]

/-- The window and its configuration register of channel `n`. -/
def svaWinRows : Nat → List (Nat × Nat × Nat) → List RegRow
  | _, [] => []
  | n, (lo, hi, act) :: t =>
    ⟨SVA_WIN n, 1, 4, hi * 2 ^ 16 + lo, fm 27 16 + fm 11 0, 0, 0⟩ ::
    ⟨SVA_WCFG n, 1, 4, 4 * 16 + act * 2 + (if n < 20 then 1 else 0), fm 7 4 + fm 2 0, 0, 0⟩ ::
    svaWinRows (n + 1) t

/-- Slot numbers `6k` to `6k + 5` in six 5-bit fields. -/
def svaSeqReset (k : Nat) : Nat :=
  6 * k + (6 * k + 1) * 2 ^ 5 + (6 * k + 2) * 2 ^ 10 + (6 * k + 3) * 2 ^ 15 +
  (6 * k + 4) * 2 ^ 20 + (6 * k + 5) * 2 ^ 25

/-- The registers of the SVA window. -/
def svaRows : List RegRow := [
  ro SVA_STAT 0, ⟨SVA_SEQLEN, 1, 4, 24, fm 4 0, 0, 0⟩,
  ⟨SVA_SEQ 0, 1, 4, svaSeqReset 0, fm 29 0, 0, 0⟩, ⟨SVA_SEQ 1, 1, 4, svaSeqReset 1, fm 29 0, 0, 0⟩,
  ⟨SVA_SEQ 2, 1, 4, svaSeqReset 2, fm 29 0, 0, 0⟩, ⟨SVA_SEQ 3, 1, 4, svaSeqReset 3, fm 29 0, 0, 0⟩,
  ⟨SVA_RES 0, 24, 4, 0, 0, 0, 0⟩,
  ⟨SVA_INJCTL 0, 4, 16, 0, fm 12 0, fm 14 14, 0⟩,
  ⟨SVA_INJCH 0, 4, 16, 0, fm 4 0 + fm 12 8 + fm 20 16 + fm 28 24, 0, 0⟩,
  ⟨SVA_INJRESA 0, 4, 16, 0, 0, 0, 0⟩, ⟨SVA_INJRESB 0, 4, 16, 0, 0, 0, 0⟩,
  ⟨SVA_INJTIME 0, 8, 4, 0, 0, 0, 0⟩,
  ro SVA_WINSTAT 0, ⟨SVA_WINEVT, 1, 4, 0, 0, fm 23 0, 0⟩] ++ svaWinRows 0 svaDefaults

abbrev ADM_CTL : Nat := 0x08100000
abbrev ADM_STAT : Nat := 0x08100004
abbrev ADM_BUDGET : Nat := 0x08100008
abbrev ADM_BASE : Nat := 0x0810000C
abbrev ADM_AGE : Nat := 0x08100010
abbrev ADM_MEAS : Nat := 0x08100014
abbrev ADM_REQ : Nat := 0x08100020
abbrev ADM_REQSTAT : Nat := 0x08100024
abbrev ADM_REL : Nat := 0x08100028
abbrev ADM_COST (c : Nat) : Nat := 0x08100100 + 16 * c
abbrev ADM_SLICE (c : Nat) : Nat := 0x08100104 + 16 * c
abbrev ADM_CSTAT (c : Nat) : Nat := 0x08100108 + 16 * c

/-- The cost and slice registers of class `c` (R440). -/
def admClassRows (c cost slice : Nat) : List RegRow := [
  ⟨ADM_COST c, 1, 4, cost, fm 15 0, 0, fm 15 0⟩,
  ⟨ADM_SLICE c, 1, 4, slice, fm 15 0, 0, fm 15 0⟩, ro (ADM_CSTAT c) 0]

/-- The registers of the ADM window. -/
def admRows : List RegRow := [
  ⟨ADM_CTL, 1, 4, 0, fm 0 0, 0, 0⟩, ro ADM_STAT (35650 * 2 ^ 16),
  ⟨ADM_BUDGET, 1, 4, 44000, fm 15 0, 0, fm 15 0⟩, ⟨ADM_BASE, 1, 4, 35650, fm 15 0, 0, fm 15 0⟩,
  ⟨ADM_AGE, 1, 4, 500, fm 15 0, 0, fm 15 0⟩, ro ADM_MEAS 0,
  ⟨ADM_REQ, 1, 4, 0, fm 5 4 + fm 2 0, 0, 0⟩, ro ADM_REQSTAT 0,
  ⟨ADM_REL, 1, 4, 0, fm 5 4 + fm 2 0, 0, 0⟩] ++
  admClassRows 1 2400 10 ++ admClassRows 2 900 10 ++ admClassRows 3 600 2 ++
  admClassRows 4 1200 1000 ++ admClassRows 5 1200 1000 ++ admClassRows 6 450 20000 ++
  admClassRows 7 3800 100

/-! ### Gexia ports (R248) -/

/-- The window of Gexia port `p`. -/
abbrev gxpBase (p : Nat) : Nat := 0x08040000 + 0x10000 * p

abbrev GXP_CTL (p : Nat) : Nat := gxpBase p
abbrev GXP_STAT (p : Nat) : Nat := gxpBase p + 0x04
abbrev GXP_TXCTL (p : Nat) : Nat := gxpBase p + 0x08
abbrev GXP_WDOG (p : Nat) : Nat := gxpBase p + 0x0C
abbrev GXP_PAYIN (p : Nat) : Nat := gxpBase p + 0x10
abbrev GXP_PAYOUT (p : Nat) : Nat := gxpBase p + 0x14
abbrev GXP_ACTRES (p : Nat) : Nat := gxpBase p + 0x18
abbrev GXP_OSEQ (p : Nat) : Nat := gxpBase p + 0x1C
abbrev GXP_ASEQ (p : Nat) : Nat := gxpBase p + 0x20
abbrev GXP_ENTRIES (p : Nat) : Nat := gxpBase p + 0x24
abbrev GXP_RXCNT (p : Nat) : Nat := gxpBase p + 0x28
abbrev GXP_EXTRA (p : Nat) : Nat := gxpBase p + 0x2C
abbrev GXP_CATGEN (p : Nat) : Nat := gxpBase p + 0x30
abbrev GXP_CATPEND (p : Nat) : Nat := gxpBase p + 0x34
abbrev GXP_PRES (p k : Nat) : Nat := gxpBase p + 0x40 + 4 * k
abbrev GXP_CAPCTL (p : Nat) : Nat := gxpBase p + 0x50
abbrev GXP_CAPBASE (p : Nat) : Nat := gxpBase p + 0x54
abbrev GXP_CAPLEN (p : Nat) : Nat := gxpBase p + 0x5C
abbrev GXP_CAPSTAT (p : Nat) : Nat := gxpBase p + 0x60

/-- The registers of the four Gexia windows. -/
def gxpRows : List RegRow := [
  ⟨GXP_CTL 0, 4, 0x10000, 0, fm 2 2 + fm 0 0, 0, fm 2 2 + fm 0 0⟩,
  ⟨GXP_STAT 0, 4, 0x10000, 0xFF0000, 0, 0, 0⟩,
  ⟨GXP_TXCTL 0, 4, 0x10000, 0, 0, 0, 0⟩,
  ⟨GXP_WDOG 0, 4, 0x10000, 3, fm 7 0, 0, fm 7 0⟩,
  ⟨GXP_PAYIN 0, 4, 0x10000, 0, 0, 0, 0⟩, ⟨GXP_PAYOUT 0, 4, 0x10000, 0, 0, 0, 0⟩,
  ⟨GXP_ACTRES 0, 4, 0x10000, 1024, fm 15 0, 0, fm 15 0⟩,
  ⟨GXP_OSEQ 0, 4, 0x10000, 0, 0, 0, 0⟩, ⟨GXP_ASEQ 0, 4, 0x10000, 0, 0, 0, 0⟩,
  ⟨GXP_ENTRIES 0, 4, 0x10000, 0, 0, 0, 0⟩, ⟨GXP_RXCNT 0, 4, 0x10000, 0, 0, 0, 0⟩,
  ⟨GXP_EXTRA 0, 4, 0x10000, 0, 0, 0, 0⟩, ⟨GXP_CATGEN 0, 4, 0x10000, 0, 0, 0, 0⟩,
  ⟨GXP_CATPEND 0, 4, 0x10000, 0, 0, 0, 0⟩, ⟨GXP_PRES 0 0, 4, 0x10000, 0, 0, 0, 0⟩,
  ⟨GXP_PRES 0 1, 4, 0x10000, 0, 0, 0, 0⟩,
  ⟨GXP_CAPCTL 0, 4, 0x10000, 0, fm 3 2 + fm 0 0, 0, 0⟩,
  ⟨GXP_CAPBASE 0, 4, 0x10000, 0, fm 31 0, 0, 0⟩, ⟨GXP_CAPBASE 0 + 4, 4, 0x10000, 0, fm 31 0, 0, 0⟩,
  ⟨GXP_CAPLEN 0, 4, 0x10000, 0, fm 31 0, 0, 0⟩, ⟨GXP_CAPSTAT 0, 4, 0x10000, 0, 0, 0, 0⟩]

/-! ### Deadline Engine (R275) -/

abbrev DLE_STAT : Nat := 0x08020000
abbrev DLE_CMPINJ : Nat := 0x08020004
abbrev DLE_SPLIT : Nat := 0x08020008
abbrev DLE_LEAD : Nat := 0x0802000C
abbrev DLE_HORIZON : Nat := 0x08020010
abbrev DLE_RETOL : Nat := 0x08020014
abbrev DLE_KEEP : Nat := 0x08020018
abbrev DLE_VMIN : Nat := 0x0802001C
abbrev DLE_TRKCNT : Nat := 0x08020020
abbrev DLE_ACTCNT : Nat := 0x08020024
abbrev DLE_REJCNT : Nat := 0x08020028
abbrev DLE_SENDCNT : Nat := 0x0802002C
abbrev DLE_DEFCNT : Nat := 0x08020030
abbrev DLE_LOAD : Nat := 0x08020034
abbrev DLE_CMPMASK : Nat := 0x08020038
abbrev DLE_AXCFG (n : Nat) : Nat := 0x08021000 + 8 * n
abbrev DLE_AXSCALE (n : Nat) : Nat := 0x08021004 + 8 * n
abbrev DLE_AXSTAT (n : Nat) : Nat := 0x08024000 + 32 * n
abbrev DLE_AXSPD (n : Nat) : Nat := 0x08024004 + 32 * n
abbrev DLE_AXPOS (n : Nat) : Nat := 0x08024008 + 32 * n
abbrev DLE_AXTIME (n : Nat) : Nat := 0x08024010 + 32 * n
abbrev DLE_AXCOUNT (n : Nat) : Nat := 0x08024018 + 32 * n

/-- The registers of the DLE window. -/
def dleRows : List RegRow := [
  ⟨DLE_STAT, 1, 4, 0, 0, fm 2 2, 0⟩, ⟨DLE_CMPINJ, 1, 4, 0, fm 2 0, 0, 0⟩,
  ⟨DLE_CMPMASK, 1, 4, 0, fm 31 0, 0, 0⟩,
  ⟨DLE_SPLIT, 1, 4, 32768, fm 16 0, 0, fm 16 0⟩, ⟨DLE_LEAD, 1, 4, 2, fm 3 0, 0, fm 3 0⟩,
  ⟨DLE_HORIZON, 1, 4, 2000, fm 10 0, 0, fm 10 0⟩,
  ⟨DLE_RETOL, 1, 4, 10 * 2 ^ 16 + 500, fm 20 0, 0, fm 20 0⟩,
  ⟨DLE_KEEP, 1, 4, 16, fm 7 0, 0, fm 7 0⟩, ⟨DLE_VMIN, 1, 4, 20, fm 15 0, 0, fm 15 0⟩,
  ro DLE_TRKCNT 0, ro DLE_ACTCNT 0, ro DLE_REJCNT 0, ro DLE_SENDCNT 0, ro DLE_DEFCNT 0,
  ro DLE_LOAD 0,
  ⟨DLE_AXCFG 0, 1024, 8, 200 * 2 ^ 16 + 8 * 64 + 3 * 8 + 4, fm 31 16 + fm 13 0, 0, fm 31 16 + fm 13 0⟩,
  ⟨DLE_AXSCALE 0, 1024, 8, 0x10000, fm 31 0, 0, fm 31 0⟩,
  ⟨DLE_AXSTAT 0, 1024, 32, 0, 0, 0, 0⟩, ⟨DLE_AXSPD 0, 1024, 32, 0, 0, 0, 0⟩,
  ⟨DLE_AXPOS 0, 1024, 32, 0, 0, 0, 0⟩, ⟨DLE_AXPOS 0 + 4, 1024, 32, 0, 0, 0, 0⟩,
  ⟨DLE_AXTIME 0, 1024, 32, 0, 0, 0, 0⟩, ⟨DLE_AXTIME 0 + 4, 1024, 32, 0, 0, 0, 0⟩,
  ⟨DLE_AXCOUNT 0, 1024, 32, 0, 0, 0, 0⟩]

/-! ### Time base and real-time clock (R308, R309) -/

abbrev TMB_CTL : Nat := 0x080B0000
abbrev TMB_STAT : Nat := 0x080B0004
abbrev TMB_TIME : Nat := 0x080B0008
abbrev TMB_ADDEND : Nat := 0x080B0010
abbrev TMB_SET : Nat := 0x080B0018
abbrev TMB_STEP : Nat := 0x080B0020
abbrev TMB_JUMPMAX : Nat := 0x080B0028
abbrev TMB_PAIROFS : Nat := 0x080B002C
abbrev TMB_PAIRLIM : Nat := 0x080B0030
abbrev TMB_PTPCFG : Nat := 0x080B0034
abbrev TMB_GXSYNC : Nat := 0x080B0038
abbrev TMB_TSSTAT : Nat := 0x080B0040
abbrev TMB_TSINFO : Nat := 0x080B0044
abbrev TMB_TSTIME : Nat := 0x080B0048
abbrev TMB_LAT (n : Nat) : Nat := 0x080B0060 + 4 * n

/-- The registers of the TMB window. -/
def tmbRows : List RegRow := [
  ro TMB_CTL 0, ⟨TMB_STAT, 1, 4, 0, 0, fm 7 6, 0⟩, ro TMB_TIME 0, ro (TMB_TIME + 4) 0,
  ⟨TMB_ADDEND, 1, 4, 0, fm 31 0, 0, 0⟩, ⟨TMB_ADDEND + 4, 1, 4, 4, fm 2 0, 0, 0⟩,
  ⟨TMB_SET, 1, 4, 0, fm 31 0, 0, 0⟩, ⟨TMB_SET + 4, 1, 4, 0, fm 31 0, 0, 0⟩,
  ⟨TMB_STEP, 1, 4, 0, fm 31 0, 0, 0⟩, ⟨TMB_STEP + 4, 1, 4, 0, fm 31 0, 0, 0⟩,
  ⟨TMB_JUMPMAX, 1, 4, 1000, fm 30 0, 0, fm 30 0⟩, ro TMB_PAIROFS 0,
  ⟨TMB_PAIRLIM, 1, 4, 2000, fm 15 0, 0, fm 15 0⟩,
  ⟨TMB_PTPCFG, 1, 4, 8, fm 31 16 + fm 3 0, 0, fm 31 16 + fm 3 0⟩,
  ⟨TMB_GXSYNC, 1, 4, 8, fm 7 0, 0, fm 7 0⟩, ⟨TMB_TSSTAT, 1, 4, 0, 0, fm 7 7, 0⟩,
  ro TMB_TSINFO 0, ro TMB_TSTIME 0, ro (TMB_TSTIME + 4) 0,
  ⟨TMB_LAT 0, 6, 4, 0, fm 31 0, 0, fm 31 0⟩]

abbrev RTC_CTL : Nat := 0x080C0000
abbrev RTC_STAT : Nat := 0x080C0004
abbrev RTC_SUB : Nat := 0x080C0008
abbrev RTC_TIME : Nat := 0x080C000C
abbrev RTC_DATE : Nat := 0x080C0010
abbrev RTC_TRIM : Nat := 0x080C0014
abbrev RTC_ALMTIME : Nat := 0x080C0018
abbrev RTC_ALMDATE : Nat := 0x080C001C
abbrev RTC_BKP (k : Nat) : Nat := 0x080C0100 + 4 * k

/-- The registers of the RTC window. The backup RAM has no reset value (R309). -/
def rtcRows : List RegRow := [
  ⟨RTC_CTL, 1, 4, 1, fm 2 0, 0, fm 2 2⟩, ⟨RTC_STAT, 1, 4, 0x41, 0, fm 6 5 + fm 3 2, 0⟩,
  ⟨RTC_SUB, 1, 4, 0, fm 14 0, 0, 0⟩, ⟨RTC_TIME, 1, 4, 0, fm 20 16 + fm 13 8 + fm 5 0, 0, 0⟩,
  ⟨RTC_DATE, 1, 4, 0x101, fm 23 16 + fm 11 8 + fm 4 0, 0, 0⟩, ⟨RTC_TRIM, 1, 4, 0, fm 10 0, 0, 0⟩,
  ⟨RTC_ALMTIME, 1, 4, 0, fm 31 29 + fm 20 16 + fm 13 8 + fm 5 0, 0, 0⟩,
  ⟨RTC_ALMDATE, 1, 4, 0, fm 31 29 + fm 23 16 + fm 11 8 + fm 4 0, 0, 0⟩,
  ⟨RTC_BKP 0, 32, 4, 0, fm 31 0, 0, 0⟩]

/-! ### Partner link, journal, host ports (R344, R367, R368) -/

abbrev PTL_CTL : Nat := 0x08080000
abbrev PTL_STAT : Nat := 0x08080004
abbrev PTL_HEALTH : Nat := 0x08080008
abbrev PTL_PHEALTH : Nat := 0x0808000C
abbrev PTL_CFG : Nat := 0x08080010
abbrev PTL_DELAY : Nat := 0x08080014
abbrev PTL_ADOPT : Nat := 0x08080018
abbrev PTL_DIVCNT : Nat := 0x0808001C
abbrev PTL_RSSTAT : Nat := 0x08080020
abbrev PTL_RSLEFT : Nat := 0x08080024
abbrev PTL_SWCNT : Nat := 0x08080028
abbrev PTL_EVTTICK : Nat := 0x08080030
abbrev PTL_LASTSW : Nat := 0x08080038
abbrev PTL_DDRBASE (n : Nat) : Nat := 0x08080100 + 8 * n
abbrev PTL_DDRLEN (n : Nat) : Nat := 0x08080104 + 8 * n

/-- The registers of the PTL window. -/
def ptlRows : List RegRow := [
  ⟨PTL_CTL, 1, 4, 1, fm 0 0, 0, fm 0 0⟩, ⟨PTL_STAT, 1, 4, 0, 0, fm 13 11, 0⟩, ro PTL_HEALTH 0,
  ro PTL_PHEALTH 0, ⟨PTL_CFG, 1, 4, 10 * 2 ^ 16 + 3 * 2 ^ 12, fm 23 12, 0, fm 23 12⟩, ro PTL_DELAY 0,
  ro PTL_ADOPT 0, ro PTL_DIVCNT 0, ro PTL_RSSTAT 0, ro PTL_RSLEFT 0, ro PTL_SWCNT 0,
  ro PTL_EVTTICK 0, ro (PTL_EVTTICK + 4) 0, ro PTL_LASTSW 0, ro (PTL_LASTSW + 4) 0,
  ⟨PTL_DDRBASE 0, 16, 4, 0, fm 31 0, 0, fm 31 0⟩]

abbrev ACJ_STAT : Nat := 0x08090000
abbrev ACJ_LIMIT : Nat := 0x08090004
abbrev ACJ_CFG : Nat := 0x08090008
abbrev ACJ_NEXT : Nat := 0x08090010
abbrev ACJ_DP (c : Nat) : Nat := 0x08090018 + 8 * c
abbrev ACJ_INFLIGHT : Nat := 0x08090028
abbrev ACJ_TICKCNT : Nat := 0x0809002C
abbrev ACJ_REFCNT : Nat := 0x08090030
abbrev ACJ_DISCNT : Nat := 0x08090034
abbrev ACJ_MIRLAG : Nat := 0x08090038

/-- The registers of the ACJ window. -/
def acjRows : List RegRow := [
  ro ACJ_STAT 0, ⟨ACJ_LIMIT, 1, 4, 512, fm 12 0, 0, fm 12 0⟩, ⟨ACJ_CFG, 1, 4, 20, fm 15 0, 0, 0⟩,
  ro ACJ_NEXT 0, ro (ACJ_NEXT + 4) 0, ⟨ACJ_DP 0, 4, 4, 0, 0, 0, 0⟩, ro ACJ_INFLIGHT 0,
  ro ACJ_TICKCNT 0, ro ACJ_REFCNT 0, ro ACJ_DISCNT 0, ro ACJ_MIRLAG 0]

abbrev HST_CTL (p : Nat) : Nat := 0x08190000 + 0x10000 * p
abbrev HST_STAT (p : Nat) : Nat := 0x08190004 + 0x10000 * p
abbrev HST_RXCNT (p : Nat) : Nat := 0x08190008 + 0x10000 * p
abbrev HST_TXCNT (p : Nat) : Nat := 0x0819000C + 0x10000 * p
abbrev HST_DROP (p : Nat) : Nat := 0x08190010 + 0x10000 * p

/-- The registers of the two host port windows. -/
def hstRows : List RegRow := [
  ⟨HST_CTL 0, 2, 0x10000, 4, fm 2 0, 0, fm 2 0⟩, ⟨HST_STAT 0, 2, 0x10000, 0, 0, 0, 0⟩,
  ⟨HST_RXCNT 0, 2, 0x10000, 0, 0, 0, 0⟩, ⟨HST_TXCNT 0, 2, 0x10000, 0, 0, 0, 0⟩,
  ⟨HST_DROP 0, 2, 0x10000, 0, 0, 0, 0⟩]

/-! ### Curator and update (R418, R419, R491) -/

abbrev CUR_MODE : Nat := 0x080E0000
abbrev CUR_PAIR : Nat := 0x080E0004
abbrev CUR_RST : Nat := 0x080E0008
abbrev CUR_BOOTSTAT : Nat := 0x080E000C
abbrev CUR_ROMBANK : Nat := 0x080E0010
abbrev CUR_WDOG : Nat := 0x080E0014
abbrev CUR_WDKICK : Nat := 0x080E0018
abbrev CUR_KLNRST : Nat := 0x080E001C
abbrev CUR_PSSEL : Nat := 0x080E0020
abbrev CUR_PSCTL : Nat := 0x080E0024
abbrev CUR_MODECTL : Nat := 0x080E0028
abbrev CUR_DEGRADE : Nat := 0x080E002C
abbrev CUR_PSDATA (k : Nat) : Nat := 0x080E0040 + 4 * k
abbrev CUR_PSIN (k : Nat) : Nat := 0x080E0080 + 4 * k
abbrev CUR_PSCNT (n : Nat) : Nat := 0x080E00C0 + 4 * n
abbrev CUR_PVCFG : Nat := 0x080E00E0

/-- The registers of the CUR window. -/
def curRows : List RegRow := [
  ro CUR_MODE 1, ro CUR_PAIR 0, ro CUR_RST 0, ro CUR_BOOTSTAT 0, ⟨CUR_ROMBANK, 1, 4, 0, fm 1 0, 0, 0⟩,
  ⟨CUR_WDOG, 1, 4, 500, fm 12 0, 0, 0⟩, ro CUR_WDKICK 0, ro CUR_KLNRST 0,
  ⟨CUR_PSSEL, 1, 4, 0, fm 2 0, 0, 0⟩, ⟨CUR_PSCTL, 1, 4, 0, fm 2 0, 0, 0⟩, ro CUR_MODECTL 0,
  ro CUR_DEGRADE 0, ⟨CUR_PSDATA 0, 12, 4, 0, 0, 0, 0⟩, ⟨CUR_PSIN 0, 12, 4, 0, fm 31 0, 0, 0⟩,
  ⟨CUR_PSCNT 0, 8, 4, 0, 0, 0, 0⟩, ⟨CUR_PVCFG, 1, 4, 20 * 256 + 1, fm 15 8 + fm 0 0, 0, 0⟩]

abbrev UPD_CTL : Nat := 0x080F0000
abbrev UPD_STAT : Nat := 0x080F0004
abbrev UPD_SLOT (k : Nat) : Nat := 0x080F0008 + 4 * k
abbrev UPD_TRIAL : Nat := 0x080F0010
abbrev UPD_TRIALLEFT : Nat := 0x080F0014
abbrev UPD_RXKIB : Nat := 0x080F0018
abbrev UPD_CFG : Nat := 0x080F001C

/-- The registers of the UPD window. -/
def updRows : List RegRow := [
  ⟨UPD_CTL, 1, 4, 0, fm 7 7, 0, 0⟩, ro UPD_STAT 0, ⟨UPD_SLOT 0, 2, 4, 0, 0, 0, 0⟩,
  ⟨UPD_TRIAL, 1, 4, 2 ^ 24 + 60 * 2 ^ 16 + 600, fm 24 0, 0, fm 24 0⟩, ro UPD_TRIALLEFT 0,
  ro UPD_RXKIB 0, ro UPD_CFG 0]

/-! ### Local channels, CAN FD ports, front label (R472 to R474) -/

abbrev LIO_CTL : Nat := 0x08160000
abbrev LIO_MAPDI : Nat := 0x08160004
abbrev LIO_MAPDO : Nat := 0x08160008
abbrev LIO_MAPAI : Nat := 0x0816000C
abbrev LIO_MAPAO : Nat := 0x08160010
abbrev LIO_LEVEL : Nat := 0x08160014
abbrev LIO_DRIVE : Nat := 0x08160018
abbrev LIO_FAULT : Nat := 0x0816001C
abbrev LIO_FOREIGN : Nat := 0x08160020
abbrev LIO_SCHCNT : Nat := 0x08160024
abbrev LIO_LED : Nat := 0x08160028
abbrev LIO_CHCFG (n : Nat) : Nat := 0x08160100 + 4 * n

/-- The registers of the LIO window. -/
def lioRows : List RegRow := [
  ⟨LIO_CTL, 1, 4, 3 * 256, fm 15 8 + fm 0 0, 0, fm 15 8 + fm 0 0⟩,
  ⟨LIO_MAPDI, 2, 4, 0, fm 31 31 + fm 17 0, 0, fm 31 31 + fm 17 0⟩,
  ⟨LIO_MAPAI, 2, 4, 0, fm 31 31 + fm 14 0, 0, fm 31 31 + fm 14 0⟩,
  ro LIO_LEVEL 0, ro LIO_DRIVE 0, ⟨LIO_FAULT, 1, 4, 0, 0, fm 31 0, 0⟩,
  ⟨LIO_FOREIGN, 1, 4, 0, 0, fm 15 0, 0⟩, ro LIO_SCHCNT 0, ⟨LIO_LED, 1, 4, 3, fm 7 0, 0, 0⟩,
  ⟨LIO_CHCFG 0, 16, 4, 0, fm 31 16 + fm 6 3 + fm 1 0, 0, fm 31 16 + fm 6 3 + fm 1 0⟩]

/-- The window of CAN FD port `p`. -/
abbrev cfdBase (p : Nat) : Nat := 0x08120000 + 0x10000 * p

abbrev CFD_CTL (p : Nat) : Nat := cfdBase p
abbrev CFD_STAT (p : Nat) : Nat := cfdBase p + 4
abbrev CFD_NBT (p : Nat) : Nat := cfdBase p + 8
abbrev CFD_DBT (p : Nat) : Nat := cfdBase p + 12
abbrev CFD_TDC (p : Nat) : Nat := cfdBase p + 0x10
abbrev CFD_MAPRX (p : Nat) : Nat := cfdBase p + 0x14
abbrev CFD_MAPTX (p : Nat) : Nat := cfdBase p + 0x18
abbrev CFD_CNT (p : Nat) : Nat := cfdBase p + 0x1C
abbrev CFD_QSTAT (p : Nat) : Nat := cfdBase p + 0x20
abbrev CFD_FID (p f : Nat) : Nat := cfdBase p + 0x100 + 8 * f
abbrev CFD_FMSK (p f : Nat) : Nat := cfdBase p + 0x104 + 8 * f

/-- A bit timing word: TSEG1, TSEG2, SJW, BRP. -/
def cfdTiming (t1 t2 sjw brp : Nat) : Nat := t1 * 2 ^ 24 + t2 * 2 ^ 17 + sjw * 2 ^ 10 + brp

/-- The registers of CAN FD port `p`. -/
def cfdRowsOf (p : Nat) : List RegRow := [
  ⟨CFD_CTL p, 1, 4, 0x22, fm 6 2 + fm 0 0, 0, fm 6 2 + fm 0 0⟩, ro (CFD_STAT p) 3,
  ⟨CFD_NBT p, 1, 4, cfdTiming 79 20 20 20, fm 31 0, 0, fm 31 0⟩,
  ⟨CFD_DBT p, 1, 4, cfdTiming 79 20 20 5, fm 31 0, 0, fm 31 0⟩,
  ⟨CFD_TDC p, 1, 4, 0, fm 31 31 + fm 6 0, 0, fm 31 31 + fm 6 0⟩,
  ⟨CFD_MAPRX p, 2, 4, 0, fm 31 31 + fm 21 16 + fm 14 0, 0, fm 31 31 + fm 21 16 + fm 14 0⟩,
  ro (CFD_CNT p) 0, ro (CFD_QSTAT p) 0,
  ⟨CFD_FID p 0, 1, 8, 2 ^ 31, fm 31 30 + fm 28 0, 0, fm 31 30 + fm 28 0⟩,
  ⟨CFD_FID p 1, 15, 8, 0, fm 31 30 + fm 28 0, 0, fm 31 30 + fm 28 0⟩,
  ⟨CFD_FMSK p 0, 16, 8, 0, fm 28 0, 0, fm 28 0⟩]

abbrev LBL_CTL : Nat := 0x08170000
abbrev LBL_STAT : Nat := 0x08170004
abbrev LBL_BIAS : Nat := 0x08170008
abbrev LBL_LUTSEL : Nat := 0x0817000C
abbrev LBL_LUTDATA : Nat := 0x08170010
abbrev LBL_ROW : Nat := 0x08170014

/-- The registers of the LBL window. LUTDATA shows the configuration's tables. -/
def lblRows : List RegRow := [
  ⟨LBL_CTL, 1, 4, 1, fm 0 0, 0, fm 0 0⟩, ⟨LBL_STAT, 1, 4, 0, 0, fm 5 5, 0⟩,
  ⟨LBL_BIAS, 1, 4, 80 * 256 + 150, fm 23 0, 0, fm 23 0⟩,
  ⟨LBL_LUTSEL, 1, 4, 0, fm 12 8 + fm 6 4 + fm 1 0, 0, 0⟩,
  ⟨LBL_LUTDATA, 1, 4, 0, fm 15 14 + fm 7 0, 0, 0⟩, ro LBL_ROW 0]

/-- Every register of the peripheral space (R15). -/
def regMap : List RegRow :=
  klnRows ++ votRows ++ dleRows ++ gxpRows ++ ptlRows ++ acjRows ++ mpuRows ++ tmbRows ++ rtcRows ++
  ldgRows ++ curRows ++ updRows ++ admRows ++ svaRows ++ cfdRowsOf 0 ++ cfdRowsOf 1 ++ cfdRowsOf 2 ++
  cfdRowsOf 3 ++ lioRows ++ lblRows ++ ddcRows ++ hstRows

/-- The windows that a block occupies, each with its Ledger source number (R15, R420). -/
def windowSrc (w : Nat) : Option Nat :=
  match w with
  | 0x0800 => some 1 | 0x0801 => some 2 | 0x0802 => some 3
  | 0x0804 => some 4 | 0x0805 => some 4 | 0x0806 => some 4 | 0x0807 => some 4
  | 0x0808 => some 5 | 0x0809 => some 6 | 0x080A => some 7 | 0x080B => some 8 | 0x080C => some 9
  | 0x080D => some 10 | 0x080E => some 11 | 0x080F => some 12 | 0x0810 => some 13 | 0x0811 => some 14
  | 0x0812 => some 15 | 0x0813 => some 15 | 0x0814 => some 15 | 0x0815 => some 15
  | 0x0816 => some 16 | 0x0817 => some 19 | 0x0818 => some 17 | 0x0819 => some 18 | 0x081A => some 18
  | _ => none

/-- The Ledger source of a register refusal: the block that the register belongs to (R420). -/
def srcOfAddr (a : Nat) : Nat := (windowSrc (a / 0x10000)).getD 0

end Sys2Proof.Machine
end

