-- ==== Sys2Proof/Machine/Tab.lean ====
section
/-! DEFINITION. Sparse tables by key, and the memory of the module as one of them: strictly
rising keys, and no entry equal to what an unlisted key reads as, so that equal tables are
equal data. -/

namespace Sys2Proof.Machine

/-- A sparse table: key and value pairs, keys strictly rising. -/
abbrev Tab (α : Type) := List (Nat × α)

/-- The value under a key; an unlisted key reads as `d`. -/
def tabGet {α : Type} (d : α) : Tab α → Nat → α
  | [], _ => d
  | (k, v) :: t, a => if a = k then v else tabGet d t a

/-- Add to or replace in an association list kept in rising order of its keys. -/
def assocPut {α : Type} : List (Nat × α) → Nat → α → List (Nat × α)
  | [], a, v => [(a, v)]
  | (k, w) :: t, a, v =>
    if a = k then (a, v) :: t
    else if a < k then (a, v) :: (k, w) :: t
    else (k, w) :: assocPut t a v

/-- Remove from an association list. -/
def assocDel {α : Type} (t : List (Nat × α)) (a : Nat) : List (Nat × α) :=
  t.filter fun e => decide (e.1 ≠ a)

/-- Write a key; writing what an unlisted key reads as removes the entry. -/
def tabPut {α : Type} [DecidableEq α] (d : α) (t : Tab α) (a : Nat) (v : α) : Tab α :=
  if v = d then assocDel t a else assocPut t a v

/-- Every key of a table is at least `n`. -/
def tabFrom {α : Type} (n : Nat) : Tab α → Bool
  | [] => true
  | (k, _) :: t => decide (n ≤ k) && tabFrom n t

/-- The canonical form: keys strictly rising, no entry equal to the default. -/
def tabWf {α : Type} [DecidableEq α] (d : α) : Tab α → Bool
  | [] => true
  | (k, v) :: t => decide (v ≠ d) && tabFrom (k + 1) t && tabWf d t

/-- The table without the keys of `[lo, lo + n)`. -/
def tabErase {α : Type} (t : Tab α) (lo n : Nat) : Tab α :=
  t.filter fun e => decide (e.1 < lo) || decide (lo + n ≤ e.1)

/-- The entries of `[lo, lo + n)`. -/
def tabRange {α : Type} (t : Tab α) (lo n : Nat) : Tab α :=
  t.filter fun e => decide (lo ≤ e.1) && decide (e.1 < lo + n)

/-- Copy the keys `[src, src + n)` onto `[dst, dst + n)`. -/
def tabCopy {α : Type} [DecidableEq α] (d : α) (t : Tab α) (src dst n : Nat) : Tab α :=
  (tabRange t src n).foldl (fun acc e => tabPut d acc (e.1 - src + dst) e.2) (tabErase t dst n)

/-- Find in an association list. -/
def assocGet {α : Type} : List (Nat × α) → Nat → Option α
  | [], _ => none
  | (k, v) :: t, a => if a = k then some v else assocGet t a

/-- Add an item to a list that has no repeats. -/
def insertNew {α : Type} [DecidableEq α] (x : α) (l : List α) : List α :=
  if x ∈ l then l else l ++ [x]

/-! ### Memory -/

/-- The whole 48-bit physical address space (R369). -/
abbrev Memory := Tab Byte

/-- What a byte that nothing has written reads as. The spec leaves the contents of every
array at power-on open (R379, R485). DESIGN CHOICE, log entry 1: zero. -/
def Memory.unlisted : Byte := 0

/-- The canonical form of memory. -/
def Memory.wf (m : Memory) : Bool := tabWf Memory.unlisted m

/-- Read one byte. -/
def Memory.ld8 (m : Memory) (a : Nat) : Byte := tabGet Memory.unlisted m a

/-- Write one byte. -/
def Memory.st8 (m : Memory) (a : Nat) (v : Byte) : Memory := tabPut Memory.unlisted m a v

/-- Read `n` bytes. -/
def Memory.ldBytes (m : Memory) : Nat → Nat → List Byte
  | _, 0 => []
  | a, n + 1 => m.ld8 a :: Memory.ldBytes m (a + 1) n

/-- Write a byte list from an address upward. -/
def Memory.stBytes : Memory → Nat → List Byte → Memory
  | m, _, [] => m
  | m, a, b :: bs => Memory.stBytes (m.st8 a b) (a + 1) bs

/-- Read a little-endian number of `n` bytes (R9). -/
def Memory.ldN (m : Memory) (a n : Nat) : Nat := leNat (m.ldBytes a n)

/-- Write a little-endian number of `n` bytes (R9). -/
def Memory.stN (m : Memory) (a n v : Nat) : Memory := m.stBytes a (leBytes n v)

/-- Write zero into `[a, a + n)`. -/
def Memory.zero (m : Memory) (a n : Nat) : Memory := tabErase m a n

/-- Copy `n` bytes. -/
def Memory.copy (m : Memory) (src dst n : Nat) : Memory := tabCopy Memory.unlisted m src dst n

/-- Keep in `[base, base + cnt * 2 ^ sh)` only what a predicate of the item index selects. -/
def Memory.items (m : Memory) (base stride cnt : Nat) : List Nat :=
  (tabRange m base (stride * cnt)).foldl
    (fun acc e => let i := (e.1 - base) / stride; if acc.getLast? = some i then acc else acc ++ [i]) []

end Sys2Proof.Machine
end

