-- ==== Sys2Proof/Machine/State.lean ====
section
/-! DEFINITION. The state of the module: the six WALVAS cores, every register of the peripheral
space, every memory array, the state that the engines keep between their steps, and the queue of
commands that wait. All of it is plain data. -/

namespace Sys2Proof.Machine

/-- The module never stops with a fault: every command has an effect on the state (a refusal by
the module is a status code or an error response, an exception ends a slice). -/
inductive Fault where
  deriving DecidableEq, Repr

/-- Why a command has no meaning. -/
inductive Refusal where
  /-- Raised by the dispatcher for a command that the model does not model yet. Safe. -/
  | notModelled (mnemonic : String)
  deriving DecidableEq, Repr

/-! ### Kiln -/

/-- A WALVAS core (R63, R78, R82, R163): general registers (g0 is kept at 0), condition bits
(bit 0 is kept at 1), FPF, pc, privilege, unit number and running signature. -/
structure Core where
  g    : Vector Word 32
  c    : BitVec 8
  fpf  : BitVec 5
  pc   : BitVec 32
  sys  : Bool
  unit : BitVec 16
  sig  : BitVec 32
  deriving DecidableEq, Repr

/-- The three cores of a cluster (R158). -/
structure Tri where
  k0 : Core
  k1 : Core
  k2 : Core
  deriving DecidableEq, Repr

/-- The slice that runs on a cluster (R45, R69, R119): its task and index, its slice cycle
count, its budget, and whether its run-on record has been written (R54). -/
structure Slice where
  task   : Nat
  idx    : Nat
  count  : Nat
  budget : Nat
  runOn  : Bool
  deriving DecidableEq, Repr

/-- A closed signature window (R164): the closing values of the three cores and the address of
the instruction that closed it. -/
structure Window where
  s0   : BitVec 32
  s1   : BitVec 32
  s2   : BitVec 32
  addr : Nat
  deriving DecidableEq, Repr

/-- The instruction that queued a Deadline Engine request (R148). -/
inductive ReqOp where
  | tact
  | trku
  | trkq
  deriving DecidableEq, Repr

/-- A queued request: the copy of its request block (R147). -/
structure Req where
  op  : ReqOp
  blk : List Byte
  deriving DecidableEq, Repr

/-- An answer to a posted query (R151). -/
structure QueryResult where
  qtag    : Nat
  kind    : Nat
  outcome : Nat
  key     : Nat
  tag     : Nat
  value   : Nat
  speed   : Nat
  time    : Nat
  deriving DecidableEq, Repr

/-- What a cluster keeps beside its cores and registers. -/
structure Kiln where
  /-- the running slice -/
  slice   : Option Slice := none
  /-- due slices not yet dispatched: task and slice index (R45) -/
  due     : List (Nat × Nat) := []
  /-- cycles of the firing (R51, R119) -/
  cyc     : Nat := 0
  /-- instructions retired in the open window, and the address of the last (R164) -/
  win     : Nat := 0
  lastPc  : Nat := 0
  /-- windows that are due to close, oldest first -/
  dueWin  : List Window := []
  /-- the window whose closing values the comparators hold -/
  cmpWin  : Option Window := none
  /-- exchange-area lines written in the firing (R71) -/
  dirty   : List Nat := []
  /-- the request queue of the firing, and the queue that the engine takes next (R148) -/
  queue   : List Req := []
  taken   : List Req := []
  /-- results collectable in this firing, and those for the next one (R152) -/
  results : List QueryResult := []
  nextRes : List QueryResult := []
  /-- this cluster's part of the delivery set, ascending (R143) -/
  deliv   : List Nat := []
  /-- accessions fetched, and completions recorded, in this firing (R143, R146) -/
  fetched : List Nat := []
  comps   : List (Nat × Nat) := []
  /-- a debugger HALT waits for the next instruction boundary; a STEP is under way (R180) -/
  haltReq : Bool := false
  stepping : Bool := false
  /-- a rebuild of the fenced core runs its test sequence (R167) -/
  rebuilding : Bool := false
  /-- the core rebuilt at the last boundary, watched for one tick (R168) -/
  rebuilt : Option Nat := none
  /-- KLN_CLCTL.RETRY waits for the boundary -/
  retry   : Bool := false
  /-- a cluster fault of this tick waits for its outcome at the boundary (R172, R174) -/
  faulted : Bool := false
  /-- a Kiln cluster reset has been applied and its injection test runs (R174, R482) -/
  testing : Bool := false
  /-- the test follows a cluster fault, so AUTORJ applies (R174) -/
  testAfterFault : Bool := false
  deriving DecidableEq, Repr

/-! ### Program -/

/-- A task table entry (R189). -/
structure TaskEnt where
  root   : Nat
  cl     : Nat
  rate   : Nat
  policy : Nat
  flags  : Nat
  top    : Nat
  floor  : Nat
  frame  : Nat
  budget : Nat
  sidx   : Nat
  deriving DecidableEq, Repr

/-- A section table entry (R188). -/
structure Section where
  kind   : Nat
  flags  : Nat
  addr   : Nat
  size   : Nat
  offset : Nat
  clen   : Nat
  deriving DecidableEq, Repr

/-- A retained directory entry (R190). -/
structure RdirEnt where
  name   : Nat
  type   : Nat
  offset : Nat
  length : Nat
  deriving DecidableEq, Repr

/-- A program image that passed its checks: its header fields, tables and bytes (R187 to R190),
and the program generation it received (R193). -/
structure Prog where
  gen    : Nat := 0
  id     : Nat := 0
  tickNs : Nat := 0
  catGen : Nat := 0
  delta  : Nat := 0
  rbase  : Nat := 0
  rlen   : Nat := 0
  start  : Nat := 0
  units  : Nat := 0
  unitBase : Nat := 0
  tasks  : List TaskEnt := []
  slices : List Nat := []
  own    : List Byte := []
  route  : List Byte := []
  rdir   : List RdirEnt := []
  sects  : List Section := []
  digest : List Byte := []
  bytes  : List Byte := []
  deriving DecidableEq, Repr

/-! ### Memory protection and error correction -/

/-- A region of a master class (R382): base and attribute word (the layout of MPU_RATTR). -/
structure Region where
  base : Nat
  attr : Nat
  deriving DecidableEq, Repr

/-- The check state of a 64-bit word (R374, R375). -/
inductive Ecc where
  | good
  | single
  | uncorr
  | poison
  deriving DecidableEq, Repr

/-! ### The tick -/

/-- What the module keeps of the tick it is in (chapter The Tick). -/
structure Tick where
  /-- plant time in ns, and its fraction in units of 2^-32 ns (R280) -/
  now      : Nat := 0
  frac     : Nat := 0
  /-- the tick length code in effect; a new KLN_TICKSEL.LEN waits for the boundary (R61) -/
  len      : Nat := 1
  /-- plant time at which the current tick started, in ns (R69) -/
  start    : Nat := 0
  /-- the firing of this tick takes place, and has ended -/
  fires    : Bool := false
  ended    : Bool := false
  /-- the tick does not fire: late commit (R54), failed adoption (R27) -/
  blocked  : Bool := false
  /-- the input buffers have been swapped in this tick (R22) -/
  adopted  : Bool := false
  /-- the tick overran (R55), or a cluster fault stopped its firing (R171) -/
  overrun  : Bool := false
  stopped  : Bool := false
  /-- the firing of this tick is a single STEP (R61) -/
  single   : Bool := false
  /-- tasks whose current period is lost (R57) -/
  lost     : List Nat := []
  /-- the retained delta of the tick: granule number and value at the tick start (R128, R56) -/
  delta    : List (Nat × Word) := []
  /-- the current input buffer and the emitted output buffer, 0 or 1 (R240) -/
  inBuf    : Nat := 0
  outBuf   : Nat := 0
  /-- the phase: 0 input, 1 reconcile, 2 firing, 3 emit and guard (R22) -/
  phase    : Nat := 0
  /-- this tick's output image has been emitted; the last tick's was (R454) -/
  emitted  : Bool := false
  prevEmit : Bool := false
  /-- a task with policy HALT raised an exception; the overrun limit was reached (R86, R58) -/
  haltPol  : Bool := false
  ovrLimit : Bool := false
  deriving DecidableEq, Repr

/-! ### The Ledger -/

/-- A Ledger record (R420) without its sequence number. -/
structure LedgerRec where
  code  : Nat
  src   : Nat
  flags : Nat
  time  : Nat
  tick  : Nat
  count : Nat
  arg0  : Nat
  arg1  : Nat
  arg2  : Nat
  deriving DecidableEq, Repr

/-- A code that the rate limit suppressed in the window: count, first and last TICK (R429). -/
structure Suppressed where
  code  : Nat
  count : Nat
  first : Nat
  last  : Nat
  deriving DecidableEq, Repr

/-- What the LDG block keeps beside its registers and rings. -/
structure Ledger where
  /-- records raised before BOOT step 5 (R427), and how many of them were lost -/
  staged  : List LedgerRec := []
  stLost  : Nat := 0
  /-- records written per code in the rate window, and the suppressed codes (R429) -/
  written : Tab Nat := []
  supp    : List Suppressed := []
  /-- the last record of each station entry key, by SEQ (R428): key SRC * 65536 + ARG0 -/
  keyed   : Tab Nat := []
  /-- the unreported loss of R426: number lost and first lost SEQ -/
  lostRun : Nat := 0
  lostAt  : Nat := 0
  deriving DecidableEq, Repr

/-! ### What leaves the module -/

/-- One thing that the module sends or answers. The list of them is the model's own record of
the outside view (log entry 6); no rule reads it. -/
inductive Out where
  /-- a telegram on Gexia port `port` -/
  | gexia (port : Nat) (bytes : List Byte)
  /-- a datagram to the host: destination address and port, payload -/
  | host (addr : List Byte) (port : Nat) (bytes : List Byte)
  /-- a frame on the partner link (R317) -/
  | link (bytes : List Byte)
  /-- a telegram that an entry of a ring sends onward: ring, PATH, and whether it travels west -/
  | entry (ring path : Nat) (west : Bool) (bytes : List Byte)
  /-- the status of a session operation or register command -/
  | status (name : String)
  /-- data that a session operation or a debug access returns -/
  | data (bytes : List Byte)
  /-- the error response of an access (R5, R17, R385) -/
  | busError
  /-- a PTP message on a host port, or a ring Sync on a Gexia port: kind code and port -/
  | ptp (kind port : Nat)
  /-- a CAN frame offered to the bus -/
  | can (port : Nat) (bytes : List Byte)
  /-- a gratuitous ARP or neighbour advertisement of the pair address (R314) -/
  | announce
  /-- the rise of PPS_OUT (R499) -/
  | pps
  deriving DecidableEq, Repr

/-! ### The accession journal -/

/-- The commit record of a firing while it is not complete (R352): its tick and header, the granules
of its delta, the accessions fetched and completed in it, its delivery pointers, and which copies
stand. -/
structure Commit where
  tick    : Nat
  header  : List Byte
  grans   : List Nat
  fetched : List Nat
  comps   : List (Nat × Nat)
  dp0     : Nat
  dp1     : Nat
  partner : Bool
  ownMirror : Bool
  partMirror : Bool
  deriving DecidableEq, Repr

/-- A numbered order that is not committed yet (R345, R347): its accession number, tick of arrival,
where to send the ACK, the MSEQ of its ORDER message, what has been confirmed, and whether TRY_AGAIN
has been sent. -/
structure PendOrder where
  n     : Nat
  tick  : Nat
  addr  : List Byte
  port  : Nat
  mseq  : Nat
  acked : Bool
  ownMirror : Bool
  partMirror : Bool
  told  : Bool
  deriving DecidableEq, Repr

/-- What the ACJ block keeps beside its registers and journal SRAM. -/
structure Jrn where
  commit : Option Commit := none
  pend   : List PendOrder := []
  /-- plant time of numbering, by record slot (R362) -/
  tacc   : Tab Nat := []
  /-- tick of the commit that completed or dropped a record, by slot (R358) -/
  compTick : Tab Nat := []
  /-- accessions whose COMPLETE goes out in the next emit phase (R363) -/
  due    : List Nat := []
  /-- highest accession number committed (R355) -/
  cmtno  : Nat := 0
  /-- commits whose entries are not yet in the mirror, with the record slots they changed (R351) -/
  lag    : List (Nat × List Nat) := []
  /-- numbers below the next one whose NEW entry a replica has not received (R354) -/
  gaps   : List Nat := []
  /-- HMAC keys by client state index (R350); no master reads them -/
  keys   : List (Nat × List Byte) := []
  /-- journal SRAM holds the journal: it has been taken from the mirror, or by a checkpoint, since BOOT
  (R365, R485) -/
  loaded : Bool := false
  deriving DecidableEq, Repr

/-! ### Power admission and supply supervision -/

/-- Who asked for a grant (R442). -/
inductive AdmWho where
  | session
  | ledger
  | label
  | scrub
  | copy
  | pages
  | staging
  | nor
  | picture
  | retrain
  deriving DecidableEq, Repr

/-- A request that waits or holds a grant: class, port (class 3), requester, and the plant time
since which it waits. -/
structure AdmReq where
  cls   : Nat
  port  : Nat
  who   : AdmWho
  since : Nat
  deriving DecidableEq, Repr

/-- What the ADM block keeps beside its registers: requests that wait, in order of arrival, and
grants held. -/
structure Adm where
  waiting : List AdmReq := []
  granted : List AdmReq := []
  deriving DecidableEq, Repr

/-- What the SVA block keeps beside its registers: consecutive results of each channel on the
other side of its state (R434), and the injected sequences that run (R433). -/
structure Sva where
  runs    : Tab Nat := []
  inject  : List Nat := []
  /-- HOLDOK is 0 in a serving mode, a PWRWARN source (R439) -/
  holdLow : Bool := false
  /-- the shutdown hold of R437 step 5 -/
  hold    : Bool := false
  deriving DecidableEq, Repr

/-! ### Forces, local channels, CAN FD ports, the front label -/

/-- A force table entry (R210): SPACE, KIND, POINT, VALUE and GEN. -/
structure Force where
  space : Nat
  kind  : Nat
  point : Nat
  value : Nat
  gen   : Nat
  deriving DecidableEq, Repr

/-- A pending schedule of a local channel (R456). -/
structure Sched where
  fire  : Nat
  width : Nat
  level : Nat
  deriving DecidableEq, Repr

/-- What the LIO block keeps beside its registers, by channel number. -/
structure Lio where
  /-- edge records of 64 bits (R453) -/
  edges   : Tab Nat := []
  /-- last SERIAL taken, and the pending schedules (R456) -/
  serial  : Tab Nat := []
  sched   : List (Nat × Sched) := []
  /-- channels in a scheduled pulse, with the station time of its end -/
  pulse   : List (Nat × Nat) := []
  /-- shadow levels that the driver follows when the role allows (R455) -/
  shadow  : BitVec 16 := 0
  /-- drivers switched off by a short, with the plant time (R457) -/
  shorted : List (Nat × Nat) := []
  /-- consecutive missed ticks, and whether the fallback is in force (R454) -/
  missed  : Nat := 0
  fellBack : Bool := false
  deriving DecidableEq, Repr

/-- What a CAN FD port keeps beside its registers: receive FIFO and transmit queue of 76-byte
records, frames lost since the last tick, last SERIAL taken (R460 to R462). -/
structure Can where
  rx     : List (List Byte) := []
  lost   : Nat := 0
  tx     : List (List Byte) := []
  serial : Nat := 0
  deriving DecidableEq, Repr

/-- What the LBL block keeps beside its registers and the record in MRAM. -/
structure Label where
  /-- the next pass to draw: 1 band, 2 body, 3 clear -/
  next  : Nat := 1
  /-- the slice of the grant has ended during a pass (R467) -/
  slice : Bool := false
  /-- a picture that waits for its class 2 grant -/
  picture : Option (List Byte) := none
  /-- response tables of the configuration (R468): key 256 * colour + 32 * band + phase -/
  lut   : Tab Nat := []
  deriving DecidableEq, Repr


/-! ### Time base and real-time clock -/

/-- An entry of the timestamp FIFO (R293, R308). -/
structure Stamp where
  port : Nat
  sent : Bool
  mtype : Nat
  seqid : Nat
  time : Nat
  deriving DecidableEq, Repr

/-- What the TMB block keeps beside its registers. -/
structure Tmb where
  /-- a step that waits for the guard (R286) -/
  step : Option Int := none
  /-- that step has left in a pair state (R287) -/
  carried : Bool := false
  /-- the timestamp FIFO, oldest first (R308) -/
  fifo : List Stamp := []
  /-- the wait for PTP lock before PRIMARY (R283) -/
  wait : Bool := false
  /-- consecutive ticks in which the pair offset exceeded its limit (R289) -/
  exceeds : Nat := 0
  /-- consecutive ticks with TIMEOK = 0 (R342) -/
  bad : Nat := 0
  deriving DecidableEq, Repr

/-- What the RTC block keeps beside its registers: it stands in the backup domain, as they do. -/
structure Rtc where
  /-- SUB, TIME and DATE as frozen into the shadows (R301) -/
  shadow : Option (Nat × Nat × Nat) := none
  /-- the halt value (R302), and the value that HOLD waits for (R305): seconds since 2000 and
  pulses -/
  haltSec : Nat := 0
  haltSub : Nat := 0
  /-- the trim of the running window (R303), as RTC_TRIM holds it -/
  trim : Nat := 0
  deriving DecidableEq, Repr


/-! ### Deadline Engine -/

/-- The state of an axis (R251): 0 OFF, 1 ACQUIRING, 2 RUNNING, 3 STOPPED, 4 COASTING, 5 LOST; the
position with 16 fractional bits, the speed with 32, the time, the last COUNT, the misses, the records
rejected, and whether AXIS_RETURNED is due (R253). -/
structure Axis where
  state : Nat := 0
  p     : Int := 0
  v     : Int := 0
  t     : Int := 0
  count : Nat := 0
  miss  : Nat := 0
  erratic : Nat := 0
  lost  : Bool := false
  deriving DecidableEq, Repr

/-- An entry that waits for a place in the action telegrams (R262): a CANCEL entry with its fields, or
the entry of an action record, with its SUPERSEDE flag and whether the recompute made it. -/
structure Cand where
  cancel : Bool
  aid    : Nat
  station : Nat
  output : Nat
  rcd    : Nat
  sup    : Bool
  again  : Bool
  deriving DecidableEq, Repr

/-- What the DLE block keeps beside its registers and the record table. -/
structure Dle where
  /-- the split in effect: the number of track records (R254) -/
  tracks : Nat := 32768
  axes   : List (Nat × Axis) := []
  cands  : List Cand := []
  /-- records whose first entry carries SUPERSEDE (R263) -/
  firstSup : List Nat := []
  /-- ended records, newest first (R259) -/
  ended  : List Nat := []
  /-- the entries placed for this tick: ring and 16 bytes (R226) -/
  placed : List (Nat × List Byte) := []
  /-- a DLE fault that applies to the running tick, or to the next one (R273) -/
  fault  : Bool := false
  faultNext : Bool := false
  /-- the comparator test after an engine reset runs, and whether AUTORJ applies (R273) -/
  testing : Bool := false
  autoRj : Bool := false
  deriving DecidableEq, Repr


/-! ### Start-up, provenance and update -/

/-- A firmware slot in the boot control record (R407): 0 EMPTY, 1 WRITING, 2 VALID, 3 CONFIRMED,
4 FAILED, with the VERSION of the stored header. -/
structure Slot where
  state   : Nat
  version : Nat
  deriving DecidableEq, Repr

/-- The boot control record (R407), with the request of RECOVER (R414) and whether a copy is
readable (R397). -/
structure Bcr where
  a         : Slot := ⟨3, 0⟩
  b         : Slot := ⟨0, 0⟩
  active    : Nat := 0
  trialSlot : Nat := 0
  trialState : Nat := 0
  seq       : Nat := 0
  readable  : Bool := true
  recover   : Bool := false
  deriving DecidableEq, Repr

/-- A configuration copy (R412): the values of the registers that it sets, by address, with its
format, generation and digest. -/
structure CfgCopy where
  valid  : Bool := false
  fmt    : Nat := 0
  gen    : Nat := 0
  regs   : List (Nat × Nat) := []
  digest : List Byte := []
  deriving DecidableEq, Repr

/-- What the Curator keeps beside the CUR and UPD registers. -/
structure Upd where
  bcr    : Bcr := {}
  /-- the configuration copies of banks 0 and 1 (R395) -/
  cfgA   : CfgCopy := {}
  cfgB   : CfgCopy := {}
  /-- the booted slot (R409) -/
  booted : Nat := 0
  /-- the slot and header of a transfer that runs (R406) -/
  xfer   : Option (Nat × List Byte) := none
  /-- the provenance slots (R399), and the extensions since BOOT (R401) -/
  ps     : List (List Byte) := List.replicate 8 (List.replicate 48 0)
  exts   : Nat := 0
  /-- BOOT ended with no step failure (R410) -/
  bootOk : Bool := true
  /-- the pair protocol version of the partner, once known (R416) -/
  partProto : Option Nat := none
  /-- the second of plant time in which provenance answers are counted, and their number (R402) -/
  pvSec  : Nat := 0
  pvCnt  : Nat := 0
  deriving DecidableEq, Repr


/-! ### The redundant pair -/

/-- A frame of classes 1 to 4 that waits for its acknowledgment (R318): class, MSEQ, how often it has
been sent again, and its bytes. -/
structure SentFrame where
  cls   : Nat
  mseq  : Nat
  again : Nat
  bytes : List Byte
  deriving DecidableEq, Repr

/-- A stream that arrives in parts (R319): its tick, its total length and the bytes so far. -/
structure Stream where
  tick  : Nat
  total : Nat
  bytes : List Byte
  deriving DecidableEq, Repr

/-- An action or output digest as ACTDIG and OUTDIG carry it (R318, R324). -/
structure Digest where
  tick  : Nat
  value : Nat
  kind  : Nat
  self  : Bool
  deriving DecidableEq, Repr

/-- What the PTL block keeps beside its registers. -/
structure Pair where
  /-- the next MSEQ of each class, the frames without acknowledgment, and a link that counts as down
  because one stayed without it (R317, R318) -/
  mseq    : List Nat := [0, 0, 0, 0, 0]
  sent    : List SentFrame := []
  dead    : Bool := false
  /-- streams in arrival, by message type (R319) -/
  rx      : List (Nat × Stream) := []
  /-- the partner's last INPUT payload (R318, R321) -/
  partIn  : List Byte := []
  /-- the partner's INPUT of the running tick has arrived -/
  heard   : Bool := false
  /-- primary: FILL of the tick has been handled, or its deadline has passed (R323) -/
  filled  : Bool := false
  /-- standby: the digest of FINAL in this tick, and the DELTA blocks of the tick -/
  finalDig : Option Nat := none
  deltas  : Nat := 0
  /-- a divergence has been detected: no copies until RESYNC (R30, R328) -/
  diverged : Bool := false
  /-- consecutive partner-silent ticks (R330) -/
  silent  : Nat := 0
  /-- plant times of divergences (R328) -/
  divTimes : List Nat := []
  /-- telegrams that the standby holds for the primary's digest (R325), by port -/
  heldAct : List (Nat × List Byte) := []
  heldOut : List (Nat × List Byte) := []
  /-- own digests whose comparison is open, own digests of the tick, and the partner's (R325) -/
  waitAct : Bool := false
  waitOut : Bool := false
  ownAct  : Option Digest := none
  ownOut  : Option Digest := none
  partAct : Option Digest := none
  partOut : Option Digest := none
  /-- an own cause of R326 in this tick -/
  selfCause : Bool := false
  /-- the commit comparison of a tick is skipped after SELF (R326) -/
  skipCommit : Bool := false
  /-- the role is to be given up at the next boundary: 1 into HALTED, 2 into RESYNC (R326, R329) -/
  handOver : Nat := 0
  /-- for how many ticks in a row the primary has had a healthy standby (R315, R332) -/
  healthyRun : Nat := 0
  /-- primary: the partner has diverged in this tick (R315, R328) -/
  partDiv : Bool := false
  /-- fixed events: tick and kind (R321); a swap that waits for a tick without overrun -/
  events  : List (Nat × Nat) := []
  /-- the driver is enabled: the module asserts its line when the gate allows (R312) -/
  driver  : Bool := false
  /-- outcome of the last role-gate test, and no read-back failure since entry (R341, R342) -/
  gateOk  : Bool := true
  mramOk  : Bool := true
  /-- place in the rotations of the background tests (R341) -/
  rot     : Nat := 0
  /-- the pair record (R333): LASTROLE and LASTCOMMIT -/
  lastRole : Nat := 0
  lastCommit : Nat := 0
  /-- the claim stage: 0 none, 1 in it, 2 claiming at the next boundary, 3 waiting for the claimant,
  4 withheld in HALTED (R333) -/
  claim   : Nat := 0
  /-- the restart that follows a claim: 0 as PWRUP selects, 1 warm, 2 cold (R480) -/
  claimStart : Nat := 0
  /-- a rejoining module (R335 to R340): REQ accepted, ticks of reconcile without adoption failure,
  whether a PAGE has been written, the cut tick, and whether the cut is complete -/
  accepted : Bool := false
  goodTicks : Nat := 0
  pageWritten : Bool := false
  cutAt   : Option Nat := none
  cutOk   : Bool := false
  /-- a primary with a partner in RESYNC (R337 to R339): the checkpoint runs, its current pass, what
  each tracked word and axis read when it was sent, and at the last boundary; the partner's good ticks; bytes
  of MIRROR records of the tick and of the last one; pages dirtied in the last tick; the cut tick; the output
  bytes last sent in OUTBLK -/
  serving : Bool := false
  pass    : Nat := 0
  sentMem : Memory := []
  lastMem : Memory := []
  sentAxes : List (Nat × Axis) := []
  partGood : Nat := 0
  mirrored : Nat := 0
  mirrorLast : Nat := 0
  dirtied : Nat := 0
  serveCut : Option Nat := none
  outSent : Memory := []
  /-- a claim is refused after a partial checkpoint (R340) -/
  partial_ : Bool := false
  deriving DecidableEq, Repr


/-! ### Gexia ports and the entries of the rings -/

/-- What the four GXP blocks keep beside their registers. -/
structure Gx where
  /-- ring and position of the direct entries whose slot arrived in this tick (R241) -/
  arrived : List (Nat × Nat) := []
  /-- those that reported PENDOK in this tick (R238) -/
  pendok  : List (Nat × Nat) := []
  /-- those that reported UNSYNC in the last train received, and in this one (R297) -/
  unsync  : List (Nat × Nat) := []
  unsyncNew : List (Nat × Nat) := []
  /-- ports that send an enumerate train in this tick, and the FIRST field of the next train (R228, R237) -/
  enums   : List Nat := []
  enumFirst : List (Nat × Nat) := []
  /-- ports that send one in the next tick: ENUMREQ, or a train that was full (R237) -/
  enumNext : List Nat := []
  /-- the port drove in the last tick (R237) -/
  drove   : Bool := false
  /-- direct entries configured since they were last present, and those lost (R237, R246) -/
  configured : List (Nat × Nat) := []
  lost    : List (Nat × Nat) := []
  /-- the next free address of each capture (R249) -/
  capture : List (Nat × Nat) := []
  /-- peer delays of the ports, in ns (R295) -/
  pdelay  : List (Nat × Nat) := []
  deriving DecidableEq, Repr

/-- A configuration of an entry (R229). -/
structure StnCfg where
  tickNs : Nat
  apply  : Nat
  wdog   : Nat
  gen    : Nat
  ent    : List Byte
  fb     : List Byte
  deriving DecidableEq, Repr

/-- A held action of a station (R266). -/
structure HeldAct where
  aid    : Nat
  output : Nat
  fire   : Nat
  level  : Nat
  width  : Nat
  /-- its place in the order of acceptance -/
  order  : Nat
  deriving DecidableEq, Repr

/-- The end of a pulse (R267): its output, its time, and the order of acceptance of its action. -/
structure PulseEnd where
  output : Nat
  at_    : Nat
  order  : Nat
  deriving DecidableEq, Repr

/-- An entry of a ring: a station, or a concentrator as its ring sees it (R216, R243 to R245, R266, R297). -/
structure Station where
  /-- active and pending configuration, and a configuration in parts (R229, R238) -/
  cfg    : Option StnCfg := none
  pend   : Option StnCfg := none
  part   : Option (Bool × StnCfg) := none
  /-- a telegram with the pending generation has arrived (R238) -/
  sawPend : Bool := false
  /-- it has sampled since its configuration (R237) -/
  joined : Bool := false
  /-- link states at the last sample instant, toward module A and module B (R217) -/
  west   : Bool := false
  east   : Bool := false
  /-- data latched at the sample instant, and its tick (R40) -/
  latched : List Byte := []
  sampleTick : Nat := 0
  /-- an I/O fault is reported in its diagnostics (R224) -/
  ioFault : Bool := false
  /-- LASTSEQ (R244) -/
  lastSeq : Option Nat := none
  /-- accepted outputs that wait for their apply instant: tick, generation, slot bytes (R243) -/
  held   : List (Nat × Nat × List Byte) := []
  /-- outputs as applied, as slot bytes -/
  outs   : List Byte := []
  /-- consecutive missed ticks, fallback, and fallback as of the last sample (R245) -/
  missed : Nat := 0
  fallen : Bool := false
  fbShown : Bool := false
  /-- identities of accepted action entries, newest first (R244) -/
  ids    : List (Nat × Nat) := []
  /-- held actions in the order of acceptance, pulse ends, the next place in that order, and action
  outputs (R266, R267) -/
  acts   : List HeldAct := []
  pulses : List PulseEnd := []
  order  : Nat := 0
  actOuts : List (Nat × Bool) := []
  /-- a refusal since the last sample, and the ACTOVF bit of the running tick (R266) -/
  refused : Bool := false
  ovfShown : Bool := false
  /-- counts of bad, late and repeated telegrams, of refused actions (R221, R243, R244, R266) -/
  bad    : Nat := 0
  late   : Nat := 0
  dup    : Nat := 0
  refusals : Nat := 0
  /-- not synchronised; no primary Sync for 4 Sync intervals (R296, R297) -/
  unsync : Bool := true
  primQuiet : Bool := true
  deriving DecidableEq, Repr


/-! ### Program lifecycle -/

/-- An entry of the program store in NOR (R193, R395): its generation, and the lengths of its image and of
the Catalogue built with it. Their bytes stand in the entry. -/
structure Stored where
  gen    : Nat
  len    : Nat
  catLen : Nat
  deriving DecidableEq, Repr

/-- A retained bank's header (R195, R197): program generation and restart count. -/
structure BankHead where
  gen : Nat
  restarts : Nat
  deriving DecidableEq, Repr

/-- A load or an online change that has passed its checks (R193, R201 to R206): the image, its Catalogue
bytes, the MATCH copies (old address, new address, length) and the extents written as zero, what has
been done, and whether the image has been stored. -/
structure Change where
  prog   : Prog
  cat    : List Byte
  load   : Bool
  carry  : List (Nat × Nat × Nat)
  zero   : List (Nat × Nat)
  staged : Bool
  stored : Bool
  ready  : Bool
  deriving DecidableEq, Repr

/-- A restart in progress (R198): kind 1 load, 2 warm, 3 cold (the KIND of the start record), whether its
sections are written, the tick of the report and the tick of the first firing. -/
structure Restart where
  kind    : Nat
  written : Bool
  at_     : Option Nat
  deriving DecidableEq, Repr

/-- An item of a force batch (R211, R319). -/
structure FItem where
  op    : Nat
  space : Nat
  kind  : Nat
  point : Nat
  value : Nat
  rsv   : Nat
  deriving DecidableEq, Repr

/-- What the firmware keeps of the program's life. -/
structure Pgm where
  /-- the entries of the program store, by bank -/
  st0    : Option Stored := none
  st1    : Option Stored := none
  /-- the count of generations given (R193), and which bank of MRAM is active (R195) -/
  gens   : Nat := 0
  bank   : Nat := 0
  head0  : BankHead := ⟨0, 0⟩
  head1  : BankHead := ⟨0, 0⟩
  /-- restarts since the image took effect (R199) -/
  restarts : Nat := 0
  change : Option Change := none
  /-- a restart in progress, and one wanted at the next boundary: KIND of the start record -/
  restart : Option Restart := none
  want   : Option Nat := none
  /-- the force generation, and the batches that wait: their tick and items (R211) -/
  frcGen : Nat := 0
  batches : List (Nat × List FItem) := []
  /-- force items received from the partner, not complete (R319) -/
  frcRx  : List FItem := []
  /-- the partner reports READY of its change (R204) -/
  partReady : Bool := false
  /-- this module has reported RESTARTED, and the partner has, at the last reconcile (R198) -/
  restarted : Bool := false
  deriving DecidableEq, Repr


/-- Everything of the module but the cores and the queue. -/
structure Mach where
  mem     : Memory
  ecc     : Tab Ecc
  regs    : Tab Reg
  /-- halves of 64-bit quantities written to _LO and held until _HI (R6) -/
  loHeld  : Tab Reg
  /-- upper halves that a read of _LO has copied (R6), by the address of _HI -/
  hiShadow : List (Nat × Reg)
  k0      : Kiln
  k1      : Kiln
  prog    : Prog
  /-- active region sets: key 16 * class + region number -/
  mpu     : Tab Region
  tick    : Tick
  ldg     : Ledger
  out     : List Out
  jrn     : Jrn
  /-- Kiln region sets that wait for the boundary (R389), and their classes -/
  mpuNext : Tab Region
  mpuWait : List Nat
  adm     : Adm
  sva     : Sva
  /-- the force table, and the forces that the last emission applied -/
  forces  : List Force
  forcesOut : List Force
  lio     : Lio
  can0    : Can
  can1    : Can
  can2    : Can
  can3    : Can
  label   : Label
  /-- a mode that is to be entered at the next boundary (R476) -/
  wantMode : Option Nat
  /-- the restart to perform on entry to PRIMARY: 0 none, 1 warm, 2 cold (R479, R480) -/
  wantStart : Nat
  /-- NOT_READY has been written for the waiting entry (R477) -/
  notReady : Bool
  /-- the level of RESET_N (R497), and the CAUSE of a reset that is held while it is low (R481) -/
  resetN : Bool
  held : Option Nat
  /-- the module counts as mated (R498) -/
  mated : Bool
  tmb     : Tmb
  rtc     : Rtc
  dle     : Dle
  upd     : Upd
  pair    : Pair
  gx      : Gx
  /-- entries of the rings: key ring * 2^32 + PATH; they stand outside the module -/
  stns    : List (Nat × Station)
  pgm     : Pgm
  /-- how many free values have been drawn (log entry 3); the model's own -/
  freeCtr : Nat
  deriving DecidableEq, Repr

/-- The state of the module. -/
structure State where
  /-- the commands that wait, first in first out; the model's own (log entry 2) -/
  pending : List Instr
  c0      : Tri
  c1      : Tri
  m       : Mach
  deriving DecidableEq, Repr

/-- A core after reset: no register of R63 has a reset value; DESIGN CHOICE, log entry 4: zero.
KLN_DBGCOND and KLN_DBGPC show the same values (R185). -/
def Core.reset : Core where
  g    := Vector.replicate 32 0
  c    := 1
  fpf  := 0
  pc   := 0
  sys  := false
  unit := 0
  sig  := 0xFFFFFFFF

/-- The cores of a cluster after reset. -/
def Tri.reset : Tri := ⟨Core.reset, Core.reset, Core.reset⟩

/-- The module right after reset, before the BOOT of R397 has run its first step. -/
def Mach.reset : Mach where
  mem := []
  ecc := []
  regs := []
  loHeld := []
  hiShadow := []
  k0 := {}
  k1 := {}
  prog := {}
  mpu := []
  tick := {}
  ldg := {}
  out := []
  jrn := {}
  mpuNext := []
  mpuWait := []
  adm := {}
  sva := {}
  forces := []
  forcesOut := []
  lio := {}
  can0 := {}
  can1 := {}
  can2 := {}
  can3 := {}
  label := {}
  wantMode := none
  wantStart := 0
  notReady := false
  resetN := true
  held := none
  mated := true
  tmb := {}
  rtc := {}
  dle := {}
  upd := {}
  pair := {}
  gx := {}
  stns := []
  pgm := {}
  freeCtr := 0

/-- The state after reset. -/
def State.reset : State where
  pending := []
  c0 := Tri.reset
  c1 := Tri.reset
  m := Mach.reset

end Sys2Proof.Machine
end

