-- ==== Sys2Proof/Machine/Ops.lean ====
section
/-! DEFINITION. The named operations over registers and memory that every command is built
from: register fields (R5 to R8), words with their check state (R374, R375), the Ledger (R420 to
R429), plant time, and the draw of a free value. -/

namespace Sys2Proof.Machine

/-- The answer of a meaning: the next state. -/
abbrev Result := Host.Outcome State Fault Refusal

/-! ### Registers -/

/-- The row of the register map that holds an address. -/
def regRow? (a : Nat) : Option RegRow :=
  regMap.find? fun r =>
    decide (r.base ≤ a) && decide ((a - r.base) % r.stride = 0) && decide ((a - r.base) / r.stride < r.cnt)

/-- The value of a register after power-on; an offset without a register reads 0 (R8). -/
def regReset (a : Nat) : Reg :=
  match regRow? a with
  | some r => BitVec.ofNat 32 r.reset
  | none => 0

namespace Mach

/-- The value of a register. -/
def rg (m : Mach) (a : Nat) : Nat := (tabGet (regReset a) m.regs a).toNat

/-- Set a register. -/
def wr (m : Mach) (a v : Nat) : Mach := { m with regs := tabPut (regReset a) m.regs a (BitVec.ofNat 32 v) }

/-- A field of a register. -/
def fld (m : Mach) (a hi lo : Nat) : Nat := bits (m.rg a) hi lo

/-- Set a field of a register. -/
def setFld (m : Mach) (a hi lo v : Nat) : Mach := m.wr a (putBits (m.rg a) hi lo v)

/-- A bit of a register. -/
def bit (m : Mach) (a k : Nat) : Bool := (m.rg a).testBit k

/-- Set a bit of a register. -/
def setBit (m : Mach) (a k : Nat) (v : Bool) : Mach := m.setFld a k k (b2n v)

/-- A 64-bit quantity in `_LO` and `_HI` (R6). -/
def rg64 (m : Mach) (a : Nat) : Nat := m.rg a + 2 ^ 32 * m.rg (a + 4)

/-- Set a 64-bit quantity. -/
def wr64 (m : Mach) (a v : Nat) : Mach := (m.wr a (v % 2 ^ 32)).wr (a + 4) (v / 2 ^ 32 % 2 ^ 32)

/-- Count up in a field that saturates. -/
def incFld (m : Mach) (a hi lo : Nat) : Mach := m.setFld a hi lo (satInc (m.fld a hi lo) (2 ^ (hi - lo + 1) - 1))

/-- Count up by `n` in a field that saturates. -/
def addFld (m : Mach) (a hi lo n : Nat) : Mach :=
  m.setFld a hi lo (min (m.fld a hi lo + n) (2 ^ (hi - lo + 1) - 1))

/-- Every register of `[lo, hi)` at its value after power-on. -/
def resetRegs (m : Mach) (lo hi : Nat) : Mach := { m with
  regs := tabErase m.regs lo (hi - lo)
  loHeld := tabErase m.loHeld lo (hi - lo)
  hiShadow := m.hiShadow.filter fun e => decide (e.1 < lo) || decide (hi ≤ e.1) }

/-- Draw a free value (log entry 3). -/
def free (m : Mach) : Nat × Mach := (Config.freeNat m.freeCtr, { m with freeCtr := m.freeCtr + 1 })

/-- Record what leaves the module. -/
def emit (m : Mach) (o : Out) : Mach := { m with out := m.out ++ [o] }

/-- The mode code of R33. -/
def mode (m : Mach) : Nat := m.fld CUR_MODE 2 0

/-- The kept state of a cluster. -/
def kiln (m : Mach) (cl : Nat) : Kiln := if cl = 0 then m.k0 else m.k1

/-- Set the kept state of a cluster. -/
def setKiln (m : Mach) (cl : Nat) (k : Kiln) : Mach := if cl = 0 then { m with k0 := k } else { m with k1 := k }

/-- Change the kept state of a cluster. -/
def modKiln (m : Mach) (cl : Nat) (f : Kiln → Kiln) : Mach := m.setKiln cl (f (m.kiln cl))

/-! ### The Ledger -/

end Mach

/-- The critical codes (R423, R471, R492). -/
def ledgerCritical (code : Nat) : Bool :=
  [0x0304, 0x0305, 0x0603, 0x0604, 0x0800, 0x0801, 0x0804, 0x0A00, 0x0D02, 0x0F03].contains code

/-- The station-keyed codes (R428). -/
def ledgerKeyed (code : Nat) : Bool :=
  [0x0201, 0x0500, 0x0501, 0x0502, 0x0602, 0x0707].contains code

/-- The bytes of a record (R420). -/
def LedgerRec.bytes (r : LedgerRec) (seq : Nat) : List Byte :=
  leBytes 4 seq ++ leBytes 2 r.code ++ leBytes 1 r.src ++ leBytes 1 r.flags ++ leBytes 8 r.time ++
  leBytes 4 r.tick ++ leBytes 2 r.count ++ leBytes 2 r.arg0 ++ leBytes 4 r.arg1 ++ leBytes 4 r.arg2

/-- The slot of a record in Ledger SRAM (R424). -/
def ledgerSram (seq : Nat) : Nat := 0x03A00000 + 32 * (seq % 32768)

/-- The slot of a record in MRAM (R424). -/
def ledgerMram (seq : Nat) : Nat := 0x10000000 + 32 * (seq % 524288)

namespace Mach

/-- Write bytes that cover whole 64-bit words, with fresh check bits (R375). -/
def putWords (m : Mach) (a : Nat) (bs : List Byte) : Mach := { m with
  mem := m.mem.stBytes a bs
  ecc := tabErase m.ecc (a / 8) ((bs.length + 7) / 8) }

/-- A record as of now: its time, mode and tick (R420). Without plant time the Curator's own
counter is free (log entry 5). -/
def ledgerRec (m : Mach) (code src count arg0 arg1 arg2 flags : Nat) : LedgerRec × Mach :=
  let valid := m.bit TMB_STAT 0
  let (f, m1) := if valid then (m.tick.now, m) else m.free
  let md := m.mode
  ({ code := code, src := src
     flags := b2n valid + flags + 8 * b2n (ledgerCritical code) + 16 * md
     time := f % 2 ^ 64
     tick := if md = 1 ∨ md = 2 then 0 else m.rg KLN_TICKNO
     count := count, arg0 := arg0 % 2 ^ 16, arg1 := arg1 % 2 ^ 32, arg2 := arg2 % 2 ^ 32 }, m1)

/-- Unflushed records. -/
def ledgerUnfl (m : Mach) : Nat := (m.rg LDG_HEAD + 2 ^ 32 - m.rg LDG_FLUSHED) % 2 ^ 32

/-- Show the number of unflushed records (R447). -/
def ledgerShow (m : Mach) : Mach := m.setFld LDG_STAT 31 16 (min m.ledgerUnfl 65535)

/-- Enter a record into the SRAM ring under the next SEQ; an unflushed record that it overwrites
is lost (R424, R426). -/
def ledgerPut (m : Mach) (r : LedgerRec) : Mach :=
  let seq := m.rg LDG_HEAD
  let m := if m.ledgerUnfl < 32768 then m else
    let lostSeq := m.rg LDG_FLUSHED
    let m := (m.incFld LDG_LOSTCNT 31 0).setBit LDG_STAT 0 true
    let m := m.wr LDG_FLUSHED (lostSeq + 1)
    { m with ldg := { m.ldg with
        lostRun := m.ldg.lostRun + 1
        lostAt := if m.ldg.lostRun = 0 then lostSeq else m.ldg.lostAt } }
  ((m.putWords (ledgerSram seq) (r.bytes seq)).wr LDG_HEAD (seq + 1)).ledgerShow

/-- Copy every unflushed record to MRAM (R425). -/
def ledgerCopy (m : Mach) : Mach :=
  let from_ := m.rg LDG_FLUSHED
  let n := m.ledgerUnfl
  let m := (countFrom from_ n).foldl (fun m s =>
    m.putWords (ledgerMram s) (m.mem.ldBytes (ledgerSram s) 32)) m
  (m.wr LDG_FLUSHED (m.rg LDG_HEAD)).ledgerShow

/-- Start a flush: a pending loss is reported first (R426), then the records go to MRAM. A
request of the Ledger that waits for admission is withdrawn (R446). -/
def ledgerFlush (m : Mach) : Mach :=
  if m.bit LDG_STAT 1 then m else
  let m := if m.ldg.lostRun = 0 then m else
    let (r, m) := m.ledgerRec 0x0D01 10 0 0 m.ldg.lostRun m.ldg.lostAt 0
    ({ m with ldg := { m.ldg with lostRun := 0 } }).ledgerPut r
  let m := { m with adm := { m.adm with waiting := m.adm.waiting.filter fun q => decide (q.who ≠ AdmWho.ledger) } }
  ((m.ledgerCopy).setBit LDG_STAT 1 true).setBit LDG_STAT 2 false

/-- Write a record (R420 to R429): staged before the recovery of BOOT step 5, counted as a repeat
of the last record of its station, suppressed by the rate limit, or entered into the ring; a
critical record starts a flush. -/
def ledger (m : Mach) (code src arg0 arg1 arg2 : Nat) : Mach :=
  let (r, m) := m.ledgerRec code src 0 arg0 arg1 arg2 0
  if !m.bit LDG_STAT 3 then
    if m.ldg.staged.length < 256 then { m with ldg := { m.ldg with staged := m.ldg.staged ++ [r] } }
    else { (m.incFld LDG_LOSTCNT 31 0).setBit LDG_STAT 0 true with
           ldg := { m.ldg with stLost := m.ldg.stLost + 1 } }
  else
    let key := src * 65536 + r.arg0
    let last := tabGet 0 m.ldg.keyed key
    let at_ := ledgerSram last
    let unflushed := decide ((last + 2 ^ 32 - m.rg LDG_FLUSHED) % 2 ^ 32 < m.ledgerUnfl)
    if ledgerKeyed code && decide (0 < last) && unflushed &&
        decide (m.mem.ldN (at_ + 4) 2 = code) && decide (m.mem.ldN (at_ + 24) 4 = r.arg1) &&
        decide (m.mem.ldN (at_ + 28) 4 = r.arg2) then
      let n := satInc (m.mem.ldN (at_ + 20) 2) 65535
      let fl := m.mem.ldN (at_ + 7) 1
      { m with mem := (m.mem.stN (at_ + 20) 2 n).stN (at_ + 7) 1 (if fl.testBit 1 then fl else fl + 2) }
    else
      let cnt := tabGet 0 m.ldg.written code
      if !ledgerCritical code && decide (m.fld LDG_RATE 15 0 ≤ cnt) then
        let supp := match m.ldg.supp.find? (fun x => x.code = code) with
          | some x => m.ldg.supp.map fun y => if y.code = code then
              { x with count := satInc x.count 65535, last := r.tick } else y
          | none => m.ldg.supp ++ [⟨code, 1, r.tick, r.tick⟩]
        { (m.incFld LDG_SUPCNT 31 0) with ldg := { m.ldg with supp := supp } }
      else
        let seq := m.rg LDG_HEAD
        let m := m.ledgerPut r
        let m := { m with ldg := { m.ldg with
          written := tabPut 0 m.ldg.written code (cnt + 1)
          keyed := if ledgerKeyed code then tabPut 0 m.ldg.keyed key seq else m.ldg.keyed } }
        if ledgerCritical code then m.ledgerFlush else m

/-- A record of a register refusal (R421): the master class, the address and the value. -/
def refuse (m : Mach) (code cls addr value : Nat) : Mach := m.ledger code (srcOfAddr addr) cls addr value

/-! ### Check state of memory words -/

/-- The array number of an address (R394); peripheral space and NOR have no check bits here. -/
def arrayOf (a : Nat) : Option Nat :=
  if a < 0x01800000 then some 0
  else if 0x02000000 ≤ a ∧ a < 0x02800000 then some 1
  else if 0x03000000 ≤ a ∧ a < 0x03400000 then some 2
  else if 0x03800000 ≤ a ∧ a < 0x03A00000 then some 3
  else if 0x03A00000 ≤ a ∧ a < 0x03B00000 then some 4
  else if 0x03C00000 ≤ a ∧ a < 0x03E00000 then some 5
  else if 0x400000000 ≤ a ∧ a < 0x800000000 then some 6
  else if 0x10000000 ≤ a ∧ a < 0x14000000 then some 7
  else none

/-- Count, capture and record an uncorrectable word (R374). -/
def eccRecord (m : Mach) (a cls : Nat) (poison patrol : Bool) : Mach :=
  let arr := (arrayOf a).getD 0
  let info := cls + 16 * arr + 128 * b2n patrol + 256 * b2n poison
  let m := m.incFld (DDC_ECCCNT arr) 31 16
  let m := (m.wr64 DDC_ECCADDR (a / 8 * 8)).wr DDC_ECCINFO info
  m.ledger 0x0A00 17 info (a / 8 * 8 % 2 ^ 32) (a / 8 * 8 / 2 ^ 32 % 2 ^ 16)

/-- What a master's read of the 64-bit word at an address finds: the number of corrections, and
whether the word is uncorrectable (R374). -/
def eccReadWord (m : Mach) (a cls : Nat) : Nat × Bool × Mach :=
  match tabGet Ecc.good m.ecc (a / 8) with
  | .good => (0, false, m)
  | .single => (1, false, { (m.incFld (DDC_ECCCNT ((arrayOf a).getD 0)) 15 0) with
      ecc := tabPut Ecc.good m.ecc (a / 8) .good })
  | .uncorr => (0, true, m.eccRecord a cls false false)
  | .poison => (0, true, m.eccRecord a cls true false)

/-- Read every word that `[a, a + n)` touches. -/
def eccRead (m : Mach) (a n cls : Nat) : Nat × Bool × Mach :=
  (countFrom (a / 8) ((a + n + 7) / 8 - a / 8)).foldl
    (fun (c, bad, m) w =>
      let (c', bad', m) := m.eccReadWord (8 * w) cls
      (c + c', bad || bad', m))
    (0, false, m)

/-- The check state of a word after a write of part or all of it (R375). -/
def eccWriteWord (m : Mach) (w cls : Nat) (whole : Bool) : Mach :=
  if whole then { m with ecc := tabPut Ecc.good m.ecc w .good }
  else match tabGet Ecc.good m.ecc w with
    | .good => m
    | .single => { (m.incFld (DDC_ECCCNT ((arrayOf (8 * w)).getD 0)) 15 0) with
        ecc := tabPut Ecc.good m.ecc w .good }
    | .uncorr => { (m.eccRecord (8 * w) cls false false) with ecc := tabPut Ecc.good m.ecc w .poison }
    | .poison => m.eccRecord (8 * w) cls true false

/-- A write of a byte list with the check states of the words it touches (R375). -/
def store (m : Mach) (a : Nat) (bs : List Byte) (cls : Nat) : Mach :=
  let n := bs.length
  let m := (countFrom (a / 8) ((a + n + 7) / 8 - a / 8)).foldl
    (fun m w => m.eccWriteWord w cls (decide (a ≤ 8 * w) && decide (8 * w + 8 ≤ a + n))) m
  { m with mem := m.mem.stBytes a bs }

/-- Copy `n` bytes (multiples of 8 at 8-aligned addresses) with their check states (R71, R375). -/
def copyWords (m : Mach) (src dst n : Nat) : Mach := { m with
  mem := m.mem.copy src dst n
  ecc := tabCopy Ecc.good m.ecc (src / 8) (dst / 8) (n / 8) }

/-- Write zero over `n` bytes (multiples of 8 at an 8-aligned address). -/
def zeroWords (m : Mach) (a n : Nat) : Mach := { m with
  mem := m.mem.zero a n
  ecc := tabErase m.ecc (a / 8) (n / 8) }

/-! ### The clock of the tick -/

/-- The tick length in ns of a length code (R36). -/
def lenNs (len : Nat) : Nat :=
  match len with
  | 0 => 125000 | 1 => 250000 | 2 => 500000 | 3 => 1000000 | _ => 2000000

/-- The tick length in effect, in ns. -/
def tickNs (m : Mach) : Nat := lenNs m.tick.len

/-- Input close, firing start, action emit, output deadline and apply offset in ns (R38). -/
def phaseNs (len : Nat) : Nat × Nat × Nat × Nat × Nat :=
  match len with
  | 0 => (55000, 63000, 105000, 115000, 50000)
  | 1 => (110000, 120000, 205000, 225000, 100000)
  | 2 => (220000, 240000, 410000, 450000, 200000)
  | 3 => (440000, 480000, 820000, 900000, 400000)
  | _ => (880000, 960000, 1640000, 1800000, 800000)

/-- The firing window W in Kiln cycles (R39). -/
def windowCycles (len : Nat) : Nat :=
  match len with
  | 0 => 62400 | 1 => 126000 | 2 => 252000 | 3 => 504000 | _ => 1008000

/-- The number of the current tick (R21). -/
def tickNo (m : Mach) : Nat := m.rg64 KLN_TICKNO

end Mach

/-- Change the part of the state beside the cores and the queue. -/
def State.mod (s : State) (f : Mach → Mach) : State := { s with m := f s.m }

/-- The module serves nothing outside itself: it is unpowered, held in reset, or in the shutdown hold
(R438, R481, R504). -/
def Mach.dead (m : Mach) : Bool := decide (m.mode = 0) || m.held.isSome || m.sva.hold

/-- Change the part beside the cores and the queue, on an event that reaches only a module that
serves. -/
def State.live (s : State) (f : Mach → Mach) : State := if s.m.dead then s else s.mod f

/-- A register access: in the shutdown hold only the Curator's own reach the module (R438). -/
def State.access (s : State) (w : Nat) (f : Mach → Mach) : State :=
  if s.m.dead && !(decide (w = 6) && s.m.sva.hold && s.m.held.isNone) then s else s.mod f

end Sys2Proof.Machine
end

