-- ==== Sys2Proof/Machine/Adm.lean ====
section
/-! DEFINITION. Power admission (R440 to R446, R449), the front label that runs under it (R465 to
R469, R474), and the flushes of the Ledger (R425, R426, R429, R447). -/

namespace Sys2Proof.Machine

namespace Mach

/-! ### The front label -/

/-- The label record's header, and the picture copies (R465). -/
def labelHeader : Nat := 0x13C00000

/-- The base of picture copy `k`. -/
def labelCopy (k : Nat) : Nat := if k = 0 then 0x13C01000 else 0x13C04000

/-- Whether a redraw runs, waits for admission or waits for temperature (R467, R468). -/
def labelBusy (m : Mach) : Bool := decide (m.fld LBL_STAT 2 0 ≠ 0) || m.bit LBL_STAT 4

/-- T_BOARD in units of 0.0625 degrees, from its latest result (R431). -/
def boardTemp (m : Mach) : Int := (m.fld (SVA_RES 16) 11 0 : Int) - 640

/-- The temperature band of T_BOARD, none outside the range (R468). -/
def labelBand (m : Mach) : Option Nat :=
  let t := m.boardTemp
  if -240 ≤ t ∧ t < 1040 then some ((t + 240) / 160).toNat else none

/-- Start the next pass of a redraw, or defer it (R466, R468). -/
def labelStart (m : Mach) : Mach :=
  match m.labelBand with
  | some k =>
    let m := if m.label.next = 1 then m.putWords labelHeader
      ((m.mem.ldBytes labelHeader 3) ++ [1] ++ m.mem.ldBytes (labelHeader + 4) 4) else m
    ((((m.setFld LBL_STAT 10 8 k).setBit LBL_STAT 4 false).setBit LBL_STAT 3 true).setFld LBL_STAT 2 0 m.label.next)
  | none =>
    ((((m.setBit LBL_STAT 4 true).setBit LBL_STAT 3 false).setFld LBL_STAT 2 0 0)).ledger 0x0E09 19 0 0 0

/-- Write the waiting picture into the inactive copy and make it active (R465). -/
def labelWrite (m : Mach) : Mach :=
  match m.label.picture with
  | none => m
  | some bs =>
    let act := 1 - min 1 (m.mem.ldN (labelHeader + 2) 1)
    let seq := (m.mem.ldN (labelHeader + 4) 4 + 1) % 2 ^ 32
    let m := m.putWords (labelCopy act) bs
    let m := m.putWords labelHeader (leBytes 2 0x4C42 ++ leBytes 1 act ++
      m.mem.ldBytes (labelHeader + 3) 1 ++ leBytes 4 seq ++ leBytes 4 (crc32c bs) ++ leBytes 52 0)
    { m with label := { m.label with picture := none } }

/-- Every drive of the panel is grounded and the redraw ends; the band stays (R444, R469, R474). -/
def labelStop (m : Mach) : Mach :=
  let m := (m.setFld LBL_STAT 4 3 0).setFld LBL_STAT 2 0 0
  { m with label := { m.label with next := 1, slice := false } }

/-! ### Admission -/

/-- Admission is frozen (R441). -/
def admFrozen (m : Mach) : Bool := m.bit ADM_CTL 0 || m.bit SVA_STAT 4 || m.bit ADM_STAT 2

/-- The committed total (R441). -/
def admTotal (m : Mach) : Nat := m.rg ADM_BASE + (m.adm.granted.map fun g => m.rg (ADM_COST g.cls)).sum

/-- The start window of a class is open (R440); `boundary` at a tick boundary. -/
def admWindow (m : Mach) (cls : Nat) (boundary : Bool) : Bool :=
  match cls with
  | 2 => (decide (m.tick.phase = 0) || decide (m.tick.phase = 3)) && m.jrn.commit.isNone
  | 3 => boundary
  | _ => decide (m.tick.phase ≠ 1) && decide (m.tick.phase ≠ 2)

/-- A request of a higher class than `cls` has waited longer than ADM_AGE (R441). -/
def admAged (m : Mach) (cls : Nat) : Bool :=
  let age := m.rg ADM_AGE
  decide (age ≠ 0) && m.adm.waiting.any fun q => decide (q.cls < cls) && decide (q.since + age * 1000000 < m.tick.now)

/-- Show the state of admission in its registers (R449). -/
def admShow (m : Mach) : Mach :=
  let m := (m.setFld ADM_STAT 31 16 m.admTotal).setBit ADM_STAT 1 (m.bit SVA_STAT 4)
  let m := m.setBit ADM_STAT 0 m.admFrozen
  (countFrom 1 7).foldl (fun m c =>
    let m := m.setFld (ADM_CSTAT c) 10 8 (m.adm.granted.filter fun g => g.cls = c).length
    m.setFld (ADM_CSTAT c) 2 0 (m.adm.waiting.filter fun g => g.cls = c).length) m

/-- What a grant starts (R425, R466, R378). -/
def admStart (m : Mach) (q : AdmReq) : Mach :=
  match q.who with
  | .ledger => m.ledgerFlush
  | .label => m.labelStart
  | .picture =>
    { m.labelWrite with adm := { m.adm with granted := m.adm.granted.filter fun g => g.who ≠ AdmWho.picture } }
  | .scrub => m.setBit DDC_STAT 2 true
  | _ => m

/-- Look at one waiting request: grant it, or leave it waiting (R441). -/
def admTry (boundary : Bool) (m : Mach) (q : AdmReq) : Mach :=
  if !m.admFrozen && decide (m.admTotal + m.rg (ADM_COST q.cls) ≤ m.rg ADM_BUDGET) &&
      m.admWindow q.cls boundary && !m.admAged q.cls &&
      !(m.adm.granted.any fun g => g.cls = q.cls ∧ g.port = q.port) then
    ({ m with adm := { m.adm with
      waiting := m.adm.waiting.filter fun x => x ≠ q
      granted := m.adm.granted ++ [q] } }).admStart q
  else m

/-- Evaluate the waiting requests in class order, and within a class in order of arrival (R441). -/
def admEvaluate (m : Mach) (boundary : Bool) : Mach :=
  ((countFrom 1 7).foldl (fun m c =>
    (m.adm.waiting.filter fun q => q.cls = c).foldl (admTry boundary) m) m).admShow

/-- Present a request (R442): the status, and the module with the request granted or waiting. -/
def admRequest (m : Mach) (cls port : Nat) (who : AdmWho) : Nat × Mach :=
  let port := if cls = 3 then port else 0
  if m.bit SVA_STAT 0 then (5, m)
  else if (m.adm.waiting ++ m.adm.granted).any fun q => q.cls = cls ∧ q.port = port then (1, m)
  else
    let q : AdmReq := ⟨cls, port, who, m.tick.now⟩
    let m := ({ m with adm := { m.adm with waiting := m.adm.waiting ++ [q] } }).admEvaluate false
    (0, if m.adm.waiting.contains q then m.incFld (ADM_CSTAT cls) 31 16 else m)

/-- A request of the firmware that waits behind a grant of its own class, as two NOR operations of one
bank do (R417). -/
def admWait (m : Mach) (cls : Nat) (who : AdmWho) : Mach :=
  if m.bit SVA_STAT 0 then m else
    let q : AdmReq := ⟨cls, 0, who, m.tick.now⟩
    let m := ({ m with adm := { m.adm with waiting := m.adm.waiting ++ [q] } }).admEvaluate false
    if m.adm.waiting.contains q then m.incFld (ADM_CSTAT cls) 31 16 else m

/-- A requester releases its grants, or withdraws its waiting requests. -/
def admDrop (m : Mach) (who : AdmWho) : Mach :=
  ({ m with adm := {
    waiting := m.adm.waiting.filter fun q => q.who ≠ who
    granted := m.adm.granted.filter fun q => q.who ≠ who } }).admEvaluate false

/-- A grant's slice ends (R442): renewed without a pause, or the request waits again. -/
def admRenew (m : Mach) (g : AdmReq) : Mach :=
  if !(m.adm.waiting.any fun q => decide (q.cls < g.cls)) && !m.admFrozen &&
      decide (m.admTotal ≤ m.rg ADM_BUDGET) && m.admWindow g.cls false then m
  else
    let q := { g with since := m.tick.now }
    let m := { m with adm := {
      waiting := m.adm.waiting ++ [q]
      granted := m.adm.granted.filter fun x => x ≠ g } }
    let m := match g.who with
      | .ledger => (m.setBit LDG_STAT 1 false).setBit LDG_STAT 2 true
      | .label => m.setFld LBL_STAT 2 0 4
      | _ => m
    (m.incFld (ADM_CSTAT g.cls) 31 16).admEvaluate false

/-- Every grant is revoked at the power-fail warning, and waiting requests end (R437, R444): the
record lists the classes in the bits of ARG0. -/
def admRevoke (m : Mach) : Mach :=
  let classes := (countFrom 1 7).filter fun c => m.adm.granted.any fun g => g.cls = c
  let m := if m.adm.granted.any fun g => g.who = AdmWho.label then m.labelStop else m
  let m := if m.fld LBL_STAT 2 0 = 4 then m.labelStop else m
  let m := if m.bit DDC_STAT 2 then m.setBit DDC_STAT 2 false else m
  let m := ({ m with adm := { waiting := [], granted := [] } }).setBit LDG_STAT 2 false
  let m := m.setBit ADM_STAT 3 true
  (m.ledger 0x0D06 13 (classes.map fun c => 2 ^ c).sum 0 0).admShow

/-- Ask for a flush that needs admission (R425): MRAM bulk write. -/
def ledgerAsk (m : Mach) : Mach :=
  if m.bit LDG_STAT 1 || m.bit LDG_STAT 2 then m else
    let (st, m) := m.admRequest 2 0 .ledger
    if st = 0 ∧ !m.bit LDG_STAT 1 ∧ m.adm.waiting.any (fun q => q.who = AdmWho.ledger) then
      m.setBit LDG_STAT 2 true
    else m

end Mach

/-! ### The commands -/

/-- ADM_REQUEST (R442, R449): ADM_REQ.GO with a class and a port. -/
def execAdmRequest (w : Writer) (cls : BitVec 3) (port : BitVec 2) (s : State) : Result :=
  .next (s.access w fun m =>
    let m := (m.setFld ADM_REQ 5 4 port.toNat).setFld ADM_REQ 2 0 cls.toNat
    if cls = 0 then (m.setFld ADM_REQSTAT 7 0 2).refuse 0x0C01 w ADM_REQ (256 + port.toNat * 16)
    else
      let (st, m) := m.admRequest cls.toNat port.toNat .session
      m.setFld ADM_REQSTAT 7 0 st)

/-- ADM_RELEASE (R442, R449): ADM_REL.GO gives a grant back early. -/
def execAdmRelease (w : Writer) (cls : BitVec 3) (port : BitVec 2) (s : State) : Result :=
  .next (s.access w fun m =>
    let m := (m.setFld ADM_REL 5 4 port.toNat).setFld ADM_REL 2 0 cls.toNat
    if cls = 0 then (m.setFld ADM_REQSTAT 7 0 2).refuse 0x0C01 w ADM_REL (256 + port.toNat * 16)
    else
      let p := if cls = 3 then port.toNat else 0
      ({ m with adm := { m.adm with
        granted := m.adm.granted.filter fun g => !(g.cls = cls.toNat ∧ g.port = p) } }).admEvaluate false)

/-- ADM_SLICE_END (R442): the slice of a held grant ends; a label pass is never paused (R466). -/
def execAdmSliceEnd (cls : BitVec 3) (port : BitVec 2) (s : State) : Result :=
  .next (s.live fun m =>
    match m.adm.granted.find? fun g => g.cls = cls.toNat ∧ g.port = (if cls = 3 then port.toNat else 0) with
    | none => m
    | some g =>
      if g.who = .label then { m with label := { m.label with slice := true } }
      else m.admRenew g)

/-- ADM_OVERLOAD (R443): BUS times IIN has exceeded the budget for 10 ms. -/
def execAdmOverload (mw : BitVec 17) (s : State) : Result :=
  .next (s.live fun m =>
    let m := m.wr ADM_MEAS mw.toNat
    if m.rg ADM_BUDGET < mw.toNat ∧ !m.bit ADM_STAT 2 then
      ((m.setBit ADM_STAT 2 true).ledger 0x0D07 13 0 mw.toNat 0).admShow
    else m)

/-- ADM_OVERLOAD_CLEAR (R443): the measured power has been below the budget for 100 ms. -/
def execAdmOverloadClear (mw : BitVec 17) (s : State) : Result :=
  .next (s.live fun m =>
    let m := m.wr ADM_MEAS mw.toNat
    if mw.toNat < m.rg ADM_BUDGET then (m.setBit ADM_STAT 2 false).admEvaluate false else m)

/-- LEDGER_FLUSH (R425, R447): LDG_CTL.FLUSH. -/
def execLedgerFlush (s : State) : Result := .next (s.live Mach.ledgerAsk)

/-- LEDGER_HWM_FLUSH (R425): unflushed records have reached LDG_HWM. -/
def execLedgerHwmFlush (s : State) : Result :=
  .next (s.live fun m => if m.rg LDG_HWM ≤ m.ledgerUnfl then m.ledgerAsk else m)

/-- LEDGER_FLUSH_COMPLETE (R425): the running flush has written what was left and ends. -/
def execLedgerFlushComplete (s : State) : Result :=
  .next (s.live fun m =>
    if m.bit LDG_STAT 1 then ((m.ledgerCopy).setBit LDG_STAT 1 false).admDrop .ledger else m)

/-- RATE_WINDOW_END (R429): one LEDGER_SUPPRESSED for each code that had suppressions. -/
def execRateWindowEnd (s : State) : Result :=
  .next (s.live fun m =>
    let supp := m.ldg.supp
    let m := { m with ldg := { m.ldg with written := [], supp := [] } }
    supp.foldl (fun m x =>
      let (r, m) := m.ledgerRec 0x0D00 10 x.count x.code x.first x.last 4
      m.ledgerPut r) m)

/-- LABEL_REDRAW (R467, R474): LBL_CTL.GO. -/
def execLabelRedraw (w : Writer) (s : State) : Result :=
  .next (s.access w fun m =>
    if m.labelBusy then m.refuse 0x0C03 w LBL_CTL 2
    else if !m.bit LBL_CTL 0 then m
    else
      let m := { m with label := { m.label with next := 1, slice := false } }
      let (st, m) := (m.setFld LBL_STAT 2 0 4).admRequest 6 0 .label
      if st = 0 then m else m.setFld LBL_STAT 2 0 0)

/-- LABEL_ABORT (R474): LBL_CTL.ABORT grounds every drive and ends the redraw. -/
def execLabelAbort (s : State) : Result :=
  .next (s.live fun m => if m.labelBusy then m.labelStop.admDrop .label else m)

/-- LABEL_PICTURE_WRITE (R465, R467): a picture of 9,472 bytes from a session or the firmware. -/
def execLabelPictureWrite (bs : List Byte) (s : State) : Result :=
  .next (s.live fun m =>
    if m.labelBusy || m.label.picture.isSome then m.emit (.status "BUSY")
    else if bs.length ≠ 9472 ∨ (bs.any fun b =>
        [0, 2, 4, 6].any fun k => decide (bits b.toNat (k + 1) k = 3)) then m.emit (.status "BAD_CODE")
    else
      let (st, m) := ({ m with label := { m.label with picture := some bs } }).admRequest 2 0 .picture
      if st = 0 then m.emit (.status "OK")
      else ({ m with label := { m.label with picture := none } }).emit
        (.status (if st = 5 then "SHUTDOWN" else "BUSY")))

/-- LABEL_PASS_END (R466, R467): the pass ends; the next one begins, waits for a new slice, or the
redraw ends. -/
def execLabelPassEnd (s : State) : Result :=
  .next (s.live fun m =>
    let p := m.fld LBL_STAT 2 0
    if p = 0 ∨ 3 < p then m
    else
      let m := (m.setBit LBL_STAT 3 false).wr LBL_ROW (if p = 2 then 295 else 23)
      if p = 3 then
        let m := m.putWords Mach.labelHeader
          (m.mem.ldBytes Mach.labelHeader 3 ++ [0] ++ m.mem.ldBytes (Mach.labelHeader + 4) 4)
        ({ m.setFld LBL_STAT 2 0 0 with label := { m.label with next := 1, slice := false } }).admDrop .label
      else
        let ended := m.label.slice
        let m := { m with label := { m.label with next := p + 1, slice := false } }
        match m.adm.granted.find? (fun g => g.who = AdmWho.label), ended with
        | some g, true =>
          let m := m.admRenew g
          if m.adm.granted.contains g then m.labelStart else m
        | _, _ => m.labelStart)

/-- LABEL_DEFER_RESUME (R468): T_BOARD is back in the range, so the deferred pass starts. -/
def execLabelDeferResume (s : State) : Result :=
  .next (s.live fun m => if m.bit LBL_STAT 4 && m.labelBand.isSome then m.labelStart else m)

end Sys2Proof.Machine
end

