-- ==== Sys2Proof/Machine/Link.lean ====
section
/-! DEFINITION. The partner link: frames (R317), their classes and acknowledgment (R318, R319). -/

namespace Sys2Proof.Machine

/-- The class of a message type; none for a reserved TYPE (R318, R319). -/
def linkClass (type : Nat) : Option Nat :=
  match type with
  | 0x01 | 0x02 | 0x03 | 0x04 | 0x05 | 0x06 | 0x07 => some 0
  | 0x10 | 0x11 => some 1
  | 0x20 | 0x21 => some 2
  | 0x30 | 0x31 | 0x32 | 0x33 => some 3
  | 0x40 | 0x41 | 0x42 | 0x43 => some 4
  | _ => none

/-- The bytes of a frame (R317). -/
def frameBytes (type cls mseq tick : Nat) (payload : List Byte) : List Byte :=
  let b := leBytes 1 type ++ leBytes 1 cls ++ leBytes 2 payload.length ++ leBytes 4 mseq ++ leBytes 8 tick ++ payload
  b ++ leBytes 4 (crc32c b)

/-- A received frame of a type: its class, MSEQ, TICK and payload; none when it is discarded (R317,
R318). LACK travels in any class from 1 to 4. -/
def frameOf (type : Nat) (f : List Byte) : Option (Nat × Nat × Nat × List Byte) :=
  let n := f.length
  let len := leNat ((f.drop 2).take 2)
  let cls := leNat ((f.drop 1).take 1)
  let clsOk := if type = 0x7F then decide (1 ≤ cls) && decide (cls ≤ 4) else decide (linkClass type = some cls)
  if n = 20 + len ∧ len ≤ 4104 ∧ leNat (f.take 1) = type ∧ clsOk ∧ leNat (f.drop (n - 4)) = crc32c (f.take (n - 4)) then
    some (cls, leNat ((f.drop 4).take 4), leNat ((f.drop 8).take 8), (f.drop 16).take len)
  else none

namespace Mach

/-- The partner link is up (R316, R318). -/
def linkUp (m : Mach) : Bool := m.bit PTL_CTL 0 && decide (m.fld PTL_STAT 5 4 ≠ 0) && !m.pair.dead

/-- Send a message; one of classes 1 to 4 waits for its acknowledgment (R317, R318). -/
def sendLink (m : Mach) (type : Nat) (payload : List Byte) : Mach :=
  if !m.linkUp then m else
    let cls := (linkClass type).getD 0
    let q := m.pair.mseq.getD cls 0
    let b := frameBytes type cls q m.tickNo payload
    ({ m with pair := { m.pair with
        mseq := setAt m.pair.mseq cls ((q + 1) % 2 ^ 32)
        sent := if cls = 0 then m.pair.sent else m.pair.sent ++ [(⟨cls, q, 0, b⟩ : SentFrame)] } }).emit (.link b)

/-- The MSEQ of the next message of a class. -/
def nextMseq (m : Mach) (cls : Nat) : Nat := m.pair.mseq.getD cls 0

/-- Acknowledge a message of classes 1 to 4 (R319). -/
def sendLack (m : Mach) (cls mseq : Nat) : Mach :=
  if cls = 0 ∨ !m.linkUp then m else m.emit (.link (frameBytes 0x7F cls mseq m.tickNo (leBytes 4 mseq)))

/-- Receive a frame of a type: a discarded one changes nothing, any other is acknowledged and then
handled with its MSEQ, TICK and payload. -/
def linkRecv (m : Mach) (type : Nat) (f : List Byte) (act : Mach → Nat → Nat → List Byte → Mach) : Mach :=
  if !m.linkUp then m else
  match frameOf type f with
  | none => m
  | some (cls, mseq, tick, payload) => act (m.sendLack cls mseq) mseq tick payload

/-- Add a part of a stream (R319): the whole stream when its last part has arrived, and the parts so far. -/
def streamAdd (m : Mach) (type tick ofs total : Nat) (data : List Byte) : Option (List Byte) × Mach :=
  let old := (assocGet m.pair.rx type).getD ⟨tick, total, []⟩
  let old : Stream := if ofs = 0 then ⟨tick, total, []⟩ else old
  if old.tick ≠ tick ∨ old.total ≠ total ∨ old.bytes.length ≠ ofs then (none, m)
  else
    let bs := old.bytes ++ data
    if bs.length = total then (some bs, { m with pair := { m.pair with rx := assocDel m.pair.rx type } })
    else (none, { m with pair := { m.pair with rx := assocPut m.pair.rx type ⟨tick, total, bs⟩ } })

/-- The parts of a stream: offset and data of at most `n` bytes; an empty stream has one empty part. -/
def parts (n : Nat) (bs : List Byte) : List (Nat × List Byte) :=
  (countFrom 0 (max 1 ((bs.length + n - 1) / n))).map fun k => (n * k, (bs.drop (n * k)).take n)

/-- Replicate a session operation (R319): OP, the session number or index, and its data. -/
def sendSessionOf (m : Mach) (op sid : Nat) (data : List Byte) : Mach :=
  (parts 4088 data).foldl (fun m e =>
    m.sendLink 0x32 (leBytes 2 op ++ leBytes 2 0 ++ leBytes 4 sid ++ leBytes 4 e.1 ++ leBytes 4 data.length ++ e.2)) m

/-- Replicate a session operation without a number. -/
def sendSession (m : Mach) (op : Nat) (data : List Byte) : Mach := m.sendSessionOf op 0 data

end Mach

/-- LACK_MESSAGE (R318, R319): the frame that it names is acknowledged. -/
def execLackMessage (f : List Byte) (s : State) : Result :=
  .next (s.live fun m =>
    if !m.linkUp then m else
    match frameOf 0x7F f with
    | some (cls, _, _, payload) =>
      if payload.length ≠ 4 then m else
      { m with pair := { m.pair with sent := m.pair.sent.filter fun x => !(x.cls == cls && x.mseq == leNat payload) } }
    | none => m)

/-- The three answers to a frame that stays unacknowledged are resends; after the third the link counts
as down (R318). -/
def Mach.resend (m : Mach) (cls mseq : Nat) : Mach :=
  match m.pair.sent.find? fun x => x.cls = cls ∧ x.mseq = mseq with
  | none => m
  | some x =>
    if x.again < 3 then
      let bump (y : SentFrame) : SentFrame := if y.cls = cls ∧ y.mseq = mseq then { y with again := y.again + 1 } else y
      ({ m with pair := { m.pair with sent := m.pair.sent.map bump } }).emit (.link x.bytes)
    else { m with pair := { m.pair with dead := true, sent := [] } }

/-- FRAME_RESEND_TIMEOUT (R318): 20 µs have passed without an acknowledgment. -/
def execFrameResendTimeout (cls : Fin 5) (mseq : BitVec 32) (s : State) : Result :=
  .next (s.live fun m => if m.linkUp then m.resend cls mseq.toNat else m)

end Sys2Proof.Machine
end

