-- ==== Sys2Proof/Machine/Operands.lean ====
section
/-! DEFINITION. The operand forms of the WALVAS instructions (R94 to R110): register fields, the
predicate, effective addresses, immediates, and which operand values are reserved (R111). -/

namespace Sys2Proof.Machine

namespace Core

/-- The value of a general register. -/
def rd (c : Core) (r : BitVec 5) : Word := c.g.get r.toFin

/-- Write a general register; g0 ignores writes (R63, R113). -/
def wr (c : Core) (r : BitVec 5) (v : Word) : Core :=
  if r = 0 then c else { c with g := c.g.set r.toNat v r.isLt }

/-- The value of a condition bit. -/
def cb (c : Core) (k : BitVec 3) : Bool := c.c.getLsbD k.toNat

/-- Write a condition bit; c0 ignores writes (R63, R113). -/
def wrC (c : Core) (k : BitVec 3) (v : Bool) : Core :=
  if k = 0 then c else
    { c with c := if v then c.c ||| ((1 : BitVec 8) <<< k.toNat) else c.c &&& ~~~((1 : BitVec 8) <<< k.toNat) }

/-- Write c7 to c1; c0 ignores writes. -/
def wrCs (c : Core) (v : BitVec 8) : Core := { c with c := v ||| 1 }

/-- The pc at the next address up (R92). -/
def next (c : Core) : Core := { c with pc := c.pc + 4 }

end Core

/-- The condition bit that a 5-bit register field names (R95). -/
def condField (r : BitVec 5) : BitVec 3 := r.setWidth 3

/-- A 5-bit register field names a condition bit only with bits [4:3] zero (R95). -/
def condOk (r : BitVec 5) : Bool := decide (r.toNat < 8)

/-- Whether the predicate of an RR instruction holds (R97). -/
def predicate (c : Core) (r : RR) : Bool := xor (c.cb r.pc) r.pn

/-- PC = 0 with PN = 1 is reserved (R97). -/
def predReserved (r : RR) : Bool := decide (r.pc = 0) && r.pn

/-- The sign-extended immediate or offset (R102). -/
def sx16 (v : BitVec 16) : Word := v.signExtend 64

/-- The effective address of a load, store or block (R70). -/
def effAddr (c : Core) (base : BitVec 5) (off : BitVec 16) : Word := c.rd base + sx16 off

/-- A front-copy range of the exchange areas (R71). -/
def inFront (a : Nat) : Bool :=
  (decide (0x017E8000 ≤ a) && decide (a < 0x017F0000)) ||
  (decide (0x017F8000 ≤ a) && decide (a < 0x01800000))

/-- An address that a core may form: in Kiln SRAM and in no front copy (R70). -/
def inData (a : Nat) : Bool := decide (a < 0x01800000) && !inFront a

/-- Every byte of a block lies in the permitted data space (R143, R147). -/
def blockInData (a n : Nat) : Bool :=
  decide (a + n ≤ 0x01800000) &&
  (decide (a + n ≤ 0x017E8000) ||
    (decide (0x017F0000 ≤ a) && decide (a + n ≤ 0x017F8000)))

/-- The exchange area whose visible range holds an address (R71). -/
def exchangeOf (a : Nat) : Option Nat :=
  if 0x017E0000 ≤ a ∧ a < 0x017E8000 then some 0
  else if 0x017F0000 ≤ a ∧ a < 0x017F8000 then some 1
  else none

/-- Where a cluster's read of an address goes: the other cluster's visible exchange range is
served from the front copy (R71). -/
def readAddr (cl a : Nat) : Nat :=
  match exchangeOf a with
  | some o => if o = cl then a else a + 0x8000
  | none => a

/-! ### Memory protection (R382 to R386) -/

/-- Whether a region is enabled and covers an address (R383). -/
def Region.covers (r : Region) (a : Nat) : Bool :=
  r.attr.testBit 14 && decide (r.base ≤ a) && decide (a < r.base + 2 ^ bits r.attr 13 8)

/-- The permission of a region: kind 0 read, 1 write, 2 fetch (R382). -/
def Region.allows (r : Region) (kind : Nat) (priv : Bool) : Bool :=
  r.attr.testBit ((if priv then 3 else 0) + kind)

namespace Mach

/-- The highest-numbered enabled region of a class below `n` that covers an address (R383). -/
def regionOf (m : Mach) (cls a : Nat) : Nat → Option (Nat × Region)
  | 0 => none
  | n + 1 =>
    let r := tabGet ⟨0, 0⟩ m.mpu (16 * cls + n)
    if r.covers a then some (n, r) else regionOf m cls a n

/-- Capture and record a violation (R385, R386). -/
def mpuReport (m : Mach) (cls inst a kind : Nat) (priv : Bool) (region : Nat) : Mach :=
  let n := satInc (m.fld (MPU_VINFO cls) 31 16) 65535
  let m := if m.bit (MPU_VINFO cls) 0 then m.setFld (MPU_VINFO cls) 31 16 n
    else (m.wr64 (MPU_VADDR cls) (a % 2 ^ 48)).wr (MPU_VINFO cls)
      (n * 2 ^ 16 + region * 2 ^ 11 + inst * 16 + kind * 4 + 2 * b2n priv + 1)
  m.ledger 0x0A01 7 (region * 2 ^ 11 + cls * 128 + inst * 8 + kind * 2 + b2n priv)
    (a % 2 ^ 32) (a / 2 ^ 32 % 2 ^ 16)

/-- The check of a Kiln access: the region that decides, or the default map of system privilege;
then the exchange-area rule for stores (R71, R78, R383). The number of the region to report. -/
def kilnDenied (m : Mach) (cl a kind : Nat) (priv : Bool) : Option Nat :=
  match m.regionOf cl a 16 with
  | some (n, r) =>
    if !r.allows kind priv then some n
    else if kind = 1 ∧ (exchangeOf a).any (· ≠ cl) then some 0x1D else none
  | none =>
    if !(priv && inData a) then some 0x1F
    else if kind = 1 ∧ (exchangeOf a).any (· ≠ cl) then some 0x1D else none

/-- The first address of a block that a Kiln access may not touch, with the region: the block is
looked at once for each 256 B that it touches (R383). -/
def kilnDeniedBlock (m : Mach) (cl a n kind : Nat) (priv : Bool) : Option (Nat × Nat) :=
  (a :: (countFrom (a / 256 + 1) ((a + n + 255) / 256 - a / 256 - 1)).map (256 * ·)).findSome? fun x =>
    (m.kilnDenied cl x kind priv).map fun r => (x, r)

end Mach

/-! ### Reserved operand values (R95 to R111) -/

/-- How an RR function uses its fields: general register, condition bit, or must be 0. -/
inductive FieldUse where
  | greg
  | cond
  | zero
  deriving DecidableEq, Repr

/-- Whether a field holds a value that its use reserves. -/
def FieldUse.bad (u : FieldUse) (r : BitVec 5) : Bool :=
  match u with
  | .greg => false
  | .cond => !condOk r
  | .zero => decide (r ≠ 0)

/-- Whether an RR word is reserved: its predicate or one of its fields (R111). -/
def rrReserved (d a b : FieldUse) (r : RR) : Bool :=
  predReserved r || d.bad r.d || a.bad r.a || b.bad r.b

/-! ### Image addresses (R72 to R77) -/

/-- The three bit-addressed image spaces. -/
inductive Space where
  | input
  | output
  | marker
  deriving DecidableEq, Repr

/-- A bit index that a space maps (R73, R77). -/
def mapped (sp : Space) (i : Nat) : Bool :=
  match sp with
  | .input => decide (i < 0x0A1000)
  | .output => decide (i < 0x0A0000)
  | .marker => decide (i < 0x800000)

namespace Mach

/-- The base of input buffer `k` (R240). -/
def inBase (k : Nat) : Nat := 0x02000000 + 0x20000 * k

/-- The base of the snapshot for rate `2 ^ r`, `r` from 1 to 8 (R240). -/
def snapBase (r : Nat) : Nat := 0x02040000 + 0x20000 * (r - 1)

/-- The base of output buffer `k` (R240). -/
def outBase (k : Nat) : Nat := 0x02140000 + 0x20000 * k

/-- The base of the marker space of a cluster (R240). -/
def markBase (cl : Nat) : Nat := 0x02200000 + 0x100000 * cl

/-- The code of the ownership map for an output byte (R75). -/
def owner (m : Mach) (b : Nat) : Nat := bits (m.prog.own.getD (b / 4) 0).toNat (2 * (b % 4) + 1) (2 * (b % 4))

/-- Whether a cluster owns an output byte (R75). -/
def owns (m : Mach) (cl b : Nat) : Bool := decide (m.owner b = cl + 1)

/-- The base of the input image that the running slice of a cluster reads: the current buffer, or
the snapshot of its rate (R74). -/
def inputBase (m : Mach) (cl : Nat) : Nat :=
  match (m.kiln cl).slice with
  | some sl => let r := m.fld (KLN_TCFG sl.task) 5 2
    if r = 0 then inBase m.tick.inBuf else snapBase r
  | none => inBase m.tick.inBuf

/-- The array address of image byte `b` as the cluster reads it: an output byte it owns from the
back buffer, any other from the emitted buffer (R75, R240). -/
def imageByte (m : Mach) (cl : Nat) (sp : Space) (b : Nat) : Nat :=
  match sp with
  | .input => m.inputBase cl + b
  | .output => if m.owns cl b then outBase (1 - m.tick.outBuf) + b else outBase m.tick.outBuf + b
  | .marker => markBase cl + b

end Mach

end Sys2Proof.Machine
end

