-- ==== Sys2Proof/Machine/Kiln.lean ====
section
/-! DEFINITION. What every WALVAS instruction shares: the voted access of three cores (R158 to
R162), the fencing of a diverging core and the cluster fault (R166, R171), the retained delta
(R128), the end of a slice and the dispatch of the next (R45, R67), exceptions and the fault
policy (R84 to R88), and the order of checks of one instruction (R114, R119). -/

namespace Sys2Proof.Machine

/-! ### The three cores -/

namespace Tri

/-- Core `k`. -/
def get (t : Tri) (k : Nat) : Core := if k = 0 then t.k0 else if k = 1 then t.k1 else t.k2

/-- Replace core `k`. -/
def set (t : Tri) (k : Nat) (c : Core) : Tri :=
  if k = 0 then { t with k0 := c } else if k = 1 then { t with k1 := c } else { t with k2 := c }

/-- Change the cores of a list. -/
def mapOn (t : Tri) (ks : List Nat) (f : Core → Core) : Tri :=
  ks.foldl (fun t k => t.set k (f (t.get k))) t

end Tri

namespace State

/-- The cores of a cluster. -/
def tri (s : State) (cl : Nat) : Tri := if cl = 0 then s.c0 else s.c1

/-- Replace the cores of a cluster. -/
def setTri (s : State) (cl : Nat) (t : Tri) : State := if cl = 0 then { s with c0 := t } else { s with c1 := t }

end State

namespace Mach

/-- The cores of a cluster that are healthy and not fenced, in rising order (R185). -/
def actives (m : Mach) (cl : Nat) : List Nat :=
  [0, 1, 2].filter fun k => m.bit (KLN_CLSTAT cl) (5 + k)

/-- Whether an enabled task is bound to a cluster (R173). -/
def hasTasks (m : Mach) (cl : Nat) : Bool :=
  (countFrom 0 16).any fun n => m.bit (KLN_TCFG n) 0 && decide (m.fld (KLN_TCFG n) 1 1 = cl)

/-- Whether any slice runs in the module (R61). -/
def firing (m : Mach) : Bool := m.k0.slice.isSome || m.k1.slice.isSome

/-- Show whether a slice runs (R61). -/
def showFiring (m : Mach) : Mach := m.setBit KLN_SCHSTAT 3 m.firing

/-- The pattern that names core `k` (R165). -/
def patternOf (k : Nat) : Nat := if k = 0 then 4 else if k = 1 then 2 else 1

/-- Fence core `k` on a divergence (R166): `src` 0 a window signature, 1 a voted access. -/
def fence (m : Mach) (cl k src iaddr daddr : Nat) : Mach :=
  let m := m.setBit (KLN_CLSTAT cl) (5 + k) false
  let m := (m.setFld (KLN_CLSTAT cl) 4 3 k).setFld (KLN_CLSTAT cl) 2 0 2
  let m := m.incFld (KLN_DIVCNT cl) (10 * k + 9) (10 * k)
  let m := m.wr (KLN_DIVLAST cl) (m.rg KLN_TICKNO)
  m.ledger 0x0300 2 (cl + k * 8 + patternOf k * 32 + src * 256) iaddr (daddr % 2 ^ 32)

/-- Show a disagreement in both voter instances of a cluster: `flag` 2 a write, 1 a signature. -/
def voteShow (m : Mach) (cl flag pattern minority : Nat) : Mach :=
  [0, 1].foldl (fun m v =>
    let m := ((m.setBit (VOT_STAT cl v) flag true).setFld (VOT_STAT cl v) 7 5 pattern).setFld
      (VOT_STAT cl v) 4 3 minority
    if flag = 2 then m.incFld (VOT_DISCNT cl v) 15 0 else m.incFld (VOT_DISCNT cl v) 31 16) m

/-! ### What an overrun and a cluster fault undo (R56, R171) -/

/-- The record of an accession in journal SRAM (R348). -/
def recordAt (n : Nat) : Nat := 0x03900000 + 16 * (n % 65536)

/-- The pool cell `k` (R348). -/
def cellAt (k : Nat) : Nat := 0x03820000 + 288 * k

/-- Restore every retained variable written in the tick (R56). -/
def restoreDelta (m : Mach) : Mach :=
  let m' := m.tick.delta.foldl (fun m e => m.putWords (8 * e.1) (leBytes 8 e.2.toNat)) m
  { m' with tick := { m'.tick with delta := [] } }

/-- What R56 discards in a cluster: the requests of the tick, its fetches and completions, and the
results of the tick. -/
def discardTick (k : Kiln) : Kiln := { k with queue := [], fetched := [], comps := [], results := [] }

/-- Treat the work of the tick as R56 treats an overrun tick: retained variables restored;
fetched accessions undelivered, so that they are offered again (R145); completions, requests and
results discarded. -/
def undoTick (m : Mach) : Mach :=
  let m := m.restoreDelta
  { m with k0 := discardTick m.k0, k1 := discardTick m.k1 }

/-- A cluster's slice and its due slices end. -/
def stopKiln (k : Kiln) : Kiln := { k with slice := none, due := [] }

/-- The NOTICE that tells the partner of a cluster fault or power-fail warning (R319, R329). -/
def notice (m : Mach) (reason : Nat) : Mach :=
  if m.mode = 5 ∨ m.mode = 6 then m.sendLink 0x07 (leBytes 8 reason) else m

/-- A cluster fault (R171, R173): the cluster is FAILED and the fault recorded; with enabled tasks
bound to it, the firing of both clusters stops, the tick's work is undone, and the outcome of R172
waits for the boundary. -/
def clusterFault (m : Mach) (cl : Nat) : Mach :=
  let inService := m.hasTasks cl
  let m := [0, 1].foldl (fun m v => m.setBit (VOT_STAT cl v) 10 true) m
  let m := ((m.setFld (KLN_CLSTAT cl) 2 0 4).setFld (KLN_CLSTAT cl) 7 5 0)
  let m := m.modKiln cl fun k => { k with rebuilding := false, rebuilt := none }
  let m := if !inService then m.modKiln cl stopKiln else
    let m := { m with k0 := stopKiln m.k0, k1 := stopKiln m.k1, tick := { m.tick with stopped := true } }
    let m := if m.tick.ended then m else m.undoTick
    (m.modKiln cl fun k => { k with faulted := true }).notice 1
  let m := m.ledger 0x0304 2 cl (m.fld (VOT_STAT cl 0) 10 0) (m.fld (VOT_STAT cl 1) 10 0)
  m.showFiring

end Mach

/-! ### The vote (R160, R166) -/

/-- A request of one core: address and write data. -/
structure VReq where
  addr : Word
  data : Word
  deriving DecidableEq, Repr

/-- What the voter makes of the requests of one aligned cycle: the access made, if any; the core
that diverged; whether it is a cluster fault. -/
structure Vote where
  access : Option VReq := none
  diverged : Option Nat := none
  fault : Bool := false
  deriving DecidableEq, Repr

/-- Two out of three, bit by bit. -/
def maj (a b c : Word) : Word := (a &&& b) ||| (a &&& c) ||| (b &&& c)

/-- The vote over the requests of the cores that run, each with its core number (R160). With three
cores the majority of each bit; with two, both alike (R166). -/
def vote (rs : List (Nat × Option VReq)) : Vote :=
  match rs with
  | [(_, some x), (_, some y), (_, some z)] =>
    let v : VReq := ⟨maj x.addr y.addr z.addr, maj x.data y.data z.data⟩
    match rs.filter (fun r => r.2 ≠ some v) with
    | [] => { access := some v }
    | [r] => { access := some v, diverged := some r.1 }
    | _ => { access := some v, fault := true }
  | _ =>
    match rs.filter (fun r => r.2.isSome) with
    | [] => {}
    | [(_, some x)] => if rs.length = 1 then { access := some x } else { fault := true }
    | [(_, some x), (_, some y)] =>
      if x = y then
        match rs.filter (fun r => r.2.isNone) with
        | [] => { access := some x }
        | r :: _ => { access := some x, diverged := some r.1 }
      else { fault := true }
    | _ => { fault := true }

namespace Mach

/-- Vote the requests of a cluster's running cores for the instruction at `pc`: the access made,
whether the cluster fails, and the record of a divergence. -/
def voted (m : Mach) (cl pc : Nat) (t : Tri) (req : Core → Option VReq) : Option VReq × Bool × Mach :=
  let v := vote ((m.actives cl).map fun k => (k, req (t.get k)))
  let daddr := (v.access.map (·.addr.toNat)).getD 0
  match v.diverged with
  | some k =>
    let m := m.voteShow cl 2 (patternOf k) k
    let m := [0, 1].foldl (fun m i => m.wr64 (VOT_LASTADDR cl i) (daddr % 2 ^ 48)) m
    (v.access, false, m.fence cl k 1 pc daddr)
  | none =>
    if v.fault then
      let m := m.voteShow cl 2 0 3
      let m := [0, 1].foldl (fun m i => m.wr64 (VOT_LASTADDR cl i) (daddr % 2 ^ 48)) m
      (v.access, true, m)
    else (v.access, false, m)

/-! ### The retained delta (R128) -/

/-- Whether a granule lies in the retained segment (R187). -/
def retained (m : Mach) (g : Nat) : Bool :=
  decide (m.prog.rbase / 8 ≤ g) && decide (8 * g + 8 ≤ m.prog.rbase + m.prog.rlen)

/-- The granules of `[a, a + n)` that a store would first write in this tick (R128). -/
def newGranules (m : Mach) (a n : Nat) : List Nat :=
  (countFrom (a / 8) ((a + n + 7) / 8 - a / 8)).filter fun g =>
    m.retained g && (assocGet m.tick.delta g).isNone

/-- Whether a store would take the tick's delta beyond 8,192 B (R54, R128). -/
def deltaFull (m : Mach) (gs : List Nat) : Bool := decide (1024 < m.tick.delta.length + gs.length)

/-- Count granules with their values at the tick start (R56, R128). -/
def countDelta (m : Mach) (gs : List Nat) : Mach := { m with
  tick := { m.tick with
    delta := gs.foldl (fun d g => assocPut d g (BitVec.ofNat 64 (m.mem.ldN (8 * g) 8))) m.tick.delta } }

/-- A store of a cluster into Kiln SRAM that has passed its checks: the delta counted, the exchange
line marked, the bytes and check states written (R71, R128, R375). -/
def kilnStore (m : Mach) (cl a : Nat) (bs : List Byte) : Mach :=
  let m := m.countDelta (m.newGranules a bs.length)
  let m := match exchangeOf a with
    | some _ => m.modKiln cl fun k => { k with
        dirty := (countFrom (a / 64) ((a + bs.length + 63) / 64 - a / 64)).foldl
          (fun d l => insertNew l d) k.dirty }
    | none => m
  m.store a bs cl

end Mach

/-! ### The end of a slice and the next dispatch (R45, R67, R164) -/

/-- A new signature starts from the initial value (R163). -/
def Core.newSig (c : Core) : Core := { c with sig := 0xFFFFFFFF }

/-- The closing value of a running signature (R163). -/
def Core.closing (c : Core) : BitVec 32 := ~~~c.sig

namespace State

/-- Close the open window of a cluster: its closing values wait for the comparators (R164). -/
def closeWindow (s : State) (cl : Nat) : State :=
  let k := s.m.kiln cl
  if k.win = 0 then s else
    let t := s.tri cl
    let w : Window := ⟨t.k0.closing, t.k1.closing, t.k2.closing, k.lastPc⟩
    { s.setTri cl (t.mapOn (s.m.actives cl) Core.newSig) with
      m := s.m.setKiln cl { k with win := 0, dueWin := k.dueWin ++ [w] } }

end State

namespace Mach

/-- The unit table entry of a unit: address (R80). -/
def unitAt (m : Mach) (u : Nat) : Nat := m.prog.unitBase + 16 * u

/-- The task table entry of a task (R189). -/
def taskEnt (m : Mach) (t : Nat) : TaskEnt := m.prog.tasks.getD t ⟨0, 0, 0, 0, 0, 0, 0, 0, 0, 0⟩

/-- The budget of a slice in the slice table (R189). -/
def sliceBudget (m : Mach) (t i : Nat) : Nat := m.prog.slices.getD ((m.taskEnt t).sidx + i) 0

end Mach

/-- A core at the dispatch of a slice (R67). -/
def Core.dispatched (top frame entry : Nat) (sys : Bool) (unit : Nat) (c : Core) : Core where
  g    := ((Vector.replicate 32 0).set 29 (BitVec.ofNat 64 top)).set 30 (BitVec.ofNat 64 frame)
  c    := 1
  fpf  := 0
  pc   := BitVec.ofNat 32 entry
  sys  := sys
  unit := BitVec.ofNat 16 unit
  sig  := c.sig

namespace State

/-- Dispatch the next due slice of a cluster, if there is one (R45, R67): 64 cycles (R51). -/
def dispatch (s : State) (cl : Nat) : State :=
  let k := s.m.kiln cl
  match k.due with
  | [] => s.mod Mach.showFiring
  | (t, i) :: rest =>
    let e := s.m.taskEnt t
    let u := s.m.unitAt e.root
    let entry := s.m.mem.ldN u 4
    let sys := (s.m.mem.ldN (u + 8) 1).testBit 0
    let m := s.m.setKiln cl { k with
      due := rest, cyc := k.cyc + 64
      slice := some ⟨t, i, 0, s.m.sliceBudget t i, false⟩ }
    let m := (m.setFld KLN_SCHSTAT 7 4 t).showFiring
    let m := if k.haltReq then
        ((m.setBit (KLN_DBGSTAT cl) 0 true).setFld (KLN_DBGSTAT cl) 2 1 1).modKiln cl
          fun k => { k with haltReq := false }
      else m
    { s.setTri cl ((s.tri cl).mapOn (s.m.actives cl)
        (Core.dispatched e.top e.frame entry sys e.root)) with m := m }

/-- End the running slice of a cluster: its window closes, and the next due slice is dispatched
(R45, R84, R131, R164). -/
def endSlice (s : State) (cl : Nat) : State :=
  let s := s.closeWindow cl
  let s := s.mod fun m => m.modKiln cl fun k => { k with slice := none, stepping := false }
  s.dispatch cl

end State

/-! ### Exceptions (R84 to R88) -/

namespace Mach

/-- A task's period is lost: counted, and none of its remaining slices is dispatched (R57). -/
def losePeriod (m : Mach) (t : Nat) : Mach :=
  if m.fld (KLN_TCFG t) 5 2 = 0 then m else
    { m.incFld (KLN_TSTAT t) 7 0 with tick := { m.tick with lost := insertNew t m.tick.lost } }

/-- The fault policy of a task (R86). -/
def faultPolicy (m : Mach) (t : Nat) : Mach :=
  match m.fld (KLN_TFLT t) 1 0 with
  | 0 => m
  | 1 => m.losePeriod t
  | 2 => m.setBit (KLN_TFLT t) 2 true
  | _ => { m with tick := { m.tick with haltPol := true } }

/-- The Ledger record of an exception or of a run-on (R421). -/
def exceptionRecord (m : Mach) (cl : Nat) (sl : Slice) (unit pc code : Nat) (runOn : Bool) : Mach :=
  m.ledger (0x0100 + code) 1 (code * 256 + sl.task * 16 + 2 * b2n runOn + cl)
    (unit * 2 ^ 16 + sl.idx * 256) pc

end Mach

/-- Take an exception (R84 to R88): the record with the code and the faulting instruction, the
task's counters and fault policy, and the end of the slice. What the slice did before stands. An
uncorrectable word is a cause of R326. -/
def takeException (s : State) (cl code : Nat) : State :=
  match (s.m.kiln cl).slice with
  | none => s
  | some sl =>
    let c := (s.tri cl).get ((s.m.actives cl).headD 0)
    let m := s.m.exceptionRecord cl sl c.unit.toNat c.pc.toNat code false
    let m := (m.incFld (KLN_TFLT sl.task) 31 16).setFld (KLN_TFLT sl.task) 15 8 code
    let m := if code = 15 then { m with pair := { m.pair with selfCause := true } } else m
    ({ s with m := m.faultPolicy sl.task }).endSlice cl

/-! ### One instruction -/

/-- What an instruction does to one core: its registers after, the value it wrote or stored, and
the low bits of its data address or image byte offset (R163). -/
structure Eff where
  core : Core
  val  : Word := 0
  addr : BitVec 32 := 0

/-- How an instruction's own part ends. -/
inductive StepRes where
  /-- it retires, with its effect on each core -/
  | ok (eff : Core → Eff)
  /-- it raises an exception (R85) -/
  | exc (code : Nat)
  /-- its access was a cluster fault (R160) -/
  | fault
  /-- it retires and ends the slice (R131) -/
  | endSlice

/-- An instruction's own part: the module after it, corrected reads (R116), its cycles (R115). -/
structure StepOut where
  m    : Mach
  corr : Nat := 0
  cost : Nat
  res  : StepRes

/-- The 20-byte record of a retired instruction (R163). -/
def retireRecord (pc : BitVec 32) (e : Eff) : List Byte :=
  leBytes 4 pc.toNat ++ leBytes 8 e.val.toNat ++ leBytes 4 e.addr.toNat ++
  leBytes 1 e.core.c.toNat ++ leBytes 1 e.core.fpf.toNat ++ leBytes 2 0

/-- Retire an instruction on one core. -/
def Core.retire (eff : Core → Eff) (c : Core) : Core :=
  let e := eff c
  { e.core with sig := crc32cFold c.sig (retireRecord c.pc e) }

namespace State

/-- Charge cycles to the slice and the firing; corrections go to the firing alone (R119). -/
def charge (s : State) (cl cost corr : Nat) : State :=
  s.mod fun m => m.modKiln cl fun k => { k with
    cyc := k.cyc + cost + 4 * corr
    slice := k.slice.map fun sl => { sl with count := sl.count + cost } }

/-- Retire an instruction on every running core; the window closes at its 1,024th (R164). -/
def retire (s : State) (cl : Nat) (eff : Core → Eff) : State :=
  let pc := ((s.tri cl).get ((s.m.actives cl).headD 0)).pc
  let s := s.setTri cl ((s.tri cl).mapOn (s.m.actives cl) (Core.retire eff))
  let s := s.mod fun m => m.modKiln cl fun k => { k with win := k.win + 1, lastPc := pc.toNat }
  if (s.m.kiln cl).win = 1024 then s.closeWindow cl else s

/-- After a stepped instruction the cluster stops again (R180). -/
def stepDone (s : State) (cl : Nat) : State :=
  if (s.m.kiln cl).stepping then
    s.mod fun m => ((m.setBit (KLN_DBGSTAT cl) 0 true).setFld (KLN_DBGSTAT cl) 2 1 2).modKiln cl
      fun k => { k with stepping := false }
  else s

/-- Finish an instruction by the way its own part ended. -/
def finish (s : State) (cl : Nat) (o : StepOut) : State :=
  let s := { s with m := o.m }
  match o.res with
  | .ok eff => ((s.charge cl o.cost o.corr).retire cl eff).stepDone cl
  | .exc code => takeException (s.charge cl o.cost o.corr) cl code
  | .fault => s.mod fun m => m.clusterFault cl
  | .endSlice => ((s.charge cl o.cost o.corr).retire cl fun c => { core := c.next }).endSlice cl

end State

/-- A slice has reached its budget under OVRPOL = 0, so that SLICE_BUDGET ends it (R54, R119). -/
def overBudget (s : State) (_cl : Nat) (sl : Slice) : Bool :=
  decide (sl.budget ≤ sl.count) && !s.m.bit (KLN_TCFG sl.task) 6

/-- The slice reached its budget: BUDEXC and the task's count (R54, R61). -/
def Mach.budgetCount (m : Mach) (sl : Slice) : Mach := (m.setBit KLN_OVRSTAT 3 true).incFld (KLN_TSTAT sl.task) 15 8

/-- SLICE_BUDGET ends the slice (R54, R85). -/
def budgetExc (s : State) (cl : Nat) (sl : Slice) : State := takeException (s.mod fun m => m.budgetCount sl) cl 1

/-- Under OVRPOL = 1 the slice runs on; its run-on record is written once (R54, R421). -/
def budgetRunOn (s : State) (cl : Nat) (sl : Slice) : State :=
  if decide (sl.budget ≤ sl.count) && !sl.runOn && s.m.bit (KLN_TCFG sl.task) 6 then
    let lead := (s.tri cl).get ((s.m.actives cl).headD 0)
    s.mod fun m =>
      ((m.budgetCount sl).exceptionRecord cl sl lead.unit.toNat lead.pc.toNat 1 true).modKiln cl
        fun k => { k with slice := k.slice.map fun x => { x with runOn := true } }
  else s

/-- The instruction-independent checks before the instruction acts (R114, R119), then the
instruction's own part. A command to execute an instruction on a cluster where no slice runs, or
that the debugger has stopped, has no effect (log entry 7). -/
def execInstr (cl : Nat) (reserved sysOnly : Bool) (body : Mach → Tri → Core → StepOut) (s : State) : State :=
  match (s.m.kiln cl).slice with
  | none => s
  | some sl =>
    if s.m.bit (KLN_DBGSTAT cl) 0 && !(s.m.kiln cl).stepping then s
    else
      let lead := (s.tri cl).get ((s.m.actives cl).headD 0)
      if overBudget s cl sl then budgetExc s cl sl
      else
        let s := budgetRunOn s cl sl
        let (acc, bad, m) := s.m.voted cl lead.pc.toNat (s.tri cl) fun c => some ⟨c.pc.setWidth 64, 0⟩
        let s := { s with m := m }
        if bad then s.mod fun m => m.clusterFault cl
        else
          let pc := (acc.map (·.addr.toNat)).getD 0
          let lead := (s.tri cl).get ((s.m.actives cl).headD 0)
          if !inData pc then takeException (s.charge cl 1 0) cl 3
          else match s.m.kilnDenied cl pc 2 lead.sys with
          | some r => takeException ((s.mod fun m => m.mpuReport cl 0 pc 2 lead.sys r).charge cl 1 0) cl 4
          | none =>
            let (corr, unc, m) := s.m.eccRead pc 4 cl
            let s := { s with m := m }
            if unc then takeException (s.charge cl 1 corr) cl 15
            else if reserved then takeException (s.charge cl 1 corr) cl 9
            else if sysOnly && !lead.sys then takeException (s.charge cl 1 corr) cl 10
            else
              let o := body s.m (s.tri cl) lead
              s.finish cl { o with corr := o.corr + corr }

/-- An RR instruction: reserved fields, then the predicate of each core (R97, R98, R117). The
instruction's own part runs only when the lead core's predicate holds; a core whose own predicate
fails passes over it. -/
def execRR (cl : Nat) (r : RR) (d a b : FieldUse) (body : Mach → Tri → Core → StepOut) (s : State) : State :=
  execInstr cl (rrReserved d a b r) false (fun m t lead =>
    if predicate lead r then
      let o := body m t lead
      match o.res with
      | .ok eff => { o with res := .ok fun c => if predicate c r then eff c else { core := c.next } }
      | _ => o
    else { m := m, cost := 1, res := .ok fun c =>
      if predicate c r then
        match (body m t c).res with
        | .ok eff => eff c
        | _ => { core := c.next }
      else { core := c.next } }) s

/-- An instruction that only computes: its effect on each core, at a fixed cost. -/
def pureStep (cost : Nat) (eff : Core → Eff) (m : Mach) (_t : Tri) (_lead : Core) : StepOut :=
  { m := m, cost := cost, res := .ok eff }

/-- An effect that writes one general register. -/
def effG (d : BitVec 5) (f : Core → Word) (c : Core) : Eff :=
  { core := (c.wr d (f c)).next, val := f c }

/-- An effect that writes one condition bit. -/
def effC (d : BitVec 3) (f : Core → Bool) (c : Core) : Eff := { core := (c.wrC d (f c)).next }

end Sys2Proof.Machine
end

