-- ==== Sys2Proof/Machine/Alu.lean ====
section
/-! DEFINITION. The integer functions of the ALU opcode (R103, R120), one meaning for each. -/

namespace Sys2Proof.Machine

/-- An ALU function of two registers (R120). -/
def alu2 (cl : ClusterId) (r : RR) (cost : Nat) (f : Word → Word → Word) (s : State) : Result :=
  .next (execRR cl r .greg .greg .greg (pureStep cost (effG r.d fun c => f (c.rd r.a) (c.rd r.b))) s)

/-- An ALU function of one register, with b required to be 0 (R103). -/
def alu1 (cl : ClusterId) (r : RR) (f : Word → Word) (s : State) : Result :=
  .next (execRR cl r .greg .greg .zero (pureStep 1 (effG r.d fun c => f (c.rd r.a))) s)

/-- A division or remainder: DIV_ZERO when the divisor is 0 (R65, R120). -/
def aluDiv (cl : ClusterId) (r : RR) (cost : Nat) (zero : Word → Bool) (f : Word → Word → Word) (s : State) :
    Result :=
  .next (execRR cl r .greg .greg .greg (fun m t lead =>
    if zero (lead.rd r.b) then { m := m, cost := cost, res := .exc 11 }
    else pureStep cost (effG r.d fun c => f (c.rd r.a) (c.rd r.b)) m t lead) s)

/-- The 32-bit form of an operation: on bits [31:0], the result sign-extended (R103). -/
def low32 (f : BitVec 32 → BitVec 32 → BitVec 32) (a b : Word) : Word :=
  (f (a.setWidth 32) (b.setWidth 32)).signExtend 64

/-- Whether the divisor of a 64-bit division is 0. -/
def zero64 (b : Word) : Bool := decide (b = 0)

/-- Whether the divisor of a 32-bit division is 0. -/
def zero32 (b : Word) : Bool := decide (b.setWidth 32 = 0)

/-- Bits [127:64] of the signed product (R103). -/
def mulHigh (a b : Word) : Word := ((a.signExtend 128 * b.signExtend 128) >>> 64).setWidth 64

/-- Bits [127:64] of the unsigned product (R103). -/
def mulHighU (a b : Word) : Word := ((a.setWidth 128 * b.setWidth 128) >>> 64).setWidth 64

/-- The number of leading zero bits; 64 for 0 (R120). -/
def clz64 (a : Word) : Word := if a = 0 then 64 else BitVec.ofNat 64 (63 - Nat.log2 a.toNat)

/-- The place of the lowest set bit among the next `n`, counted from `k`. -/
def ctzGo (a : Nat) : Nat → Nat → Nat
  | 0, k => k
  | n + 1, k => if a.testBit k then k else ctzGo a n (k + 1)

/-- The number of trailing zero bits; 64 for 0 (R120). -/
def ctz64 (a : Word) : Word := BitVec.ofNat 64 (ctzGo a.toNat 64 0)

/-- The number of set bits (R120). -/
def popc64 (a : Word) : Word := BitVec.ofNat 64 ((countFrom 0 64).countP fun k => a.toNat.testBit k)

/-- The byte order reversed (R120). -/
def bswap64 (a : Word) : Word := BitVec.ofNat 64 (leNat (leBytes 8 a.toNat).reverse)

/-- ADD (R120): g[d] = g[a] + g[b]. -/
def execAdd (cl : ClusterId) (r : RR) (s : State) : Result := alu2 cl r 1 (· + ·) s

/-- SUB (R120): g[d] = g[a] − g[b]. -/
def execSub (cl : ClusterId) (r : RR) (s : State) : Result := alu2 cl r 1 (· - ·) s

/-- AND (R120): g[d] = g[a] AND g[b]. -/
def execAndR (cl : ClusterId) (r : RR) (s : State) : Result := alu2 cl r 1 (· &&& ·) s

/-- OR (R120): g[d] = g[a] OR g[b]. -/
def execOrR (cl : ClusterId) (r : RR) (s : State) : Result := alu2 cl r 1 (· ||| ·) s

/-- XOR (R120): g[d] = g[a] XOR g[b]. -/
def execXorR (cl : ClusterId) (r : RR) (s : State) : Result := alu2 cl r 1 (· ^^^ ·) s

/-- ANDN (R120): g[d] = g[a] AND NOT g[b]. -/
def execAndn (cl : ClusterId) (r : RR) (s : State) : Result := alu2 cl r 1 (fun a b => a &&& ~~~b) s

/-- ORN (R120): g[d] = g[a] OR NOT g[b]. -/
def execOrn (cl : ClusterId) (r : RR) (s : State) : Result := alu2 cl r 1 (fun a b => a ||| ~~~b) s

/-- XNOR (R120): g[d] = NOT (g[a] XOR g[b]). -/
def execXnor (cl : ClusterId) (r : RR) (s : State) : Result := alu2 cl r 1 (fun a b => ~~~(a ^^^ b)) s

/-- SHL (R120): shifts left by g[b] mod 64. -/
def execShl (cl : ClusterId) (r : RR) (s : State) : Result := alu2 cl r 1 (fun a b => a <<< (b.toNat % 64)) s

/-- SHR (R120): shifts right logically by g[b] mod 64. -/
def execShr (cl : ClusterId) (r : RR) (s : State) : Result := alu2 cl r 1 (fun a b => a >>> (b.toNat % 64)) s

/-- SAR (R120): shifts right arithmetically by g[b] mod 64. -/
def execSar (cl : ClusterId) (r : RR) (s : State) : Result := alu2 cl r 1 (fun a b => a.sshiftRight (b.toNat % 64)) s

/-- ROR (R120): rotates right by g[b] mod 64. -/
def execRor (cl : ClusterId) (r : RR) (s : State) : Result := alu2 cl r 1 (fun a b => a.rotateRight (b.toNat % 64)) s

/-- MUL (R120): low 64 bits of the product. -/
def execMul (cl : ClusterId) (r : RR) (s : State) : Result := alu2 cl r 3 (· * ·) s

/-- MULH (R120): high 64 bits of the signed product. -/
def execMulh (cl : ClusterId) (r : RR) (s : State) : Result := alu2 cl r 5 (mulHigh) s

/-- MULHU (R120): high 64 bits of the unsigned product. -/
def execMulhu (cl : ClusterId) (r : RR) (s : State) : Result := alu2 cl r 5 (mulHighU) s

/-- DIV (R120): signed quotient rounded toward zero, or DIV_ZERO. -/
def execDiv (cl : ClusterId) (r : RR) (s : State) : Result := aluDiv cl r 34 zero64 (BitVec.sdiv) s

/-- DIVU (R120): unsigned quotient, or DIV_ZERO. -/
def execDivu (cl : ClusterId) (r : RR) (s : State) : Result := aluDiv cl r 34 zero64 (BitVec.udiv) s

/-- REM (R120): signed remainder, or DIV_ZERO. -/
def execRem (cl : ClusterId) (r : RR) (s : State) : Result := aluDiv cl r 34 zero64 (BitVec.srem) s

/-- REMU (R120): unsigned remainder, or DIV_ZERO. -/
def execRemu (cl : ClusterId) (r : RR) (s : State) : Result := aluDiv cl r 34 zero64 (BitVec.umod) s

/-- MIN (R120): signed minimum. -/
def execMin (cl : ClusterId) (r : RR) (s : State) : Result := alu2 cl r 1 (fun a b => if a.slt b then a else b) s

/-- MAX (R120): signed maximum. -/
def execMax (cl : ClusterId) (r : RR) (s : State) : Result := alu2 cl r 1 (fun a b => if a.slt b then b else a) s

/-- MINU (R120): unsigned minimum. -/
def execMinu (cl : ClusterId) (r : RR) (s : State) : Result := alu2 cl r 1 (fun a b => if a.ult b then a else b) s

/-- MAXU (R120): unsigned maximum. -/
def execMaxu (cl : ClusterId) (r : RR) (s : State) : Result := alu2 cl r 1 (fun a b => if a.ult b then b else a) s

/-- ADDW (R120): 32-bit addition, sign-extended. -/
def execAddw (cl : ClusterId) (r : RR) (s : State) : Result := alu2 cl r 1 (low32 (· + ·)) s

/-- SUBW (R120): 32-bit subtraction, sign-extended. -/
def execSubw (cl : ClusterId) (r : RR) (s : State) : Result := alu2 cl r 1 (low32 (· - ·)) s

/-- SHLW (R120): 32-bit shift left by g[b] mod 32. -/
def execShlw (cl : ClusterId) (r : RR) (s : State) : Result := alu2 cl r 1 (fun a b => low32 (fun x _ => x <<< (b.toNat % 32)) a b) s

/-- SHRW (R120): 32-bit logical shift right. -/
def execShrw (cl : ClusterId) (r : RR) (s : State) : Result := alu2 cl r 1 (fun a b => low32 (fun x _ => x >>> (b.toNat % 32)) a b) s

/-- SARW (R120): 32-bit arithmetic shift right. -/
def execSarw (cl : ClusterId) (r : RR) (s : State) : Result := alu2 cl r 1 (fun a b => low32 (fun x _ => x.sshiftRight (b.toNat % 32)) a b) s

/-- RORW (R120): 32-bit rotate right. -/
def execRorw (cl : ClusterId) (r : RR) (s : State) : Result := alu2 cl r 1 (fun a b => low32 (fun x _ => x.rotateRight (b.toNat % 32)) a b) s

/-- MULW (R120): low 32 bits of the 32-bit product, sign-extended. -/
def execMulw (cl : ClusterId) (r : RR) (s : State) : Result := alu2 cl r 3 (low32 (· * ·)) s

/-- DIVW (R120): 32-bit signed quotient, or DIV_ZERO. -/
def execDivw (cl : ClusterId) (r : RR) (s : State) : Result := aluDiv cl r 18 zero32 (low32 BitVec.sdiv) s

/-- DIVUW (R120): 32-bit unsigned quotient, or DIV_ZERO. -/
def execDivuw (cl : ClusterId) (r : RR) (s : State) : Result := aluDiv cl r 18 zero32 (low32 BitVec.udiv) s

/-- REMW (R120): 32-bit signed remainder, or DIV_ZERO. -/
def execRemw (cl : ClusterId) (r : RR) (s : State) : Result := aluDiv cl r 18 zero32 (low32 BitVec.srem) s

/-- REMUW (R120): 32-bit unsigned remainder, or DIV_ZERO. -/
def execRemuw (cl : ClusterId) (r : RR) (s : State) : Result := aluDiv cl r 18 zero32 (low32 BitVec.umod) s

/-- CLZ (R120): counts leading zero bits of g[a]. -/
def execClz (cl : ClusterId) (r : RR) (s : State) : Result := alu1 cl r (clz64) s

/-- CTZ (R120): counts trailing zero bits of g[a]. -/
def execCtz (cl : ClusterId) (r : RR) (s : State) : Result := alu1 cl r (ctz64) s

/-- POPC (R120): counts set bits of g[a]. -/
def execPopc (cl : ClusterId) (r : RR) (s : State) : Result := alu1 cl r (popc64) s

/-- BSWAP (R120): reverses the byte order of g[a]. -/
def execBswap (cl : ClusterId) (r : RR) (s : State) : Result := alu1 cl r (bswap64) s

/-- SXB (R103): sign-extends bits [7:0]. -/
def execSxb (cl : ClusterId) (r : RR) (s : State) : Result := alu1 cl r (fun a => (a.setWidth 8).signExtend 64) s

/-- SXH (R103): sign-extends bits [15:0]. -/
def execSxh (cl : ClusterId) (r : RR) (s : State) : Result := alu1 cl r (fun a => (a.setWidth 16).signExtend 64) s

/-- SXW (R103): sign-extends bits [31:0]. -/
def execSxw (cl : ClusterId) (r : RR) (s : State) : Result := alu1 cl r (fun a => (a.setWidth 32).signExtend 64) s

/-- ZXB (R103): zero-extends bits [7:0]. -/
def execZxb (cl : ClusterId) (r : RR) (s : State) : Result := alu1 cl r (fun a => (a.setWidth 8).setWidth 64) s

/-- ZXH (R103): zero-extends bits [15:0]. -/
def execZxh (cl : ClusterId) (r : RR) (s : State) : Result := alu1 cl r (fun a => (a.setWidth 16).setWidth 64) s

/-- ZXW (R103): zero-extends bits [31:0]. -/
def execZxw (cl : ClusterId) (r : RR) (s : State) : Result := alu1 cl r (fun a => (a.setWidth 32).setWidth 64) s

/-- The exception that a jump or return target raises, if any (R83, R101). -/
def targetCheck (a : Nat) : Option Nat := if !inData a then some 3 else if a % 4 ≠ 0 then some 5 else none

/-- JR (R101, R120): jumps to the checked address in g[a]. -/
def execJr (cl : ClusterId) (r : RR) (s : State) : Result :=
  .next (execRR cl r .zero .greg .zero (fun m t lead =>
    match targetCheck (lead.rd r.a).toNat with
    | some e => { m := m, cost := 3, res := .exc e }
    | none => pureStep 3 (fun c => { core := { c with pc := (c.rd r.a).setWidth 32 } }) m t lead) s)

end Sys2Proof.Machine
end

