-- ==== Sys2Proof/Machine/LoadStore.lean ====
section
/-! DEFINITION. Loads and stores of the data space (R70, R71, R126 to R128). -/

namespace Sys2Proof.Machine

namespace Mach

/-- The checks of a data access of `n` bytes in their order: range, alignment, MPU (R70, R114).
The exception to raise, and the module with the violation reported. -/
def dataCheck (m : Mach) (cl a n kind : Nat) (priv : Bool) : Option Nat × Mach :=
  if !inData a then (some 3, m)
  else if a % n ≠ 0 then (some 5, m)
  else match m.kilnDenied cl a kind priv with
    | some r => (some 4, m.mpuReport cl 0 a kind priv r)
    | none => (none, m)

/-- The lead core of a cluster: the lowest-numbered one that runs. -/
def lead (m : Mach) (cl : Nat) (t : Tri) : Core := t.get ((m.actives cl).headD 0)

end Mach

/-- The own part of a load of `n` bytes: the voted address is checked and read once for all three
cores (R126, R159). `ext` extends the value to 64 bits. -/
def loadBody (cl n : Nat) (r : MemForm) (ext : Nat → Word) (m : Mach) (t : Tri) (lead : Core) : StepOut :=
  let (acc, bad, m) := m.voted cl lead.pc.toNat t fun c => some ⟨effAddr c r.base r.off, 0⟩
  match bad, acc with
  | false, some q =>
    let a := q.addr.toNat
    let (e, m) := m.dataCheck cl a n 0 (m.lead cl t).sys
    match e with
    | some code => { m := m, cost := 4, res := .exc code }
    | none =>
      let (corr, unc, m) := m.eccRead (readAddr cl a) n cl
      if unc then { m := m, corr := corr, cost := 4, res := .exc 15 }
      else
        let v := ext (m.mem.ldN (readAddr cl a) n)
        { m := m, corr := corr, cost := 4, res := .ok fun c =>
          { core := (c.wr r.r v).next, val := v, addr := (effAddr c r.base r.off).setWidth 32 } }
  | _, _ => { m := m, cost := 4, res := .fault }

/-- A load. -/
def load (cl : ClusterId) (n : Nat) (r : MemForm) (ext : Nat → Word) (s : State) : Result :=
  .next (execInstr cl false false (loadBody cl n r ext) s)

/-- Zero extension of a loaded value. -/
def zx (v : Nat) : Word := BitVec.ofNat 64 v

/-- Sign extension of a loaded value of `n` bytes. -/
def sx (n : Nat) (v : Nat) : Word := BitVec.ofInt 64 (signed (8 * n) v)

/-- The low `n` bytes of a register. -/
def lowBytes (n : Nat) (v : Word) : Nat := v.toNat % 2 ^ (8 * n)

/-- The own part of a store of `n` bytes (R126 to R128): address and data are voted, the checks of
a load without ECC apply, then the retained delta, then the write. A cluster fault that still has a
majority makes its access (R160). -/
def storeBody (cl n : Nat) (r : MemForm) (m : Mach) (t : Tri) (lead : Core) : StepOut :=
  let data (c : Core) : Nat := lowBytes n (c.rd r.r)
  let (acc, bad, m) := m.voted cl lead.pc.toNat t fun c =>
    some ⟨effAddr c r.base r.off, BitVec.ofNat 64 (data c)⟩
  match acc with
  | none => { m := m, cost := 3, res := .fault }
  | some q =>
    let a := q.addr.toNat
    let (e, m) := m.dataCheck cl a n 1 (m.lead cl t).sys
    match e with
    | some code => { m := m, cost := 3, res := if bad then .fault else .exc code }
    | none =>
      if m.deltaFull (m.newGranules a n) then
        { m := m, cost := 3, res := if bad then .fault else .exc 2 }
      else
        let m := m.kilnStore cl a (leBytes n q.data.toNat)
        { m := m, cost := 3, res := if bad then .fault else .ok fun c =>
          { core := c.next, val := BitVec.ofNat 64 (data c)
            addr := (effAddr c r.base r.off).setWidth 32 } }

/-- A store. -/
def store (cl : ClusterId) (n : Nat) (r : MemForm) (s : State) : Result :=
  .next (execInstr cl false false (storeBody cl n r) s)

/-- LDB (R126): a sign-extended byte. -/
def execLdb (cl : ClusterId) (r : MemForm) (s : State) : Result := load cl 1 r (sx 1) s

/-- LDBU (R126): a zero-extended byte. -/
def execLdbu (cl : ClusterId) (r : MemForm) (s : State) : Result := load cl 1 r zx s

/-- LDH (R126): a sign-extended halfword. -/
def execLdh (cl : ClusterId) (r : MemForm) (s : State) : Result := load cl 2 r (sx 2) s

/-- LDHU (R126): a zero-extended halfword. -/
def execLdhu (cl : ClusterId) (r : MemForm) (s : State) : Result := load cl 2 r zx s

/-- LDW (R126): a sign-extended word. -/
def execLdw (cl : ClusterId) (r : MemForm) (s : State) : Result := load cl 4 r (sx 4) s

/-- LDWU (R126): a zero-extended word. -/
def execLdwu (cl : ClusterId) (r : MemForm) (s : State) : Result := load cl 4 r zx s

/-- LDD (R126): a doubleword. -/
def execLdd (cl : ClusterId) (r : MemForm) (s : State) : Result := load cl 8 r zx s

/-- STB (R126 to R128): a byte. -/
def execStb (cl : ClusterId) (r : MemForm) (s : State) : Result := store cl 1 r s

/-- STH (R126 to R128): a halfword. -/
def execSth (cl : ClusterId) (r : MemForm) (s : State) : Result := store cl 2 r s

/-- STW (R126 to R128): a word. -/
def execStw (cl : ClusterId) (r : MemForm) (s : State) : Result := store cl 4 r s

/-- STD (R126 to R128): a doubleword. -/
def execStd (cl : ClusterId) (r : MemForm) (s : State) : Result := store cl 8 r s

end Sys2Proof.Machine
end

