-- ==== Sys2Proof/Machine/Block.lean ====
section
/-! DEFINITION. The edge, timer and counter instructions over state blocks (R108, R134 to R142). -/

namespace Sys2Proof.Machine

/-- What a scan of a state block makes of the input bit and the words of the block: the result
bit and the words after. -/
abbrev Scan := Bool → List Nat → Bool × List Nat

/-- Read the 8-byte words at some addresses, each with its check state. -/
def Mach.readWords (m : Mach) (cl : Nat) (addrs : List Nat) : Nat × Bool × Mach :=
  addrs.foldl (fun (c, u, m) a =>
    let (c', u', m) := m.eccRead (readAddr cl a) 8 cl
    (c + c', u || u', m)) (0, false, m)

/-- The checks of a block of `n` bytes (R70, R143, R147): range, 8-byte alignment, MPU. -/
def Mach.blockCheck (m : Mach) (cl a n kind : Nat) (priv : Bool) : Option Nat × Mach :=
  if !blockInData a n then (some 3, m)
  else if a % 8 ≠ 0 then (some 5, m)
  else match m.kilnDeniedBlock cl a n kind priv with
    | some (x, r) => (some 4, m.mpuReport cl 0 x kind priv r)
    | none => (none, m)

/-- Vote the writes of a block word by word: word `i` of each core is written at its own block
address plus `8 i`; a core that leaves a word alone requests nothing. The accesses made, and whether
one of the votes was a cluster fault (R135, R159, R160). -/
def Mach.voteWords (m : Mach) (cl pc : Nat) (t : Tri) (n : Nat) (req : Core → Nat → Option VReq) :
    List VReq × Bool × Mach :=
  (countFrom 0 n).foldl (fun (l, bad, m) i =>
    let (acc, b, m) := m.voted cl pc t fun c => req c i
    (l ++ acc.toList, bad || b, m)) ([], false, m)

/-- Write 8-byte words that have been voted: first the MPU for each, then the retained delta of them
all, then the writes (R70, R128, R135). -/
def Mach.writeWords (m : Mach) (cl : Nat) (priv : Bool) (ws : List VReq) : Option Nat × Mach :=
  match ws.findSome? fun w => (m.kilnDenied cl w.addr.toNat 1 priv).map fun r => (w.addr.toNat, r) with
  | some (x, r) => (some 4, m.mpuReport cl 0 x 1 priv r)
  | none =>
    let gs := ws.flatMap fun w => m.newGranules w.addr.toNat 8
    if m.deltaFull gs then (some 2, m)
    else (none, ws.foldl (fun m w => m.kilnStore cl w.addr.toNat (leBytes 8 w.data.toNat)) m)

/-- The data word that a core stores last (R163); 0 if it stores none. -/
def lastStored (old new : List Nat) : Word :=
  match ((old.zip new).filter fun p => p.1 ≠ p.2).getLast? with
  | some p => BitVec.ofNat 64 p.2
  | none => 0

/-- The own part of EDG, TMR and CTR: the block of `n` words is read whole, each core scans it with
its own condition bit, and only the words that change are written (R108, R135). -/
def blockBody (cl n cost : Nat) (r : BlockForm) (scan : Scan) (m : Mach) (t : Tri) (lead : Core) : StepOut :=
  let (acc, bad, m) := m.voted cl lead.pc.toNat t fun c => some ⟨effAddr c r.base r.off, 0⟩
  match bad, acc with
  | false, some q =>
    let a := q.addr.toNat
    let priv := (m.lead cl t).sys
    let (e, m) := m.blockCheck cl a (8 * n) 0 priv
    match e with
    | some code => { m := m, cost := cost, res := .exc code }
    | none =>
      let addrs := (countFrom 0 n).map fun i => a + 8 * i
      let (corr, unc, m) := m.readWords cl addrs
      if unc then { m := m, corr := corr, cost := cost, res := .exc 15 }
      else
        let old := addrs.map fun x => m.mem.ldN (readAddr cl x) 8
        let out (c : Core) : Bool × List Nat := scan (c.cb r.c) old
        let (ws, bad, m) := m.voteWords cl lead.pc.toNat t n fun c i =>
          let v := (out c).2.getD i 0
          if v = old.getD i 0 then none
          else some ⟨effAddr c r.base r.off + BitVec.ofNat 64 (8 * i), BitVec.ofNat 64 v⟩
        let (e, m) := m.writeWords cl priv ws
        { m := m, corr := corr, cost := cost, res :=
          if bad then .fault else match e with
          | some code => .exc code
          | none => .ok fun c =>
            { core := (c.wrC r.c (out c).1).next, val := lastStored old (out c).2
              addr := (effAddr c r.base r.off).setWidth 32 } }
  | _, _ => { m := m, cost := cost, res := .fault }

/-- Execute a block instruction. -/
def block (cl : ClusterId) (n cost : Nat) (r : BlockForm) (scan : Mach → Scan) (s : State) : Result :=
  .next (execInstr cl false false (fun m t lead => blockBody cl n cost r (scan m) m t lead) s)

/-- The scan of an edge block (R137): the output; PREV is written only on a change. -/
def edgScan (f : Bool → Bool → Bool) : Scan := fun inp ws =>
  let w := ws.headD 0
  let prev := w.testBit 0
  (f inp prev, [if inp = prev then w else putBits w 0 0 (b2n inp)])

/-- The fields of a timer block after a scan: ET, RUN and the output Q (R138). -/
structure Timing where
  et  : Nat
  run : Bool
  q   : Bool
  deriving DecidableEq, Repr

/-- The scan of a timer block (R134, R138): `f` gives ET, RUN and Q from the input, IN and RUN at
the last scan, PT, ET, and the time since the last scan. -/
def tmrScan (now : Nat) (f : Bool → Bool → Bool → Nat → Nat → Nat → Timing) : Scan := fun inp ws =>
  let pt := ws.getD 0 0
  let fl := ws.getD 3 0
  let d := (now + 2 ^ 64 - ws.getD 2 0) % 2 ^ 64
  let r := f inp (fl.testBit 1) (fl.testBit 2) pt (ws.getD 1 0) d
  (r.q, [pt, r.et, now % 2 ^ 64, putBits fl 2 0 (b2n r.q + 2 * b2n inp + 4 * b2n r.run)])

/-- On-delay (R138). -/
def tonTiming (inp last run : Bool) (pt et d : Nat) : Timing :=
  let (et, run) :=
    if inp && !last then (0, true)
    else if inp && run then (min pt (et + d), run)
    else if !inp then (0, false)
    else (et, run)
  ⟨et, run, inp && decide (pt ≤ et)⟩

/-- Off-delay (R138). -/
def tofTiming (inp last run : Bool) (pt et d : Nat) : Timing :=
  if inp then ⟨0, false, true⟩
  else
    let (et, run) :=
      if last then (0, true)
      else if run then (min pt (et + d), run)
      else (et, run)
    ⟨et, run && decide (et < pt), decide (et < pt)⟩

/-- Pulse (R138). -/
def tpTiming (inp last run : Bool) (pt et d : Nat) : Timing :=
  let (et, run) :=
    if inp && !last && !run then (0, true)
    else if run then (min pt (et + d), run)
    else (et, run)
  let run := run && decide (et < pt)
  ⟨et, run, run⟩

/-- The scan of a counter block (R134, R141): `f` gives the count and Q from the input, a counting
edge, CV and PV; the counting kinds store IN. -/
def ctrScan (counts : Bool) (f : Bool → Bool → Int → Int → Int × Bool) : Scan := fun inp ws =>
  let pv := signed 64 (ws.getD 0 0)
  let cv := signed 64 (ws.getD 1 0)
  let fl := ws.getD 2 0
  let (cv, q) := f inp (inp && !fl.testBit 0) cv pv
  let fl := if counts then putBits fl 0 0 (b2n inp) else fl
  (q, [ws.getD 0 0, wrapInt 64 cv, putBits fl 1 1 (b2n q)])

/-- EDG rise (R137). -/
def execEdgRise (cl : ClusterId) (r : BlockForm) (s : State) : Result :=
  block cl 1 6 r (fun _ => edgScan fun i p => i && !p) s

/-- EDG fall (R137). -/
def execEdgFall (cl : ClusterId) (r : BlockForm) (s : State) : Result :=
  block cl 1 6 r (fun _ => edgScan fun i p => p && !i) s

/-- EDG either (R137). -/
def execEdgEither (cl : ClusterId) (r : BlockForm) (s : State) : Result :=
  block cl 1 6 r (fun _ => edgScan fun i p => xor i p) s

/-- TON (R138, R139). -/
def execTon (cl : ClusterId) (r : BlockForm) (s : State) : Result :=
  block cl 4 14 r (fun m => tmrScan m.tick.start tonTiming) s

/-- TOF (R138, R139). -/
def execTof (cl : ClusterId) (r : BlockForm) (s : State) : Result :=
  block cl 4 14 r (fun m => tmrScan m.tick.start tofTiming) s

/-- TP (R138, R139). -/
def execTp (cl : ClusterId) (r : BlockForm) (s : State) : Result :=
  block cl 4 14 r (fun m => tmrScan m.tick.start tpTiming) s

/-- CTU (R141, R142). -/
def execCtu (cl : ClusterId) (r : BlockForm) (s : State) : Result :=
  block cl 3 10 r (fun _ => ctrScan true fun _ edge cv pv =>
    let cv := if edge && decide (cv ≠ 2 ^ 63 - 1) then cv + 1 else cv
    (cv, decide (pv ≤ cv))) s

/-- CTD (R141, R142). -/
def execCtd (cl : ClusterId) (r : BlockForm) (s : State) : Result :=
  block cl 3 10 r (fun _ => ctrScan true fun _ edge cv _ =>
    let cv := if edge && decide (cv ≠ -2 ^ 63) then cv - 1 else cv
    (cv, decide (cv ≤ 0))) s

/-- CRS (R141, R142). -/
def execCrs (cl : ClusterId) (r : BlockForm) (s : State) : Result :=
  block cl 3 10 r (fun _ => ctrScan false fun inp _ cv pv =>
    let cv := if inp then 0 else cv
    (cv, decide (pv ≤ cv))) s

/-- CLD (R141, R142). -/
def execCld (cl : ClusterId) (r : BlockForm) (s : State) : Result :=
  block cl 3 10 r (fun _ => ctrScan false fun inp _ cv pv =>
    let cv := if inp then pv else cv
    (cv, decide (cv ≤ 0))) s

end Sys2Proof.Machine
end

