-- ==== Sys2Proof/Machine/Cluster.lean ====
section
/-! DEFINITION. The events of the Kiln clusters around their instructions: signature windows (R163 to
R166), the rebuild of a core (R167, R168), injection tests (R174 to R178), cluster resets (R482) and
the debugger (R179 to R185). -/

namespace Sys2Proof.Machine

/-- SLICE_BUDGET (R54, R119): the running slice has reached its budget. -/
def execSliceBudget (cl : ClusterId) (s : State) : Result :=
  .next (match (s.m.kiln cl).slice with
    | none => s
    | some sl => if overBudget s cl sl then budgetExc s cl sl else budgetRunOn s cl sl)

/-! ### Signature windows -/

/-- WINDOW_CLOSE (R164): the comparators take the closing values of the oldest window that is due. -/
def execWindowClose (cl : ClusterId) (s : State) : Result :=
  .next (s.live fun m =>
    let k := m.kiln cl
    match k.cmpWin, k.dueWin with
    | none, w :: rest =>
      let m := [0, 1].foldl (fun m v =>
        ((m.wr (VOT_SIG cl v 0) w.s0.toNat).wr (VOT_SIG cl v 1) w.s1.toNat).wr (VOT_SIG cl v 2) w.s2.toNat) m
      m.setKiln cl { k with dueWin := rest, cmpWin := some w }
    | _, _ => m)

/-- The pattern of three closing values (R165). -/
def sigPattern (a b c : BitVec 32) : Nat := b2n (decide (a = b)) + 2 * b2n (decide (a = c)) + 4 * b2n (decide (b = c))

/-- Classify a compared window of the running cores (R165, R166). -/
def Mach.classify (m : Mach) (cl : Nat) (w : Window) : Mach :=
  match m.actives cl with
  | [_, _, _] =>
    let p := sigPattern w.s0 w.s1 w.s2
    let one (k : Nat) : Mach := (m.voteShow cl 1 p k).fence cl k 0 w.addr 0
    if p = 7 then m
    else if p = 4 then one 0
    else if p = 2 then one 1
    else if p = 1 then one 2
    else (m.voteShow cl 1 p 3).clusterFault cl
  | [j, k] =>
    let sig (i : Nat) : BitVec 32 := if i = 0 then w.s0 else if i = 1 then w.s1 else w.s2
    if sig j = sig k then m else (m.voteShow cl 1 0 3).clusterFault cl
  | _ => m

/-- SIGNATURE_COMPARISON (R161 to R166): the result for the window that the comparators hold. The
operands are what a fault adds to the closing value of each core, and whether the two comparators
differ or a delay stage mismatched. -/
def execSignatureComparison (cl : ClusterId) (x0 x1 x2 : BitVec 32) (pairMis chainErr : Bool) (s : State) : Result :=
  .next (s.live fun m =>
    match (m.kiln cl).cmpWin with
    | none => m
    | some w0 =>
      let w := { w0 with s0 := w0.s0 ^^^ x0, s1 := w0.s1 ^^^ x1, s2 := w0.s2 ^^^ x2 }
      let m := m.modKiln cl fun k => { k with cmpWin := none }
      let m := [0, 1].foldl (fun m v =>
        let m := m.wr (VOT_WINCNT cl v) (m.rg (VOT_WINCNT cl v) + 1)
        ((m.wr (VOT_SIG cl v 0) w.s0.toNat).wr (VOT_SIG cl v 1) w.s1.toNat).wr (VOT_SIG cl v 2) w.s2.toNat) m
      if chainErr then
        let m := [0, 1].foldl (fun m v =>
          ((m.setBit (VOT_STAT cl v) 9 true).setFld (VOT_STAT cl v) 7 5 0).setFld (VOT_STAT cl v) 4 3 3) m
        m.clusterFault cl
      else if pairMis then
        ([0, 1].foldl (fun m v => m.setBit (VOT_STAT cl v) 8 true) m).clusterFault cl
      else m.classify cl w)

/-! ### Rebuild -/

/-- A rebuild of the fenced core has failed (R168). -/
def Mach.rebuildFailed (m : Mach) (cl : Nat) : Mach :=
  ((m.setFld (KLN_RBSTAT cl) 17 16 (min 2 (m.fld (KLN_RBSTAT cl) 17 16 + 1))).incFld (KLN_RBSTAT cl) 15 8).ledger
    0x0302 2 0 0 0

/-- REBUILD_RESULT (R167, R168): the test sequence of the rebuild ends. -/
def execRebuildResult (cl : ClusterId) (r : RebuildEnd) (s : State) : Result :=
  .next (
    if !(s.m.kiln cl).rebuilding then s else
    let s := s.mod fun m => m.modKiln cl fun k => { k with rebuilding := false }
    match r with
    | .healthyDiffer => s.mod fun m => m.clusterFault cl
    | .coreDiffers => s.mod fun m => m.rebuildFailed cl
    | .pass =>
      let j := s.m.fld (KLN_CLSTAT cl) 4 3
      let h := (s.tri cl).get ((s.m.actives cl).headD 0)
      let t := (s.tri cl).set j { (s.tri cl).get j with sys := h.sys, unit := h.unit, sig := h.sig }
      (s.setTri cl t).mod fun m =>
        let m := ((m.setBit (KLN_CLSTAT cl) (5 + j) true).setFld (KLN_CLSTAT cl) 4 3 3).setFld (KLN_CLSTAT cl) 2 0 1
        (m.modKiln cl fun k => { k with rebuilt := some j }).ledger 0x0301 2 0 0 0)

/-- DETECT_ONLY (R168): two rebuilds in a row have failed. -/
def execDetectOnly (cl : ClusterId) (s : State) : Result :=
  .next (s.live fun m =>
    if m.fld (KLN_RBSTAT cl) 17 16 = 2 ∧ m.fld (KLN_CLSTAT cl) 2 0 = 2 then
      (m.setFld (KLN_CLSTAT cl) 2 0 3).ledger 0x0303 2 0 0 0
    else m)

/-- RETRY (R168, R185): KLN_CLCTL.RETRY, in BENCH. -/
def execRetry (cl : ClusterId) (w : Writer) (s : State) : Result :=
  .next (s.access w fun m =>
    if m.mode ≠ 3 then m.refuse 0x0C00 w (KLN_CLCTL cl) 4 else
    let m := m.setFld (KLN_RBSTAT cl) 17 16 0
    if m.fld (KLN_CLSTAT cl) 4 3 = 3 then m
    else (m.setFld (KLN_CLSTAT cl) 2 0 2).modKiln cl fun k => { k with retry := true })

/-! ### Injection -/

/-- The result of an injection in VOT_INJRES bits [15:8]: PATTERN, MINORITY, PAIRMIS, CHAINERR,
CLFAULT. -/
def injCode (pattern minority : Nat) (pair chain fault : Bool) : Nat :=
  pattern * 2 ^ 13 + minority * 2 ^ 11 + b2n pair * 2 ^ 10 + b2n chain * 2 ^ 9 + b2n fault * 2 ^ 8

/-- The expected result of an injection at a point (R176). -/
def injExpected (point : Nat) : Nat :=
  match point with
  | 0 => injCode 4 0 false false false
  | 1 => injCode 2 1 false false false
  | 2 => injCode 1 2 false false false
  | 3 => injCode 4 0 false false false
  | 4 => injCode 2 1 false false false
  | 5 => injCode 1 2 false false false
  | 6 => injCode 0 3 false true true
  | 7 => injCode 0 3 false true true
  | 8 => injCode 0 3 false true true
  | 9 => injCode 0 3 false true true
  | 10 => injCode 7 3 true false true
  | _ => injCode 0 3 false false true

/-- The bits of a mask that reach the chosen input (R186, FIELD). -/
def injMask (point field mask : Nat) : Nat :=
  if point ≤ 2 ∨ point = 11 then
    if field = 2 then mask % 2 ^ 25 else if field = 3 then mask % 2 ^ 8 else mask
  else mask

/-- The complement of a mask over the bits that reach the input. -/
def injNotMask (point field mask : Nat) : Nat := injMask point field (2 ^ 32 - 1 - mask)

/-- What a sound voter instance shows for an injection (R160, R165, R176): no disagreement where no
bit of the mask reaches the input, and the disagreement of one core where the points 11 and 12
change only one. -/
def injObserved (point field mask : Nat) : Nat :=
  let a := injMask point field mask
  let b := injNotMask point field mask
  if point = 11 ∨ point = 12 then
    if a = 0 then injExpected 1 else if b = 0 then injExpected 0 else injExpected point
  else if a = 0 then injCode 7 3 false false false
  else injExpected point

/-- Run one injection into a voter instance (R176 to R178): the observed result, its comparison with
the expected one, and the flags of the instance. -/
def Mach.inject (m : Mach) (cl v : Nat) (observed : Option Nat) : Mach :=
  let ctl := m.rg (VOT_INJCTL cl v)
  let point := bits ctl 11 8
  let res := match observed with
    | some o => bits o 15 8 * 2 ^ 8
    | none => injObserved point (bits ctl 5 4) (m.rg (VOT_INJMASK cl v))
  let m := m.wr (VOT_INJRES cl v) (res + 2 * b2n (decide (res = injExpected point)) + 1)
  let write := decide (point ≤ 2) || decide (point = 11)
  let sig := (decide (3 ≤ point) && decide (point ≤ 5)) || decide (point = 12)
  let differs := decide (bits res 15 13 ≠ 7)
  let m := if write && differs then (m.setBit (VOT_STAT cl v) 2 true).incFld (VOT_DISCNT cl v) 15 0 else m
  let m := if sig && differs then (m.setBit (VOT_STAT cl v) 1 true).incFld (VOT_DISCNT cl v) 31 16 else m
  let m := if differs then (m.setFld (VOT_STAT cl v) 7 5 (bits res 15 13)).setFld (VOT_STAT cl v) 4 3 (bits res 12 11) else m
  m.wr (VOT_STAT cl v) (m.rg (VOT_STAT cl v) ||| bits res 10 8 * 2 ^ 8)

/-- INJECTION_GO (R178): VOT_INJCTL.GO, accepted in BENCH with RUN = 0, and from the Curator in BOOT
and STANDBY. -/
def execInjectionGo (cl : ClusterId) (v : Fin 2) (w : Writer) (observed : Option (BitVec 16)) (s : State) : Result :=
  .next (s.access w fun m =>
    let open_ := (decide (m.mode = 3) && !m.bit KLN_SCHCTL 0) ||
      (decide (w.val = 6) && (decide (m.mode = 1) || (decide (m.mode = 5) && !m.firing)))
    if !open_ then m.refuse 0x0C00 w (VOT_INJCTL cl v) (m.rg (VOT_INJCTL cl v) + 2)
    else if m.rg (VOT_INJMASK cl v) = 0 then m.refuse 0x0C02 w (VOT_INJCTL cl v) (m.rg (VOT_INJCTL cl v) + 2)
    else if !m.bit (VOT_INJCTL cl v) 0 then m
    else m.inject cl v (observed.map (·.toNat)))

/-- A cluster passes or fails its injection test (R174, R175). -/
def Mach.injectionResult (m : Mach) (cl : Nat) (fail : Option InjFail) : Mach :=
  match fail with
  | none => ((((m.setFld (KLN_CLSTAT cl) 2 0 1).setFld (KLN_CLSTAT cl) 4 3 3).setFld (KLN_CLSTAT cl) 7 5 7).setBit
      (KLN_CLSTAT cl) 8 true)
  | some f =>
    let m := (m.setFld (KLN_CLSTAT cl) 2 0 4).setBit (KLN_CLSTAT cl) 8 false
    m.ledger 0x0305 2 (cl + 2 * f.v.val + (if f.point.toNat ≤ 2 then f.field.toNat * 2 ^ 10 else 0) + f.point.toNat * 2 ^ 12)
      f.mask.toNat f.res.toNat

/-- INJECTION_TEST_COMPLETE (R174): the test after a cluster reset ends. After a cluster fault, with
AUTORJ and a partner that is PRIMARY, RESYNC follows at the next boundary. -/
def execInjectionTestComplete (cl : ClusterId) (fail : Option InjFail) (s : State) : Result :=
  .next (s.live fun m =>
    if !(m.kiln cl).testing then m else
    let after := (m.kiln cl).testAfterFault
    let m := (m.modKiln cl fun k => { k with testing := false, testAfterFault := false }).injectionResult cl fail
    if fail.isNone && after && m.bit (KLN_CLCTL cl) 0 && decide (m.mode = 7) &&
        m.bit PTL_STAT 9 then { m with wantMode := some 4 }
    else m)

/-! ### Cluster reset -/

/-- Reset the cores and voter instances of one cluster and start its injection test (R482, R485). -/
def State.resetCluster (s : State) (cl : Nat) (afterFault : Bool) : State :=
  (s.setTri cl Tri.reset).mod fun m =>
    let m := (m.setFld (KLN_CLSTAT cl) 8 0 (3 * 8)).setFld (KLN_RBSTAT cl) 17 16 0
    let m := m.resetRegs (votBase cl 0) (votBase cl 0 + 0x8000)
    let m := m.setFld (KLN_DBGCTL cl) 1 0 0
    let m := (m.setBit (KLN_DBGSTAT cl) 0 false)
    let k := m.kiln cl
    let m := m.setKiln cl { k with
      slice := none, due := [], win := 0, dueWin := [], cmpWin := none, haltReq := false, stepping := false
      rebuilding := false, rebuilt := none, retry := false, faulted := false, testing := true
      testAfterFault := afterFault }
    (m.ledger 0x0F02 11 0 0 0).showFiring

/-- KILN_CLUSTER_RESET (R482, R491): CUR_KLNRST, written only by the Curator. -/
def execKilnClusterReset (w : Writer) (key : BitVec 16) (sel : BitVec 2) (s : State) : Result :=
  .next (
    let value := key.toNat * 2 ^ 16 + sel.toNat
    if w.val ≠ 6 then s
    else if key ≠ 0x4B4C then s.mod fun m => m.refuse 0x0C01 w CUR_KLNRST value
    else if sel = 0 then s.mod fun m => m.refuse 0x0C02 w CUR_KLNRST value
    else [0, 1].foldl (fun s cl =>
      if !sel.getLsbD cl then s else
      let st := s.m.fld (KLN_CLSTAT cl) 2 0
      if st = 4 ∨ st = 0 ∨ !s.m.hasTasks cl ∨ (s.m.mode = 3 ∧ !s.m.bit KLN_SCHCTL 0) ∨ s.m.mode = 7 then
        s.resetCluster cl false
      else s.mod fun m => m.refuse 0x0C03 w CUR_KLNRST value) s)

/-! ### The debugger -/

/-- DEBUG_ATTACH (R179, R185): KLN_DBGCTL.ATTACH, only in BENCH. -/
def execDebugAttach (cl : ClusterId) (on : Bool) (w : Writer) (s : State) : Result :=
  .next (s.access w fun m =>
    if m.mode ≠ 3 then m.refuse 0x0C00 w (KLN_DBGCTL cl) (b2n on) else m.setBit (KLN_DBGCTL cl) 0 on)

/-- DEBUG_BRKEN (R155, R185): KLN_DBGCTL.BRKEN. -/
def execDebugBrken (cl : ClusterId) (on : Bool) (s : State) : Result :=
  .next (s.live fun m => m.setBit (KLN_DBGCTL cl) 1 on)

/-- Ask an attached cluster to stop at the next instruction boundary (R180): at once where a slice
runs, otherwise at the dispatch of the next. -/
def Mach.debugHalt (m : Mach) (cl : Nat) : Mach :=
  if !m.bit (KLN_DBGCTL cl) 0 || m.bit (KLN_DBGSTAT cl) 0 then m
  else if (m.kiln cl).slice.isSome then (m.setBit (KLN_DBGSTAT cl) 0 true).setFld (KLN_DBGSTAT cl) 2 1 1
  else m.modKiln cl fun k => { k with haltReq := true }

/-- DEBUG_HALT (R180, R185): KLN_DBGCTL.HALT. -/
def execDebugHalt (cl : ClusterId) (s : State) : Result := .next (s.live fun m => m.debugHalt cl)

/-- DEBUG_STEP (R180, R185): KLN_DBGCTL.STEP lets a stopped cluster retire one instruction. -/
def execDebugStep (cl : ClusterId) (w : Writer) (s : State) : Result :=
  .next (s.access w fun m =>
    if m.bit (KLN_DBGSTAT cl) 0 then m.modKiln cl fun k => { k with stepping := true }
    else m.refuse 0x0C03 w (KLN_DBGCTL cl) 0x10)

/-- The state signature of a core (R182). -/
def Core.stateSig (c : Core) : Nat :=
  crc32c ((c.g.toList.drop 1).flatMap (fun w => leBytes 8 w.toNat) ++ leBytes 1 (c.c.toNat / 2 * 2) ++
    leBytes 1 c.fpf.toNat ++ leBytes 4 c.pc.toNat ++ leBytes 1 (b2n c.sys))

/-- Compare the state signatures before a stopped cluster resumes (R182). -/
def State.resume (s : State) (cl : Nat) : State :=
  s.mod fun m =>
    let t := s.tri cl
    let sig (k : Nat) : Nat := (t.get k).stateSig
    let pc := (t.get ((m.actives cl).headD 0)).pc.toNat
    let go (m : Mach) : Mach := (m.setBit (KLN_DBGSTAT cl) 0 false).modKiln cl fun k => { k with stepping := false }
    let bad (m : Mach) : Mach := m.setBit (KLN_DBGSTAT cl) 3 true
    match m.actives cl with
    | [_, _, _] =>
      let one (k : Nat) : Mach := go (((bad m).fence cl k 0 pc 0).ledger 0x0306 2 0 0 0)
      if sig 0 = sig 1 ∧ sig 1 = sig 2 then go m
      else if sig 1 = sig 2 then one 0
      else if sig 0 = sig 2 then one 1
      else if sig 0 = sig 1 then one 2
      else go ((bad m).clusterFault cl)
    | [j, k] => if sig j = sig k then go m else go ((bad m).clusterFault cl)
    | _ => go m

/-- DEBUG_RESUME (R180, R182, R185): KLN_DBGCTL.RESUME. -/
def execDebugResume (cl : ClusterId) (w : Writer) (s : State) : Result :=
  .next (if s.m.bit (KLN_DBGSTAT cl) 0 then s.resume cl
    else s.mod fun m => m.refuse 0x0C03 w (KLN_DBGCTL cl) 8)

/-- A debugger write to a stopped cluster, applied to core 0 and replayed (R181, R185). -/
def State.debugWrite (s : State) (cl : Nat) (t : DbgTarget) (w : Nat) : State :=
  let all (f : Core → Core) : State := s.setTri cl ((s.tri cl).mapOn [0, 1, 2] f)
  let stopped := s.m.bit (KLN_DBGSTAT cl) 0
  match t with
  | .data v =>
    if !stopped then s.mod fun m => m.refuse 0x0C03 w (KLN_DBGDATA cl) v.toNat
    else all fun c => c.wr (BitVec.ofNat 5 (s.m.fld (KLN_DBGSEL cl) 4 0)) v
  | .pc v =>
    if !stopped then s.mod fun m => m.refuse 0x0C03 w (KLN_DBGPC cl) v.toNat
    else if v.toNat % 4 ≠ 0 ∨ 0x01800000 ≤ v.toNat then s.mod fun m => m.refuse 0x0C01 w (KLN_DBGPC cl) v.toNat
    else all fun c => { c with pc := v }
  | .cond v =>
    if !stopped then s.mod fun m => m.refuse 0x0C03 w (KLN_DBGCOND cl) v.toNat
    else all fun c => { c.wrCs (v.setWidth 8) with fpf := BitVec.ofNat 5 (bits v.toNat 12 8) }

/-- DEBUG_REGISTER_WRITE (R181, R185). -/
def execDebugRegisterWrite (cl : ClusterId) (t : DbgTarget) (w : Writer) (s : State) : Result :=
  .next (s.debugWrite cl t w)

end Sys2Proof.Machine
end

