-- ==== Sys2Proof/Machine/Local.lean ====
section
/-! DEFINITION. The local channels (R450 to R457, R472), with the emitted output image as the apply
instant reads it: the forces of the last emission laid over the emitted buffer (R209, R454). -/

namespace Sys2Proof.Machine

namespace Mach

/-! ### The process image as the local interfaces see it -/

/-- The force in effect on a point, if any (R210). -/
def forceOf (fs : List Force) (space kind point : Nat) : Option Nat :=
  (fs.find? fun f => f.space = space ∧ f.kind = kind ∧ f.point = point).map (·.value)

/-- Lay forces of a space over one byte of an image (R209). -/
def forcedByte (fs : List Force) (space b : Nat) (v : Byte) : Byte :=
  fs.foldl (fun v f =>
    if f.space ≠ space then v
    else if f.kind = 0 then
      if f.point / 8 = b then BitVec.ofNat 8 (putBits v.toNat (f.point % 8) (f.point % 8) f.value) else v
    else if 0x8000 + 2 * f.point = b then BitVec.ofNat 8 f.value
    else if 0x8000 + 2 * f.point + 1 = b then BitVec.ofNat 8 (f.value / 256)
    else v) v

/-- The bytes of an image with the forces that act on them. -/
def forcedBytes (fs : List Force) (space : Nat) (m : Mach) (base b n : Nat) : List Byte :=
  let here := fs.filter fun f => f.space = space ∧
    (if f.kind = 0 then b ≤ f.point / 8 ∧ f.point / 8 < b + n
     else b ≤ 0x8000 + 2 * f.point + 1 ∧ 0x8000 + 2 * f.point < b + n)
  (countFrom b n).map fun i => forcedByte here space i (m.mem.ld8 (base + i))

/-- A digital point of the output image last emitted, forces applied. -/
def outPoint (m : Mach) (p : Nat) : Bool :=
  match forceOf m.forcesOut 1 0 p with
  | some v => v.testBit 0
  | none => (m.mem.ld8 (outBase m.tick.outBuf + p / 8)).getLsbD (p % 8)

/-- An analogue word of the output image last emitted, forces applied. -/
def outWord (m : Mach) (k : Nat) : Nat :=
  match forceOf m.forcesOut 1 1 k with
  | some v => v % 2 ^ 16
  | none => m.mem.ldN (outBase m.tick.outBuf + 0x8000 + 2 * k) 2

/-- Write bytes into the back input buffer; the words written are fresh (R241, R375). -/
def inPut (m : Mach) (b : Nat) (bs : List Byte) (cls : Nat) : Mach :=
  m.store (inBase (1 - m.tick.inBuf) + b) bs cls

/-- Write an analogue word of the back input buffer. -/
def inWord (m : Mach) (k v : Nat) : Mach := m.inPut (0x8000 + 2 * k) (leBytes 2 v) 8

/-! ### Drivers -/

/-- The mode of a channel (R450). -/
def chMode (m : Mach) (n : Nat) : Nat := m.fld (LIO_CHCFG n) 1 0

/-- Drivers may be on (R450, R472). -/
def driving (m : Mach) : Bool := m.bit LIO_DRIVE 16

/-- Set a channel's shadow level, and its driver while drivers may be on and no short holds it off
(R455, R457). -/
def drive (m : Mach) (n : Nat) (v : Bool) : Mach :=
  let m := { m with lio := { m.lio with shadow := BitVec.ofNat 16 (putBits m.lio.shadow.toNat n n (b2n v)) } }
  if m.driving && !(m.lio.shorted.any fun e => e.1 = n) then m.setBit LIO_DRIVE n v else m

/-- The drivers follow the role (R450, R455): a module that drives takes its shadow levels, one that
does not switches every driver off. -/
def driveRole (m : Mach) (on : Bool) : Mach :=
  if on = m.driving then m
  else if on then
    let m := m.setBit LIO_DRIVE 16 true
    (countFrom 0 16).foldl (fun m n =>
      if m.chMode n = 2 ∨ m.chMode n = 3 then m.drive n (m.lio.shadow.getLsbD n) else m) m
  else m.wr LIO_DRIVE 0

/-- The local part of the sample instant (R451, R453): levels, edge records and fault bits enter the
back input buffer through the active maps. -/
def lioSample (m : Mach) : Mach :=
  if !m.bit LIO_CTL 0 then m else
  let m := if !m.bit LIO_MAPDI 31 then m else
    let base := m.fld LIO_MAPDI 17 0
    (countFrom 0 16).foldl (fun m n =>
      if m.chMode n = 0 then m else
        let b := (base + n) / 8
        let v := (m.mem.ld8 (inBase (1 - m.tick.inBuf) + b)).toNat
        m.inPut b [BitVec.ofNat 8 (putBits v ((base + n) % 8) ((base + n) % 8) (b2n (m.bit LIO_LEVEL n)))] 8) m
  if !m.bit LIO_MAPAI 31 then m else
    let base := m.fld LIO_MAPAI 14 0
    let m := (countFrom 0 16).foldl (fun m n =>
      if m.chMode n = 0 then m
      else m.inPut (0x8000 + 2 * (base + 4 * n)) (leBytes 8 (tabGet 0 m.lio.edges n)) 8) m
    ((m.inWord (base + 64) (m.fld LIO_FAULT 15 0)).inWord (base + 65) (m.fld LIO_FAULT 31 16)).inWord
      (base + 66) (m.fld LIO_FOREIGN 15 0)

/-- The signed difference of two 32-bit times (R278). -/
def localDiff32 (a b : Nat) : Int := signed 32 ((a + 2 ^ 32 - b % 2 ^ 32) % 2 ^ 32)

/-- Refuse a schedule record (R456): status 0 BAD_CODE, 1 REFUSED_ZERO, 2 LATE. -/
def schedRefuse (m : Mach) (n status : Nat) : Mach :=
  (if status = 2 then m.incFld LIO_SCHCNT 31 16 else m.incFld LIO_SCHCNT 15 0).ledger 0x0E03 16 n status 0

/-- Take the schedule record of a mode 3 channel at an apply instant whose station time is `at_`
(R456). -/
def schedTake (m : Mach) (n at_ : Nat) : Mach :=
  let base := m.fld LIO_MAPAO 14 0 + 4 * n
  let w3 := m.outWord (base + 3)
  let serial := bits w3 7 0
  if m.chMode n ≠ 3 ∨ !m.bit LIO_MAPAO 31 ∨ serial = tabGet 0 m.lio.serial n then m else
    let m := { m with lio := { m.lio with serial := tabPut 0 m.lio.serial n serial } }
    let fire := m.outWord base + 2 ^ 16 * m.outWord (base + 1)
    let width := m.outWord (base + 2)
    let level := bits w3 9 8
    if level = 3 ∨ bits w3 15 10 ≠ 0 then m.schedRefuse n 0
    else if level = 2 ∧ width = 0 then m.schedRefuse n 1
    else if localDiff32 fire at_ ≤ 0 then m.schedRefuse n 2
    else { m with lio := { m.lio with sched := assocPut m.lio.sched n ⟨fire, width, level⟩ } }

/-- The station time of the running tick's apply instant (R38, R278). -/
def applyTime (m : Mach) : Nat := (m.tick.start + (phaseNs m.tick.len).2.2.2.2) % 2 ^ 32

/-- A mode 2 channel at an apply instant: it takes its point of the emitted image; a driver that a
short switched off is tried again under RETRY after 100 ms (R454, R457). -/
def lioApplyCh (m : Mach) (n : Nat) : Mach :=
  if m.chMode n ≠ 2 ∨ !m.bit LIO_MAPDO 31 then m else
    let v := m.outPoint (m.fld LIO_MAPDO 17 0 + n)
    let m := match m.lio.shorted.find? fun e => e.1 = n with
      | some (_, t) =>
        if v && m.bit (LIO_CHCFG n) 5 && decide (t + 100000000 ≤ m.tick.now) then
          { m with lio := { m.lio with shorted := assocDel m.lio.shorted n } }
        else m
      | none => m
    m.drive n v

/-- The local part of an apply instant (R454 to R456): the emitted image is applied and schedules are
taken, or the tick counts as missed. -/
def lioApply (m : Mach) : Mach :=
  if !m.bit LIO_CTL 0 then m
  else if m.tick.prevEmit then
    let m := { m with lio := { m.lio with missed := 0, fellBack := false } }
    let t := m.applyTime
    (countFrom 0 16).foldl (fun m n => (m.lioApplyCh n).schedTake n t) m
  else { m with lio := { m.lio with missed := m.lio.missed + 1 } }

end Mach

/-! ### The commands -/

/-- LIO_FALLBACK (R454): WDOG ticks in a row have been missed. A module in HALTED whose partner's
role line reads released drives its fallbacks. -/
def execLioFallback (partnerReleased : Bool) (s : State) : Result :=
  .next (s.live fun m =>
    if !m.bit LIO_CTL 0 || m.lio.fellBack || decide (m.lio.missed < m.fld LIO_CTL 15 8) then m else
    let m := if m.mode = 7 ∧ partnerReleased then m.driveRole true else m
    if !m.driving then m else
    let m := { m with lio := { m.lio with fellBack := true } }
    let m := (countFrom 0 16).foldl (fun m n =>
      if m.chMode n = 2 ∧ m.bit (LIO_CHCFG n) 3 then m.drive n (m.bit (LIO_CHCFG n) 4) else m) m
    m.ledger 0x0E04 16 0 m.lio.missed 0)

/-- SCHEDULE_FIRE (R456): plant time reaches FIRE of a channel's pending schedule. -/
def execScheduleFire (ch : Fin 16) (s : State) : Result :=
  .next (s.live fun m =>
    match assocGet m.lio.sched ch with
    | none => m
    | some r =>
      let m := { m with lio := { m.lio with
        sched := assocDel m.lio.sched ch
        pulse := if r.level = 2 then assocPut m.lio.pulse ch ((r.fire + 1000 * r.width) % 2 ^ 32)
          else assocDel m.lio.pulse ch } }
      m.drive ch (decide (r.level ≠ 0)))

/-- PULSE_END (R456): the pulse of a channel has lasted WIDTH. -/
def execPulseEnd (ch : Fin 16) (s : State) : Result :=
  .next (s.live fun m =>
    if m.lio.pulse.any fun e => e.1 = ch.val then
      ({ m with lio := { m.lio with pulse := assocDel m.lio.pulse ch } }).drive ch false
    else m)

/-- EDGE_ACCEPT (R452, R453): a new level has held for DEB; the record takes the time of the raw
transition. -/
def execEdgeAccept (ch : Fin 16) (level : Bool) (raw : BitVec 64) (s : State) : Result :=
  .next (s.live fun m =>
    if m.bit LIO_LEVEL ch = level then m else
    let m := (m.setBit LIO_LEVEL ch level).setBit LIO_LEVEL (ch + 16) level
    let e := tabGet 0 m.lio.edges ch
    let v := raw.toNat % 2 ^ 32 + (bits e 39 32 + 1) % 256 * 2 ^ 32 + b2n level * 2 ^ 40
    { m with lio := { m.lio with edges := tabPut 0 m.lio.edges ch v } })

/-- SHORT_DETECT (R457): the current limit has been active for 100 µs; the driver goes off. -/
def execShortDetect (ch : Fin 16) (s : State) : Result :=
  .next (s.live fun m =>
    if !m.driving || !m.bit LIO_DRIVE ch then m else
    let old := m.bit LIO_FAULT ch
    let m := { m with lio := { m.lio with shorted := assocPut m.lio.shorted ch m.tick.now } }
    let m := (m.setBit LIO_DRIVE ch false).setBit LIO_FAULT ch true
    if old then m else m.ledger 0x0E00 16 ch 0 0)

/-- OPENLOAD_DETECT (R457): an on-state current below 5 mA for 10 ms with OLEN = 1. -/
def execOpenloadDetect (ch : Fin 16) (s : State) : Result :=
  .next (s.live fun m =>
    if !m.driving || !m.bit LIO_DRIVE ch || !m.bit (LIO_CHCFG ch) 6 || m.bit LIO_FAULT (ch + 16) then m
    else (m.setBit LIO_FAULT (ch + 16) true).ledger 0x0E01 16 ch 0 0)

/-- FOREIGN_DETECT (R457): a driving module's channel is off while its terminal reads high. -/
def execForeignDetect (ch : Fin 16) (s : State) : Result :=
  .next (s.live fun m =>
    if !m.driving || m.bit LIO_DRIVE ch || decide (m.chMode ch < 2) || m.bit LIO_FOREIGN ch then m
    else (m.setBit LIO_FOREIGN ch true).ledger 0x0E02 16 ch 0 0)

/-- A cleared SHORT bit allows the driver to switch on again (R457, R472). -/
def Mach.shortClear (m : Mach) (n : Nat) : Mach :=
  ({ m with lio := { m.lio with shorted := assocDel m.lio.shorted n } }).setBit LIO_FAULT n false

/-- SHORT_CLEAR (R457, R472): a 1 is written to a SHORT bit of LIO_FAULT. -/
def execShortClear (ch : Fin 16) (s : State) : Result := .next (s.live fun m => m.shortClear ch)

end Sys2Proof.Machine
end

