-- ==== Sys2Proof/Machine/CanFd.lean ====
section
/-! DEFINITION. The CAN FD ports (R458 to R464, R473). -/

namespace Sys2Proof.Machine

namespace Mach

/-- The kept state of a port. -/
def can (m : Mach) (p : Nat) : Can :=
  match p with
  | 0 => m.can0 | 1 => m.can1 | 2 => m.can2 | _ => m.can3

/-- Replace the kept state of a port. -/
def setCan (m : Mach) (p : Nat) (c : Can) : Mach :=
  match p with
  | 0 => { m with can0 := c } | 1 => { m with can1 := c } | 2 => { m with can2 := c } | _ => { m with can3 := c }

/-- Show the fill of FIFO and queue (R473). -/
def canShow (m : Mach) (p : Nat) : Mach :=
  m.wr (CFD_QSTAT p) ((m.can p).rx.length * 2 ^ 16 + (m.can p).tx.length)

/-- Frames of the transmit queue are lost. -/
def canTxLost (m : Mach) (p n : Nat) : Mach := m.addFld (CFD_CNT p) 15 0 n

/-- The frame at the head of the queue enters arbitration. -/
def canOffer (m : Mach) (p : Nat) : Mach :=
  match (m.can p).tx with
  | f :: _ => m.emit (.can p f)
  | [] => m

/-- Whether a frame passes a filter (R460). -/
def canPasses (m : Mach) (p : Nat) (f : List Byte) : Bool :=
  let idw := leNat (f.take 4)
  (countFrom 0 16).any fun k =>
    let fid := m.rg (CFD_FID p k)
    fid.testBit 31 && decide (fid.testBit 30 = idw.testBit 29) &&
      decide ((bits idw 28 0 ^^^ bits fid 28 0) &&& m.fld (CFD_FMSK p k) 28 0 = 0)

/-- A received frame that passes a filter enters the FIFO (R460). -/
def canReceive (m : Mach) (p : Nat) (f : List Byte) : Mach :=
  if !m.bit (CFD_CTL p) 0 || !m.canPasses p f || ((leNat (f.take 4)).testBit 30 && !m.bit (CFD_CTL p) 2) then m
  else
    let c := m.can p
    if 256 ≤ c.rx.length then (m.setCan p { c with lost := satInc c.lost 65535 }).incFld (CFD_CNT p) 31 16
    else (m.setCan p { c with rx := c.rx ++ [f] }).canShow p

/-- The receive area at the sample instant (R460): up to RXMAX frames move into the image. -/
def canSample (m : Mach) (p : Nat) : Mach :=
  if !m.bit (CFD_CTL p) 0 || !m.bit (CFD_MAPRX p) 31 then m else
    let base := m.fld (CFD_MAPRX p) 14 0
    let max := m.fld (CFD_MAPRX p) 21 16
    let c := m.can p
    let fs := c.rx.take max
    let m := (m.inWord base fs.length).inWord (base + 1) c.lost
    let m := (countFrom 0 fs.length).foldl (fun m i =>
      m.inPut (0x8000 + 2 * (base + 2 + 38 * i)) (fs.getD i []) 8) m
    let m := if c.lost = 0 then m else m.ledger 0x0E07 15 p c.lost 0
    (m.setCan p { c with rx := c.rx.drop max, lost := 0 }).canShow p

/-- The record `i` of a transmit area: its 38 words (R461, R462). -/
def canRecord (m : Mach) (base i : Nat) : List Byte :=
  (countFrom 0 38).flatMap fun k => leBytes 2 (m.outWord (base + 2 + 38 * i + k))

/-- A transmit record that refuses its area (R462): BRS without FDF, or RTR with FDF. -/
def canBadRecord (f : List Byte) : Bool :=
  let idw := leNat (f.take 4)
  let flags := leNat ((f.drop 5).take 1)
  (!idw.testBit 30 && idw.testBit 31) || (idw.testBit 30 && flags.testBit 1)

/-- The transmit area at an apply instant (R462): a changed area is checked and queued. -/
def canApply (m : Mach) (p : Nat) : Mach :=
  if !m.bit (CFD_CTL p) 0 || !m.bit (CFD_MAPTX p) 31 || !m.tick.prevEmit || decide (m.mode ≠ 6) then m else
    let base := m.fld (CFD_MAPTX p) 14 0
    let w := m.outWord base
    let count := bits w 7 0
    let c := m.can p
    if bits w 15 8 = c.serial then m else
      let m := m.setCan p { c with serial := bits w 15 8 }
      let fs := (countFrom 0 (min count 32)).map (m.canRecord base)
      if m.fld (CFD_MAPTX p) 21 16 < count ∨ fs.any canBadRecord then m.emit (.status "BAD_CODE")
      else if m.fld (CFD_STAT p) 1 0 = 2 then m.canTxLost p count
      else
        let c := m.can p
        let room := 64 - c.tx.length
        let idle := c.tx.isEmpty
        let m := (m.setCan p { c with tx := c.tx ++ fs.take room }).canTxLost p (fs.length - room)
        let m := m.canShow p
        if idle then m.canOffer p else m

/-- A port takes part on the bus, or leaves it, with the role (R459): a new primary starts with its
error counters at 0; the old one discards every queued frame that has not started. -/
def canRole (m : Mach) (p : Nat) (primary : Bool) : Mach :=
  let on := primary && m.bit (CFD_CTL p) 0
  if on && m.bit (CFD_CTL p) 1 then
    (m.setBit (CFD_CTL p) 1 false).wr (CFD_STAT p) 0
  else if !on && !m.bit (CFD_CTL p) 1 then
    let c := m.can p
    let m := (m.setCan p { c with tx := [] }).canTxLost p (c.tx.length - 1)
    ((m.canShow p).setBit (CFD_CTL p) 1 true).wr (CFD_STAT p) 3
  else m

/-- Set the transmit error counter and the error state it gives (ISO 11898-1; log entry 20). -/
def canTec (m : Mach) (p tec : Nat) : Mach :=
  let m := m.setFld (CFD_STAT p) 23 16 (min tec 255)
  if m.fld (CFD_STAT p) 1 0 ≤ 1 then m.setFld (CFD_STAT p) 1 0 (if 128 ≤ tec then 1 else 0) else m

end Mach

/-- CAN_FRAME_RECEIVE (R460): a frame of 76 record bytes ends on a port's bus. -/
def execCanFrameReceive (p : PortId) (f : List Byte) (s : State) : Result :=
  .next (s.live fun m => m.canReceive p f)

/-- CAN_FRAME_TRANSMITTED (R460, R462): the frame at the head completes; with SELFRX it is received
too, with the station time of its start. -/
def execCanFrameTransmitted (p : PortId) (time : BitVec 32) (s : State) : Result :=
  .next (s.live fun m =>
    match (m.can p).tx with
    | [] => m
    | f :: rest =>
      let m := (m.setCan p { m.can p with tx := rest }).canTec p (m.fld (CFD_STAT p) 23 16 - 1)
      let m := if m.bit (CFD_CTL p) 6 then m.canReceive p (f.take 8 ++ leBytes 4 time.toNat ++ f.drop 12) else m
      (m.canShow p).canOffer p)

/-- CAN_TX_ERROR (R463): the frame at the head loses arbitration or meets an error. -/
def execCanTxError (p : PortId) (error : Bool) (s : State) : Result :=
  .next (s.live fun m =>
    match (m.can p).tx with
    | [] => m
    | _ :: rest =>
      let m := if error then m.canTec p (m.fld (CFD_STAT p) 23 16 + 8) else m
      if m.bit (CFD_CTL p) 4 then
        (((m.setCan p { m.can p with tx := rest }).canTxLost p 1).canShow p).canOffer p
      else m.canOffer p)

/-- CAN_BUSOFF (R464): the queue is discarded; recovery starts at once with AUTOREC. -/
def execCanBusoff (p : PortId) (s : State) : Result :=
  .next (s.live fun m =>
    if m.bit (CFD_CTL p) 1 || decide (m.fld (CFD_STAT p) 1 0 = 2) then m else
    let c := m.can p
    let m := ((m.setCan p { c with tx := [] }).canTxLost p c.tx.length).canShow p
    let m := (m.setFld (CFD_STAT p) 1 0 2).ledger 0x0E05 15 p 0 0
    if m.bit (CFD_CTL p) 5 then m.setBit (CFD_STAT p) 3 true else m)

/-- CAN_RECOVER (R464, R473): CFD_CTL.RECOVER. -/
def execCanRecover (p : PortId) (s : State) : Result :=
  .next (s.live fun m => if m.fld (CFD_STAT p) 1 0 = 2 then m.setBit (CFD_STAT p) 3 true else m)

/-- CAN_RECOVERED (R464): the recovery sequence completes; the port is error-active. -/
def execCanRecovered (p : PortId) (s : State) : Result :=
  .next (s.live fun m =>
    if m.bit (CFD_STAT p) 3 then (m.wr (CFD_STAT p) 0).ledger 0x0E06 15 p 0 0 else m)

end Sys2Proof.Machine
end

