-- ==== Sys2Proof/Machine/Record.lean ====
section
/-! DEFINITION. The records and pool cells of the accession journal (R346 to R349), and the part of
a firing's delivery set that a cluster still has to fetch (R143, R353). -/

namespace Sys2Proof.Machine

namespace Mach

/-- The STATE of an accession's record (R349). -/
def recState (m : Mach) (n : Nat) : Nat := m.mem.ldN (recordAt n) 1

/-- Set the STATE of an accession's record. -/
def setRecState (m : Mach) (n v : Nat) : Mach := { m with mem := m.mem.stN (recordAt n) 1 v }

/-- The order class of an accession. -/
def recClass (m : Mach) (n : Nat) : Nat := m.mem.ldN (recordAt n + 2) 1

/-- The pool cell of an accession; 0xFFFF once released. -/
def recCell (m : Mach) (n : Nat) : Nat := m.mem.ldN (recordAt n + 8) 2

/-- The payload length of an accession. -/
def recLen (m : Mach) (n : Nat) : Nat := m.mem.ldN (recordAt n + 10) 2

/-- The next accession number (R346). -/
def nextAcc (m : Mach) : Nat := m.rg64 ACJ_NEXT

/-- An accession number that can still have a record: its slot belongs to it (R348). -/
def accLive (m : Mach) (n : Nat) : Bool := decide (1 ≤ n) && decide (n < m.nextAcc) && decide (m.nextAcc ≤ n + 65536)

/-- The cluster that the routing table assigns to an order class: one bit for each class, the
lowest first (R188). -/
def routeOf (m : Mach) (cls : Nat) : Nat := b2n ((m.prog.route.getD (cls / 8) 0).getLsbD (cls % 8))

/-- The next accession of a cluster's delivery set that this firing has not fetched (R143). -/
def toFetch (m : Mach) (cl : Nat) : Option Nat :=
  let k := m.kiln cl
  k.deliv.find? fun n => !k.fetched.contains n

/-- The bytes that ACQ writes: the cell with OFFERS updated, as far as LEN (R144, R348). -/
def acqBytes (m : Mach) (n : Nat) : List Byte :=
  let offers := satInc (m.mem.ldN (recordAt n + 3) 1) 255
  let c := m.mem.ldBytes (cellAt (m.recCell n)) (32 + min 256 (m.recLen n))
  (c.take 27) ++ leBytes 1 offers ++ leBytes 4 0 ++ c.drop 32

/-- An accession is fetched: OFFERS rises in its record and cell (R144). -/
def fetchAcc (m : Mach) (cl n : Nat) : Mach :=
  let v := satInc (m.mem.ldN (recordAt n + 3) 1) 255
  let m := { m with mem := (m.mem.stN (recordAt n + 3) 1 v).stN (cellAt (m.recCell n) + 27) 1 v }
  m.modKiln cl fun k => { k with fetched := k.fetched ++ [n] }

/-- What ACMP answers for an accession number (R146): OK 0, FULL 2, UNKNOWN 3, DONE 4. -/
def acmpStatus (m : Mach) (cl n : Nat) : Nat :=
  let k := m.kiln cl
  if !m.accLive n || decide (m.routeOf (m.recClass n) ≠ cl) then 3
  else if k.comps.any (fun e => e.1 = n % 65536) || decide (m.recState n = 4) || decide (m.recState n = 5) then 4
  else if !(k.fetched.contains n || decide (m.recState n = 3)) then 3
  else if 4096 ≤ k.comps.length then 2
  else 0

end Mach

end Sys2Proof.Machine
end

