-- ==== Sys2Proof/Machine/Update.lean ====
section
/-! DEFINITION. The provenance slots and reports (R399 to R403), firmware images, slots and trials
(R404 to R411, R416), and the configuration copies (R412, R413). -/

namespace Sys2Proof.Machine

/-- The first `n` bytes of a list, filled up with 0. -/
def fixLen (n : Nat) (bs : List Byte) : List Byte := (bs ++ List.replicate n 0).take n

/-- A little-endian field of a byte list. -/
def fieldAt (bs : List Byte) (o n : Nat) : Nat := leNat ((bs.drop o).take n)

namespace Mach

/-! ### Provenance slots (R399 to R401) -/

/-- The value of a provenance slot. -/
def psOf (m : Mach) (n : Nat) : List Byte := m.upd.ps.getD n (List.replicate 48 0)

/-- Show the selected slot in CUR_PSDATA (R418). -/
def psShow (m : Mach) : Mach :=
  let v := m.psOf (m.fld CUR_PSSEL 2 0)
  (countFrom 0 12).foldl (fun m k => m.wr (CUR_PSDATA k) (fieldAt v (4 * k) 4)) m

/-- Extend a slot by a measurement: source 1 ROM, 2 firmware, 3 session (R399, R401). -/
def psExtend (m : Mach) (n source : Nat) (bs : List Byte) : Mach :=
  let meas := fixLen 48 bs
  let v := sha384 (m.psOf n ++ meas)
  let k := m.upd.exts
  let plant := if m.bit TMB_STAT 0 then m.tick.now else 0
  let m := if k < 16384 then m.putWords (0x13D10000 + 64 * k)
      (leBytes 4 k ++ leBytes 1 n ++ leBytes 1 source ++ leBytes 2 0 ++ leBytes 8 plant ++ meas) else m
  let m := { m with upd := { m.upd with ps := setAt m.upd.ps n v, exts := k + 1 } }
  (m.incFld (CUR_PSCNT n) 31 0).psShow

/-! ### The Provenance report (R402, R403) -/

/-- The bytes of the running number of BOOT entries in the backup record (R307). -/
def boots (m : Mach) : Nat := m.rg (RTC_BKP 4)

/-- The entries in the measurement log. -/
def logged (m : Mach) : Nat := min m.upd.exts 16384

/-- The bank of a slot (R395). -/
def bankOf (slot : Nat) : Nat := if slot = 0 then 0x40000000 else 0x60000000

/-- The report without its signature (R403). -/
def reportBody (m : Mach) (nonce : List Byte) : List Byte :=
  let valid := m.bit TMB_STAT 0
  leBytes 4 0x50525650 ++ leBytes 1 1 ++ leBytes 1 m.mode ++
  leBytes 1 (b2n (decide (16384 < m.upd.exts)) + 2 * b2n (m.bit CUR_BOOTSTAT 3) + 4 * m.upd.booted + 8 * b2n valid) ++
  leBytes 1 0 ++ fixLen 32 nonce ++ fixLen 16 Config.serial ++ leBytes 4 m.boots ++ leBytes 4 m.upd.exts ++
  leBytes 8 (if valid then m.tick.now else 0) ++ leBytes 4 (m.mem.ldN (bankOf m.upd.booted + 16) 4) ++
  leBytes 4 (if m.upd.booted = 0 then m.upd.cfgA.gen else m.upd.cfgB.gen) ++ leBytes 8 m.prog.gen ++
  (countFrom 0 8).flatMap m.psOf ++ leBytes 24 0

/-- The answer to a Provenance request of one type (R402, R403), if the request is served: a malformed
request and one beyond the rate get none. Seconds are those of plant time. -/
def provenance (m : Mach) (q : PvReq) (type len : Nat) (answer : Mach → List Byte) : Mach :=
  let served := decide (3 ≤ m.mode) && m.bit CUR_PVCFG 0 && (!q.pair || decide (m.mode = 6))
  let wellFormed := decide (q.data.length = len) && decide (fieldAt q.data 0 2 = 0x5650) &&
    decide (fieldAt q.data 2 1 = 1) && decide (fieldAt q.data 3 1 = type) && decide (fieldAt q.data 6 2 = 0)
  let sec := m.tick.now / 1000000000
  let n := if sec = m.upd.pvSec then m.upd.pvCnt else 0
  if !served || !wellFormed || decide (m.fld CUR_PVCFG 15 8 ≤ n) then m
  else
    let head := q.data.take 3 ++ leBytes 1 (type + 0x80) ++ (q.data.drop 4).take 4
    let m := { m with upd := { m.upd with pvSec := sec, pvCnt := n + 1 } }
    m.emit (.host q.addr q.port.toNat (head ++ answer m))

/-! ### Firmware images (R404 to R406) -/

/-- The part table of a header: KIND, the reserved bytes, OFFSET and LEN. -/
def partTab (h : List Byte) : List (Nat × Nat × Nat × Nat) :=
  (countFrom 0 8).map fun k =>
    let o := 88 + 16 * k
    (fieldAt h o 1, fieldAt h (o + 1) 3 + fieldAt h (o + 12) 4, fieldAt h (o + 4) 4, fieldAt h (o + 8) 4)

/-- The header fields of check 5 of R405. -/
def headerOk (h : List Byte) : Bool :=
  let parts := fieldAt h 6 2
  let len := fieldAt h 24 4
  let used := (partTab h).take parts
  decide (fieldAt h 0 4 = 0x5746474E) && decide (fieldAt h 4 2 = 1) && decide (parts ≤ 8) &&
  decide (fieldAt h 8 4 = 0x8400) && decide (fieldAt h 16 1 = 0) && decide (len ≤ 67108864) &&
  decide (fieldAt h 30 2 = 0) && decide (fieldAt h 216 40 = 0) && decide (fieldAt h 360 152 = 0) &&
  ([1, 2, 3].all fun k => decide ((used.filter fun p => p.1 = k).length = 1)) &&
  (used.all fun p => decide (1 ≤ p.1) && decide (p.1 ≤ 3) && decide (p.2.1 = 0) && decide (p.2.2.1 + p.2.2.2 ≤ len)) &&
  (((partTab h).drop parts).all fun p => p == (0, 0, 0, 0)) &&
  (used.all fun p => used.all fun q => p.1 == q.1 ||
    decide (p.2.2.1 + p.2.2.2 ≤ q.2.2.1) || decide (q.2.2.1 + q.2.2.2 ≤ p.2.2.1) ||
    decide (p.2.2.2 = 0) || decide (q.2.2.2 = 0))

/-- Check 6 of R405: a known key, and its signature over bytes 0 to 255. -/
def signatureOk (h : List Byte) : Bool :=
  match Config.romKey (fieldAt h 352 8) with
  | none => false
  | some key => Config.ecdsaVerify key (sha384 (h.take 256)) ((h.drop 256).take 96)

/-- Checks 4 to 8 of R405 on a header: the status code of the first that fails, 0 for none. The format
in use is none when no configuration copy is usable. -/
def headerCheck (h : List Byte) (fmt : Option Nat) : Nat :=
  if fieldAt h 24 4 = 0 ∨ fieldAt h 6 2 = 0 then 2
  else if !headerOk h then 3
  else if !signatureOk h then 4
  else if Config.boardRevision < fieldAt h 12 2 ∨ fieldAt h 14 2 < Config.boardRevision then 5
  else if fmt.any fun f => decide (f < fieldAt h 22 2) then 6
  else 0

/-- The names of the status codes of the update chapter. -/
def updName (code : Nat) : String :=
  ["OK", "BUSY", "REFUSED_ZERO", "BAD_HEADER", "BAD_SIGNATURE", "WRONG_HARDWARE", "CFG_FORMAT", "BAD_DIGEST",
    "SLOT_ACTIVE", "TRIAL_PENDING", "NOT_TRIAL", "EXPIRED", "BAD_IMAGE", "PS_DENIED", "BAD_CODE", "NOT_BENCH"].getD code ""

/-- The status of an update command (R419). -/
def updDone (m : Mach) (code : Nat) : Mach := (m.setFld UPD_STAT 31 24 code).emit (.status (updName code))

/-- A slot of the boot control record. -/
def slotOf (m : Mach) (k : Nat) : Slot := if k = 0 then m.upd.bcr.a else m.upd.bcr.b

/-- Show the boot control record in the UPD registers (R419). -/
def bcrShow (m : Mach) : Mach :=
  let show1 (m : Mach) (k : Nat) : Mach :=
    let s := m.slotOf k
    m.wr (UPD_SLOT k) (s.state + (if s.state = 0 then 0 else s.version / 256 * 256))
  ((show1 (show1 m 0) 1).setFld UPD_STAT 13 12 m.upd.bcr.trialState).setBit UPD_STAT 11 (decide (m.upd.booted = 1))

/-- Write the boot control record (R407). -/
def bcrPut (m : Mach) (b : Bcr) : Mach :=
  ({ m with upd := { m.upd with bcr := { b with seq := m.upd.bcr.seq + 1, readable := true } } }).bcrShow

/-- Set a slot in the boot control record. -/
def slotPut (m : Mach) (k : Nat) (s : Slot) : Mach :=
  m.bcrPut (if k = 0 then { m.upd.bcr with a := s } else { m.upd.bcr with b := s })

/-- The pair protocol version of the booted firmware (R321, R404). -/
def proto (m : Mach) : Nat := m.mem.ldN (bankOf m.upd.booted + 28) 2

/-- A session's update commands are served outside BOOT and RECOVERY (R405). -/
def updServed (m : Mach) : Bool := decide (3 ≤ m.mode)

/-- Start to store an image whose header has passed (R406): the slot becomes WRITING, and the transfer
asks for admission of its bank. -/
def updStart (m : Mach) (slot : Nat) (h : List Byte) : Mach :=
  let m := m.slotPut slot { m.slotOf slot with state := 1 }
  let m := (m.setFld UPD_STAT 10 8 2).wr UPD_RXKIB 0
  let diff := m.upd.partProto.any fun p => p ≠ fieldAt h 28 2
  let m := { m.setBit UPD_STAT 15 diff with upd := { m.upd with xfer := some (slot, h) } }
  m.admWait (4 + slot) .nor

/-- The transfer ends. -/
def updEnd (m : Mach) : Mach :=
  ({ (m.setFld UPD_STAT 10 8 0) with upd := { m.upd with xfer := none } }).admDrop .nor

/-- Store an image body as read back (R406): VALID on a match of its digest, else FAILED. Answers
whether it matched. -/
def updStore (m : Mach) (slot : Nat) (h body : List Byte) : Bool × Mach :=
  let m := { m with mem := m.mem.stBytes (bankOf slot + 512) body }
  let m := m.wr UPD_RXKIB ((body.length / 1024) % 2 ^ 32)
  if sha384 body = (h.drop 40).take 48 ∧ body.length + 512 = fieldAt h 24 4 then
    let m := { m with mem := m.mem.stBytes (bankOf slot) (fixLen 512 h) }
    (true, (m.slotPut slot ⟨2, fieldAt h 16 4⟩).ledger 0x0B00 12 0 0 0)
  else (false, m.slotPut slot { m.slotOf slot with state := 4 })

/-! ### Trials (R408 to R411) -/

/-- No cluster and no engine is FAILED, and BOOT ended with no step failure (R410). -/
def trialSound (m : Mach) : Bool :=
  m.upd.bootOk && decide (m.fld (KLN_CLSTAT 0) 2 0 ≠ 4) && decide (m.fld (KLN_CLSTAT 1) 2 0 ≠ 4) && !m.bit DLE_STAT 1

/-- The conditions of a confirmation, without the settle time (R410). -/
def trialReady (m : Mach) : Bool :=
  m.trialSound && ((decide (m.mode = 3) && !m.tick.haltPol) ||
    ((decide (m.mode = 5) || decide (m.mode = 6)) && m.bit PTL_HEALTH 0))

/-- A trial is confirmed (R410). -/
def trialConfirm (m : Mach) : Mach :=
  let s := m.upd.bcr.trialSlot
  let b := m.upd.bcr
  let b := if s = 0 then { b with a := { b.a with state := 3 } } else { b with b := { b.b with state := 3 } }
  ((m.bcrPut { b with active := s, trialState := 0 }).wr UPD_TRIALLEFT 0).ledger 0x0B02 12 0 0 0

/-- The window of the running trial has ended (R411). -/
def trialExpired (m : Mach) : Bool := m.bit UPD_STAT 14

/-! ### Configuration copies (R412, R413) -/

/-- The configuration copy of a bank. -/
def cfgOf (m : Mach) (k : Nat) : CfgCopy := if k = 0 then m.upd.cfgA else m.upd.cfgB

/-- Store a configuration copy in a bank. -/
def cfgPut (m : Mach) (k : Nat) (c : CfgCopy) : Mach :=
  { m with upd := if k = 0 then { m.upd with cfgA := c } else { m.upd with cfgB := c } }

/-- Show the copy in use (R419). -/
def cfgShow (m : Mach) (c : CfgCopy) : Mach := m.wr UPD_CFG (c.fmt % 256 * 2 ^ 24 + c.gen % 2 ^ 24)

/-- A configuration is committed (R412): the copy of the active bank takes it and PS4 is extended (R400). -/
def cfgTake (m : Mach) (c : CfgCopy) : Mach := ((m.cfgPut m.upd.bcr.active c).cfgShow c).psExtend 4 2 c.digest

/-- A trial is armed or running, which refuses configuration writes (R413). -/
def trialPending (m : Mach) : Bool := decide (m.upd.bcr.trialState ≠ 0)

end Mach

/-! ### The commands -/

/-- PS_EXTEND (R399 to R401, R418): CUR_PSCTL.GO for a slot with the 48 bytes of CUR_PSIN. -/
def execPsExtend (n : BitVec 3) (src : PsSource) (data : BitVec 384) (s : State) : Result :=
  .next (s.live fun m =>
    let bs := leBytes 48 data.toNat
    let m := (countFrom 0 12).foldl (fun m k => m.wr (CUR_PSIN k) (fieldAt bs (4 * k) 4)) (m.setFld CUR_PSCTL 2 0 n.toNat)
    let (ok, code) : Bool × Nat := match src with
      | .rom => (decide (n.toNat < 4) && decide (m.mode = 1), 1)
      | .firmware => (decide (4 ≤ n.toNat) && decide (n.toNat < 7), 2)
      | .session => (decide (n = 7), 3)
    if ok then (m.psExtend n.toNat code bs).emit (.status "OK") else m.emit (.status "PS_DENIED"))

/-- PROVENANCE_REPORT (R402, R403): a TYPE 1 request. -/
def execProvenanceReport (q : PvReq) (s : State) : Result :=
  .next (s.live fun m => m.provenance q 1 40 fun m =>
    let body := m.reportBody (q.data.drop 8)
    body ++ fixLen 96 (Config.ecdsaSign (sha384 body)))

/-- LOG_PART (R402, R403): a TYPE 2 request. -/
def execLogPart (q : PvReq) (s : State) : Result :=
  .next (s.live fun m => m.provenance q 2 8 fun m =>
    let first := 16 * fieldAt q.data 4 2
    let n := min 16 (m.logged - first)
    leBytes 4 m.logged ++ leBytes 4 first ++ leBytes 1 n ++ leBytes 7 0 ++
      m.mem.ldBytes (0x13D10000 + 64 * first) (64 * n))

/-- CERTIFICATE (R402, R403): a TYPE 3 request, answered from the certificate in MRAM. Its first two bytes
there are its length (DESIGN CHOICE, log entry 30). -/
def execCertificate (q : PvReq) (s : State) : Result :=
  .next (s.live fun m => m.provenance q 3 8 fun m =>
    let n := min 1200 (m.mem.ldN 0x13F00000 2)
    leBytes 2 n ++ leBytes 2 0 ++ m.mem.ldBytes 0x13F00002 n)

/-- BEGIN (R405, R406, R416): a session names a slot and sends the header. -/
def execBegin (slot : Fin 2) (header : List Byte) (s : State) : Result :=
  .next (s.live fun m =>
    if !m.updServed then m else
    let m := m.setFld UPD_CTL 7 7 slot
    if m.upd.xfer.isSome then m.updDone 1
    else if slot.val = m.upd.booted then m.updDone 8
    else if m.trialPending then m.updDone 9
    else
      let c := Mach.headerCheck header (some (m.fld UPD_CFG 31 24))
      if c ≠ 0 then m.updDone c else (m.updStart slot header).updDone 0)

/-- ABORT (R406): the transfer stops and the slot stays WRITING. -/
def execAbort (s : State) : Result :=
  .next (s.live fun m => if m.updServed then m.updEnd.updDone 0 else m)

/-- UPDATE_BODY_COMPLETE (R406): the body is written and read back under its grant. -/
def execUpdateBodyComplete (body : List Byte) (s : State) : Result :=
  .next (s.live fun m =>
    match m.upd.xfer with
    | none => m
    | some (slot, h) =>
      if !(m.adm.granted.any fun g => g.who = AdmWho.nor) then m else
        let (ok, m) := m.updStore slot h body
        m.updEnd.updDone (if ok then 0 else 7))

/-- ACTIVATE (R408): arms a trial of a slot. -/
def execActivate (slot : Fin 2) (s : State) : Result :=
  .next (s.live fun m =>
    if !m.updServed then m else
    let m := m.setFld UPD_CTL 7 7 slot
    let st := (m.slotOf slot).state
    if slot.val = m.upd.booted then m.updDone 8
    else if st ≠ 2 ∧ st ≠ 3 then m.updDone 12
    else if m.trialPending then m.updDone 9
    else (m.bcrPut { m.upd.bcr with trialSlot := slot, trialState := 1 }).updDone 0)

/-- CONFIRM (R410, R411): by a session, without the settle time. Which status a trial gets whose
conditions are not met is open. -/
def execConfirm (s : State) : Result :=
  .next (s.live fun m =>
    if !m.updServed then m
    else if m.upd.bcr.trialState ≠ 2 then m.updDone 10
    else if m.trialExpired then m.updDone 11
    else if m.trialReady then (m.trialConfirm).updDone 0
    else let (c, m) := m.free; m.updDone (c % 256))

/-- RECOVER (R414): the next reset enters RECOVERY. -/
def execRecover (s : State) : Result :=
  .next (s.live fun m => if m.updServed then (m.bcrPut { m.upd.bcr with recover := true }).updDone 0 else m)

/-- DISARM (R408): cancels an armed trial. -/
def execDisarm (s : State) : Result :=
  .next (s.live fun m =>
    if !m.updServed then m
    else if m.upd.bcr.trialState = 1 then (m.bcrPut { m.upd.bcr with trialState := 0 }).updDone 0
    else m.updDone 0)

/-- TRIAL_AUTO_CONFIRM (R410): the conditions have held for SETTLE seconds. -/
def execTrialAutoConfirm (s : State) : Result :=
  .next (s.live fun m =>
    if m.upd.bcr.trialState = 2 ∧ m.bit UPD_TRIAL 24 ∧ !m.trialExpired ∧ m.trialReady then m.trialConfirm else m)

/-- TRIAL_EXPIRY (R411): the trial window ends without confirmation. -/
def execTrialExpiry (s : State) : Result :=
  .next (s.live fun m =>
    if m.upd.bcr.trialState = 2 ∧ !m.trialExpired then
      ((m.setBit UPD_STAT 14 true).wr UPD_TRIALLEFT 0).ledger 0x0B03 12 0 0 0
    else m)

/-- CONFIGURATION_COMMIT (R319, R400, R412, R413): a session's configuration is written to the active bank's
copy and measured, or refused during a trial. The primary passes it on (log entry 43). -/
def execConfigurationCommit (c : CfgCommit) (s : State) : Result :=
  .next (s.live fun m =>
    if !m.updServed then m
    else if m.trialPending then m.emit (.status "TRIAL_PENDING")
    else
      let fmt := m.fld UPD_CFG 31 24
      let regs := c.regs.map fun e => (e.1.toNat, e.2.toNat)
      let d := Config.cfgDigest fmt c.gen.toNat regs
      let copy : CfgCopy := ⟨true, fmt, c.gen.toNat, regs, d⟩
      let m := (m.cfgTake copy).emit (.status "OK")
      if m.mode = 6 then
        m.sendSession 2 (leBytes 4 c.gen.toNat ++ regs.flatMap fun e => leBytes 4 e.1 ++ leBytes 4 e.2)
      else m)

end Sys2Proof.Machine
end

