-- ==== Sys2Proof/Machine/Journal.lean ====
section
/-! DEFINITION. The accession journal and the host protocol (R345 to R350, R354 to R364): client states,
the numbering, replication and commit of orders, completions and their acknowledgment. -/

namespace Sys2Proof.Machine

namespace Mach

/-! ### The journal in memory (R348 to R351) -/

/-- The client state `k` (R348). -/
def cliAt (k : Nat) : Nat := 0x03801000 + 64 * k

/-- Where a byte of journal SRAM stands in the journal mirror (R351). -/
def mirrorOf (a : Nat) : Nat := a - 0x03800000 + 0x11000000

/-- A write of the journal block (master class 5). -/
def jst (m : Mach) (a : Nat) (bs : List Byte) : Mach := m.store a bs 5

/-- Copy bytes of journal SRAM into the mirror. -/
def toMirror (m : Mach) (a n : Nat) : Mach := m.jst (mirrorOf a) (m.mem.ldBytes a n)

/-- A field of a client state (R350). -/
def cliF (m : Mach) (k o n : Nat) : Nat := m.mem.ldN (cliAt k + o) n

/-- Set a field of a client state. -/
def cliPut (m : Mach) (k o n v : Nat) : Mach := m.jst (cliAt k + o) (leBytes n v)

/-- The enabled client state of an identity. -/
def clientOf (m : Mach) (id : Nat) : Option Nat :=
  if id = 0 then none
  else (countFrom 0 256).find? fun k => decide (m.cliF k 0 4 = id) && (m.cliF k 4 1).testBit 0

/-- REQAUTH of a client. -/
def reqAuth (m : Mach) (k : Nat) : Bool := (m.cliF k 4 1).testBit 1

/-- The record slots that are not free, in rising order. -/
def usedSlots (m : Mach) : List Nat := (m.mem.items 0x03900000 16 65536).filter fun s => decide (m.recState s ≠ 0)

/-- The pool cells in use (R348): those of records not yet delivered. -/
def usedCells (m : Mach) : List Nat :=
  (m.usedSlots.filter fun s => decide (m.recState s ≤ 2)).map m.recCell

/-- A free pool cell: the lowest. -/
def freeCell (m : Mach) : Option Nat :=
  let used := m.usedCells
  (countFrom 0 (min 3184 (used.length + 1))).find? fun c => !used.contains c

/-- The accession number whose record stands in a slot (R348). -/
def accOf (m : Mach) (slot : Nat) : Nat :=
  let last := m.nextAcc - 1
  last - (last + 65536 - slot % 65536) % 65536

/-- The record of a client with a CSEQ: its slot (R362, R364). -/
def recOfCseq (m : Mach) (k cseq : Nat) : Option Nat :=
  m.usedSlots.find? fun s => decide (m.mem.ldN (recordAt s + 1) 1 = k) && decide (m.mem.ldN (recordAt s + 4) 4 = cseq)

/-- Show the counts of the journal in its registers (R367). -/
def acjShow (m : Mach) : Mach :=
  let cells := m.usedCells.length
  let m := m.setFld ACJ_INFLIGHT 27 16 cells
  let m := (m.setFld ACJ_MIRLAG 31 15 m.usedSlots.length).setFld ACJ_MIRLAG 7 0 (min 255 m.jrn.lag.length)
  (m.setBit ACJ_STAT 4 (decide (3184 ≤ cells))).setBit ACJ_STAT 3 (decide (m.recState m.nextAcc ≠ 0))

/-- The role that the journal shows for a mode (R33, R367). -/
def acjRole (md : Nat) : Nat :=
  match md with
  | 4 | 5 => 1
  | 6 => 2
  | 7 => 3
  | _ => 0

/-- The module acts as primary: it is PRIMARY and its own line reads back asserted (R313). -/
def actsPrimary (m : Mach) : Bool := decide (m.mode = 6) && m.bit PTL_STAT 8

/-- Primary without a healthy standby (R315). -/
def solo (m : Mach) : Bool := m.bit CUR_PAIR 0

/-! ### Messages (R357 to R359) -/

end Mach

/-- A message of the accession protocol (R357): TYPE, AUTH, CLIENT, CSEQ, its body, the bytes under its
MAC and the MAC. -/
structure AccMsg where
  type   : Nat
  auth   : Bool
  client : Nat
  cseq   : Nat
  body   : List Byte
  head   : List Byte
  mac    : List Byte
  deriving DecidableEq, Repr

/-- What a datagram holds (R357, R358): nothing, when its length is wrong; otherwise a malformed message
or a message. -/
def accParse (bs : List Byte) : Option (Option AccMsg) :=
  let len := fieldAt bs 6 2
  let flags := fieldAt bs 4 1
  let auth := flags.testBit 0
  let type := fieldAt bs 3 1
  if bs.length < 16 ∨ bs.length ≠ 16 + len + (if auth then 32 else 0) then none else
    let body := (bs.drop 16).take len
    let fits :=
      match type with
      | 0x01 => decide (8 ≤ len) && decide (len = 8 + fieldAt body 2 2) && decide (fieldAt body 1 1 = 0) && decide (fieldAt body 4 4 = 0)
      | 0x05 => decide (len = 8)
      | 0x06 => decide (len = 0)
      | _ => false
    if fieldAt bs 0 2 = 0x4A41 ∧ fieldAt bs 2 1 = 1 ∧ flags / 4 = 0 ∧ fieldAt bs 5 1 = 0 ∧ fits = true then
      some (some ⟨type, auth, fieldAt bs 8 4, fieldAt bs 12 4, body, bs.take (16 + len), bs.drop (16 + len)⟩)
    else some none

namespace Mach

/-- Send a message to the host (R357, R359): with a MAC to a client that asks for one. -/
def hostSend (m : Mach) (p : Nat) (addr : List Byte) (port type : Nat) (dup : Bool) (client cseq : Nat)
    (body : List Byte) : Mach :=
  let k := m.clientOf client
  let auth := k.any m.reqAuth
  let msg := leBytes 2 0x4A41 ++ leBytes 1 1 ++ leBytes 1 type ++ leBytes 1 (b2n auth + 2 * b2n dup) ++ leBytes 1 0 ++
    leBytes 2 body.length ++ leBytes 4 client ++ leBytes 4 cseq ++ body
  let mac := if auth then hmac256 ((assocGet m.jrn.keys (k.getD 0)).getD []) msg else []
  (m.wr (HST_TXCNT p) ((m.rg (HST_TXCNT p) + 1) % 2 ^ 32)).emit (.host addr port (msg ++ mac))

/-- The host port that a message without a request leaves by: the lowest in service. -/
def outPort (m : Mach) : Nat := if m.bit (HST_CTL 0) 0 then 0 else 1

/-- REFUSE (R358). -/
def refuseOrder (m : Mach) (p : Nat) (h : HostMsg) (q : AccMsg) (status retry detail : Nat) : Mach :=
  (m.incFld ACJ_REFCNT 31 16).hostSend p h.addr h.port.toNat 3 false q.client q.cseq
    (leBytes 1 status ++ leBytes 1 retry ++ leBytes 2 0 ++ leBytes 4 detail)

/-- The plant time at which a record was numbered (R362). -/
def taccOf (m : Mach) (slot : Nat) : Nat := tabGet 0 m.jrn.tacc (slot % 65536)

/-- ACK for the order in a slot (R358). -/
def ackOrder (m : Mach) (p : Nat) (addr : List Byte) (port slot : Nat) (dup : Bool) : Mach :=
  m.hostSend p addr port 2 dup (m.cliF (m.mem.ldN (recordAt slot + 1) 1) 0 4) (m.mem.ldN (recordAt slot + 4) 4)
    (leBytes 8 (m.accOf slot) ++ leBytes 8 (m.taccOf slot))

/-- COMPLETE for the record in a slot, to the address of its client (R358, R363). -/
def sendComplete (m : Mach) (slot : Nat) : Mach :=
  let k := m.mem.ldN (recordAt slot + 1) 1
  m.hostSend m.outPort (m.mem.ldBytes (cliAt k + 20) 16) (m.cliF k 36 2) 4 false (m.cliF k 0 4)
    (m.mem.ldN (recordAt slot + 4) 4)
    (leBytes 8 (m.accOf slot) ++ leBytes 8 (tabGet 0 m.jrn.compTick slot) ++ m.mem.ldBytes (recordAt slot + 12) 4 ++
      leBytes 1 (b2n (decide (m.recState slot = 5))) ++ leBytes 3 0)

/-- A message of a client passes R359. -/
def macOk (m : Mach) (q : AccMsg) : Bool :=
  match m.clientOf q.client with
  | none => true
  | some k =>
    if q.auth then
      match assocGet m.jrn.keys k with
      | some key => decide (hmac256 key q.head = q.mac)
      | none => false
    else !m.reqAuth k

/-! ### Replication (R355) -/

/-- Send an ORDER message with entries to the partner (R355). -/
def sendOrder (m : Mach) (entries : List Byte) : Mach := m.sendLink 0x20 (leBytes 8 m.jrn.cmtno ++ entries)

/-- A NEW entry: the record and the cell as far as its payload reaches. -/
def newEntry (m : Mach) (n : Nat) : List Byte :=
  leBytes 1 1 ++ leBytes 3 0 ++ m.mem.ldBytes (recordAt n) 16 ++ m.mem.ldBytes (cellAt (m.recCell n)) (32 + m.recLen n)

/-- A RELEASE entry. -/
def releaseEntry (n : Nat) : List Byte := leBytes 1 2 ++ leBytes 3 0 ++ leBytes 8 n

/-- A CLIENT entry. -/
def clientEntry (m : Mach) (k : Nat) : List Byte :=
  leBytes 1 3 ++ leBytes 3 0 ++ leBytes 4 k ++ m.mem.ldBytes (cliAt k + 20) 18

/-- A primary keeps the source of a valid message in its client state, and replicates a change (R350, R355). -/
def clientSeen (m : Mach) (k : Nat) (h : HostMsg) : Mach :=
  let src := fixLen 16 h.addr ++ leBytes 2 h.port.toNat
  if m.mem.ldBytes (cliAt k + 20) 18 = src then m
  else
    let m := (m.jst (cliAt k + 20) src).toMirror (cliAt k) 64
    m.sendOrder (m.clientEntry k)

/-! ### The commit of an order (R345, R347) -/

/-- Whether a pending order is committed: it stands in both modules' journal SRAM and in one mirror; for
a solo primary its own SRAM and mirror count. -/
def ordered (m : Mach) (o : PendOrder) : Bool :=
  (m.solo || o.acked) && (o.ownMirror || (o.partMirror && !m.solo))

/-- Commit a pending order: it is accepted, and its ACK leaves (R347). -/
def orderCommit (m : Mach) (o : PendOrder) : Mach :=
  let m := { m with jrn := { m.jrn with
    pend := m.jrn.pend.filter fun x => x.n ≠ o.n
    cmtno := max m.jrn.cmtno o.n } }
  let m := m.setRecState o.n 2
  m.ackOrder m.outPort o.addr o.port (o.n % 65536) false

/-- Commit every pending order that can be. -/
def orderCommits (m : Mach) : Mach :=
  if !m.actsPrimary then m else
  ((m.jrn.pend.filter m.ordered).foldl orderCommit m).acjShow

/-- Change a pending order. -/
def pendMap (m : Mach) (n : Nat) (f : PendOrder → PendOrder) : Mach :=
  { m with jrn := { m.jrn with pend := m.jrn.pend.map fun o => if o.n = n then f o else o } }

/-! ### Handling a message (R360 to R364) -/

/-- The successor of a CSEQ (R360). -/
def nextCseq (c : Nat) : Nat := if c = 0xFFFFFFFF then 1 else c + 1

/-- Number an order: its record and cell, its client state, replication (R346, R348, R349, R360). -/
def numberOrder (m : Mach) (p k cell : Nat) (h : HostMsg) (q : AccMsg) : Mach :=
  let n := m.nextAcc
  let cls := fieldAt q.body 0 1
  let plen := fieldAt q.body 2 2
  let now := m.tick.now
  let m := m.jst (recordAt n) (leBytes 1 1 ++ leBytes 1 k ++ leBytes 1 cls ++ leBytes 1 0 ++ leBytes 4 q.cseq ++
    leBytes 2 cell ++ leBytes 2 plen ++ leBytes 4 0)
  let m := m.jst (cellAt cell) (leBytes 8 n ++ leBytes 8 now ++ leBytes 4 q.client ++ leBytes 4 q.cseq ++ leBytes 2 plen ++
    leBytes 1 cls ++ leBytes 1 0 ++ leBytes 4 0 ++ (q.body.drop 8).take plen)
  let m := (m.cliPut k 12 4 q.cseq).cliPut k 16 2 (m.cliF k 16 2 + 1)
  let m := m.wr64 ACJ_NEXT (n + 1)
  let o : PendOrder := ⟨n, m.tickNo, h.addr, h.port.toNat, m.nextMseq 2, false, false, false, false⟩
  let m := { m with jrn := { m.jrn with pend := m.jrn.pend ++ [o], tacc := tabPut 0 m.jrn.tacc (n % 65536) now } }
  let _ := p
  (m.sendOrder (m.newEntry n)).acjShow

/-- A duplicate of an order (R362). -/
def dupOrder (m : Mach) (p k : Nat) (h : HostMsg) (q : AccMsg) : Mach :=
  let m := m.incFld ACJ_REFCNT 15 0
  match m.recOfCseq k q.cseq with
  | none => m.refuseOrder p h q 8 0 0
  | some s =>
    if m.recState s = 1 then
      m.pendMap (m.accOf s) fun o => { o with addr := h.addr, port := h.port.toNat }
    else m.ackOrder p h.addr h.port.toNat s true

/-- An ORDER (R360). -/
def orderMsg (m : Mach) (p : Nat) (h : HostMsg) (q : AccMsg) : Mach :=
  if m.mode ≠ 6 ∨ h.maint then m.refuseOrder p h q 1 1 m.mode
  else match m.clientOf q.client with
  | none => m.refuseOrder p h q 2 0 0
  | some k =>
    let last := m.cliF k 12 4
    if q.cseq = 0 ∨ 256 < fieldAt q.body 2 2 then m.refuseOrder p h q 3 0 0
    else if signed 32 (q.cseq + 2 ^ 32 - last) ≤ 0 then m.dupOrder p k h q
    else if q.cseq ≠ nextCseq last then m.refuseOrder p h q 4 1 (nextCseq last)
    else if m.prog.gen = 0 then m.refuseOrder p h q 5 1 0
    else if m.cliF k 16 2 = m.cliF k 6 2 then m.refuseOrder p h q 6 1 0
    else if m.recState m.nextAcc ≠ 0 then m.refuseOrder p h q 7 1 0
    else match m.freeCell with
    | none => m.refuseOrder p h q 7 1 0
    | some cell => m.numberOrder p k cell h q

/-- A malformed message, or one that R363 counts with them. -/
def malformed (m : Mach) : Mach := m.incFld ACJ_DISCNT 15 0

/-- A CACK (R363). -/
def cackMsg (m : Mach) (h : HostMsg) (q : AccMsg) : Mach :=
  let n := fieldAt q.body 0 8
  match m.clientOf q.client with
  | none => m.malformed
  | some k =>
    if m.mode ≠ 6 ∨ h.maint then m.malformed
    else if m.accLive n && decide (4 ≤ m.recState n) && decide (m.mem.ldN (recordAt n + 1) 1 = k) then
      let m := (m.setRecState n 0).toMirror (recordAt n) 16
      let m := (m.cliPut k 16 2 (m.cliF k 16 2 - 1)).toMirror (cliAt k) 64
      let m := { m with jrn := { m.jrn with due := m.jrn.due.filter (· ≠ n) } }
      (m.sendOrder (releaseEntry n)).acjShow
    else m.malformed

/-- A QUERY (R364). -/
def queryMsg (m : Mach) (p : Nat) (h : HostMsg) (q : AccMsg) : Mach :=
  let slot := (m.clientOf q.client).bind fun k => m.recOfCseq k q.cseq
  let body := match slot with
    | none => leBytes 24 0
    | some s => leBytes 1 (m.recState s) ++ leBytes 7 0 ++ leBytes 8 (m.accOf s) ++ m.mem.ldBytes (recordAt s + 12) 4 ++ leBytes 4 0
  m.hostSend p h.addr h.port.toNat 7 false q.client q.cseq body

/-- A datagram on the accession port (R357 to R364): modes that serve no journal do not answer, a PRIMARY
without its line has stopped to (R313, R361). -/
def hostRecv (m : Mach) (p : Nat) (h : HostMsg) : Mach :=
  if m.mode < 4 ∨ !m.bit (HST_CTL p) 0 ∨ (m.mode = 6 ∧ !m.actsPrimary ∧ !h.maint) then m else
  let m := m.wr (HST_RXCNT p) ((m.rg (HST_RXCNT p) + 1) % 2 ^ 32)
  match accParse h.data with
  | none => m
  | some none => m.malformed
  | some (some q) =>
    if !m.macOk q then (m.incFld ACJ_DISCNT 31 16).ledger 0x0900 6 0 0 0
    else
    let m := match m.clientOf q.client with
      | some k => if m.actsPrimary then m.clientSeen k h else m
      | none => m
    if q.type = 1 then m.orderMsg p h q
    else if q.type = 5 then m.cackMsg h q
    else m.queryMsg p h q

/-- COMPLETE for every accession whose completion has been recorded since the last emit phase (R363). -/
def completesDue (m : Mach) : Mach :=
  if !m.actsPrimary then m else
  let due := m.jrn.due
  let m := { m with jrn := { m.jrn with due := [] } }
  due.foldl (fun m n => if m.accLive n ∧ 4 ≤ m.recState n then m.sendComplete (n % 65536) else m) m

end Mach

/-! ### The commands -/

/-- HOST_ORDER (R357 to R362): an ORDER datagram on a host port. -/
def execHostOrder (p : Fin 2) (h : HostMsg) (s : State) : Result := .next (s.live fun m => m.hostRecv p h)

/-- HOST_CACK (R357 to R359, R363): a CACK datagram on a host port. -/
def execHostCack (p : Fin 2) (h : HostMsg) (s : State) : Result := .next (s.live fun m => m.hostRecv p h)

/-- HOST_QUERY (R357 to R359, R364): a QUERY datagram on a host port. -/
def execHostQuery (p : Fin 2) (h : HostMsg) (s : State) : Result := .next (s.live fun m => m.hostRecv p h)

/-- ORDER_ACK_DEADLINE (R347): in the emit phase of the tick after its arrival a pending order is answered
with TRY_AGAIN, once. -/
def execOrderAckDeadline (s : State) : Result :=
  .next (s.live fun m =>
    if !m.actsPrimary then m else
    let m := m.orderCommits
    let late := m.jrn.pend.filter fun o => decide (o.tick < m.tickNo) && !o.told
    late.foldl (fun m o =>
      let m := m.pendMap o.n fun x => { x with told := true }
      (m.incFld ACJ_REFCNT 31 16).hostSend m.outPort o.addr o.port 3 false
        (m.cliF (m.mem.ldN (Mach.recordAt o.n + 1) 1) 0 4) (m.mem.ldN (Mach.recordAt o.n + 4) 4)
        (leBytes 1 9 ++ leBytes 1 1 ++ leBytes 2 0 ++ leBytes 4 0)) m)

/-- COMPLETE_RETRY (R363): CRETRY ms have passed without a CACK. -/
def execCompleteRetry (n : BitVec 64) (s : State) : Result :=
  .next (s.live fun m =>
    if m.actsPrimary && m.accLive n.toNat && decide (4 ≤ m.recState n.toNat) then m.sendComplete (n.toNat % 65536) else m)

/-- Write a client state and its key, here and in its mirror (R350). -/
def Mach.clientWrite (m : Mach) (k : Nat) (data key : List Byte) : Mach :=
  let m := (m.jst (Mach.cliAt k) data).jst (Mach.cliAt k + 12) ((data.drop 8).take 4)
  { (m.toMirror (Mach.cliAt k) 64) with jrn := { m.jrn with keys := assocPut m.jrn.keys k key } }

/-- CLIENT_STATE_WRITE (R350, R413): a session writes bytes 0 to 11 of a client state and its key. -/
def execClientStateWrite (k : BitVec 8) (data key : List Byte) (s : State) : Result :=
  .next (s.live fun m =>
    if m.mode < 3 then m
    else if m.trialPending then m.emit (.status "TRIAL_PENDING")
    else if fieldAt data 0 4 ≠ 0 ∧ fieldAt data 6 2 = 0 then m.emit (.status "REFUSED_ZERO")
    else if data.length ≠ 12 ∨ key.length ≠ 32 ∨ fieldAt data 5 1 ≠ 0 ∨ fieldAt data 4 1 / 4 ≠ 0 then
      m.emit (.status "BAD_CODE")
    else
      let m := m.clientWrite k.toNat data key
      let m := if m.mode = 6 then
          m.sendSessionOf 1 k.toNat (data ++ key)
        else m
      m.emit (.status "OK"))

/-- Take one entry of an ORDER message (R355); the bytes after it. -/
def Mach.orderEntry (m : Mach) (mseq : Nat) (bs : List Byte) : Mach × List Byte :=
  let kind := fieldAt bs 0 1
  let b := bs.drop 4
  if kind = 1 then
    let len := fieldAt b 10 2
    let cell := (b.drop 16).take (32 + len)
    let n := fieldAt cell 0 8
    let k := fieldAt b 1 1
    let held := m.accLive n && decide (m.recState n ≠ 0)
    if held then (m, b.drop (48 + len)) else
    let m := (m.jst (recordAt n) (b.take 16)).jst (cellAt (fieldAt b 8 2)) cell
    let m := (m.cliPut k 12 4 (fieldAt b 4 4)).cliPut k 16 2 (m.cliF k 16 2 + 1)
    let next := max 1 m.nextAcc
    let gaps := if next ≤ n then m.jrn.gaps ++ countFrom next (n - next) else m.jrn.gaps.filter (· ≠ n)
    let m := if next ≤ n then m.wr64 ACJ_NEXT (n + 1) else m
    ({ m with jrn := { m.jrn with
        gaps := gaps
        pend := m.jrn.pend ++ [⟨n, m.tickNo, [], 0, mseq, true, false, false, true⟩]
        tacc := tabPut 0 m.jrn.tacc (n % 65536) (fieldAt cell 8 8) } }, b.drop (48 + len))
  else if kind = 2 then
    let n := fieldAt b 0 8
    let k := m.mem.ldN (recordAt n + 1) 1
    let m := if m.accLive n ∧ m.recState n ≠ 0 then
        ((m.setRecState n 0).toMirror (recordAt n) 16).cliPut k 16 2 (m.cliF k 16 2 - 1)
      else m
    (m, b.drop 8)
  else if kind = 3 then
    let k := fieldAt b 0 4 % 256
    ((m.jst (Mach.cliAt k + 20) ((b.drop 4).take 18)).toMirror (Mach.cliAt k) 64, b.drop 22)
  else (m, [])

/-- Take the entries of an ORDER message in turn. -/
def Mach.orderEntries (m : Mach) (mseq : Nat) : Nat → List Byte → Mach
  | 0, _ => m
  | n + 1, bs =>
    if bs.length < 12 then m else
      let (m, rest) := m.orderEntry mseq bs
      m.orderEntries mseq n rest

/-- The replica learns which numbers are committed (R355, R356). -/
def Mach.orderCmtno (m : Mach) (cmt : Nat) : Mach :=
  let now := m.jrn.pend.filter fun o => decide (o.n ≤ cmt)
  let m := { m with jrn := { m.jrn with
    cmtno := max m.jrn.cmtno cmt
    pend := m.jrn.pend.filter fun o => decide (cmt < o.n) || !o.ownMirror } }
  now.foldl (fun m o => if m.recState o.n = 1 then m.setRecState o.n 2 else m) m

/-- ORDER_MESSAGE (R355): a replica takes the entries and acknowledges the record in its SRAM. -/
def execOrderMessage (f : List Byte) (s : State) : Result :=
  .next (s.live fun m => m.linkRecv 0x20 f fun m mseq _ b =>
    if (m.mode ≠ 4 ∨ !m.pair.accepted) ∧ m.mode ≠ 5 then m else
    let m := (m.orderEntries mseq b.length (b.drop 8)).orderCmtno (fieldAt b 0 8)
    (m.acjShow).sendLink 0x21 (leBytes 4 mseq ++ leBytes 1 0 ++ leBytes 3 0))

/-- ORDERACK_MESSAGE (R345, R347, R355): the standby holds the orders of an ORDER message; with FLAGS bit 0
its mirror does too. -/
def execOrderackMessage (f : List Byte) (s : State) : Result :=
  .next (s.live fun m => m.linkRecv 0x21 f fun m _ _ b =>
    if m.mode ≠ 6 ∨ b.length ≠ 8 then m else
    let mir := (fieldAt b 4 1).testBit 0
    let hit (o : PendOrder) : PendOrder :=
      if o.mseq = fieldAt b 0 4 then { o with acked := true, partMirror := o.partMirror || mir } else o
    ({ m with jrn := { m.jrn with pend := m.jrn.pend.map hit } }).orderCommits)

end Sys2Proof.Machine
end

