-- ==== Sys2Proof/Machine/Commit.lean ====
section
/-! DEFINITION. The delivery set (R354), the commit record and its completion (R351 to R353), the copy on
the partner (R319, R327) and the journal mirror (R351). -/

namespace Sys2Proof.Machine

namespace Mach

/-! ### The delivery set (R354) -/

/-- The undelivered accessions in ascending number, from the lower delivery pointer, that are in a state
given by `ok`; it stops before the first undelivered one that is not. -/
def undelivered (m : Mach) (ok : Nat → Bool) : List Nat :=
  let lo := min (m.rg64 (ACJ_DP 0)) (m.rg64 (ACJ_DP 1))
  let open_ := (isort (· ≤ ·) (m.usedSlots.map m.accOf)).filter fun n => decide (lo ≤ n) && decide (m.recState n ≤ 2)
  open_.takeWhile ok
where
  /-- Insertion sort. -/
  isort (le : Nat → Nat → Bool) : List Nat → List Nat
    | [] => []
    | x :: xs => ins le x (isort le xs)
  /-- Insert before the first item that is not smaller. -/
  ins (le : Nat → Nat → Bool) (x : Nat) : List Nat → List Nat
    | [] => [x]
    | y :: ys => if le x y then x :: y :: ys else y :: ins le x ys

/-- Give each cluster its part of the delivery set (R143, R354). -/
def setDelivery (m : Mach) (l : List Nat) : Mach :=
  let part (c : Nat) : List Nat := l.filter fun n => m.routeOf (m.recClass n) = c
  let p0 := part 0
  let p1 := part 1
  (m.modKiln 0 fun k => { k with deliv := p0, fetched := [], comps := [] }).modKiln 1
    fun k => { k with deliv := p1, fetched := [], comps := [] }

/-- Fix the delivery set by this module's own journal (R354): accepted accessions, up to the limit. -/
def fixDelivery (m : Mach) : Mach :=
  m.setDelivery ((m.undelivered fun n => decide (m.recState n = 2)).take (m.fld ACJ_LIMIT 12 0))

/-- ACCDUE of the delivery set (R321): its highest number, 0 for none. -/
def accDue (m : Mach) : Nat := (m.k0.deliv ++ m.k1.deliv).foldl max 0

/-- The standby's check of the primary's ACCDUE (R354): every number that is not delivered in both modules
has a record here, or was freed. -/
def holdsTo (m : Mach) (due : Nat) : Bool :=
  let lo := min (m.rg64 (ACJ_DP 0)) (m.rg64 (ACJ_DP 1))
  decide (due < max 1 m.nextAcc) && !(m.jrn.gaps.any fun n => decide (lo ≤ n) && decide (n ≤ due))

/-- The standby takes the primary's set (R354). -/
def adoptDelivery (m : Mach) (due : Nat) : Mach := m.setDelivery ((m.undelivered fun _ => true).filter (· ≤ due))

/-! ### The commit record (R352, R353) -/

/-- The entries of the completion staging area: record slot, cluster, code (R353). -/
def compEntries (m : Mach) : List Byte :=
  let of (c : Nat) : List Byte :=
    (m.kiln c).comps.flatMap fun e => leBytes 2 e.1 ++ leBytes 1 c ++ leBytes 1 0 ++ leBytes 4 e.2
  of 0 ++ of 1

/-- The delivery pointer of a cluster after the tick (R353): the lowest number of its classes that is not
delivered, with what this firing has fetched counted as delivered. Numbers up to the highest of the
delivery sets count, since both modules hold these alike; with none left, one above it (log entry 123). -/
def nextDp (m : Mach) (c : Nat) : Nat :=
  let hi := (m.k0.deliv ++ m.k1.deliv).foldl max (max (m.rg64 (ACJ_DP 0)) (m.rg64 (ACJ_DP 1)) - 1)
  let left := (m.undelivered fun _ => true).filter fun n =>
    decide (n ≤ hi) && decide (m.routeOf (m.recClass n) = c) && !(m.kiln c).fetched.contains n
  left.headD (hi + 1)

/-- The program generation in force for the next tick (R206, R352): a switch at the next boundary counts. -/
def nextGen (m : Mach) : Nat :=
  match m.pgm.change with
  | some c => if m.fld KLN_CHGSTAT 2 0 = 5 ∧ m.rg64 KLN_CHGTICK = m.tickNo + 1 then c.prog.gen else m.prog.gen
  | none => m.prog.gen

/-- The granules of the tick's delta, in ascending address order, and their values after the tick. -/
def deltaBytes (m : Mach) : List Byte := m.tick.delta.flatMap fun e => m.mem.ldBytes (8 * e.1) 8

/-- The commit record header (R352). -/
def commitHeader (m : Mach) (entries : List Byte) : List Byte :=
  let dp0 := m.nextDp 0
  let dp1 := m.nextDp 1
  let delta := m.deltaBytes
  let h := leBytes 8 m.tickNo ++ leBytes 8 dp0 ++ leBytes 4 (wrapInt 32 ((dp1 : Int) - dp0)) ++ leBytes 4 m.nextGen ++
    (countFrom 0 4).flatMap (fun p => leBytes 4 (m.rg (GXP_OSEQ p))) ++
    (countFrom 0 4).flatMap (fun p => leBytes 4 (m.rg (GXP_ASEQ p))) ++
    leBytes 2 delta.length ++ leBytes 2 (entries.length / 8)
  h ++ leBytes 4 (crc32c (h ++ delta ++ entries))

/-- Where the header of a tick stands in journal SRAM (R348). -/
def headerAt (tick : Nat) : Nat := 0x03805000 + 64 * (tick % 16)

/-- Where the header of a tick stands in the mirror, after the record table (R351). -/
def mirrorHeaderAt (tick : Nat) : Nat := 0x11200000 + 64 * (tick % 16)

/-- The commit stream (R319). -/
def commitStream (m : Mach) (c : Commit) : List Byte :=
  c.header ++ m.mem.ldBytes 0x03806000 (fieldAt c.header 56 2) ++ m.mem.ldBytes 0x03810000 (8 * fieldAt c.header 58 2)

/-- Send the commit record to the partner (R319). -/
def sendCommit (m : Mach) (c : Commit) : Mach :=
  let bs := m.commitStream c
  (parts 4096 bs).foldl (fun m e => m.sendLink 0x10 (leBytes 4 e.1 ++ leBytes 4 bs.length ++ e.2)) m

/-- Write the commit record of the tick into journal SRAM, header last, and start its copies (R352). The
primary sends it to its partner. -/
def commitWrite (m : Mach) : Mach :=
  let entries := m.compEntries
  let header := m.commitHeader entries
  let m := ((m.jst 0x03806000 m.deltaBytes).jst 0x03810000 entries).jst (headerAt m.tickNo) header
  let c : Commit := {
    tick := m.tickNo, header := header, grans := m.tick.delta.map (·.1)
    fetched := m.k0.fetched ++ m.k1.fetched
    comps := m.k0.comps ++ m.k1.comps
    dp0 := m.nextDp 0, dp1 := m.nextDp 1
    partner := false, ownMirror := false, partMirror := false }
  let m := { m with jrn := { m.jrn with commit := some c } }
  if m.mode = 6 then m.sendCommit c else m

/-! ### Completion of the commit (R345, R352, R353) -/

/-- The commit stands where R352 asks: both modules' SRAM and one mirror; a solo primary's own SRAM and
mirror. The standby knows of its own mirror only. -/
def committed (m : Mach) (c : Commit) : Bool :=
  if m.mode = 6 ∧ m.solo then c.ownMirror
  else if m.mode = 6 then c.partner && (c.ownMirror || c.partMirror)
  else c.partner && c.ownMirror

/-- The base of a retained bank's segment (R371). -/
def bankAt (b : Nat) : Nat := 0x11801000 + 0x1000000 * b

/-- Where a retained address goes under the carry map of a change in progress (R203). -/
def carried (carry : List (Nat × Nat × Nat)) (a : Nat) : Option Nat :=
  (carry.find? fun e => decide (e.1 ≤ a) && decide (a < e.1 + e.2.2)).map fun e => e.2.1 + (a - e.1)

/-- Write a granule into the active bank; during an online change also into the new segment and the
inactive bank (R195, R203). -/
def bankGranule (m : Mach) (g : Nat) (v : List Byte) : Mach :=
  let b := m.pgm.bank
  let m := m.putWords (bankAt b + (8 * g - m.prog.rbase)) v
  match m.pgm.change with
  | some c =>
    if c.load ∨ !c.staged then m else
      match carried c.carry (8 * g) with
      | some a => (m.putWords a v).putWords (bankAt (1 - b) + (a - c.prog.rbase)) v
      | none => m
  | none => m

/-- One accession is delivered: its cell is released (R348, R353). -/
def deliverRec (m : Mach) (n : Nat) : Mach := (m.setRecState n 3).jst (recordAt n + 8) (leBytes 2 0xFFFF)

/-- One completion takes effect in its record (R353). -/
def completeRec (m : Mach) (tick : Nat) (e : Nat × Nat) : Mach :=
  let m := (m.setRecState e.1 4).jst (recordAt e.1 + 12) (leBytes 4 e.2)
  { m with jrn := { m.jrn with
    compTick := tabPut 0 m.jrn.compTick e.1 tick
    due := m.jrn.due ++ [m.accOf e.1] } }

/-- The pair record of R333. -/
def pairRecord (m : Mach) (tick : Nat) : Mach :=
  { m with pair := { m.pair with lastRole := m.mode, lastCommit := tick } }

/-- A commit is complete (R345, R352, R353): pointers, deliveries and completions become final, and the
delta reaches the retained bank (R195). -/
def commitDone (m : Mach) (c : Commit) : Mach :=
  let m := { m with jrn := { m.jrn with commit := none } }
  let delta := m.mem.ldBytes 0x03806000 (8 * c.grans.length)
  let m := (List.zip (countFrom 0 c.grans.length) c.grans).foldl
    (fun m e => m.bankGranule e.2 ((delta.drop (8 * e.1)).take 8)) m
  let m := (m.wr64 (ACJ_DP 0) c.dp0).wr64 (ACJ_DP 1) c.dp1
  let m := c.fetched.foldl deliverRec m
  let m := c.comps.foldl (completeRec · c.tick) m
  let m := m.wr ACJ_TICKCNT (min 65535 c.comps.length * 2 ^ 16 + min 65535 c.fetched.length)
  let slots := c.fetched.map (· % 65536) ++ c.comps.map (·.1)
  let m := { m with jrn := { m.jrn with lag := m.jrn.lag ++ [(c.tick, slots)] } }
  (m.pairRecord c.tick).acjShow

/-- Complete the open commit when it stands where it must. -/
def commitTry (m : Mach) : Mach :=
  match m.jrn.commit with
  | some c => if m.committed c then m.commitDone c else m
  | none => m

/-- Change the open commit of a tick. -/
def commitMap (m : Mach) (tick : Nat) (f : Commit → Commit) : Mach :=
  { m with jrn := { m.jrn with commit := m.jrn.commit.map fun c => if c.tick = tick then f c else c } }

/-- Write to the mirror the record state changes of complete commits, in tick order (R351). -/
def mirrorEntries (m : Mach) : Mach :=
  let m' := m.jrn.lag.foldl (fun m e => e.2.foldl (fun m s => m.toMirror (recordAt s) 16) m) m
  ({ m' with jrn := { m'.jrn with lag := [] } }).acjShow

/-- Everything that the mirror still lacks is written (R351, R437): pending records, the open commit. -/
def mirrorFlush (m : Mach) : Mach :=
  let m := m.jrn.pend.foldl (fun m o =>
    (m.toMirror (recordAt o.n) 16).toMirror (cellAt (m.recCell o.n)) (32 + m.recLen o.n)) m
  let done (o : PendOrder) : PendOrder := { o with ownMirror := true }
  let m := { m with jrn := { m.jrn with pend := m.jrn.pend.map done } }
  let m := match m.jrn.commit with
    | some c => ((m.jst (mirrorHeaderAt c.tick) c.header).commitMap c.tick fun c => { c with ownMirror := true }).commitTry
    | none => m
  m.mirrorEntries

end Mach

/-! ### The commands -/

/-- MIRROR_WRITE_COMPLETE (R345, R347, R351, R352): the mirror holds an order with its cell, or the header
of a commit; a replica reports it to the primary. -/
def execMirrorWriteComplete (x : MirrorItem) (s : State) : Result :=
  .next (s.live fun m =>
    match x with
    | .order n =>
      match m.jrn.pend.find? fun o => o.n = n.toNat ∧ !o.ownMirror with
      | none => m
      | some o =>
        let m := (m.toMirror (Mach.recordAt o.n) 16).toMirror (Mach.cellAt (m.recCell o.n)) (32 + m.recLen o.n)
        let m := m.pendMap o.n fun x => { x with ownMirror := true }
        if m.mode = 6 then m.orderCommits
        else if m.mode = 4 ∨ m.mode = 5 then
          let m := if m.jrn.pend.any fun x => x.mseq = o.mseq ∧ !x.ownMirror then m
            else m.sendLink 0x21 (leBytes 4 o.mseq ++ leBytes 1 1 ++ leBytes 3 0)
          { m with jrn := { m.jrn with pend := m.jrn.pend.filter fun x => decide (m.jrn.cmtno < x.n) || !x.ownMirror } }
        else m
    | .commit tick =>
      match m.jrn.commit with
      | none => m
      | some c =>
        if c.tick ≠ tick.toNat ∨ c.ownMirror then m else
        let m := (m.jst (Mach.mirrorHeaderAt c.tick) c.header).commitMap c.tick fun c => { c with ownMirror := true }
        let m := if m.mode = 5 ∧ c.partner then
            m.sendLink 0x11 (leBytes 1 2 ++ leBytes 3 0 ++ (c.header.drop 60).take 4)
          else m
        m.commitTry)

end Sys2Proof.Machine
end

