-- ==== Sys2Proof/Machine/Catalogue.lean ====
section
/-! DEFINITION. The Catalogue (R231 to R236): its header, ring records and entries as they stand in
process image SRAM, the checks of R235, and the budget of the rings (R48 to R50, R218). -/

namespace Sys2Proof.Machine

/-! ### Layout -/

/-- A ring record (R232). -/
structure RingRec where
  direct   : Nat
  lane     : Nat
  endLink  : Nat
  holdback : Nat
  wdog     : Nat
  payIn    : Nat
  payOut   : Nat
  actRes   : Nat
  zero     : Bool
  deriving DecidableEq, Repr

/-- A Catalogue entry (R233). -/
structure CatEnt where
  slot   : Nat
  index  : Nat
  kind   : Nat
  place  : Nat
  path   : Nat
  vendor : Nat
  product : Nat
  revision : Nat
  parent : Nat
  inOfs  : Nat
  inLen  : Nat
  outLen : Nat
  outOfs : Nat
  dinBase : Nat
  dinCnt : Nat
  ainBase : Nat
  ainCnt : Nat
  encBase : Nat
  encCnt : Nat
  actOut : Nat
  actQ   : Nat
  origHold : Nat
  doutBase : Nat
  doutCnt : Nat
  aoutBase : Nat
  aoutCnt : Nat
  fb     : Nat
  insDelay : Nat
  ready  : Nat
  fwd    : Nat
  link   : Nat
  deriving DecidableEq, Repr

/-- The base of the active and of the pending Catalogue (R231). -/
abbrev catActive : Nat := 0x02400000
abbrev catPending : Nat := 0x02500000

/-- The ring record of ring `n`. -/
def ringRec (mem : Memory) (base n : Nat) : RingRec :=
  let a := base + 0x10 + 32 * n
  { direct := mem.ldN a 1, lane := mem.ldN (a + 1) 1, endLink := mem.ldN (a + 2) 2
    holdback := mem.ldN (a + 4) 2, wdog := mem.ldN (a + 6) 1, payIn := mem.ldN (a + 8) 4
    payOut := mem.ldN (a + 12) 4, actRes := mem.ldN (a + 16) 2
    zero := decide (mem.ldN (a + 7) 1 = 0) && decide (mem.ldN (a + 18) 14 = 0) }

/-- The entry at an address. -/
def catEnt (mem : Memory) (a slot : Nat) : CatEnt :=
  let f (o n : Nat) : Nat := mem.ldN (a + o) n
  { slot := slot, index := f 0 2, kind := f 2 1, place := f 3 1, path := f 4 4, vendor := f 8 2
    product := f 10 2, revision := f 12 2, parent := f 14 2, inOfs := f 16 4, inLen := f 20 2
    outLen := f 22 2, outOfs := f 24 4, dinBase := f 28 4, dinCnt := f 32 2, ainBase := f 34 2
    ainCnt := f 36 2, encBase := f 38 2, encCnt := f 40 1, actOut := f 41 1, actQ := f 42 1
    origHold := f 43 1, doutBase := f 44 4, doutCnt := f 48 2, aoutBase := f 50 2, aoutCnt := f 52 2
    fb := f 54 2, insDelay := f 56 2, ready := f 58 2, fwd := f 60 2, link := f 62 2 }

namespace CatEnt

/-- VALID (R233). -/
def valid (e : CatEnt) : Bool := e.place.testBit 7

/-- The ring of an entry. -/
def ring (e : CatEnt) : Nat := e.place % 4

/-- The depth of an entry: 0 direct. -/
def depth (e : CatEnt) : Nat := bits e.place 3 2

/-- The ring position of the entry, or of the direct entry above it. -/
def pos (e : CatEnt) : Nat := e.path % 256

/-- An entry that is a direct entry of a ring. -/
def directOn (e : CatEnt) (r : Nat) : Bool := decide (e.ring = r) && decide (e.depth = 0)

/-- A concentrator. -/
def conc (e : CatEnt) : Bool := decide (e.kind = 1)

/-- The data part of the input slot (R223). -/
def dataIn (e : CatEnt) : Nat := e.dinCnt / 8 + 2 * e.ainCnt + 8 * e.encCnt

/-- The output slot of a leaf (R233). -/
def dataOut (e : CatEnt) : Nat := e.doutCnt / 8 + 2 * e.aoutCnt

/-- The size of a fallback table (R234), without padding. -/
def fbLen (e : CatEnt) : Nat := 2 * (e.doutCnt / 8) + 4 * e.aoutCnt

/-- Where the leaf's data begins in the ring input payload (R223). -/
def inData (e : CatEnt) : Nat := if e.depth = 0 then e.inOfs + 4 else e.inOfs

end CatEnt

/-- The valid leaf entries of a Catalogue, by index. -/
def catLeaves (mem : Memory) (base : Nat) : List CatEnt :=
  ((mem.items (base + 0x10000) 64 4096).map fun k => catEnt mem (base + 0x10000 + 64 * k) k).filter CatEnt.valid

/-- The valid concentrator entries of a Catalogue, by index. -/
def catConcs (mem : Memory) (base : Nat) : List CatEnt :=
  ((mem.items (base + 0x8000) 64 512).map fun k => catEnt mem (base + 0x8000 + 64 * k) k).filter CatEnt.valid

/-- Every valid entry. -/
def catAll (mem : Memory) (base : Nat) : List CatEnt := catConcs mem base ++ catLeaves mem base

/-- The generation of a Catalogue. -/
def catGen (mem : Memory) (base : Nat) : Nat := mem.ldN base 4

/-- The valid leaf of an index, in the active Catalogue. -/
def leafOf (mem : Memory) (n : Nat) : Option CatEnt :=
  let e := catEnt mem (catActive + 0x10000 + 64 * n) n
  if n < 4096 ∧ e.valid then some e else none

/-- Insert by ring position. -/
def insertByPos (e : CatEnt) : List CatEnt → List CatEnt
  | [] => [e]
  | x :: xs => if e.pos ≤ x.pos then e :: x :: xs else x :: insertByPos e xs

/-- The direct entries of a ring, from module A to module B. -/
def directs (es : List CatEnt) (r : Nat) : List CatEnt :=
  (es.filter fun e => e.directOn r).foldl (fun l e => insertByPos e l) []

/-- The leaves that a direct entry stands for: itself, or those beneath a direct concentrator in
ascending leaf index (R224). -/
def leavesUnder (leaves : List CatEnt) (d : CatEnt) : List CatEnt :=
  if d.conc then leaves.filter fun l => decide (l.ring = d.ring) && decide (0 < l.depth) && decide (l.pos = d.pos)
  else [d]

/-- The status area of a direct entry in bytes (R224). -/
def statusLen (leaves : Nat) : Nat := if leaves ≤ 24 then 4 else 4 + 4 * ((leaves - 24 + 31) / 32)

/-! ### Check 2: fields and places -/

/-- A range check of a ring record. -/
def RingRec.ok (r : RingRec) : Bool :=
  decide (r.direct ≤ 64) && decide (r.lane ≤ 1) && decide (r.actRes % 16 = 0) && r.zero &&
  (decide (r.direct = 0) || decide (1 ≤ r.wdog))

namespace CatEnt

/-- The bytes of PATH are positions down to DEPTH and 0 beyond. -/
def pathOk (e : CatEnt) : Bool :=
  (countFrom 0 4).all fun k => decide (bits e.path (8 * k + 7) (8 * k) < 64) &&
    (decide (k ≤ e.depth) || decide (bits e.path (8 * k + 7) (8 * k) = 0))

/-- The fields of an entry are in range and its reserved fields 0 (R233). -/
def fieldsOk (e : CatEnt) (kind : Nat) : Bool :=
  decide (e.index = e.slot) && decide (e.kind = kind) && decide (bits e.place 6 4 = 0) && e.pathOk &&
  decide (e.inLen ≤ 1024) && decide (e.outLen ≤ 1024) && decide (e.dinBase % 8 = 0) &&
  decide (e.dinCnt % 8 = 0) && decide (e.doutBase % 8 = 0) && decide (e.doutCnt % 8 = 0) &&
  decide (e.encBase < 1024) && decide (e.encCnt ≤ 64) && decide (e.actOut ≤ 32) &&
  (decide (e.depth = 0) || decide (e.insDelay = 0)) &&
  (e.conc || (decide (e.ready = 0) && decide (e.fwd = 0))) &&
  (!e.conc || (decide (e.dinBase = 0) && decide (e.dinCnt = 0) && decide (e.ainBase = 0) &&
    decide (e.ainCnt = 0) && decide (e.encBase = 0) && decide (e.encCnt = 0) && decide (e.actOut = 0) &&
    decide (e.actQ = 0) && decide (e.doutBase = 0) && decide (e.doutCnt = 0) && decide (e.aoutBase = 0) &&
    decide (e.aoutCnt = 0)))

/-- PARENT, DEPTH and PATH agree with a valid concentrator above. -/
def parentOk (concs : List CatEnt) (e : CatEnt) : Bool :=
  if e.depth = 0 then decide (e.parent = 0xFFFF)
  else match concs.find? fun c => c.index = e.parent with
    | none => false
    | some c => decide (c.ring = e.ring) && decide (c.depth + 1 = e.depth) &&
        decide (c.path = e.path % 2 ^ (8 * e.depth))

end CatEnt

/-- No two items of a list are in a relation. -/
def noPair {α : Type} (r : α → α → Bool) : List α → Bool
  | [] => true
  | x :: xs => xs.all (fun y => !r x y) && noPair r xs

/-- Check 2 of R235. -/
def catCheck2 (mem : Memory) (base : Nat) : Bool :=
  let leaves := catLeaves mem base
  let concs := catConcs mem base
  let all := concs ++ leaves
  decide (1 ≤ catGen mem base) && decide (mem.ldN (base + 4) 2 = leaves.length) &&
  decide (mem.ldN (base + 6) 2 = concs.length) && decide (mem.ldN (base + 8) 8 = 0) &&
  ((countFrom 0 4).all fun r => (ringRec mem base r).ok &&
    decide ((ringRec mem base r).direct = (directs all r).length)) &&
  leaves.all (·.fieldsOk 0) && concs.all (·.fieldsOk 1) && all.all (·.parentOk concs) &&
  noPair (fun a b => decide (a.ring = b.ring) && decide (a.depth = b.depth) && decide (a.path = b.path)) all &&
  concs.all fun c => decide (c.depth ≠ 0) ||
    decide ((all.filter fun e => decide (e.ring = c.ring) && decide (0 < e.depth) && decide (e.pos = c.pos)).length ≤ 62)

/-! ### Check 3: slots -/

/-- Two extents meet. -/
def meets (a n b k : Nat) : Bool := decide (0 < n) && decide (0 < k) && decide (a < b + k) && decide (b < a + n)

/-- An extent lies in one telegram and in its payload (R222). -/
def slotOk (a n pay : Nat) : Bool := decide (n = 0) || (decide (a / 1024 = (a + n - 1) / 1024) && decide (a + n ≤ pay))

/-- Check 3 of R235. -/
def catCheck3 (mem : Memory) (base : Nat) : Bool :=
  let leaves := catLeaves mem base
  let concs := catConcs mem base
  let all := concs ++ leaves
  let pay (r : Nat) : RingRec := ringRec mem base r
  let status (c : CatEnt) : Nat := if c.depth = 0 then statusLen (leavesUnder leaves c).length else 0
  leaves.all (fun l => decide (l.inLen = l.dataIn + (if l.depth = 0 then 4 else 0)) && decide (l.outLen = l.dataOut)) &&
  concs.all (fun c => decide (status c ≤ c.inLen) || decide (c.inLen = 0)) &&
  all.all (fun e => slotOk e.inOfs e.inLen (pay e.ring).payIn && slotOk e.outOfs e.outLen (pay e.ring).payOut) &&
  ((countFrom 0 4).all fun r =>
    let ds := directs all r
    let ls := leaves.filter fun l => l.ring = r
    noPair (fun a b => meets a.inOfs a.inLen b.inOfs b.inLen || meets a.outOfs a.outLen b.outOfs b.outLen) ds &&
    noPair (fun a b => meets a.inOfs a.inLen b.inOfs b.inLen || meets a.outOfs a.outLen b.outOfs b.outLen) ls) &&
  all.all fun e => decide (e.depth = 0) ||
    (match concs.find? fun c => c.index = e.parent with
      | none => false
      | some c =>
        (decide (e.inLen = 0) || (decide (c.inOfs + status c ≤ e.inOfs) && decide (e.inOfs + e.inLen ≤ c.inOfs + c.inLen))) &&
        (decide (e.outLen = 0) || (decide (c.outOfs ≤ e.outOfs) && decide (e.outOfs + e.outLen ≤ c.outOfs + c.outLen))))

/-! ### Check 4: the process image -/

/-- Check 4 of R235: points, words and axes are inside the image and mapped once. -/
def catCheck4 (mem : Memory) (base : Nat) : Bool :=
  let leaves := catLeaves mem base
  leaves.all (fun l => (decide (l.dinCnt = 0) || decide (l.dinBase + l.dinCnt ≤ 262144)) &&
    (decide (l.doutCnt = 0) || decide (l.doutBase + l.doutCnt ≤ 262144)) &&
    (decide (l.ainCnt = 0) || decide (l.ainBase + l.ainCnt ≤ 24576)) &&
    (decide (l.aoutCnt = 0) || decide (l.aoutBase + l.aoutCnt ≤ 24576)) &&
    (decide (l.encCnt = 0) || decide (l.encBase + l.encCnt ≤ 1024))) &&
  noPair (fun a b => meets a.dinBase a.dinCnt b.dinBase b.dinCnt || meets a.doutBase a.doutCnt b.doutBase b.doutCnt ||
    meets a.ainBase a.ainCnt b.ainBase b.ainCnt || meets a.aoutBase a.aoutCnt b.aoutBase b.aoutCnt ||
    meets a.encBase a.encCnt b.encBase b.encCnt) leaves

/-- A local map (R451, R460): space 0 input, 1 output; kind 0 points, 1 words; base and count. -/
structure LocalMap where
  space : Nat
  kind  : Nat
  base  : Nat
  cnt   : Nat
  deriving DecidableEq, Repr

/-- A leaf maps a point or word that a local map uses. -/
def CatEnt.onMap (l : CatEnt) (x : LocalMap) : Bool :=
  match x.space, x.kind with
  | 0, 0 => meets l.dinBase l.dinCnt x.base x.cnt
  | 0, _ => meets l.ainBase l.ainCnt x.base x.cnt
  | _, 0 => meets l.doutBase l.doutCnt x.base x.cnt
  | _, _ => meets l.aoutBase l.aoutCnt x.base x.cnt

/-- A Catalogue and the active local maps use no point or word together (R451). -/
def catClear (mem : Memory) (base : Nat) (maps : List LocalMap) : Bool :=
  (catLeaves mem base).all fun l => maps.all fun x => !l.onMap x

/-! ### Check 5: the budget of the rings -/

/-- The wire bytes of a payload: 48 for each telegram of at most 1,024 B (R48, R49). -/
def wireBytes (pay : Nat) : Nat := pay + 48 * ((pay + 1023) / 1024)

/-- The byte time of a lane in tenths of a ns (R48). -/
def byteTime (lane : Nat) : Nat := if lane = 0 then 32 else 80

/-- The cap of a ring's payload (R50), none from 500 µs upward. -/
def payCap (len lane : Nat) : Option Nat :=
  match len with
  | 0 => some (if lane = 0 then 10240 else 4096)
  | 1 => some (if lane = 0 then 20480 else 8192)
  | _ => none

/-- One hop of a train: the metres of the link into an entry, and the entry. -/
abbrev Hop := Nat × CatEnt

/-- Walk a train over its hops, with the latency so far in ns: every concentrator passed is ready
when the collector reaches it, and the latency after the last entry (R48, R239). -/
def walkTrain (s0 : Nat) : List Hop → Nat → Bool × Nat
  | [], lat => (true, lat)
  | (l, e) :: rest, lat =>
    let lat := lat + 5 * l
    let (ok, out) := walkTrain s0 rest (lat + e.insDelay)
    (ok && (!e.conc || decide (e.ready ≤ s0 + lat)), out)

/-- R48 for one train that reaches a module over a last link. -/
def closureOk (s0 pay tb close lat : Nat) : Bool := decide (10 * s0 + wireBytes pay * tb + 10 * lat ≤ 10 * (close - 2000))

/-- A train of a module port over the whole ring. -/
def moduleTrain (s0 pay tb close : Nat) (hops : List Hop) (last : Nat) : Bool :=
  let (ok, lat) := walkTrain s0 hops 0
  ok && closureOk s0 pay tb close (lat + 5 * last)

/-- A train that an entry originates (R218): the origin itself is not passed. -/
def entryTrain (pay tb close : Nat) (hops : List Hop) (last : Nat) : Bool :=
  match hops with
  | [] => true
  | (_, e) :: rest =>
    let s0 := 1000 * e.origHold
    let (ok, lat) := walkTrain s0 rest 0
    ok && (!e.conc || decide (e.ready ≤ s0)) && closureOk s0 pay tb close (lat + 5 * last)

/-- Every tail of a list. -/
def tails {α : Type} : List α → List (List α)
  | [] => []
  | x :: xs => (x :: xs) :: tails xs

/-- The budget of one ring at a tick length (R48 to R50). -/
def ringBudget (mem : Memory) (base len r : Nat) : Bool :=
  let rec_ := ringRec mem base r
  let all := catAll mem base
  let ds := directs all r
  if rec_.direct = 0 then true else
    let tb := byteTime rec_.lane
    let (close, _, emit, out, apply) := Mach.phaseNs len
    let links := ds.map (·.link)
    let east : List Hop := List.zip links ds
    let west : List Hop := List.zip (rec_.endLink :: links.reverse) ds.reverse
    let first := links.headD 0
    let cap := match payCap len rec_.lane with
      | some c => decide (rec_.payIn ≤ c) && decide (rec_.payOut ≤ c)
      | none => true
    let r48 := moduleTrain rec_.holdback rec_.payIn tb close east rec_.endLink &&
      moduleTrain rec_.holdback rec_.payIn tb close west first &&
      (tails east).all (fun h => entryTrain rec_.payIn tb close h rec_.endLink) &&
      (tails west).all (fun h => entryTrain rec_.payIn tb close h first)
    let dsum := (ds.map (·.insDelay)).sum
    let lsum := links.sum
    let fmax := ((all.filter fun e => e.conc ∧ e.ring = r).map (·.fwd)).foldl max 0
    let reach (lout : Nat) : Bool := decide (
      max (10 * emit + wireBytes rec_.actRes * tb) (10 * out) + wireBytes rec_.payOut * tb + 10 * (lout + fmax) ≤
        10 * (Mach.lenNs len + apply - 5000))
    cap && r48 && reach (dsum + 5 * lsum) && reach (dsum + 5 * (rec_.endLink + lsum - first))

/-- The budget of every ring. -/
def catBudget (mem : Memory) (base len : Nat) : Bool := (countFrom 0 4).all (ringBudget mem base len)

/-- The checks of R235 in order: the status of the first that fails. The active local maps count in
check 4 (R451). -/
def catCheck (mem : Memory) (base active len : Nat) (maps : List LocalMap) : Option String :=
  if catGen mem base ≤ active then some "BAD_CATALOGUE"
  else if !catCheck2 mem base then some "BAD_CATALOGUE"
  else if !catCheck3 mem base then some "BAD_CATALOGUE"
  else if !catCheck4 mem base || !catClear mem base maps then some "BAD_CATALOGUE"
  else if !catBudget mem base len then some "OVER_BUDGET"
  else none

/-- The status bit of a leaf in an input image buffer (R73, R241). -/
def leafPresent (mem : Memory) (buf n : Nat) : Bool := (mem.ld8 (buf + (0x0A0000 + n) / 8)).getLsbD ((0x0A0000 + n) % 8)

end Sys2Proof.Machine
end

