-- ==== Sys2Proof/Machine/Dle.lean ====
section
/-! DEFINITION. The Deadline Engine: axes (R250 to R253), tracks (R254 to R256), timed actions (R257 to
R263), the recompute (R264, R265), the two phases of a tick (R269, R270) and the comparator (R273, R274). -/

namespace Sys2Proof.Machine

/-- Insertion sort. -/
def isort {α : Type} (le : α → α → Bool) : List α → List α
  | [] => []
  | x :: xs => ins x (isort le xs)
where
  /-- Insert before the first item that is not smaller. -/
  ins (x : α) : List α → List α
    | [] => [x]
    | y :: ys => if le x y then x :: y :: ys else y :: ins x ys

/-- The two's complement difference of two 32-bit values (R251). -/
def sdiff32 (a : Int) : Int := signed 32 (wrapInt 32 a)

namespace Mach

/-! ### Records (R254 to R257) -/

/-- Record `k` of the table. -/
def rec64 (k : Nat) : Nat := 0x03000000 + 64 * k

/-- A field of a record: byte offset and width. -/
def recF (m : Mach) (k o n : Nat) : Nat := m.mem.ldN (rec64 k + o) n

/-- A signed 8-byte field of a record. -/
def recI (m : Mach) (k o : Nat) : Int := signed 64 (m.recF k o 8)

/-- Set a field of a record. -/
def recPut (m : Mach) (k o n v : Nat) : Mach := { m with
  mem := m.mem.stN (rec64 k + o) n v
  ecc := tabErase m.ecc ((rec64 k + o) / 8) 1 }

/-- The first action record: the eighth before it is the engine's index (R257). -/
def firstAct (m : Mach) : Nat := m.dle.tracks + (65536 - m.dle.tracks) / 8

/-- A record of the action area that is free: in state 0, or ended with its UNTIL tick reached (R258). -/
def actFree (m : Mach) (r : Nat) : Bool :=
  decide (m.recF r 0 1 = 0) || (decide (m.recF r 0 1 = 3) && decide (m.recF r 48 8 ≤ m.tickNo))

/-- The action records that hold something, in rising order. -/
def acts (m : Mach) : List Nat :=
  ((m.mem.items (rec64 m.firstAct) 64 (65536 - m.firstAct)).map (· + m.firstAct)).filter
    fun r => decide (m.recF r 0 1 ≠ 0)

/-- The tracks that are live or stale, in rising order. -/
def trks (m : Mach) : List Nat :=
  (m.mem.items (rec64 0) 64 m.dle.tracks).filter fun k => decide (m.recF k 0 1 ≠ 0)

/-- The lowest free action record. -/
def freeAct (m : Mach) : Option Nat :=
  let used := m.acts
  let n := 65536 - m.firstAct
  let pick := (countFrom m.firstAct (min n (used.length + 1))).find? fun r => !used.contains r
  match used.find? fun r => m.actFree r, pick with
  | some a, some b => some (min a b)
  | some a, none => some a
  | none, b => b

/-- The waiting or sent record that holds an AID (R258). -/
def heldAct (m : Mach) (aid : Nat) : Option Nat :=
  m.acts.find? fun r => decide (m.recF r 4 4 = aid) && (decide (m.recF r 0 1 = 1) || decide (m.recF r 0 1 = 2))

/-- The records bound to a track, along NEXT. -/
def chainFrom (m : Mach) : Nat → Nat → List Nat
  | 0, _ => []
  | n + 1, r => if r = 0xFFFFFFFF then [] else r :: chainFrom m n (m.recF r 20 4)

/-- The records bound to a track (R255). -/
def chain (m : Mach) (k : Nat) : List Nat :=
  if m.recF k 0 1 = 0 then [] else m.chainFrom (m.recF k 36 2) (m.recF k 32 4)

/-- Write the list of records bound to a track. -/
def setChain (m : Mach) (k : Nat) (l : List Nat) : Mach :=
  let m := (m.recPut k 32 4 (l.headD 0xFFFFFFFF)).recPut k 36 2 l.length
  (List.zip l (l.drop 1 ++ [0xFFFFFFFF])).foldl (fun m e => m.recPut e.1 20 4 e.2) m

/-- Bind an action record to a track. -/
def bindAct (m : Mach) (r k : Nat) : Mach := m.setChain k (m.chain k ++ [r])

/-- Unbind an action record from its track. -/
def unbindAct (m : Mach) (r : Nat) : Mach :=
  let k := m.recF r 16 4
  if m.recF r 2 1 = 1 ∧ (m.chain k).contains r then
    (m.setChain k ((m.chain k).filter (· ≠ r))).recPut r 20 4 0xFFFFFFFF
  else m

/-- Show the counts of tracks and actions (R275). -/
def dleShow (m : Mach) : Mach :=
  (m.wr DLE_TRKCNT m.trks.length).wr DLE_ACTCNT m.acts.length

/-- Count an outcome of R259, or a refused TRKU. -/
def dleOther (m : Mach) : Mach := m.incFld DLE_REJCNT 15 0

/-- End an action record with an outcome (R258): it gives up its AID and its place. -/
def endAct (m : Mach) (r outcome : Nat) : Mach :=
  let m := m.unbindAct r
  let m := ((m.recPut r 0 1 3).recPut r 1 1 outcome).recPut r 48 8 (m.tickNo + max 1 (m.fld DLE_KEEP 7 0))
  let m := { m with dle := { m.dle with
    cands := m.dle.cands.filter fun c => c.cancel ∨ c.rcd ≠ r
    firstSup := m.dle.firstSup.filter (· ≠ r)
    ended := r :: m.dle.ended.filter (· ≠ r) } }
  if outcome = 0x15 then m.incFld DLE_REJCNT 31 16 else m

/-! ### Axes (R250 to R253) -/

/-- The state of an axis. -/
def axis (m : Mach) (a : Nat) : Axis := (assocGet m.dle.axes a).getD {}

/-- Keep the state of an axis and show it in its registers (R275). -/
def setAxis (m : Mach) (a : Nat) (x : Axis) : Mach :=
  let m := { m with dle := { m.dle with axes := assocPut m.dle.axes a x } }
  let m := (m.wr (DLE_AXSTAT a) (x.erratic * 2 ^ 16 + min x.miss 255 * 2 ^ 8 + x.state)).wr (DLE_AXSPD a)
    (wrapInt 32 (x.v.tdiv (2 ^ 32 : Nat)))
  ((m.wr64 (DLE_AXPOS a) (wrapInt 64 (x.p.tdiv (2 ^ 16 : Nat)))).wr64 (DLE_AXTIME a) (wrapInt 64 x.t)).wr
    (DLE_AXCOUNT a) x.count

end Mach

namespace Axis

/-- The axis has a position (R252). -/
def hasPos (x : Axis) : Bool := x.state == 2 || x.state == 3 || x.state == 4

/-- The position at a plant time, in µm with 16 fractional bits (R252). -/
def at_ (x : Axis) (t : Int) : Int := x.p + (x.v * (t - x.t)).tdiv (1000000 * 2 ^ 16 : Nat)

end Axis

namespace Mach

/-- Every live track on an axis becomes stale (R251). -/
def staleAxis (m : Mach) (a : Nat) : Mach :=
  m.trks.foldl (fun m k => if m.recF k 0 1 = 1 ∧ m.recF k 2 2 = a then m.recPut k 0 1 2 else m) m

/-- An axis enters LOST (R251, R253). -/
def axisLose (m : Mach) (a : Nat) : Mach :=
  let x := m.axis a
  if x.state = 5 then m
  else ((m.setAxis a { x with state := 5, lost := true }).staleAxis a).ledger 0x0600 3 0 0 0

/-- A missing or rejected record (R251). -/
def axisCoast (m : Mach) (a : Nat) (x : Axis) : Mach :=
  let x := { x with
    miss := satInc x.miss 256
    state := if x.state = 2 ∨ x.state = 3 then 4 else x.state }
  let m := m.setAxis a x
  if m.fld (DLE_AXCFG a) 13 6 < x.miss then m.axisLose a else m

/-- The stop threshold with 32 fractional bits. -/
def vmin (m : Mach) : Int := (m.fld DLE_VMIN 15 0 : Int) * (2 ^ 32 : Nat)

/-- An accepted record: position, time and speed of the axis, which stops or runs (R251, R253). -/
def axisTake (m : Mach) (a : Nat) (x : Axis) (pn tn v : Int) (c : Nat) : Mach :=
  let st := if (v.natAbs : Int) < m.vmin then 3 else 2
  let back := x.lost
  let m := m.setAxis a { x with p := pn, t := tn, v := v, count := c, miss := 0, state := st, lost := false }
  if back then m.ledger 0x0601 3 0 0 0 else m

/-- The update of an axis from its reconciled record (R251). -/
def axisUpdate (m : Mach) (a : Nat) (present : Bool) : Mach :=
  let x := m.axis a
  if !present then m.axisCoast a x else
  let at_ := 0x02600000 + 8 * a
  let c := m.mem.ldN at_ 4
  let k : Int := m.mem.ldN (at_ + 4) 4
  let start : Int := m.tick.start
  let wide := start - sdiff32 (start - k)
  if x.state = 0 ∨ x.state = 5 then
    m.setAxis a { x with p := 0, t := wide, v := 0, count := c, miss := 0, state := 1 }
  else
    let dc := sdiff32 ((c : Int) - x.count)
    let scale : Int := m.rg (DLE_AXSCALE a)
    let tn := if dc = 0 then start else wide
    let pn := if dc = 0 then x.p else x.p + (if m.bit (DLE_AXCFG a) 1 then -(dc * scale) else dc * scale)
    let fresh : Int := ((pn - x.p) * (1000000 * 2 ^ 16 : Nat)).tdiv (tn - x.t)
    if x.state = 1 then
      if tn ≤ x.t then m.setAxis a { x with count := c, miss := 0 }
      else m.axisTake a x pn tn fresh c
    else
      let e := pn - x.at_ tn
      if m.fld (DLE_AXCFG a) 31 16 * 2 ^ 16 < e.natAbs then
        m.axisCoast a { x with erratic := satInc x.erratic 65535 }
      else
        let v := if x.t < tn then x.v + (fresh - x.v).tdiv (2 ^ m.fld (DLE_AXCFG a) 5 3 : Nat) else x.v
        m.axisTake a x pn tn v c

/-- The axes that the active Catalogue maps, each with its leaf (R250). -/
def mappedAxes (m : Mach) : List (Nat × Nat) :=
  (catLeaves m.mem catActive).flatMap fun l => (countFrom l.encBase l.encCnt).map fun a => (a, l.slot)

/-- The axes in service (R250). -/
def axesServed (m : Mach) : List (Nat × Nat) := m.mappedAxes.filter fun e => m.bit (DLE_AXCFG e.1) 0

/-- An axis that is not in service is OFF, and its tracks are stale (R250, R272). -/
def axesOff (m : Mach) : Mach :=
  let on := m.axesServed
  m.dle.axes.foldl (fun m e =>
    if (on.any fun o => o.1 = e.1) ∨ (m.axis e.1).state = 0 then m
    else (m.setAxis e.1 { m.axis e.1 with state := 0 }).staleAxis e.1) m

/-- The axis updates of a tick (R251, R269). -/
def axesUpdate (m : Mach) : Mach :=
  let m := m.axesOff
  let buf := inBase m.tick.inBuf
  m.axesServed.foldl (fun m e => m.axisUpdate e.1 (leafPresent m.mem buf e.2)) m

/-! ### Fire times (R260) -/

end Mach

/-- What the computation of a fire time gives (R260). -/
inductive FireTime where
  | none
  | passed
  | at (t : Int)
  deriving DecidableEq, Repr

namespace Mach

/-- The fire time of an action on a track (R260). -/
def fireOn (m : Mach) (k : Nat) (when_ : Int) : FireTime :=
  let x := m.axis (m.recF k 2 2)
  if m.recF k 0 1 ≠ 1 ∨ (x.state ≠ 2 ∧ x.state ≠ 4) ∨ x.v < m.vmin then .none
  else
    let target := (when_ - m.recI k 16) * (2 ^ 16 : Nat) + m.recI k 24
    let n := (target - x.p) * (1000000 * 2 ^ 16 : Nat)
    if n ≤ 0 then .passed else .at (x.t + (2 * n + x.v) / (2 * x.v))

/-- The fire time of an action record. -/
def fireOf (m : Mach) (r : Nat) : FireTime :=
  if m.recF r 2 1 = 0 then .at (m.recF r 24 8) else m.fireOn (m.recF r 16 4) (m.recI r 24)

/-- The lead in ns (R261). -/
def leadNs (m : Mach) : Int := (m.fld DLE_LEAD 3 0 * m.tickNs : Nat)

/-- The horizon in ns (R261). -/
def horizonNs (m : Mach) : Int := (m.fld DLE_HORIZON 10 0 * 1000000 : Nat)

/-- Make the entry of a record a candidate, in place of one that it has. -/
def candPut (m : Mach) (c : Cand) : Mach := { m with
  dle := { m.dle with cands := (m.dle.cands.filter fun x => x.cancel ∨ x.rcd ≠ c.rcd) ++ [c] } }

/-- A CANCEL entry to a station (R263). -/
def candCancel (m : Mach) (aid station output : Nat) : Mach := { m with
  dle := { m.dle with cands := m.dle.cands ++ [⟨true, aid, station, output, 65536, false, false⟩] } }

/-- The entry of a record becomes ready. -/
def candReady (m : Mach) (r : Nat) (sup again : Bool) : Mach :=
  m.candPut ⟨false, m.recF r 4 4, m.recF r 8 2, m.recF r 10 2, r, sup, again⟩

/-- A record has no entry to send: it waits (R260, R276), or the recompute withdraws it (R264). -/
def candClear (m : Mach) (r : Nat) : Mach := { m with
  dle := { m.dle with cands := m.dle.cands.filter fun c => c.cancel ∨ c.rcd ≠ r } }

/-- Compute the fire time of a new or changed record and make it ready, end it, or let it wait (R260). -/
def actTime (m : Mach) (r : Nat) (sup : Bool) : Mach :=
  match m.fireOf r with
  | .none => m.candClear r
  | .passed => if m.recF r 0 1 = 1 then m.endAct r 0x15 else m.candClear r
  | .at f => (m.recPut r 32 8 (wrapInt 64 f)).candReady r sup false

/-! ### Requests (R256, R259, R263, R270) -/

/-- The fields of a TACT block (R149). -/
structure TactReq where
  aid : Nat
  station : Nat
  output : Nat
  kind : Nat
  level : Nat
  width : Nat
  track : Nat
  when_ : Nat
  sup : Bool
  deriving DecidableEq, Repr

/-- Read a field of a request block. -/
def blkF (b : List Byte) (o n : Nat) : Nat := leNat ((b.drop o).take n)

/-- Read a TACT block. -/
def tactOf (b : List Byte) : TactReq :=
  ⟨blkF b 0 4, blkF b 4 2, blkF b 6 2, blkF b 8 1, blkF b 9 1, blkF b 10 2, blkF b 12 4, blkF b 16 8,
    (blkF b 24 1).testBit 0⟩

/-- Write the fields of a request into an action record, and bind it (R257). -/
def actFields (m : Mach) (r : Nat) (q : TactReq) : Mach :=
  let m := m.unbindAct r
  let track := if q.kind = 1 then q.track else 0
  let m := ((((((m.recPut r 2 1 q.kind).recPut r 3 1 q.level).recPut r 4 4 q.aid).recPut r 8 2 q.station).recPut
    r 10 2 q.output).recPut r 12 2 q.width).recPut r 16 4 track
  let m := (m.recPut r 20 4 0xFFFFFFFF).recPut r 24 8 q.when_
  if q.kind = 1 then m.bindAct r q.track else m

/-- Take a free record for a request: its state and outcome (R257, R259). -/
def actNew (m : Mach) (r : Nat) (q : TactReq) : Mach :=
  let m := { m with dle := { m.dle with
    ended := m.dle.ended.filter (· ≠ r)
    firstSup := (m.dle.firstSup.filter (· ≠ r)) ++ (if q.sup then [r] else []) } }
  let m := m.putWords (rec64 r) (List.replicate 64 0)
  ((m.recPut r 0 1 1).recPut r 1 1 0x10).actFields r q

/-- A request that fails a check of R259 with an outcome to report takes an ended record, if one is
free. -/
def actFail (m : Mach) (q : TactReq) (outcome : Nat) : Mach :=
  let m := m.dleOther
  match m.freeAct with
  | none => m
  | some r =>
    let m := m.putWords (rec64 r) (List.replicate 64 0)
    let m := ((((((((m.recPut r 2 1 q.kind).recPut r 3 1 q.level).recPut r 4 4 q.aid).recPut r 8 2 q.station).recPut
      r 10 2 q.output).recPut r 12 2 q.width).recPut r 16 4 (if q.kind = 1 then q.track else 0)).recPut
      r 20 4 0xFFFFFFFF).recPut r 24 8 q.when_
    m.endAct r outcome

/-- CANCEL (R263). -/
def actCancel (m : Mach) (q : TactReq) : Mach :=
  match m.heldAct q.aid with
  | none => m.candCancel q.aid q.station q.output
  | some r =>
    if m.recF r 0 1 = 1 then m.endAct r 0x14
    else (m.candCancel q.aid (m.recF r 8 2) (m.recF r 10 2)).endAct r 0x14

/-- SUPERSEDE of a held action (R263). -/
def actSupersede (m : Mach) (r : Nat) (q : TactReq) : Mach :=
  if m.recF r 0 1 = 1 then (m.actFields r q).actTime r (m.dle.firstSup.contains r)
  else if m.recF r 8 2 = q.station then (m.actFields r q).actTime r true
  else
    let m := m.candCancel q.aid (m.recF r 8 2) (m.recF r 10 2)
    let m := ((m.recPut r 0 1 1).recPut r 1 1 0x10).recPut r 40 8 0
    (m.actFields r q).actTime r false

/-- A TACT request in the request phase of a tick (R259). -/
def takeTact (m : Mach) (b : List Byte) : Mach :=
  let q := tactOf b
  let held := m.heldAct q.aid
  if q.kind ≠ 2 ∧ !q.sup ∧ held.isSome then m.dleOther
  else match leafOf m.mem q.station with
  | none => m.actFail q 0x16
  | some e =>
    if e.actOut ≤ q.output ∨ e.actQ = 0 then m.actFail q 0x17
    else if q.kind = 1 ∧ !(decide (q.track < m.dle.tracks) && decide (m.recF q.track 0 1 = 1)) then m.actFail q 0x04
    else if q.kind = 0 ∧ m.tick.start + 3600000000000 < q.when_ then m.actFail q 0x19
    else if q.kind = 2 then m.actCancel q
    else match m.freeAct with
      | none => m.dleOther
      | some r =>
        match held with
        | some h => m.actSupersede h q
        | none => (m.actNew r q).actTime r q.sup

/-- A TRKU request in the request phase of a tick (R256). -/
def takeTrku (m : Mach) (b : List Byte) : Mach :=
  let k := blkF b 0 4
  let op := blkF b 4 1
  let a := blkF b 6 2
  let tref := blkF b 8 8
  let st := m.recF k 0 1
  let x := m.axis a
  if m.dle.tracks ≤ k then m.dleOther
  else if op = 2 then
    if st = 0 then m else
      let bound := m.chain k
      let m := (bound.filter fun r => m.recF r 0 1 = 1).foldl (fun m r => m.endAct r 0x04) m
      m.recPut k 0 1 0
  else if 1000000000 < ((tref : Int) - m.tick.start).natAbs then m.dleOther
  else if !x.hasPos || (decide (op = 0) && decide (st ≠ 0)) || (decide (op = 1) && decide (st = 0)) then m.dleOther
  else
    let m := ((((m.recPut k 0 1 1).recPut k 2 2 a).recPut k 4 4 (blkF b 24 4)).recPut k 8 8 tref).recPut k 16 8 (blkF b 16 8)
    let m := (m.recPut k 24 8 (wrapInt 64 (x.at_ tref))).recPut k 40 8 m.tickNo
    if op = 0 then (m.recPut k 32 4 0xFFFFFFFF).recPut k 36 2 0 else m

/-- The answer to a track query (R270); what it gives for a track without a position is open. -/
def trackAnswer (m : Mach) (key qtag time : Nat) : QueryResult × Mach :=
  let x := m.axis (m.recF key 2 2)
  let st := m.recF key 0 1
  let outcome := if m.dle.tracks ≤ key then 5 else if st = 0 then 4 else if st = 2 ∨ !x.hasPos then 3
    else if x.state = 4 then 1 else if x.state = 3 then 2 else 0
  if outcome ≤ 2 then
    let pos := (m.recI key 16 * (2 ^ 16 : Nat) + x.at_ time - m.recI key 24).tdiv (2 ^ 16 : Nat)
    (⟨qtag, 0, outcome, key, m.recF key 4 4, wrapInt 64 pos, wrapInt 64 (x.v.tdiv (2 ^ 32 : Nat)), time⟩, m)
  else
    let (v, m) := m.free
    let (sp, m) := m.free
    let (tg, m) := m.free
    (⟨qtag, 0, outcome, key, if outcome = 5 then tg % 2 ^ 32 else m.recF key 4 4, v % 2 ^ 64, sp % 2 ^ 64, time⟩, m)

/-- The answer to an action query (R259, R270); the value for an unknown action is open. -/
def actAnswer (m : Mach) (key qtag time : Nat) : QueryResult × Mach :=
  let found := match m.heldAct key with
    | some r => some r
    | none => m.dle.ended.find? fun r => decide (m.recF r 0 1 = 3) && decide (m.recF r 4 4 = key) && !m.actFree r
  match found with
  | some r => (⟨qtag, 1, m.recF r 1 1, key, 0, m.recF r 32 8, 0, time⟩, m)
  | none =>
    let (v, m) := m.free
    (⟨qtag, 1, 0x1A, key, 0, v % 2 ^ 64, 0, time⟩, m)

/-- One request of a cluster's queue (R148, R270); a query is answered later in the phase. -/
def takeReq (m : Mach) (r : Req) : Mach :=
  match r.op with
  | .tact => m.takeTact r.blk
  | .trku => m.takeTrku r.blk
  | .trkq => m

/-- The answer to a query of a cluster's queue, after entry assembly (R152, R269, R270). -/
def answerReq (m : Mach) (cl : Nat) (r : Req) : Mach :=
  match r.op with
  | .tact | .trku => m
  | .trkq =>
    let time := m.tick.start + m.tickNs
    let (a, m) := if blkF r.blk 4 1 = 0 then m.trackAnswer (blkF r.blk 0 4) (blkF r.blk 8 4) time
      else m.actAnswer (blkF r.blk 0 4) (blkF r.blk 8 4) time
    m.modKiln cl fun k => { k with nextRes := k.nextRes ++ [a] }

/-! ### Entry assembly (R226, R261, R262) -/

/-- The 16 bytes of an action entry (R226). -/
def entryBytes (aid station output fire level flags width : Nat) : List Byte :=
  leBytes 4 aid ++ leBytes 2 station ++ leBytes 2 output ++ leBytes 4 fire ++ leBytes 1 level ++ leBytes 1 flags ++
  leBytes 2 width

/-- The entries already placed on a ring. -/
def placedOn (m : Mach) (ring : Nat) : Nat := (m.dle.placed.filter fun e => e.1 = ring).length

/-- The ring of a station. -/
def stationRing (m : Mach) (station : Nat) : Option Nat := (leafOf m.mem station).map CatEnt.ring

/-- Remove a candidate. -/
def candDrop (m : Mach) (c : Cand) : Mach := { m with dle := { m.dle with cands := m.dle.cands.filter (· ≠ c) } }

/-- Place a candidate, defer it, or end it (R261, R262). Where no telegrams leave, ready entries wait
(R272). -/
def candPlace (emits : Bool) (m : Mach) (c : Cand) : Mach :=
  match m.stationRing c.station with
  | none => m.candDrop c
  | some ring =>
    let room := decide (m.placedOn ring < m.fld (GXP_ACTRES ring) 15 0 / 16)
    let put (m : Mach) (b : List Byte) : Mach := { m with dle := { m.dle with placed := m.dle.placed ++ [(ring, b)] } }
    if c.cancel then
      if !emits then m
      else if room then put (m.candDrop c) (entryBytes c.aid c.station c.output 0 0 2 0)
      else m.incFld DLE_DEFCNT 15 0
    else
      let r := c.rcd
      let f : Int := m.recF r 32 8
      let ahead := f - m.tick.start
      let sent := decide (m.recF r 0 1 = 2)
      if ahead < m.leadNs then
        if sent then ((m.candDrop c).recPut r 1 1 0x12).incFld DLE_SENDCNT 15 0 else m.endAct r 0x15
      else if m.horizonNs < ahead ∨ !emits then m
      else if !room then m.incFld DLE_DEFCNT 15 0
      else
        let sup := c.sup || m.dle.firstSup.contains r
        let level := m.recF r 3 1
        let b := entryBytes c.aid c.station c.output (f.toNat % 2 ^ 32) level (b2n sup)
          (if level = 2 then m.recF r 12 2 else 0)
        let m := put (m.candDrop c) b
        let m := { m with dle := { m.dle with firstSup := m.dle.firstSup.filter (· ≠ r) } }
        let m := ((m.recPut r 0 1 2).recPut r 1 1 0x11).recPut r 40 8 (m.recF r 32 8)
        if c.again then (m.recPut r 14 1 (satInc (m.recF r 14 1) 255)).incFld DLE_SENDCNT 31 16 else m

/-- Entry assembly: CANCEL entries first, the others in ascending fire time and AID (R262). -/
def assemble (m : Mach) (emits : Bool) : Mach :=
  let cancels := m.dle.cands.filter Cand.cancel
  let others := m.dle.cands.filter fun c => !c.cancel
  let le (a b : Cand) : Bool :=
    let fa := m.recF a.rcd 32 8
    let fb := m.recF b.rcd 32 8
    decide (fa < fb) || (decide (fa = fb) && decide (a.aid ≤ b.aid))
  (cancels ++ isort le others).foldl (candPlace emits) m

/-! ### The fault of the engine (R273) -/

/-- A DLE fault (R273): the engine stops; in the tick to which it applies the module acts as for a
cluster fault (R171). -/
def dleFault (m : Mach) (thisTick : Bool) : Mach :=
  let m := ((m.setBit DLE_STAT 0 false).setBit DLE_STAT 1 true).setBit DLE_STAT 2 true
  let m := m.ledger 0x0603 3 0 0 0
  if !thisTick then { m with dle := { m.dle with faultNext := true } }
  else
    let m := { m with
      k0 := stopKiln m.k0, k1 := stopKiln m.k1
      tick := { m.tick with stopped := true }
      dle := { m.dle with fault := true } }
    let m := if m.tick.ended then m else m.undoTick
    (m.notice 2).showFiring

/-- The engine runs. -/
def dleRuns (m : Mach) : Bool := m.bit DLE_STAT 0

/-- The request phase of a tick (R269): axes, requests of the last tick, entries, answers. A comparator
mismatch after `mis` requests stops the engine there, before it places an entry or answers a query. -/
def requestPhase (m : Mach) (mis : Option Nat) (emits : Bool) : Mach :=
  let turn (k : Kiln) : Kiln := { k with results := k.nextRes, nextRes := [], taken := [] }
  let q0 := m.k0.taken
  let q1 := m.k1.taken
  let m := { m with k0 := turn m.k0, k1 := turn m.k1, dle := { m.dle with placed := [] } }
  if !m.dleRuns then m else
  let m := m.axesUpdate
  let reqs := q0.map (fun r => (0, r)) ++ q1.map (fun r => (1, r))
  let n := reqs.length
  let m := (reqs.take (mis.getD n)).foldl (fun m e => m.takeReq e.2) m
  let m := m.setFld DLE_LOAD 15 0 (400 + 4 * m.axesServed.length + 10 * n)
  match mis with
  | some _ => (m.dleShow).dleFault true
  | none => (reqs.foldl (fun m e => m.answerReq e.1 e.2) (m.assemble emits)).dleShow

/-! ### The recompute phase (R264, R265) -/

/-- Recompute one record for the next tick (R264). -/
def recompute (m : Mach) (r : Nat) : Mach :=
  let sv : Int := (m.tick.start + m.tickNs : Nat)
  let st := m.recF r 0 1
  let fsent : Int := m.recF r 40 8
  let k := m.recF r 16 4
  let kind1 := decide (m.recF r 2 1 = 1)
  if st = 2 ∧ fsent ≤ sv then m.endAct r 0x13
  else if kind1 && decide (st = 2) && !(m.chain k).contains r then m
  else
    let f := m.fireOf r
    let a := m.recF k 2 2
    let held := kind1 && decide (m.recF k 0 1 = 2) && !m.bit (DLE_AXCFG a) 2 && decide ((m.axis a).state ≠ 0)
    let note (m : Mach) : Mach := match f with
      | .at t => m.recPut r 32 8 (wrapInt 64 t)
      | _ => m
    if st = 1 then
      match f with
      | .passed => m.endAct r 0x15
      | .none => m.candClear r
      | .at t =>
        let m := note m
        if t - sv ≤ m.horizonNs then m.candReady r (m.dle.firstSup.contains r) false else m
    else
      match f with
      | .at t =>
        let tol : Int := (m.fld DLE_RETOL 15 0 : Int) +
          (if m.fld DLE_RETOL 20 16 = 0 then 0 else (fsent - sv) / (2 ^ m.fld DLE_RETOL 20 16 : Nat))
        let m := note m
        if tol < ((t - fsent).natAbs : Int) then m.candReady r true true else m
      | _ =>
        if held then m
        else if m.leadNs ≤ fsent - sv then
          let m := (m.candCancel (m.recF r 4 4) (m.recF r 8 2) (m.recF r 10 2)).candClear r
          ((m.recPut r 0 1 1).recPut r 1 1 0x10).recPut r 40 8 0
        else if m.recF r 1 1 = 0x12 then m
        else (m.recPut r 1 1 0x12).incFld DLE_SENDCNT 15 0

/-- The records that a recompute phase reaches: 4 cycles each at 600 MHz, from the action emit offset to
the next firing start (R269). -/
def recReach (m : Mach) : Nat :=
  let (_, fire, emit, _, _) := phaseNs m.tick.len
  (m.tickNs - emit + fire) * 6 / 10 / 4

/-- The recompute phase (R264): records in ascending F and AID, waiting ones without F last. A
comparator mismatch after `mis` records stops the engine there. -/
def recomputePhase (m : Mach) (mis : Option Nat) : Mach :=
  if !m.dleRuns then m else
  let live := m.acts.filter fun r => decide (m.recF r 0 1 = 1) || decide (m.recF r 0 1 = 2)
  let key (r : Nat) : Nat := if m.recF r 32 8 = 0 then 2 ^ 64 else m.recF r 32 8
  let le (a b : Nat) : Bool := decide (key a < key b) || (decide (key a = key b) && decide (m.recF a 4 4 ≤ m.recF b 4 4))
  let all := isort le live
  let reached := (all.take m.recReach).take (mis.getD all.length)
  let m := reached.foldl recompute m
  let m := (m.setFld DLE_LOAD 31 16 (min reached.length 65535)).setBit DLE_STAT 4 (decide (reached.length < all.length))
  match mis with
  | some _ => (m.dleShow).dleFault true
  | none => m.dleShow

/-! ### Restarts, loads and Catalogue changes (R272) -/

/-- Every track and every action record is released (R197, R272, R275); a CANCEL entry still leaves (R263). -/
def dleRelease (m : Mach) : Mach :=
  let m := (m.trks ++ m.acts).foldl (fun m r => m.recPut r 0 1 0) m
  ({ m with dle := { m.dle with
    cands := m.dle.cands.filter Cand.cancel, firstSup := [], ended := [], placed := [] } }).dleShow

/-- A new Catalogue takes effect (R272). -/
def dleCatalogue (m : Mach) : Mach :=
  let m := m.acts.foldl (fun m r =>
    if m.recF r 0 1 ≠ 1 ∧ m.recF r 0 1 ≠ 2 then m
    else match leafOf m.mem (m.recF r 8 2) with
      | none => m.endAct r 0x16
      | some e => if e.actOut ≤ m.recF r 10 2 ∨ e.actQ = 0 then m.endAct r 0x17 else m) m
  (m.axesOff).dleShow

/-- The engine's reset (R273, R482, R485): its registers of state, the axes and the tables' use. -/
def dleReset (m : Mach) : Mach :=
  let m := (m.wr DLE_STAT 0)
  { m with dle := { m.dle with cands := [], firstSup := [], placed := [], fault := false, faultNext := false } }

end Mach

/-! ### The commands -/

/-- AXIS_LOST (R251, R253): the miss count of an axis exceeds COAST. -/
def execAxisLost (a : Fin 1024) (s : State) : Result :=
  .next (s.live fun m =>
    if m.dleRuns && decide (m.fld (DLE_AXCFG a) 13 6 < (m.axis a).miss) then m.axisLose a else m)

/-- RECORD_FREE (R258, R269): an ended action record whose UNTIL tick is reached is freed. -/
def execRecordFree (r : Fin 65536) (s : State) : Result :=
  .next (s.live fun m =>
    if m.firstAct ≤ r.val ∧ m.recF r 0 1 = 3 ∧ m.recF r 48 8 ≤ m.tickNo then
      (({ m with dle := { m.dle with ended := m.dle.ended.filter (· ≠ r.val) } }).recPut r 0 1 0).dleShow
    else m)

/-- DLE_CMPINJ_GO (R178, R274): one comparator injection with the POINT and HALF that DLE_CMPINJ holds;
`observed` overrides bits [10:0] as a fault would make them. -/
def execDleCmpinjGo (w : Writer) (observed : Option (BitVec 11)) (s : State) : Result :=
  .next (s.access w fun m =>
    let value := m.rg DLE_CMPINJ % 8 + 256
    let open_ := (decide (m.mode = 3) && !m.bit KLN_SCHCTL 0) ||
      (decide (w.val = 6) && (decide (m.mode = 1) || (decide (m.mode = 5) && !m.firing)))
    if !open_ then m.refuse 0x0C00 w DLE_CMPINJ value
    else if m.rg DLE_CMPMASK = 0 then m.refuse 0x0C02 w DLE_CMPINJ value
    else match observed with
      | none => (m.setBit DLE_STAT 2 true).wr DLE_CMPINJ (m.rg DLE_CMPINJ % 8 + 2 ^ 10 + 2 ^ 9)
      | some o => m.wr DLE_CMPINJ (m.rg DLE_CMPINJ % 8 + bits o.toNat 10 9 * 2 ^ 9))

/-- DLE_COMPARATOR_TEST_COMPLETE (R273, R274): the test after an engine reset ends. With a failure the
engine stays stopped; otherwise it runs, and RESYNC may follow at the next boundary. -/
def execDleComparatorTestComplete (fail : Option (BitVec 2 × Bool × BitVec 32 × BitVec 11)) (s : State) : Result :=
  .next (s.live fun m =>
    if !m.dle.testing then m else
    let rj := m.dle.autoRj
    let m := { m with dle := { m.dle with testing := false, autoRj := false } }
    match fail with
    | some (point, half, mask, res) =>
      (m.setBit DLE_STAT 3 false).ledger 0x0604 3 (point.toNat + 4 * b2n half) mask.toNat res.toNat
    | none =>
      let m := (((m.setBit DLE_STAT 0 true).setBit DLE_STAT 1 false).setBit DLE_STAT 2 false).setBit DLE_STAT 3 true
      if rj && m.bit (KLN_CLCTL 0) 0 && decide (m.mode = 7) && m.bit PTL_STAT 9 then
        { m with wantMode := some 4 }
      else m)

end Sys2Proof.Machine
end

