-- ==== Sys2Proof/Machine/Mem.lean ====
section
/-! DEFINITION. The region sets of the MPU (R382, R387 to R390, R393), the check of a master's
access (R370, R381, R383, R385, R391), and the scrubs of the memory controller (R376 to R378, R394). -/

namespace Sys2Proof.Machine

/-- The arrays and windows of the memory map (R369), as the columns of the table of R19. -/
inductive Place where
  | kiln
  | image
  | track
  | journal
  | ledger
  | curator
  | ddr
  | mram
  | nor
  | periph
  | none
  deriving DecidableEq, Repr

/-- Where an address lies (R369, R370). -/
def placeOf (a : Nat) : Place :=
  if a < 0x01800000 then .kiln
  else if 0x02000000 ≤ a ∧ a < 0x02800000 then .image
  else if 0x03000000 ≤ a ∧ a < 0x03400000 then .track
  else if 0x03800000 ≤ a ∧ a < 0x03A00000 then .journal
  else if 0x03A00000 ≤ a ∧ a < 0x03B00000 then .ledger
  else if 0x03C00000 ≤ a ∧ a < 0x03E00000 then .curator
  else if 0x08000000 ≤ a ∧ a < 0x10000000 then .periph
  else if 0x10000000 ≤ a ∧ a < 0x14000000 then .mram
  else if 0x40000000 ≤ a ∧ a < 0x80000000 then .nor
  else if 0x400000000 ≤ a ∧ a < 0x800000000 then .ddr
  else .none

/-- The path of a master class to a place for a read or a write (R19); class 8 has none here, since
each of its engines reaches only its own arrays. -/
def pathOf (cls : Nat) (p : Place) (write : Bool) : Bool :=
  match cls, p with
  | _, .none => false
  | 2, .image => !write
  | 2, .track => true
  | 3, .image => true
  | 3, .ddr => true
  | 4, .kiln => true
  | 4, .image => true
  | 4, .track => true
  | 4, .journal => true
  | 4, .ddr => true
  | 5, .journal => true
  | 5, .mram => write
  | 6, .track => !write
  | 6, .journal => !write
  | 6, .nor => !write
  | 6, _ => true
  | 7, .journal => true
  | 7, .curator => true
  | 9, .kiln => true
  | 9, .ddr => true
  | 9, .periph => true
  | 9, .curator => false
  | 9, .nor => false
  | 9, _ => !write
  | _, _ => false

namespace Mach

/-- The staged region `n` of a class (R393). -/
def staged (m : Mach) (c n : Nat) : Region := ⟨m.rg64 (MPU_RBASE c n), m.rg (MPU_RATTR c n)⟩

/-- The active region `n` of a class. -/
def active (m : Mach) (c n : Nat) : Region := tabGet ⟨0, 0⟩ m.mpu (16 * c + n)

/-- A region is locked when its LOCK bit is 1 in the active set (R390). -/
def locked (m : Mach) (c n : Nat) : Bool := (m.active c n).attr.testBit 15

/-- A staged region that APPLY refuses (R387). -/
def badRegion (r : Region) : Bool :=
  let size := bits r.attr 13 8
  r.attr.testBit 14 && (decide (size < 8) || decide (47 < size) || decide (r.base % 2 ^ size ≠ 0) ||
    decide (2 ^ 48 < r.base + 2 ^ size))

/-- Show the state of a class's set in MPU_CSTAT (R393). -/
def mpuShow (m : Mach) (c : Nat) : Mach :=
  let ns := countFrom 0 16
  let m := m.setBit (MPU_CSTAT c) 0 (ns.any (m.locked c))
  m.setBit (MPU_CSTAT c) 1 (m.mpuWait.contains c || ns.any fun n => decide (m.staged c n ≠ m.active c n))

/-- Make a set active; locked active regions are carried unchanged (R387). -/
def mpuAdopt (m : Mach) (c : Nat) (set : Nat → Region) : Mach :=
  let mpu := (countFrom 0 16).foldl (fun t n =>
    if m.locked c n then t else tabPut ⟨0, 0⟩ t (16 * c + n) (set n)) m.mpu
  ({ m with mpu := mpu }).mpuShow c

/-- Kiln sets that wait take effect at the boundary, and DRAIN clears (R389). -/
def mpuBoundary (m : Mach) : Mach :=
  m.mpuWait.foldl (fun m c =>
    let next := m.mpuNext
    let m := { m with mpuWait := m.mpuWait.filter (· ≠ c) }
    ((m.mpuAdopt c fun n => tabGet ⟨0, 0⟩ next (16 * c + n)).setBit (MPU_CSTAT c) 2 false).mpuShow c) m

/-- Ask for the staged set of a class to become active (R387 to R389). -/
def mpuApply (m : Mach) (c w : Nat) : Mach :=
  if c < 2 ∧ m.mode ≠ 3 ∧ w ≠ 6 then m.refuse 0x0C00 w (MPU_CCTL c) 1
  else if m.bit (MPU_CSTAT c) 2 then m.refuse 0x0C03 w (MPU_CCTL c) 1
  else if (countFrom 0 16).any fun n => badRegion (m.staged c n) then m.emit (.status "BAD_REGION")
  else if c < 2 then
    let next := (countFrom 0 16).foldl (fun t n => tabPut ⟨0, 0⟩ t (16 * c + n) (m.staged c n)) m.mpuNext
    (({ m with mpuNext := next, mpuWait := insertNew c m.mpuWait }).setBit (MPU_CSTAT c) 2 true).mpuShow c
  else
    let set := m.staged c
    (m.mpuAdopt c set).setBit (MPU_CSTAT c) 2 true

/-- Whether any class has a locked region that covers an address (R391). -/
def lockedAddr (m : Mach) (a : Nat) : Bool :=
  (countFrom 0 10).any fun c => (countFrom 0 16).any fun n => m.locked c n && (m.active c n).covers a

/-- How an access of a master other than a Kiln core ends before it reaches its array. -/
inductive Access where
  | ok
  | noPath
  | violation
  deriving DecidableEq, Repr

/-- The check of a privileged access of a master class that is no Kiln core (R376, R381, R383,
R385): kind 0 read, 1 write. -/
def masterCheck (m : Mach) (cls inst a kind : Nat) : Access × Mach :=
  if !pathOf cls (placeOf a) (decide (kind = 1)) then (.noPath, m)
  else if placeOf a = .ddr ∧ !m.bit DDC_STAT 0 then (.noPath, m)
  else match m.regionOf cls a 16 with
    | some (n, r) => if r.allows kind true then (.ok, m) else (.violation, m.mpuReport cls inst a kind true n)
    | none => (.ok, m)

/-- A master's write of bytes that may cross 256-byte borders: each burst is checked on its own, and
a refused one is dropped (R383, R385). Answers whether every burst was written. -/
def masterWrite (m : Mach) (cls inst a : Nat) (bs : List Byte) : Bool × Mach :=
  let n := bs.length
  let starts := (a :: (countFrom (a / 256 + 1) ((a + n + 255) / 256 - a / 256 - 1)).map (256 * ·)).filter (· < a + n)
  starts.foldl (fun (ok, m) x =>
    let stop := min (a + n) ((x / 256 + 1) * 256)
    let (r, m) := m.masterCheck cls inst x 1
    match r with
    | .ok => (ok, m.store x ((bs.drop (x - a)).take (stop - x)) cls)
    | _ => (false, m)) (true, m)

/-- One word read by the patrol or a full scrub (R374, R377, R378). -/
def scrubWord (m : Mach) (w : Nat) : Mach :=
  match tabGet Ecc.good m.ecc w with
  | .good => m
  | .single => { (m.incFld (DDC_ECCCNT ((arrayOf (8 * w)).getD 0)) 15 0) with
      ecc := tabPut Ecc.good m.ecc w .good }
  | .uncorr => m.eccRecord (8 * w) 15 false true
  | .poison => m.eccRecord (8 * w) 15 true true

end Mach

/-- MPU_APPLY (R387 to R389): MPU_CCTL.APPLY for a class. -/
def execMpuApply (c : Fin 10) (w : Writer) (s : State) : Result := .next (s.access w fun m => m.mpuApply c w)

/-- DRAIN_COMPLETE (R388): every access checked under the old set of a class has completed. -/
def execDrainComplete (c : Fin 10) (s : State) : Result :=
  .next (s.live fun m => if 2 ≤ c.val then m.setBit (MPU_CSTAT c) 2 false else m)

/-- PATROL_SCRUB (R377): the patrol reads the word, or for DDR5 the 64-byte burst, at an address. -/
def execPatrolScrub (a : BitVec 48) (s : State) : Result :=
  .next (s.live fun m =>
    match Mach.arrayOf a.toNat with
    | none => m
    | some 6 =>
      if m.bit DDC_PATROL 16 && m.bit DDC_STAT 0 then
        (countFrom (a.toNat / 64 * 8) 8).foldl Mach.scrubWord m
      else m
    | some _ => if m.fld DDC_PATROL 15 0 = 0 then m else m.scrubWord (a.toNat / 8))

/-- FULL_SCRUB (R378, R394): DDC_SCRUB.FULL requests admission and then runs a full scrub. -/
def execFullScrub (w : Writer) (s : State) : Result :=
  .next (s.access w fun m =>
    if m.bit DDC_STAT 2 then m.refuse 0x0C03 w DDC_SCRUB 1
    else
      let (st, m) := (m.wr64 DDC_SCRUBPOS 0x400000000).admRequest 7 0 .scrub
      if st = 0 then m else m.emit (.status (if st = 5 then "SHUTDOWN" else "BUSY")))

/-- FULL_SCRUB_END (R378): the full scrub has read every word of DDR5 and stops. -/
def execFullScrubEnd (s : State) : Result :=
  .next (s.live fun m =>
    if !m.bit DDC_STAT 2 then m else
    let m := (tabRange m.ecc 0x80000000 0x80000000).foldl (fun m e => m.scrubWord e.1) m
    ((m.setBit DDC_STAT 2 false).wr64 DDC_SCRUBPOS 0).admDrop .scrub)

end Sys2Proof.Machine
end

