-- ==== Sys2Proof/Machine/Gexia.lean ====
section
/-! DEFINITION. The Gexia ports of the module: telegrams (R214 to R230), collectors and the input image
(R241, R246), output, action and status telegrams (R225 to R227), enumeration and configuration (R228,
R229, R236, R237), Sync on the rings (R295), captures (R248, R249). -/

namespace Sys2Proof.Machine

/-! ### Telegrams (R219 to R221) -/

/-- The fields of a telegram (R219) and its payload without padding. -/
structure Tel where
  type    : Nat
  flags   : Nat
  ring    : Nat
  index   : Nat := 0
  tick    : Nat
  seq     : Nat := 0
  ofs     : Nat := 0
  gen     : Nat
  payload : List Byte
  deriving DecidableEq, Repr

/-- The FCS of IEEE 802.3 clause 3 (R214). -/
def fcs (bs : List Byte) : List Byte := leBytes 4 (crcFold 0xEDB88320 0xFFFFFFFF bs ^^^ 0xFFFFFFFF)

namespace Tel

/-- The bytes of a telegram from its first header byte to the FCS (R219, R221). -/
def bytes (t : Tel) : List Byte :=
  let n := t.payload.length
  let b := leBytes 1 t.type ++ leBytes 1 t.flags ++ leBytes 1 t.ring ++ leBytes 1 t.index ++ leBytes 8 t.tick ++
    leBytes 4 t.seq ++ leBytes 4 t.ofs ++ leBytes 2 n ++ leBytes 2 t.gen ++ fixLen (max 36 n) t.payload
  b ++ fcs b

/-- A reserved field of the payload is not 0 (R221, R226 to R229). -/
def reserved (type : Nat) (p : List Byte) : Bool :=
  match type with
  | 3 => (countFrom 0 (p.length / 16)).any fun k => decide (4 ≤ fieldAt p (16 * k + 13) 1)
  | 4 => decide (fieldAt p 2 2 ≠ 0)
  | 5 => decide (fieldAt p 3 1 ≠ 0)
  | 6 => decide (fieldAt p 14 2 ≠ 0) || decide (fieldAt p 20 4 ≠ 0)
  | _ => false

/-- What a frame carries; none when it is discarded (R221). -/
def ofBytes (f : List Byte) : Option Tel :=
  let n := fieldAt f 20 2
  let t : Tel := {
    type := fieldAt f 0 1, flags := fieldAt f 1 1, ring := fieldAt f 2 1, index := fieldAt f 3 1
    tick := fieldAt f 4 8, seq := fieldAt f 12 4, ofs := fieldAt f 16 4, gen := fieldAt f 22 2
    payload := (f.drop 24).take n }
  if f.length = 28 + max 36 n ∧ n ≤ 1024 ∧ 1 ≤ t.type ∧ t.type ≤ 7 ∧ t.flags < 16 ∧ t.ring < 4 ∧
      f.drop (f.length - 4) = fcs (f.take (f.length - 4)) ∧ reserved t.type t.payload = false then some t
  else none

end Tel

namespace Mach

/-! ### Captures (R248, R249) -/

/-- A port's capture area is full: the capture wraps to its base, or stops (R248). -/
def captureEnd (m : Mach) (p : Nat) : Mach :=
  if m.bit (GXP_CAPCTL p) 0 then
    { m with gx := { m.gx with capture := assocPut m.gx.capture p (m.rg64 (GXP_CAPBASE p)) } }
  else m.setBit (GXP_CAPSTAT p) 0 false

/-- The bytes that a port's capture area still holds. -/
def captureRoom (m : Mach) (p : Nat) : Nat :=
  m.rg64 (GXP_CAPBASE p) + m.rg (GXP_CAPLEN p) - (assocGet m.gx.capture p).getD 0

/-- The frame is one that the capture of a port selects. -/
def captureSel (m : Mach) (p : Nat) (f : List Byte) (bad : Bool) : Bool :=
  match m.fld (GXP_CAPCTL p) 3 2 with
  | 0 => true
  | 1 => decide (fieldAt f 0 1 = 1)
  | 2 => decide (fieldAt f 0 1 = 2) || decide (fieldAt f 0 1 = 3)
  | _ => bad

/-- Enter a frame into the capture that runs on a port (R249). -/
def capture (m : Mach) (p : Nat) (f : List Byte) (sent bad : Bool) : Mach :=
  if !m.bit (GXP_CAPSTAT p) 0 || !m.captureSel p f bad then m else
    let rcd := leBytes 8 m.tick.now ++ leBytes 2 f.length ++ leBytes 1 (b2n sent + 2 * b2n bad) ++ leBytes 1 p ++
      leBytes 4 0 ++ fixLen ((f.length + 7) / 8 * 8) f
    let m := if m.captureRoom p < rcd.length then m.captureEnd p else m
    if !m.bit (GXP_CAPSTAT p) 0 then m else
      let a := (assocGet m.gx.capture p).getD 0
      let (_, m) := m.masterWrite 3 p a rcd
      let m := { m with gx := { m.gx with capture := assocPut m.gx.capture p (a + rcd.length) } }
      m.setFld (GXP_CAPSTAT p) 31 1 ((m.fld (GXP_CAPSTAT p) 31 1 + rcd.length / 2) % 2 ^ 31)

/-! ### Sending -/

/-- The port is in service and its transmitter is enabled (R215). -/
def gxDrives (m : Mach) (p : Nat) : Bool := m.bit (GXP_CTL p) 0 && m.bit (GXP_CTL p) 1

/-- The port sends trains: it drives, as a standby or a primary does (R33, R220). -/
def gxServes (m : Mach) (p : Nat) : Bool := m.gxDrives p && (decide (m.mode = 5) || decide (m.mode = 6))

/-- FLAGS of a telegram of this module: EMITTER and ECHO (R219). -/
def gxFlags (m : Mach) : Nat := b2n (m.bit CUR_PAIR 1) + 2 * b2n (decide (m.mode = 5))

/-- The low half of the active Catalogue generation. -/
def gxGen (m : Mach) : Nat := m.rg (GXP_CATGEN 0) % 2 ^ 16

/-- A frame leaves a port. -/
def gxOut (m : Mach) (p : Nat) (f : List Byte) : Mach := (m.capture p f true false).emit (.gexia p f)

/-- Frames leave, each by its port. -/
def gxOuts (m : Mach) (l : List (Nat × List Byte)) : Mach := l.foldl (fun m e => m.gxOut e.1 e.2) m

/-- The telegrams of one train: a payload in parts of at most 1,024 bytes, none for an empty one (R222). -/
def trainOf (m : Mach) (type flags p seq : Nat) (pay : List Byte) : List Tel :=
  let n := (pay.length + 1023) / 1024
  (countFrom 0 n).map fun k => {
    type := type, flags := flags + (if k + 1 = n then 4 else 0), ring := p, index := k, tick := m.tickNo
    seq := (seq + k) % 2 ^ 32, ofs := 1024 * k, gen := m.gxGen, payload := (pay.drop (1024 * k)).take 1024 }

/-- The collector train of a module port (R217, R222, R223): all zero, SEQ 0. -/
def collectorTrain (m : Mach) (p : Nat) : List Tel :=
  (m.trainOf 1 m.gxFlags p 0 (List.replicate (m.rg (GXP_PAYIN p)) 0)).map fun t => { t with seq := 0 }

end Mach

/-- Replace bytes of a list from an offset. -/
def overlay (bs : List Byte) (o : Nat) (new : List Byte) : List Byte := bs.take o ++ new ++ bs.drop (o + new.length)

namespace Mach

/-- The output bytes of a leaf as the emitted buffer gives them, forces applied (R225, R242). -/
def leafOut (m : Mach) (e : CatEnt) : List Byte :=
  let base := outBase m.tick.outBuf
  forcedBytes m.forces 1 m base (e.doutBase / 8) (e.doutCnt / 8) ++
    forcedBytes m.forces 1 m base (0x8000 + 2 * e.aoutBase) (2 * e.aoutCnt)

/-- The output payload of a ring (R222, R225). -/
def outPayload (m : Mach) (p : Nat) : List Byte :=
  ((catLeaves m.mem catActive).filter fun e => decide (e.ring = p) && decide (0 < e.outLen)).foldl
    (fun bs e => overlay bs e.outOfs (m.leafOut e)) (List.replicate (m.rg (GXP_PAYOUT p)) 0)

/-- The output train of every port that serves, and the advance of the sequences (R225). -/
def outTrains (m : Mach) : List (Nat × List Byte) × Mach :=
  (countFrom 0 4).foldl (fun (l, m) p =>
    if !m.gxServes p then (l, m) else
      let ts := m.trainOf 2 m.gxFlags p (m.rg (GXP_OSEQ p) + 1) (m.outPayload p)
      (l ++ ts.map (fun t => (p, t.bytes)), m.wr (GXP_OSEQ p) ((m.rg (GXP_OSEQ p) + ts.length) % 2 ^ 32))) ([], m)

/-- The action train of every port that serves, and the advance of the sequences (R226). -/
def actTrains (m : Mach) : List (Nat × List Byte) × Mach :=
  (countFrom 0 4).foldl (fun (l, m) p =>
    if !m.gxServes p then (l, m) else
      let pay := (m.dle.placed.filter fun e => e.1 = p).flatMap (·.2)
      let ts := (m.trainOf 3 m.gxFlags p (m.rg (GXP_ASEQ p) + 1) pay).map fun t => { t with ofs := 0 }
      (l ++ ts.map (fun t => (p, t.bytes)), m.wr (GXP_ASEQ p) ((m.rg (GXP_ASEQ p) + ts.length) % 2 ^ 32))) ([], m)

/-- The status telegram of every driving port (R227): 1 overrun, 2 restart, 3 halted, 4 cluster fault. -/
def statusTelegrams (m : Mach) (reason : Nat) : Mach :=
  (countFrom 0 4).foldl (fun m p =>
    if !m.gxDrives p then m else
      m.gxOut p ({ type := 4, flags := m.gxFlags + 4, ring := p, tick := m.tickNo, gen := m.gxGen
                   payload := leBytes 1 m.mode ++ leBytes 1 reason ++ leBytes 2 0 ++ leBytes 4 (m.rg (GXP_CATGEN 0)) } : Tel).bytes) m

/-! ### The input image (R241) -/

/-- A port's write into process image SRAM (R19, R381). -/
def gxPut (m : Mach) (p a : Nat) (bs : List Byte) : Mach := (m.masterWrite 3 p a bs).2

/-- Set the status bit of a leaf in the back input buffer. -/
def setPresent (m : Mach) (p n : Nat) (v : Bool) : Mach :=
  let a := inBase (1 - m.tick.inBuf) + (0x0A0000 + n) / 8
  let k := (0x0A0000 + n) % 8
  m.gxPut p a [BitVec.ofNat 8 (putBits (m.mem.ld8 a).toNat k k (b2n v))]

/-- Write the data of a leaf into the back input buffer and the axis records, and set its status bit (R223,
R241). -/
def leafIn (m : Mach) (p : Nat) (e : CatEnt) (data : List Byte) : Mach :=
  let base := inBase (1 - m.tick.inBuf)
  let d := e.dinCnt / 8
  let w := 2 * e.ainCnt
  let m := (m.gxPut p (base + e.dinBase / 8) (data.take d)).gxPut p (base + 0x8000 + 2 * e.ainBase) ((data.drop d).take w)
  let m := m.gxPut p (0x02600000 + 8 * e.encBase) ((data.drop (d + w)).take (8 * e.encCnt))
  m.setPresent p e.slot true

/-- The presence bit of the `i`-th leaf beneath a direct concentrator (R224). -/
def leafBit (status : List Byte) (i : Nat) : Bool := (leNat status).testBit (8 + i)

/-- The slot of a direct entry has arrived with PRESENT = 1 (R241, R268, R297). -/
def slotIn (m : Mach) (p : Nat) (leaves : List CatEnt) (e : CatEnt) (pay : List Byte) (ofs : Nat) : Mach :=
  let slot := (pay.drop (e.inOfs - ofs)).take e.inLen
  let flag (k : Nat) : Bool := (leNat (slot.take 1)).testBit k
  let key := (p, e.pos)
  if !flag 0 ∨ m.gx.arrived.contains key then m else
  let under := leavesUnder leaves e
  let there (i : Nat) : Bool := !e.conc || leafBit (slot.take (statusLen under.length)) i
  let m := (List.zip (countFrom 0 under.length) under).foldl (fun m l =>
    if there l.1 then m.leafIn p l.2 ((pay.drop (l.2.inData - ofs)).take l.2.dataIn) else m) m
  let news := flag 5 && !m.gx.unsync.contains key
  let m := { m with gx := { m.gx with
    arrived := m.gx.arrived ++ [key]
    pendok := if flag 3 then m.gx.pendok ++ [key] else m.gx.pendok
    unsync := if flag 5 then insertNew key m.gx.unsync else m.gx.unsync.filter (· ≠ key)
    unsyncNew := if flag 5 then insertNew key m.gx.unsyncNew else m.gx.unsyncNew } }
  let m := if flag 2 then (m.incFld DLE_DEFCNT 31 16).ledger 0x0602 3 (p * 256 + e.pos) 0 0 else m
  if news then m.ledger 0x0707 8 (p * 256 + e.pos) 0 0 else m

/-- A collector telegram of this tick under the active generation (R241). -/
def collectorIn (m : Mach) (p : Nat) (t : Tel) : Mach :=
  let m := (m.gxPut p (0x02180000 + 0x20000 * p + t.ofs) t.payload).setBit (GXP_STAT p) 6 (t.flags.testBit 3)
  let leaves := catLeaves m.mem catActive
  let ds := (directs (catAll m.mem catActive) p).filter fun e =>
    decide (0 < e.inLen) && decide (t.ofs ≤ e.inOfs) && decide (e.inOfs + e.inLen ≤ t.ofs + t.payload.length)
  ds.foldl (fun m e => m.slotIn p leaves e t.payload t.ofs) m

/-- A collector frame arrives at a port (R54, R221, R238, R241). -/
def collectorRecv (m : Mach) (p : Nat) (f : List Byte) : Mach :=
  if !m.bit (GXP_CTL p) 0 then m else
  match Tel.ofBytes f with
  | none => (m.capture p f false true).incFld (GXP_RXCNT p) 15 0
  | some t =>
    let m := m.capture p f false false
    if t.type ≠ 1 ∨ t.gen ≠ m.gxGen then m.incFld (GXP_RXCNT p) 15 0
    else if t.tick = m.tickNo ∧ m.tick.phase = 0 then m.collectorIn p t
    else ((m.incFld (GXP_RXCNT p) 31 16).setBit KLN_OVRSTAT 2 true).ledger 0x0201 4 (p * 256 + 0xFF) 0 0

/-- The back input buffer at the start of a tick (R241): every leaf takes its values from the current buffer
until its slot arrives, with status bit 0. -/
def inputOpen (m : Mach) : Mach :=
  let back := inBase (1 - m.tick.inBuf)
  let m := (m.copyWords (inBase m.tick.inBuf) back 0x20000).zeroWords (back + 0x14000) 0x200
  { m with gx := { m.gx with arrived := [], pendok := [], unsyncNew := [] } }

/-- What the ports show of the tick's trains at input close (R248, R297): the farthest entry, seen from
this module's end, and the count of entries not synchronised. -/
def gxClose (m : Mach) : Mach :=
  let m := m.setFld TMB_STAT 24 16 (min 511 m.gx.unsyncNew.length)
  (countFrom 0 4).foldl (fun m p =>
    let ps := (m.gx.arrived.filter fun e => e.1 = p).map (·.2)
    let far := match ps with
      | [] => 0xFF
      | x :: xs => if m.bit CUR_PAIR 1 then xs.foldl min x else xs.foldl max x
    m.setFld (GXP_STAT p) 23 16 far) m

/-! ### Presence (R237, R246) -/

/-- The bit of a ring position in GXP_PRES0 and GXP_PRES1. -/
def presBit (m : Mach) (p pos : Nat) : Bool := m.bit (GXP_PRES p (pos / 32)) (pos % 32)

/-- A direct entry is present in the reconciled image (R246). -/
def entPresent (m : Mach) (leaves : List CatEnt) (e : CatEnt) : Bool :=
  (leavesUnder leaves e).any fun l => leafPresent m.mem (inBase m.tick.inBuf) l.slot

/-- One direct entry against the reconciled image. -/
def presence1 (m : Mach) (p : Nat) (leaves : List CatEnt) (e : CatEnt) : Mach :=
  let was := m.presBit p e.pos
  let now := m.entPresent leaves e
  let key := (p, e.pos)
  let m := m.setBit (GXP_PRES p (e.pos / 32)) (e.pos % 32) now
  if was && !now then
    ({ m with gx := { m.gx with lost := insertNew key m.gx.lost } }).ledger 0x0500 4 (p * 256 + e.pos) 0 0
  else if !was && now then
    let conf := m.gx.configured.contains key
    let back := m.gx.lost.contains key
    let m := { m with gx := { m.gx with
      configured := m.gx.configured.filter (· ≠ key), lost := m.gx.lost.filter (· ≠ key) } }
    if conf || back then m.ledger 0x0501 4 (p * 256 + e.pos) (b2n conf) 0 else m
  else m

/-- Judge the presence of every direct entry after the input buffers have swapped (R246, R248). -/
def presence (m : Mach) : Mach :=
  let leaves := catLeaves m.mem catActive
  let all := catAll m.mem catActive
  (countFrom 0 4).foldl (fun m p =>
    let ds := directs all p
    let m := ds.foldl (fun m e => m.presence1 p leaves e) m
    m.setFld (GXP_ENTRIES p) 22 16 (ds.filter fun e => m.presBit p e.pos).length) m

/-! ### The Catalogue takes effect (R236) -/

/-- The Catalogue at its place becomes active: the ring records reach the port registers (R236, R248). -/
def catActivate (m : Mach) : Mach :=
  let g := catGen m.mem catActive
  let all := catAll m.mem catActive
  (countFrom 0 4).foldl (fun m p =>
    let r := ringRec m.mem catActive p
    let m := ((((m.setFld (GXP_WDOG p) 7 0 r.wdog).setFld (GXP_TXCTL p) 15 0 r.holdback).setFld (GXP_PAYIN p) 19 0 r.payIn).setFld
      (GXP_PAYOUT p) 19 0 r.payOut).setFld (GXP_ACTRES p) 15 0 r.actRes
    let m := (m.setBit (GXP_CTL p) 2 (decide (r.lane = 1))).setBit (GXP_CTL p) 0 (decide (r.direct ≠ 0))
    ((m.setFld (GXP_ENTRIES p) 6 0 (directs all p).length).wr (GXP_CATGEN p) g).wr (GXP_CATPEND p) 0) m

/-- Show the pending Catalogue generation in every window (R248). -/
def catPend (m : Mach) (g : Nat) : Mach := (countFrom 0 4).foldl (fun m p => m.wr (GXP_CATPEND p) g) m

/-! ### Enumeration and configuration (R228, R229, R237) -/

/-- The configure telegrams of an entry of the Catalogue at `base` (R229). -/
def configTels (m : Mach) (p base : Nat) (e : CatEnt) (at_ : Nat) (pend : Bool) : List Tel :=
  let fb := m.mem.ldBytes (base + 0x50000 + 16 * e.fb) ((e.fbLen + 15) / 16 * 16)
  let head := leBytes 4 e.path ++ leBytes 4 m.tickNs ++ leBytes 4 (phaseNs m.tick.len).2.2.2.2 ++
    leBytes 1 (m.rg (GXP_WDOG p)) ++ leBytes 1 (b2n pend) ++ leBytes 2 0 ++ leBytes 4 (catGen m.mem base) ++ leBytes 4 0 ++
    m.mem.ldBytes at_ 64
  let n := max 1 ((fb.length + 935) / 936)
  (countFrom 0 n).map fun k => {
    type := 6, flags := m.gxFlags + (if k + 1 = n then 4 else 0), ring := p, index := k, tick := m.tickNo
    ofs := 936 * k, gen := m.gxGen, payload := head ++ (fb.drop (936 * k)).take 936 }

/-- Where an entry of a Catalogue stands (R231). -/
def entAt (base : Nat) (e : CatEnt) : Nat := (if e.conc then base + 0x8000 else base + 0x10000) + 64 * e.slot

/-- Send an entry its configuration. -/
def sendConfig (m : Mach) (base : Nat) (e : CatEnt) (pend : Bool) : Mach :=
  if !m.gxServes e.ring then m
  else m.gxOuts ((m.configTels e.ring base e (entAt base e) pend).map fun t => (e.ring, t.bytes))

/-- One identity record of an enumerate train (R237). -/
def enumRecord (m : Mach) (p : Nat) (r : List Byte) : Mach :=
  match (catAll m.mem catActive).find? fun e => decide (e.ring = p) && decide (e.path = fieldAt r 0 4) with
  | none => m.incFld (GXP_EXTRA p) 15 0
  | some e =>
    if e.vendor ≠ fieldAt r 4 2 ∨ e.product ≠ fieldAt r 6 2 ∨ e.revision / 256 ≠ fieldAt r 8 2 / 256 then
      (m.incFld (GXP_EXTRA p) 31 16).ledger 0x0502 4 (p * 256 + e.pos) 0 0
    else if fieldAt r 11 1 = 0 ∨ fieldAt r 11 1 = 3 then
      let m := { m with gx := { m.gx with configured := insertNew (p, e.pos) m.gx.configured } }
      m.sendConfig catActive e false
    else m

/-- An enumerate telegram arrives (R228, R237). -/
def enumRecv (m : Mach) (p : Nat) (f : List Byte) : Mach :=
  if !m.bit (GXP_CTL p) 0 then m else
  match Tel.ofBytes f with
  | none => (m.capture p f false true).incFld (GXP_RXCNT p) 15 0
  | some t =>
    let m := m.capture p f false false
    if t.type ≠ 5 ∨ t.payload.length < 4 then m else
    let n := (t.payload.length - 4) / 16
    let m := (countFrom 0 n).foldl (fun m k => m.enumRecord p ((t.payload.drop (4 + 16 * k)).take 16)) m
    let full := fieldAt t.payload 2 1
    if full = 0xFF then { m with gx := { m.gx with enumFirst := assocPut m.gx.enumFirst p 0 } }
    else { m with gx := { m.gx with
      enumFirst := assocPut m.gx.enumFirst p full, enumNext := insertNew p m.gx.enumNext } }

/-- The ports that send an enumerate train in the tick that starts (R237). -/
def enumBoundary (m : Mach) : Mach :=
  let serves := decide (m.mode = 5) || decide (m.mode = 6)
  let due (p : Nat) : Bool := m.gxServes p &&
    (!m.gx.drove || decide (m.tickNo % 256 = 128) || m.gx.enumNext.contains p)
  { m with gx := { m.gx with
    enums := (countFrom 0 4).filter due, enumNext := [], drove := serves } }

/-- The enumerate telegram of a port (R228). -/
def enumTel (m : Mach) (p : Nat) : Tel :=
  { type := 5, flags := m.gxFlags + 4, ring := p, tick := m.tickNo, gen := m.gxGen
    payload := [0, BitVec.ofNat 8 ((assocGet m.gx.enumFirst p).getD 0), 0xFF, 0] }

/-! ### Sync on the rings (R230, R295) -/

/-- A one-step PTP Sync with its fields: domain, correctionField, sequenceId and originTimestamp. The clock
identity is taken from the serial number; flags and logMessageInterval are 0 (log entry 32). -/
def syncBytes (port domain corr seqid origin : Nat) : List Byte :=
  leBytes 1 0 ++ leBytes 1 2 ++ beBytes 2 44 ++ leBytes 1 domain ++ leBytes 1 0 ++ leBytes 2 0 ++ beBytes 8 corr ++
  leBytes 4 0 ++ fixLen 8 Config.serial ++ beBytes 2 (port + 1) ++ beBytes 2 seqid ++ leBytes 1 0 ++ leBytes 1 0 ++ beBytes 10 origin

/-- A PTP timestamp of a plant time: 48 bits of seconds and 32 of nanoseconds. -/
def ptpStamp (t : Nat) : Nat := t / 1000000000 * 2 ^ 32 + t % 1000000000

/-- The Sync of a port in a tick (R295): the primary's own, or the standby's echo with the primary's
originTimestamp and the correction that it has gathered. -/
def gxSync (m : Mach) (p seqid origin corr : Nat) : Mach :=
  let div := m.fld TMB_GXSYNC 7 0
  if !m.gxServes p ∨ div = 0 ∨ m.tickNo % div ≠ 0 then m else
    let pay := if m.mode = 6 then syncBytes p (m.fld TMB_PTPCFG 23 16) 0 seqid (ptpStamp m.tick.now)
      else syncBytes p (m.fld TMB_PTPCFG 23 16) corr seqid origin
    m.gxOut p ({ type := 7, flags := m.gxFlags + 4, ring := p, tick := m.tickNo, gen := m.gxGen, payload := pay } : Tel).bytes

end Mach

/-! ### The commands -/

/-- COLLECTOR_RECEIVE (R54, R221, R238, R241, R268, R297): a collector frame arrives at a port. -/
def execCollectorReceive (p : PortId) (f : List Byte) (s : State) : Result :=
  .next (s.live fun m => m.collectorRecv p f)

/-- ENUMERATE_RECEIVE (R228, R237): an enumerate frame arrives at a port. -/
def execEnumerateReceive (p : PortId) (f : List Byte) (s : State) : Result :=
  .next (s.live fun m => m.enumRecv p f)

/-- ENUMERATE_PERIODIC (R228, R237): a port that is due in this tick sends an enumerate train. -/
def execEnumeratePeriodic (p : PortId) (s : State) : Result :=
  .next (s.live fun m =>
    if !m.gx.enums.contains p ∨ !m.gxServes p then m else
    let m := { m with gx := { m.gx with enums := m.gx.enums.filter (· ≠ p.val) } }
    m.gxOut p (m.enumTel p).bytes)

/-- ENUMREQ (R237, R248): GXP_CTL.ENUMREQ sends an enumerate train in the next tick. -/
def execEnumreq (p : PortId) (w : Writer) (s : State) : Result :=
  .next (s.access w fun m => { m with gx := { m.gx with enumNext := insertNew p.val m.gx.enumNext } })

/-- RING_STATE_CHANGE (R217, R248): the PCS and the ring state of a port change. -/
def execRingStateChange (p : PortId) (st : BitVec 2) (link : Bool) (s : State) : Result :=
  .next (s.live fun m =>
    let old := m.fld (GXP_STAT p) 5 4
    let m := (m.setBit (GXP_STAT p) 7 link).setFld (GXP_STAT p) 5 4 st.toNat
    if old = st.toNat then m else
    let m := m.incFld (GXP_STAT p) 15 8
    if old = 2 ∧ st.toNat = 3 then m.ledger 0x0503 4 0 0 0
    else if old = 3 ∧ st.toNat = 2 then m.ledger 0x0504 4 0 0 0 else m)

/-- CAPTURE_GO (R248): GXP_CAPCTL.GO. -/
def execCaptureGo (p : PortId) (w : Writer) (s : State) : Result :=
  .next (s.access w fun m =>
    let v := m.rg (GXP_CAPCTL p) + 2
    if m.rg (GXP_CAPLEN p) = 0 then m.refuse 0x0C02 w (GXP_CAPCTL p) v
    else if m.bit (GXP_CAPSTAT p) 0 then m.refuse 0x0C03 w (GXP_CAPCTL p) v
    else
      ({ m with gx := { m.gx with capture := assocPut m.gx.capture p (m.rg64 (GXP_CAPBASE p)) } }).wr (GXP_CAPSTAT p) 1)

/-- CAPTURE_FULL (R248): no further record fits into a port's capture area. -/
def execCaptureFull (p : PortId) (s : State) : Result :=
  .next (s.live fun m => if m.bit (GXP_CAPSTAT p) 0 ∧ m.captureRoom p < 80 then m.captureEnd p else m)

/-- GEXIA_SYNC (R295): the Sync of a port in the window of R230. -/
def execGexiaSync (p : PortId) (seqid : BitVec 16) (origin : BitVec 80) (corr : BitVec 64) (s : State) : Result :=
  .next (s.live fun m => m.gxSync p seqid.toNat origin.toNat corr.toNat)

/-- PDELAY_MEASURE (R295): a port's Pdelay exchange gives the delay of its link, in ns. -/
def execPdelayMeasure (p : PortId) (delay : BitVec 32) (s : State) : Result :=
  .next (s.live fun m =>
    if !m.gxDrives p then m else
    ({ m with gx := { m.gx with pdelay := assocPut m.gx.pdelay p delay.toNat } }).emit (.ptp 2 (2 + p.val)))

end Sys2Proof.Machine
end

