-- ==== Sys2Proof/Machine/Program.lean ====
section
/-! DEFINITION. The life of a program (R187 to R213): the image and its checks, loading, restarts, online
change, forces. -/

namespace Sys2Proof.Machine

/-! ### The image (R187 to R190) -/

/-- Two extents as address and length. -/
def extMeet (a b : Nat × Nat) : Bool := meets a.1 a.2 b.1 b.2

/-- An entry of the section table (R188). -/
def imgSection (img : List Byte) (k : Nat) : Section :=
  let o := 128 + 32 * k
  { kind := fieldAt img o 1, flags := fieldAt img (o + 1) 1, addr := fieldAt img (o + 4) 4
    size := fieldAt img (o + 8) 4, offset := fieldAt img (o + 12) 4, clen := fieldAt img (o + 16) 4 }

/-- The section table. -/
def imgSections (img : List Byte) : List Section := (countFrom 0 (fieldAt img 6 2)).map (imgSection img)

/-- The contents of a section. -/
def sectBytes (img : List Byte) (x : Section) : List Byte := (img.drop x.offset).take x.clen

/-- The one section of a kind, if there is one. -/
def sectOf (l : List Section) (kind : Nat) : Option Section := l.find? fun x => x.kind = kind

/-- The contents of the one section of a kind. -/
def kindBytes (img : List Byte) (kind : Nat) : List Byte :=
  match sectOf (imgSections img) kind with
  | some x => sectBytes img x
  | none => []

/-- An entry of the task table (R189). -/
def imgTask (t : List Byte) (k : Nat) : TaskEnt :=
  let f (o n : Nat) : Nat := fieldAt t (32 * k + o) n
  { root := f 0 2, cl := f 2 1, rate := f 3 1, policy := f 4 1, flags := f 5 1, top := f 8 4
    floor := f 12 4, frame := f 16 4, budget := f 20 4, sidx := f 24 4 }

/-- An entry of the retained directory (R190). -/
def imgDir (t : List Byte) (k : Nat) : RdirEnt :=
  let f (o n : Nat) : Nat := fieldAt t (24 * k + o) n
  ⟨f 0 8, f 8 4, f 12 4, f 16 4⟩

/-- What an image holds (R187 to R190), with the program generation that it receives (R193). -/
def progOf (img : List Byte) (gen : Nat) : Prog :=
  let sects := imgSections img
  let sl := kindBytes img 6
  { gen := gen, id := fieldAt img 8 8, tickNs := fieldAt img 20 4, catGen := fieldAt img 24 4
    delta := fieldAt img 32 4, rbase := fieldAt img 40 4, rlen := fieldAt img 44 4
    start := fieldAt img 48 4, units := fieldAt img 52 4
    unitBase := ((sectOf sects 4).map (·.addr)).getD 0
    tasks := (countFrom 0 (fieldAt img 28 2)).map (imgTask (kindBytes img 5))
    slices := (countFrom 0 (sl.length / 4)).map fun k => fieldAt sl (4 * k) 4
    own := kindBytes img 7, route := kindBytes img 8
    rdir := (countFrom 0 (fieldAt img 36 4)).map (imgDir (kindBytes img 9))
    sects := sects, digest := (img.drop 64).take 48, bytes := img }

namespace Prog

/-- The placed extents of a program in Kiln SRAM: sections of kinds 0 to 4, and the retained segment. -/
def extents (p : Prog) : List (Nat × Nat) :=
  ((p.sects.filter fun x => x.kind ≤ 4).map fun x => (x.addr, x.size)) ++ [(p.rbase, p.rlen)]

/-- The largest task rate (R198). -/
def rmax (p : Prog) : Nat := (p.tasks.map fun t => 2 ^ t.rate).foldl max 1

/-- The enabled tasks of a cluster. -/
def tasksOn (p : Prog) (cl : Nat) : List TaskEnt := p.tasks.filter fun t => t.flags.testBit 0 && decide (t.cl = cl)

end Prog

/-! ### Checks 1 to 3 of R191 -/

/-- The reserved fields of the header are 0 (R187). -/
def headZero (img : List Byte) : Bool :=
  decide (fieldAt img 30 2 = 0) && decide (fieldAt img 56 8 = 0) && decide (fieldAt img 112 16 = 0)

/-- The fields of the header are in range (R187). -/
def headOk (img : List Byte) : Bool :=
  let f := fieldAt img
  decide (f 0 4 = 0x50564C57) && decide (f 4 2 = 1) && decide (f 6 2 ≤ 64) && decide (f 16 4 ≤ 33554432) &&
  decide (f 28 2 ≤ 16) && decide (f 32 4 ≤ 8192) && decide (f 36 4 ≤ 65535) && decide (f 40 4 % 64 = 0) &&
  decide (f 44 4 % 8 = 0) && decide (f 44 4 ≤ 8388608) && decide (f 48 4 % 8 = 0) && decide (1 ≤ f 52 4) &&
  decide (f 52 4 ≤ 65536) && headZero img

/-- A section table entry is in range and inside LENGTH (R188). -/
def sectOk (img : List Byte) (k : Nat) : Bool :=
  let o := 128 + 32 * k
  let x := imgSection img k
  decide (x.kind ≤ 9) && decide (x.flags ≤ 1) && decide (fieldAt img (o + 2) 2 = 0) &&
  decide (fieldAt img (o + 20) 12 = 0) && decide (x.addr % 64 = 0) && (decide (x.kind ≤ 4) || decide (x.addr = 0)) &&
  decide (x.clen ≤ x.size) && decide (x.offset + x.clen ≤ fieldAt img 16 4)

/-- A table of an image has room for its entries (R80, R188 to R190); behind the contents of the unit table its
extent holds 0. -/
def kindLenOk (img : List Byte) (x : Section) : Bool :=
  match x.kind with
  | 4 => decide (16 * fieldAt img 52 4 ≤ x.size)
  | 5 => decide (32 * fieldAt img 28 2 ≤ x.clen)
  | 6 => decide (x.clen % 4 = 0)
  | 7 => decide (x.clen = 20480)
  | 8 => decide (x.clen = 32)
  | 9 => decide (24 * fieldAt img 36 4 ≤ x.clen)
  | _ => true

/-- Each of kinds 4 to 8 stands once, kind 9 as RDIR asks (R188). -/
def kindsOk (img : List Byte) : Bool :=
  let cnt (k : Nat) : Nat := ((imgSections img).filter fun x => x.kind = k).length
  ([4, 5, 6, 7, 8].all fun k => decide (cnt k = 1)) && decide (cnt 9 = (if fieldAt img 36 4 = 0 then 0 else 1))

/-- Check 2 of R191. -/
def imgCheck2 (img : List Byte) : Bool :=
  headOk img && decide (128 + 32 * fieldAt img 6 2 ≤ img.length) &&
  ((countFrom 0 (fieldAt img 6 2)).all (sectOk img)) && kindsOk img

/-- Checks 1 to 3 of R191: the status code of the first that fails, 0 for none. -/
def imgCheck (img : List Byte) : Nat :=
  if img.length < 128 then 3
  else if fieldAt img 16 4 = 0 ∨ fieldAt img 6 2 = 0 then 2
  else if !imgCheck2 img then 3
  else if img.length ≠ fieldAt img 16 4 ∨ (img.drop 64).take 48 ≠ sha384 (img.drop 128) then 3
  else 0

/-! ### Checks 6 and 7 of R191 -/

/-- Check 6: extents below the exchange areas, apart from each other and from those of a running image. -/
def extentsOk (p : Prog) (running : Option Prog) : Bool :=
  p.extents.all (fun e => decide (e.2 = 0) || decide (e.1 + e.2 ≤ 0x017E0000)) && noPair extMeet p.extents &&
  match running with
  | some q => p.extents.all fun a => q.extents.all fun b => !extMeet a b
  | none => true

/-- A task table entry obeys R189. -/
def taskOk (p : Prog) (t : List Byte) (k : Nat) : Bool :=
  let e := imgTask t k
  decide (e.cl ≤ 1) && decide (e.rate ≤ 8) && decide (e.policy ≤ 3) && decide (e.flags ≤ 3) &&
  decide (fieldAt t (32 * k + 6) 2 = 0) && decide (fieldAt t (32 * k + 28) 4 = 0) && decide (e.root < p.units) &&
  decide (1 ≤ e.budget) && decide (e.budget ≤ 1048575) && decide (e.sidx + 2 ^ e.rate ≤ p.slices.length) &&
  ((p.slices.drop e.sidx).take (2 ^ e.rate)).all (· ≤ e.budget)

/-- A unit table entry obeys R80. -/
def unitOk (t : List Byte) (k : Nat) : Bool :=
  decide (fieldAt t (16 * k) 4 % 4 = 0) && decide (fieldAt t (16 * k + 8) 1 ≤ 3) && decide (fieldAt t (16 * k + 9) 7 = 0)

/-- The retained directory obeys R190. -/
def dirOk (p : Prog) (t : List Byte) : Bool :=
  ((countFrom 0 p.rdir.length).all fun k => decide (fieldAt t (24 * k + 20) 4 = 0)) &&
  p.rdir.all (fun e => decide (e.offset % 8 = 0) && decide (e.length % 8 = 0) && decide (8 ≤ e.length) &&
    decide (e.offset + e.length ≤ p.rlen)) &&
  noPair (fun a b => decide (a.name = b.name) || meets a.offset a.length b.offset b.length) p.rdir

/-- No output byte has the reserved owner code (R75). -/
def ownOk (own : List Byte) : Bool :=
  own.all fun b => (countFrom 0 4).all fun k => decide (bits b.toNat (2 * k + 1) (2 * k) ≠ 3)

/-- The start record lies in one extent of kind 2 or 3 (R187). -/
def startOk (p : Prog) : Bool :=
  p.sects.any fun x => (x.kind == 2 || x.kind == 3) && decide (x.addr ≤ p.start) && decide (p.start + 32 ≤ x.addr + x.size)

/-! ### The built Kiln regions (R384) -/

/-- An extent with the permissions that govern it, in the six low bits of MPU_RATTR. -/
structure Ext where
  base : Nat
  end_ : Nat
  perm : Nat
  deriving DecidableEq, Repr

/-- Insert an extent in rising order of its base. -/
def extInsert (e : Ext) : List Ext → List Ext
  | [] => [e]
  | x :: xs => if e.base ≤ x.base then e :: x :: xs else x :: extInsert e xs

/-- Merge extents of one permission that touch or overlap; the list rises by base. -/
def extMerge : List Ext → List Ext
  | [] => []
  | e :: rest =>
    match extMerge rest with
    | x :: xs => if x.base ≤ e.end_ ∧ x.perm = e.perm then { e with end_ := max e.end_ x.end_ } :: xs else e :: x :: xs
    | [] => [e]

/-- The extents of one item of R384, merged by permission. -/
def extItem (l : List Ext) : List Ext :=
  let l := l.filter fun e => e.base < e.end_
  let perms := l.foldl (fun ps e => insertNew e.perm ps) []
  let merged := perms.flatMap fun p => extMerge ((l.filter fun e => e.perm = p).foldl (fun acc e => extInsert e acc) [])
  merged.foldl (fun acc e => extInsert e acc) []

/-- The largest SIZE code at or below `n` whose region at `a` is aligned and ends at or below `b`. -/
def fitSize (a b : Nat) : Nat → Nat
  | 0 => 8
  | n + 1 => if a % 2 ^ (n + 9) = 0 ∧ a + 2 ^ (n + 9) ≤ b then n + 9 else fitSize a b n

/-- Cover `[a, b)`, whose ends are multiples of 256, by the fewest aligned power-of-two regions. -/
def coverExt (perm b : Nat) : Nat → Nat → List Region
  | 0, _ => []
  | fuel + 1, a =>
    if b ≤ a then [] else
      let k := fitSize a b 39
      ⟨a, perm + k * 2 ^ 8 + 2 ^ 14⟩ :: coverExt perm b fuel (a + 2 ^ k)

/-- Cover an extent, rounded outward to the smallest region size. -/
def coverOf (e : Ext) : List Region := coverExt e.perm ((e.end_ + 255) / 256 * 256) 96 (e.base / 256 * 256)

/-- Permissions for user and privileged accesses alike: read, write, fetch. -/
def permAll (r w x : Bool) : Nat := 9 * (b2n r + 2 * b2n w + 4 * b2n x)

/-- The regions that R384 builds for a cluster. -/
def builtRegions (p : Prog) (cl : Nat) : List Region :=
  let sect (ks : List Nat) (perm : Section → Nat) : List Ext :=
    (p.sects.filter fun x => ks.contains x.kind).map fun x => ⟨x.addr, x.addr + x.size, perm x⟩
  let callStacks : List Ext := (p.tasks.filter fun t => t.cl = cl).map fun t => ⟨t.floor, t.top, 1 + 8 + 16⟩
  let own := 0x017E0000 + 0x10000 * cl
  let other := 0x017E0000 + 0x10000 * (1 - cl)
  (extItem (sect [0, 1, 4] fun x => permAll true (x.flags = 0) true) ++
    extItem (sect [2, 3] fun _ => permAll true true false) ++
    extItem [⟨p.rbase, p.rbase + p.rlen, permAll true true false⟩] ++ extItem callStacks ++
    extItem [⟨own, own + 0x8000, permAll true true false⟩] ++
    extItem [⟨other, other + 0x8000, permAll true false false⟩]).flatMap coverOf

/-- Check 7 of R191. -/
def imgCheck7 (img : List Byte) (p : Prog) : Bool :=
  (imgSections img).all (kindLenOk img) && ((countFrom 0 p.tasks.length).all (taskOk p (kindBytes img 5))) &&
  ((countFrom 0 p.units).all (unitOk (kindBytes img 4))) && dirOk p (kindBytes img 9) && ownOk p.own && startOk p &&
  decide ((builtRegions p 0).length ≤ 12) && decide ((builtRegions p 1).length ≤ 12)

/-! ### Check 9 of R191: the budget -/

/-- The cycles of a firing in a tick residue (R51). -/
def firingCost (p : Prog) (cl t : Nat) : Nat :=
  600 + ((p.tasksOn cl).map fun k => 64 + p.slices.getD (k.sidx + t % 2 ^ k.rate) 0).sum

/-- R51 for both clusters and every residue. -/
def cyclesOk (p : Prog) (len reserve : Nat) : Bool :=
  [0, 1].all fun cl => (countFrom 0 256).all fun t => decide (firingCost p cl t + reserve ≤ Mach.windowCycles len)

/-- R52 for the declared delta, in quarters of a ns. -/
def deltaOk (p : Prog) (len : Nat) : Bool :=
  let d := 64 + p.delta
  let (close, _, _, out, _) := Mach.phaseNs len
  decide (4 * (out + 2000) + max (2 * d + 8000) (5 * d) ≤ 4 * (Mach.lenNs len + close))

namespace Mach

/-- Checks 4 to 9 of R191 with the Catalogue at `base`: the status code of the first that fails. -/
def progCheck (m : Mach) (img : List Byte) (p : Prog) (base : Nat) (running : Option Prog) : Nat :=
  let len := m.fld KLN_TICKSEL 2 0
  if p.tickNs ≠ lenNs len then 4
  else if p.catGen ≠ catGen m.mem base then 5
  else if !extentsOk p running then 6
  else if !imgCheck7 img p then 3
  else if p.tasks.any fun t => t.flags.testBit 0 && decide (m.fld (KLN_CLSTAT t.cl) 2 0 = 4) then 7
  else if !catBudget m.mem base len || !cyclesOk p len (m.fld KLN_RESERVE 19 0) || !deltaOk p len then 8
  else 0

end Mach

/-- The names of the status codes of the program chapter. -/
def pgmName (code : Nat) : String :=
  (["OK", "BUSY", "REFUSED_ZERO", "BAD_IMAGE", "TICK_MISMATCH", "CATALOGUE_MISMATCH", "OVERLAP", "CLUSTER_FAILED",
    "OVER_BUDGET", "NOT_BENCH", "NO_PROGRAM", "PARTNER_PRIMARY", "FULL", "NOT_MAPPED", "BAD_POINT", "NO_RETAINED",
    "BAD_CODE"] : List String).getD code ""

namespace Mach

/-- The status of a command of this chapter (R213). -/
def pgmDone (m : Mach) (code : Nat) : Mach := (m.setFld KLN_PGMSTAT 7 3 code).emit (.status (pgmName code))

/-! ### Local maps (R451, R460) -/

/-- The active local maps. -/
def localMaps (m : Mach) : List LocalMap :=
  let one (r k sp kind n : Nat) : List LocalMap := if m.bit r 31 then [⟨sp, kind, m.fld r k 0, n⟩] else []
  one LIO_MAPDI 17 0 0 16 ++ one LIO_MAPDO 17 1 0 16 ++ one LIO_MAPAI 14 0 1 67 ++ one LIO_MAPAO 14 1 1 64 ++
  (countFrom 0 4).flatMap fun p =>
    one (CFD_MAPRX p) 14 0 1 (2 + 38 * m.fld (CFD_MAPRX p) 21 16) ++
    one (CFD_MAPTX p) 14 1 1 (2 + 38 * m.fld (CFD_MAPTX p) 21 16)

/-- A Catalogue entry maps a point of a space and kind (R209). -/
def catMaps (mem : Memory) (space kind point : Nat) : Bool :=
  (catLeaves mem catActive).any fun l => l.onMap ⟨space, kind, point, 1⟩

/-- An active local map maps a point of a space and kind (R209). -/
def localMapped (m : Mach) (space kind point : Nat) : Bool :=
  m.localMaps.any fun x => x.space = space && x.kind = kind && decide (x.base ≤ point) && decide (point < x.base + x.cnt)

/-! ### The force table (R210 to R212) -/

/-- The bytes of the force table (R210). -/
def forceBytes (fs : List Force) : List Byte :=
  fs.flatMap fun f => leBytes 1 f.space ++ leBytes 1 f.kind ++ leBytes 2 0 ++ leBytes 4 f.point ++ leBytes 2 f.value ++
    leBytes 2 0 ++ leBytes 4 f.gen

/-- Show the table in KLN_FRCSTAT, and write the copy in MRAM whose turn it is (R210, R213). -/
def forceShow (m : Mach) : Mach :=
  let m := m.putWords (0x13800000 + 0x20000 * (m.pgm.frcGen % 2)) (forceBytes m.forces)
  m.wr KLN_FRCSTAT (m.pgm.frcGen % 2 ^ 18 * 2 ^ 14 + m.forces.length)

/-- Drop the forces on points that a Catalogue change has removed (R212); `old` is the memory before. -/
def forceDrop (m : Mach) (old : Memory) : Mach :=
  let gone (f : Force) : Bool := catMaps old f.space f.kind f.point && !catMaps m.mem f.space f.kind f.point &&
    !m.localMapped f.space f.kind f.point
  let out := m.forces.filter gone
  if out.isEmpty then m else
    let m := { m with forces := m.forces.filter fun f => !gone f }
    (out.foldl (fun m f => m.ledger 0x0401 1 (f.space + 256 * f.kind) f.point f.value) m).forceShow

/-- One item over a table. -/
def forceItem (gen : Nat) (fs : List Force) (i : FItem) : List Force :=
  let here (f : Force) : Bool := f.space = i.space && f.kind = i.kind && f.point = i.point
  if i.op = 1 then fs.filter fun f => !here f
  else if fs.any here then fs.map fun f => if here f then { f with value := i.value, gen := gen } else f
  else fs ++ [⟨i.space, i.kind, i.point, i.value, gen⟩]

/-- The table apart from the GEN fields. -/
def forceKeys (fs : List Force) : List (Nat × Nat × Nat × Nat) := fs.map fun f => (f.space, f.kind, f.point, f.value)

/-- A batch over a table and its generation (R211): a batch that changes nothing leaves both. -/
def forceBatch (e : List Force × Nat) (items : List FItem) : List Force × Nat :=
  let fs := items.foldl (forceItem ((e.2 + 1) % 2 ^ 32)) e.1
  if forceKeys fs = forceKeys e.1 then e else (fs, e.2 + 1)

/-- Apply a batch (R211). -/
def forceApply (m : Mach) (items : List FItem) : Mach :=
  let (fs, g) := forceBatch (m.forces, m.pgm.frcGen) items
  if g = m.pgm.frcGen then m else
    let m := ({ m with forces := fs, pgm := { m.pgm with frcGen := g } }).forceShow
    m.psExtend 6 2 (sha384 (forceBytes fs))

/-- Clear the force table (R197). -/
def forceClear (m : Mach) : Mach :=
  let m := ({ m with forces := [] }).forceShow
  m.psExtend 6 2 (sha384 [])

/-- The status code of one item, 0 for none (R209, R211). -/
def forceCheck (m : Mach) (i : FItem) : Nat :=
  if 1 < i.op ∨ 1 < i.space ∨ 1 < i.kind ∨ i.rsv ≠ 0 ∨ (i.kind = 0 ∧ 1 < i.value) then 16
  else if (if i.kind = 0 then 262144 else 24576) ≤ i.point then 14
  else if i.op = 0 ∧ !catMaps m.mem i.space i.kind i.point ∧ !m.localMapped i.space i.kind i.point then 13
  else 0

/-- The first failing item with its status. -/
def forceFail (m : Mach) : Nat → List FItem → Option (Nat × Nat)
  | _, [] => none
  | k, i :: rest => if m.forceCheck i = 0 then forceFail m (k + 1) rest else some (k, m.forceCheck i)

/-! ### Events of the pair (R321) -/

/-- The earliest tick that a new event can have: two after the tick whose pair state first shows it, which
shows one event at a time (R321). -/
def eventFirst (m : Mach) : Nat :=
  let first := if m.tick.phase = 0 then m.tickNo else m.tickNo + 1
  (m.pair.events.map (·.1)).foldl max first + 2

/-- Fix an event of a kind at a tick. -/
def eventPut (m : Mach) (tick kind : Nat) : Mach :=
  { m with pair := { m.pair with events := m.pair.events ++ [(tick, kind)] } }

/-! ### Messages to the partner (R319) -/

/-- Send an image (kind 0) or a Catalogue (kind 1) to the partner (R319). -/
def sendImage (m : Mach) (kind : Nat) (bs : List Byte) : Mach :=
  (parts 4088 bs).foldl (fun m e =>
    m.sendLink 0x30 (leBytes 4 e.1 ++ leBytes 4 bs.length ++ leBytes 1 kind ++ leBytes 7 0 ++ e.2)) m

/-- The bytes of a force item (R319). -/
def fitemBytes (i : FItem) : List Byte :=
  leBytes 1 i.op ++ leBytes 1 i.space ++ leBytes 1 i.kind ++ leBytes 1 0 ++ leBytes 4 i.point ++ leBytes 2 i.value ++ leBytes 6 0

/-- Send a force batch to the partner (R319): at most 255 items in a message. -/
def sendForce (m : Mach) (gen : Nat) (items : List FItem) : Mach :=
  let n := max 1 ((items.length + 254) / 255)
  (countFrom 0 n).foldl (fun m k =>
    let l := (items.drop (255 * k)).take 255
    m.sendLink 0x31 (leBytes 4 gen ++ leBytes 2 l.length ++ leBytes 1 (b2n (decide (k + 1 = n))) ++ leBytes 1 0 ++
      l.flatMap fitemBytes)) m

/-! ### The program takes effect -/

/-- Build regions 0 to 11 of both Kiln classes (R384). -/
def buildRegions (m : Mach) : Mach :=
  [0, 1].foldl (fun m cl =>
    let l := builtRegions m.prog cl
    let m := (countFrom 0 12).foldl (fun m n =>
      let r := l.getD n ⟨0, 0⟩
      (m.wr64 (MPU_RBASE cl n) r.base).wr (MPU_RATTR cl n) r.attr) m
    m.mpuAdopt cl fun n => if n < 12 then l.getD n ⟨0, 0⟩ else m.active cl n) m

/-- The task registers take the image's values (R61, R88, R189). -/
def taskRegs (m : Mach) : Mach :=
  (countFrom 0 16).foldl (fun m n =>
    match m.prog.tasks[n]? with
    | some t =>
      let m := m.wr (KLN_TCFG n) (t.flags % 2 + 2 * t.cl + 4 * t.rate + 64 * (t.flags / 2))
      (m.wr (KLN_TBUD n) t.budget).wr (KLN_TFLT n) t.policy
    | none => ((m.wr (KLN_TCFG n) 0).wr (KLN_TBUD n) 0).wr (KLN_TFLT n) 0) m

/-- The scheduler's counters return to 0 (R62, R88). -/
def clearCounters (m : Mach) : Mach :=
  let m := (countFrom 0 16).foldl (fun m n => (m.wr (KLN_TSTAT n) 0).wr (KLN_TFLT n) (m.fld (KLN_TFLT n) 1 0)) m
  (m.wr (KLN_FIREMAX 0) 0).wr (KLN_FIREMAX 1) 0

/-- A program takes effect (R193, R194, R206): tables, regions, generation, PS5. -/
def progTake (m : Mach) (p : Prog) : Mach :=
  let m := ((({ m with prog := p, pgm := { m.pgm with restarts := 0 } }).taskRegs).clearCounters).buildRegions
  let m := (m.wr64 KLN_PGMGEN p.gen).setFld KLN_PGMSTAT 31 16 0
  m.psExtend 5 2 p.digest

/-- Write the sections of kinds 0, 1, 2 and 4 with their zero fill (R188). -/
def writeSections (m : Mach) (p : Prog) : Mach :=
  (p.sects.filter fun x => x.kind ≤ 4 ∧ x.kind ≠ 3).foldl (fun m x =>
    let m := { m with mem := m.mem.zero x.addr x.size, ecc := tabErase m.ecc (x.addr / 8) ((x.size + 7) / 8) }
    { m with mem := m.mem.stBytes x.addr (sectBytes p.bytes x) }) m

/-- A bank's header. -/
def headOf (m : Mach) (b : Nat) : BankHead := if b = 0 then m.pgm.head0 else m.pgm.head1

/-- Set a bank's header. -/
def headPut (m : Mach) (b : Nat) (h : BankHead) : Mach :=
  { m with pgm := if b = 0 then { m.pgm with head0 := h } else { m.pgm with head1 := h } }

/-- Write the start record (R199). -/
def startRecord (m : Mach) (kind : Nat) : Mach :=
  m.putWords m.prog.start (leBytes 8 kind ++ leBytes 8 m.tickNo ++ leBytes 8 m.pgm.restarts ++ leBytes 8 m.prog.gen)

/-! ### The program store (R193, R395) -/

/-- The entry that the next image goes to: the one that does not hold the active image. -/
def storeEntry (m : Mach) : Nat := if (m.pgm.st0.map (·.gen)) = some m.prog.gen ∧ m.prog.gen ≠ 0 then 1 else 0

/-- Where an entry of the store stands; its Catalogue follows at 32 MiB (log entry 34). -/
def storeAt (e : Nat) : Nat := bankOf e + 0x05000000

/-- Write an image and the Catalogue that it is built with into an entry: the one that came with it, or the
active one. -/
def storePut (m : Mach) (e : Nat) (c : Change) : Mach :=
  let cat := if c.cat.isEmpty ∧ catGen m.mem catActive ≠ 0 then m.mem.ldBytes catActive 0x100000 else c.cat
  let s : Stored := ⟨c.prog.gen, c.prog.bytes.length, cat.length⟩
  let m := { m with mem := (m.mem.stBytes (storeAt e) c.prog.bytes).stBytes (storeAt e + 0x02000000) cat }
  { m with pgm := if e = 0 then { m.pgm with st0 := some s } else { m.pgm with st1 := some s } }

/-! ### Load and online change (R191 to R206) -/

/-- Write a Catalogue into its area, the rest of which is 0. -/
def catWrite (m : Mach) (base : Nat) (cat : List Byte) : Mach :=
  (m.zeroWords base 0x100000).putWords base (cat.take 0x100000)

/-- The state of the online change (R213). -/
def chgState (m : Mach) : Nat := m.fld KLN_CHGSTAT 2 0

/-- A restart runs, waits for its boundary, or is fixed (R196). -/
def restarting (m : Mach) : Bool :=
  m.pgm.restart.isSome || m.pgm.want.isSome || m.pair.events.any fun e => e.2 = 3 ∨ e.2 = 4

/-- A change or restart is in progress (R201). -/
def pgmBusy (m : Mach) : Bool := m.pgm.change.isSome || decide (m.chgState ≠ 0) || m.restarting

/-- The end of a change without a switch. -/
def changeDrop (m : Mach) : Mach :=
  let m := { m with pgm := { m.pgm with change := none, partReady := false } }
  (((m.wr KLN_CHGSTAT 0).wr64 KLN_CHGTICK 0).catPend 0 |>.admDrop .staging).admDrop .copy

/-- A Catalogue becomes active (R212, R236, R272). -/
def catSwitch (m : Mach) (old : Memory) : Mach := (m.catActivate.dleCatalogue).forceDrop old

/-- Take an image for a load (R191 to R193, R236): its Catalogue is active before the image's checks. -/
def loadImage (m : Mach) (img cat : List Byte) : Mach :=
  let old := m.mem
  let bad := if cat.isEmpty then none
    else catCheck (m.catWrite catActive cat).mem catActive (catGen old catActive) (m.fld KLN_TICKSEL 2 0) m.localMaps
  match bad with
  | some st => m.emit (.status st)
  | none =>
    let m := if cat.isEmpty then m else (m.catWrite catActive cat).catSwitch old
    let c1 := imgCheck img
    if c1 ≠ 0 then m.pgmDone c1 else
      let p := progOf img (m.pgm.gens + 1)
      let c2 := m.progCheck img p catActive none
      if c2 ≠ 0 then m.pgmDone c2 else
        let ch : Change := ⟨p, cat, true, [], [], true, false, false⟩
        let m := { m with pgm := { m.pgm with gens := p.gen, change := some ch } }
        (m.admWait (4 + m.storeEntry) .copy).pgmDone 0

/-- The class of a directory entry of the new image against the running one (R202): 0 MATCH, 1 RETYPED,
2 NEW. -/
def dirClass (old : List RdirEnt) (e : RdirEnt) : Nat :=
  match old.find? fun o => o.name = e.name with
  | some o => if o.type = e.type ∧ o.length = e.length then 0 else 1
  | none => 2

/-- The copies of the MATCH variables (R203). -/
def carryOf (p q : Prog) : List (Nat × Nat × Nat) :=
  q.rdir.filterMap fun e => (p.rdir.find? fun o => o.name = e.name ∧ o.type = e.type ∧ o.length = e.length).map fun o =>
    (p.rbase + o.offset, q.rbase + e.offset, e.length)

/-- The DROPPED variables (R202). -/
def droppedOf (p q : Prog) : List RdirEnt := p.rdir.filter fun o => !(q.rdir.any fun e => e.name = o.name)

/-- The list that goes to the session (R202): name identities, each with its class, 3 DROPPED. -/
def carryList (p q : Prog) : List Byte :=
  q.rdir.flatMap (fun e => leBytes 8 e.name ++ leBytes 1 (dirClass p.rdir e)) ++
  (droppedOf p q).flatMap fun o => leBytes 8 o.name ++ leBytes 1 3

/-- Send every present direct entry the configuration of the pending Catalogue (R236, R238). -/
def pendConfigs (m : Mach) : Mach :=
  ((catAll m.mem catPending).filter fun e => m.presBit e.ring e.pos).foldl (fun m e => m.sendConfig catPending e true) m

/-- A module takes an image for an online change (R191, R201 to R203, R236): the status, and the module in
STAGING, or unchanged where a check fails. -/
def changeTake (m0 : Mach) (img cat : List Byte) : String × Nat × Mach :=
  let m := if cat.isEmpty then m0 else m0.catWrite catPending cat
  let bad := if cat.isEmpty then none
    else catCheck m.mem catPending (catGen m.mem catActive) (m.fld KLN_TICKSEL 2 0) m.localMaps
  match bad with
  | some st => (st, 17, m0)
  | none =>
    let c1 := imgCheck img
    if c1 ≠ 0 then (pgmName c1, c1, m0) else
      let p := progOf img (m.pgm.gens + 1)
      let c2 := m.progCheck img p (if cat.isEmpty then catActive else catPending) (some m.prog)
      if c2 ≠ 0 then (pgmName c2, c2, m0) else
        let old := m.prog
        let cls (k : Nat) : List RdirEnt := p.rdir.filter fun e => dirClass old.rdir e = k
        let zero := (cls 1 ++ cls 2).map fun e => (p.rbase + e.offset, e.length)
        let ch : Change := ⟨p, cat, false, carryOf old p, zero, false, false, false⟩
        let m := { m with pgm := { m.pgm with gens := p.gen, change := some ch, partReady := false } }
        let m := (m.wr KLN_CARRYA (min 65535 (cls 0).length * 2 ^ 16 + min 65535 (cls 2).length)).wr KLN_CARRYB
          (min 65535 (cls 1).length * 2 ^ 16 + min 65535 (droppedOf old p).length)
        let m := m.wr KLN_CHGSTAT 3
        let m := if cat.isEmpty then m else (m.catPend (catGen m.mem catPending)).pendConfigs
        (pgmName 0, 0, (m.admWait 2 .staging).admWait (4 + m.storeEntry) .copy)

/-- The value of a retained variable that a copy of STAGING takes (R203): as of the last commit, and of
this tick's commit where that is complete. -/
def committedMem (m : Mach) : Memory :=
  if m.tick.ended ∧ m.jrn.commit.isNone then m.mem else m.restoreDelta.mem

/-- The writes of STAGING (R203, R195): sections, zeroes, MATCH copies, the inactive bank. -/
def stageWrite (m : Mach) (c : Change) : Mach :=
  let src := m.committedMem
  let b := 1 - m.pgm.bank
  let inBank (a : Nat) : Nat := bankAt b + (a - c.prog.rbase)
  let m := m.writeSections c.prog
  let m := c.zero.foldl (fun m e => (m.zeroWords e.1 e.2).zeroWords (inBank e.1) e.2) m
  let m := c.carry.foldl (fun m e =>
    let bs := src.ldBytes e.1 e.2.2
    (m.putWords e.2.1 bs).putWords (inBank e.2.1) bs) m
  m.headPut b ⟨c.prog.gen, 0⟩

/-- Every present direct entry whose slot arrived has reported PENDOK (R238). -/
def pendOk (m : Mach) : Bool :=
  m.gx.arrived.all fun k => m.gx.pendok.contains k || !m.presBit k.1 k.2

/-- The change becomes READY when every step is done (R203, R238). -/
def changeReady (m : Mach) : Mach :=
  match m.pgm.change with
  | none => m
  | some c =>
    if m.chgState = 3 ∧ c.staged ∧ c.stored ∧ (c.cat.isEmpty ∨ m.pendOk) then
      ({ m with pgm := { m.pgm with change := some { c with ready := true } } }).setFld KLN_CHGSTAT 2 0 4
    else m

/-- Fix the switch tick (R204, R205, R207): the first multiple of the largest rate from `lo` on. -/
def switchAt (m : Mach) (c : Change) (lo : Nat) : Mach :=
  let r := max m.prog.rmax c.prog.rmax
  (m.setFld KLN_CHGSTAT 2 0 5).wr64 KLN_CHGTICK ((lo + r - 1) / r * r)

/-- The primary, or a module in BENCH, fixes the switch once every module that takes part is READY. -/
def switchFix (m : Mach) : Mach :=
  match m.pgm.change with
  | none => m
  | some c =>
    if m.chgState ≠ 4 then m
    else if m.mode = 3 then m.switchAt c (m.tickNo + 2)
    else if m.mode = 6 ∧ (m.solo ∨ m.pgm.partReady) then
      let m := m.switchAt c (max (m.tickNo + 2) m.eventFirst)
      m.eventPut (m.rg64 KLN_CHGTICK) 2
    else m

/-- The switch into tick S (R206). -/
def switchDo (m : Mach) (c : Change) : Mach :=
  let old := m.mem
  let m := match m.jrn.commit with
    | some k => k.grans.foldl (fun (m : Mach) g =>
        match carried c.carry (8 * g) with
        | some a =>
          let v := m.mem.ldBytes (8 * g) 8
          (m.putWords a v).putWords (bankAt (1 - m.pgm.bank) + (a - c.prog.rbase)) v
        | none => m) m
    | none => m
  let m := { m with jrn := { m.jrn with commit := m.jrn.commit.map fun (k : Commit) => { k with grans := [] } } }
  let m := { m with pgm := { m.pgm with bank := 1 - m.pgm.bank } }
  let m := m.progTake c.prog
  let m := m.startRecord 4
  let m := if c.cat.isEmpty then m else
    (m.copyWords catPending catActive 0x100000).catSwitch old
  (m.setFld KLN_PGMSTAT 1 0 3).changeDrop

/-! ### Restarts (R196 to R200) -/

/-- A restart begins at its boundary (R198): 1 load, 2 warm, 3 cold. -/
def restartBegin (m : Mach) (kind : Nat) : Mach :=
  let m := { m with k0 := stopKiln m.k0, k1 := stopKiln m.k1
                    pgm := { m.pgm with want := none, restart := some ⟨kind, false, none⟩, restarted := false } }
  let m := (m.setBit KLN_PGMSTAT 2 true).showFiring
  if kind = 1 then
    match m.pgm.change with
    | some c =>
      ({ m with pgm := { m.pgm with change := none }, pair := { m.pair with partial_ := false } }).progTake c.prog
    | none => m
  else
    let m := m.incFld KLN_PGMSTAT 31 16
    { m with pgm := { m.pgm with restarts := m.pgm.restarts + 1 } }

/-- A delivered accession is dropped by a cold restart (R197, R353): dropped, with code 0. -/
def dropDelivered (m : Mach) : Mach :=
  let slots := m.usedSlots.filter fun s => m.recState s = 3
  let m := slots.foldl (fun m s =>
    let m := (m.setRecState s 5).jst (recordAt s + 12) (leBytes 4 0)
    { m with jrn := { m.jrn with
      compTick := tabPut 0 m.jrn.compTick s m.tickNo
      due := m.jrn.due ++ [m.accOf s] } }) m
  (if slots.isEmpty then m else { m with jrn := { m.jrn with lag := m.jrn.lag ++ [(m.tickNo, slots)] } }).acjShow

/-- What a restart writes (R197). -/
def restartWrite (m : Mach) (kind : Nat) : Mach :=
  let b := m.pgm.bank
  let p := m.prog
  let m := m.writeSections p
  let m := if kind = 2 then m.copyWords (bankAt b) p.rbase p.rlen
    else
      let m := ((m.zeroWords p.rbase p.rlen).zeroWords (bankAt b) p.rlen).headPut b ⟨p.gen, m.pgm.restarts⟩
      let m := ((m.forceClear).dropDelivered).dleRelease
      if kind = 1 then { m with dle := { m.dle with tracks := m.rg DLE_SPLIT } } else m
  let m := (m.clearCounters).setFld KLN_OVRCNT 1 0 0
  { m with pgm := { m.pgm with restart := m.pgm.restart.map fun r => { r with written := true } } }

/-- The first firing after a restart (R198, R199): the start record of its tick. -/
def restartFirst (m : Mach) (r : Restart) : Mach :=
  let m := m.startRecord r.kind
  let m := (m.setBit KLN_PGMSTAT 2 false).setFld KLN_PGMSTAT 1 0 (if r.kind = 2 then 1 else 2)
  { m with pgm := { m.pgm with restart := none, restarted := false } }

/-- A request for a restart (R196, R200, R201). In HALTED it claims the role, and the restart follows
(R480). -/
def restartReq (m : Mach) (maint : Bool) (kind : Nat) : Mach :=
  let served := if maint then decide (m.mode = 3) || decide (m.mode = 7) else decide (m.mode = 6)
  if !served then m
  else if m.mode = 7 ∧ m.bit PTL_STAT 9 then m.pgmDone 11
  else if m.prog.gen = 0 then m.pgmDone 10
  else if m.chgState = 5 ∨ m.restarting ∨ m.pgm.change.any (·.load) then m.pgmDone 1
  else if kind = 2 ∧ (m.headOf m.pgm.bank).gen ≠ m.prog.gen then m.pgmDone 15
  else if m.mode = 7 ∧ m.pair.partial_ then m.emit (.status "NOT_READY")
  else if m.mode = 7 ∧ !m.bit TMB_STAT 0 then m.emit (.status "TIME_INVALID")
  else if m.mode = 7 then
    ({ m with pair := { m.pair with claim := 2, claimStart := kind - 1 } }).pgmDone 0
  else
    let m := if m.pgm.change.isSome then (m.changeDrop).ledger 0x0400 1 0 0 0 else m
    let m := if m.mode = 6 then (m.eventPut m.eventFirst (kind + 1)).sendSession 3 (leBytes 1 kind)
      else { m with pgm := { m.pgm with want := some kind } }
    m.pgmDone 0

end Mach

/-! ### The commands -/

/-- IMAGE_LOAD (R191 to R193, R236): an image for a load, with the Catalogue that comes with it, or none. -/
def execImageLoad (img cat : List Byte) (s : State) : Result :=
  .next (s.live fun m =>
    if m.mode ≠ 3 then m.pgmDone 9 else if m.pgmBusy then m.pgmDone 1 else m.loadImage img cat)

/-- ONLINE_CHANGE (R191, R201 to R204, R236): an image for an online change, with a Catalogue or none. The
primary passes both to its partner. -/
def execOnlineChange (img cat : List Byte) (s : State) : Result :=
  .next (s.live fun m =>
    if m.mode ≠ 3 ∧ m.mode ≠ 6 then m
    else if m.prog.gen = 0 then m.pgmDone 10
    else if m.pgmBusy ∨ m.pair.serving then m.pgmDone 1
    else
      let (name, code, t) := m.changeTake img cat
      if code = 17 then t.emit (.status name)
      else if code ≠ 0 then t.pgmDone code
      else
        let t := (t.emit (.data ((t.pgm.change.map fun c => Mach.carryList m.prog c.prog).getD []))).pgmDone 0
        if m.mode = 6 ∧ !m.solo then
          let t := if cat.isEmpty then t else t.sendImage 1 cat
          t.sendImage 0 img
        else t)

/-- STAGING_COMPLETE (R203): the writes of STAGING are done under their grant. -/
def execStagingComplete (s : State) : Result :=
  .next (s.live fun m =>
    match m.pgm.change with
    | none => m
    | some c =>
      if c.load ∨ c.staged ∨ !(m.adm.granted.any fun g => g.who = .staging) then m else
        let m := m.stageWrite c
        (({ m with pgm := { m.pgm with change := some { c with staged := true } } }).admDrop .staging).changeReady)

/-- PROGRAM_STORE_WRITTEN (R193): the image stands in its entry of the store. A load is then followed by its
cold restart at the next boundary (R192). -/
def execProgramStoreWritten (s : State) : Result :=
  .next (s.live fun m =>
    match m.pgm.change with
    | none => m
    | some c =>
      if c.stored ∨ !(m.adm.granted.any fun g => g.who = .copy) then m else
        let m := (m.storePut m.storeEntry c).admDrop .copy
        let m := { m with pgm := { m.pgm with change := some { c with stored := true } } }
        if c.load then { m with pgm := { m.pgm with want := some 1 } } else m.changeReady)

/-- ONLINE_CHANGE_SWITCH (R206, R208): the boundary into tick S. -/
def execOnlineChangeSwitch (s : State) : Result :=
  .next (s.live fun m =>
    match m.pgm.change with
    | some c => if m.chgState = 5 ∧ m.rg64 KLN_CHGTICK = m.tickNo ∧ m.tick.phase = 0 then m.switchDo c else m
    | none => m)

/-- WARM_RESTART (R196, R200, R201). -/
def execWarmRestart (maint : Bool) (s : State) : Result := .next (s.live fun m => m.restartReq maint 2)

/-- COLD_RESTART (R196, R201). -/
def execColdRestart (maint : Bool) (s : State) : Result := .next (s.live fun m => m.restartReq maint 3)

/-- A cancel request (R201): refused in SET; in IDLE it changes nothing. -/
def Mach.cancelReq (m : Mach) : Mach :=
  if m.chgState = 5 then m.pgmDone 1
  else if m.chgState = 0 then m.pgmDone 0
  else (if m.mode = 6 then (m.changeDrop).sendSession 4 [] else m.changeDrop).pgmDone 0

/-- CANCEL_CHANGE (R201, R205). -/
def execCancelChange (s : State) : Result := .next (s.live Mach.cancelReq)

/-- RESTART_SECTIONS_WRITTEN (R197, R198): the module has written what its restart asks for. -/
def execRestartSectionsWritten (s : State) : Result :=
  .next (s.live fun m =>
    match m.pgm.restart with
    | some r => if r.written then m else m.restartWrite r.kind
    | none => m)

/-- RESTART_FIRST_FIRING (R198, R199): the tick of the first firing begins. -/
def execRestartFirstFiring (s : State) : Result :=
  .next (s.live fun m =>
    match m.pgm.restart with
    | some r =>
      match r.at_ with
      | some t => if t ≤ m.tickNo ∧ m.tickNo % m.prog.rmax = 0 ∧ m.tick.phase = 0 then m.restartFirst r else m
      | none => m
    | none => m)

/-- An operand item as the module keeps it. -/
def ForceItem.item (i : ForceItem) : FItem :=
  ⟨i.op.toNat, i.space.toNat, i.kind.toNat, i.point.toNat, i.value.toNat, i.rsv.toNat⟩

/-- FORCE_WRITE (R209 to R211): a batch of a session. A batch on the pair address is fixed for both
modules; another waits for the next boundary. -/
def execForceWrite (maint : Bool) (items : List ForceItem) (s : State) : Result :=
  .next (s.live fun m =>
    if m.mode < 3 ∨ (!maint ∧ m.mode ≠ 6) then m else
    let l := items.map ForceItem.item
    if l.isEmpty then m.pgmDone 0 else
    match m.forceFail 0 l with
    | some (k, code) => (m.emit (.data (leBytes 4 k))).pgmDone code
    | none =>
      let e := (m.pgm.batches.map (·.2)).foldl Mach.forceBatch (m.forces, m.pgm.frcGen)
      let e' := Mach.forceBatch e l
      if 8192 < e'.1.length then m.pgmDone 12
      else if m.mode = 6 then
        let t := m.eventFirst
        let m := { m with pgm := { m.pgm with batches := m.pgm.batches ++ [(t, l)] } }
        ((m.eventPut t 5).sendForce e'.2 l).pgmDone 0
      else
        ({ m with pgm := { m.pgm with batches := m.pgm.batches ++ [(m.tickNo + 1, l)] } }).pgmDone 0)

/-- FORCE_BATCH_APPLY (R211): the boundary of the batches that are due. -/
def execForceBatchApply (s : State) : Result :=
  .next (s.live fun m =>
    if m.tick.phase ≠ 0 then m else
    let due := m.pgm.batches.filter fun b => b.1 ≤ m.tickNo
    let m := { m with pgm := { m.pgm with batches := m.pgm.batches.filter fun b => m.tickNo < b.1 } }
    due.foldl (fun m b => m.forceApply b.2) m)

end Sys2Proof.Machine
end

