-- ==== Sys2Proof/Machine/Time.lean ====
section
/-! DEFINITION. Plant time and its sources (R277 to R298, R308), the pulse of each second (R499) and
the real-time clock with its backup RAM (R299 to R307, R309). -/

namespace Sys2Proof.Machine

namespace Mach

/-! ### Plant time -/

/-- Plant time is valid (R283). -/
def timeValid (m : Mach) : Bool := m.bit TMB_STAT 0

/-- An absolute set of plant time with its source (R284): 1 RTC, 2 PTP, 3 partner, 4 session. The
record carries the old plant time, and its own time is the new one (log entry 24). -/
def setTime (m : Mach) (t src : Nat) : Mach :=
  let old := m.tick.now
  let m := { m with tick := { m.tick with now := t % 2 ^ 64, frac := 0 } }
  let m := ((m.setBit TMB_STAT 0 true).setFld TMB_STAT 3 1 src).wr64 TMB_TIME (t % 2 ^ 64)
  m.ledger 0x0700 8 0 old (old / 2 ^ 32)

/-- Move plant time by a step (R285, R286). -/
def stepTime (m : Mach) (d : Int) : Mach :=
  let t := wrapInt 64 ((m.tick.now : Int) + d)
  let m := ({ m with tick := { m.tick with now := t } }).wr64 TMB_TIME t
  let v := wrapInt 64 d
  m.ledger 0x0701 8 0 v (v / 2 ^ 32)

/-- Apply a step that waits for the guard (R286, R298). In a primary with a standby, a step that no pair
state has carried yet waits for the guard of the tick whose pair state carries it (R287, log entry 141). -/
def stepGuard (m : Mach) : Mach :=
  match m.tmb.step with
  | none => m
  | some d =>
    if m.mode = 6 ∧ !m.bit CUR_PAIR 0 ∧ !m.tmb.carried then m
    else (({ m with tmb := { m.tmb with step := none, carried := false } }).setBit TMB_STAT 5 false).stepTime d

/-- A step that waits is discarded when the module leaves PRIMARY (R298). -/
def stepDiscard (m : Mach) (next : Nat) : Mach :=
  match m.tmb.step with
  | none => m
  | some _ => (({ m with tmb := { m.tmb with step := none, carried := false } }).setBit TMB_STAT 5 false).emit
      (.status (if next = 5 then "PAIR_TIME" else "BUSY"))

/-- The firing in progress is cut off by a set of plant time in BENCH (R284): it counts neither as
finished nor as an overrun, and nothing is emitted. Without a commit none of its work moves (R352, log
entry 142). -/
def cutTick (m : Mach) : Mach :=
  let m := m.undoTick
  let stop (k : Kiln) : Kiln := { k with slice := none, due := [], win := 0, dueWin := [], cmpWin := none }
  ({ m with
    k0 := stop m.k0, k1 := stop m.k1
    tick := { m.tick with fires := false, ended := true, emitted := false, delta := [], phase := 3 } }).setBit
      KLN_SCHSTAT 3 false

/-- A request to load TMB_SET into plant time (R284). -/
def timeSetGo (m : Mach) (src : Nat) : Mach :=
  let md := m.mode
  if md = 0 then m
  else if 4 ≤ md ∧ m.timeValid then m.emit (.status "TIME_LOCKED")
  else
    let m := if md = 3 ∧ m.bit KLN_SCHCTL 0 then m.cutTick else m
    let m := m.setTime (m.rg64 TMB_SET) src
    let m := if src = 2 then { m with tmb := { m.tmb with wait := false } } else m
    m.emit (.status "OK")

/-- The largest step accepted (R285). -/
def stepLimit (m : Mach) : Nat :=
  if m.mode = 6 then min (m.rg TMB_JUMPMAX) 5000 else m.rg TMB_JUMPMAX

/-- A request for the step in TMB_STEP (R285, R286). A step of 0 completes first (R11, log entry
23). -/
def timeStepGo (m : Mach) : Mach :=
  let md := m.mode
  let v := m.rg64 TMB_STEP
  let d := signed 64 v
  if md = 0 then m
  else if v = 0 then m.emit (.status "OK")
  else if md = 4 ∨ md = 5 then m.emit (.status "PAIR_TIME")
  else if m.tmb.step.isSome then m.emit (.status "BUSY")
  else if m.stepLimit < d.natAbs then
    ((m.setBit TMB_STAT 6 true).ledger 0x0702 8 0 v (v / 2 ^ 32)).emit (.status "JUMP_REFUSED")
  else if md = 6 then
    (({ m with tmb := { m.tmb with step := some d, carried := false } }).setBit TMB_STAT 5 true).emit (.status "OK")
  else (m.stepTime d).emit (.status "OK")

/-- A write of TMB_ADDEND_HI with the held lower half (R6, R281, R282). -/
def addendWrite (m : Mach) (hi w : Nat) : Mach :=
  let lo := (tabGet (BitVec.ofNat 32 (m.rg TMB_ADDEND)) m.loHeld TMB_ADDEND).toNat
  let m := { m with loHeld := tabErase m.loHeld TMB_ADDEND 1 }
  let v := lo + 2 ^ 32 * (hi % 8)
  if v < 0x3FFCB923B ∨ 0x400346DC5 < v then m.refuse 0x0C01 w (TMB_ADDEND + 4) hi
  else m.wr64 TMB_ADDEND v

/-! ### PTP -/

/-- A host port carries PTP (R292). -/
def ptpPort (m : Mach) (p : Nat) : Bool :=
  m.bit TMB_PTPCFG 0 && (m.bit TMB_PTPCFG 1 || decide (p = m.fld TMB_PTPCFG 2 2))

/-- Enter a timestamp into the FIFO of 64 (R293, R308). -/
def stampPut (m : Mach) (s : Stamp) : Mach :=
  if 64 ≤ m.tmb.fifo.length then m.setBit TMB_TSSTAT 7 true
  else
    let fifo := m.tmb.fifo ++ [s]
    ({ m with tmb := { m.tmb with fifo := fifo } }).setFld TMB_TSSTAT 6 0 fifo.length

/-- The messages that a module sends on a host port (R292): only a primary or a standby sends any, and
Sync only a primary whose ports may be masters. -/
def ptpMaySend (m : Mach) (mtype : Nat) : Bool :=
  (m.mode = 6 && (decide (mtype ≠ 0) || !m.bit TMB_PTPCFG 3)) || (m.mode = 5 && decide (mtype ≠ 0))

end Mach

/-- TIME_SET (R284): TMB_CTL.SETGO of a session, or of the firmware from PTP. -/
def execTimeSet (ptp : Bool) (s : State) : Result :=
  .next (s.live fun m => m.timeSetGo (if ptp then 2 else 4))

/-- TIME_STEP (R285, R286): TMB_CTL.STEPGO. -/
def execTimeStep (s : State) : Result := .next (s.live Mach.timeStepGo)

/-- ADDEND_WRITE (R281, R282). -/
def execAddendWrite (hi : BitVec 32) (w : Writer) (s : State) : Result :=
  .next (s.access w fun m => m.addendWrite hi.toNat w)

/-- TIMESTAMP_POP (R308): a read of TMB_TSINFO. -/
def execTimestampPop (s : State) : Result :=
  .next (s.live fun m =>
    match m.tmb.fifo with
    | [] => (m.wr TMB_TSINFO 0).emit (.data (leBytes 4 0))
    | e :: rest =>
      let v := e.seqid * 2 ^ 16 + e.mtype * 2 ^ 12 + b2n e.sent * 2 ^ 11 + e.port * 2 ^ 8 + 1
      let m := ({ m with tmb := { m.tmb with fifo := rest } }).setFld TMB_TSSTAT 6 0 rest.length
      ((m.wr TMB_TSINFO v).wr64 TMB_TSTIME e.time).emit (.data (leBytes 4 v)))

/-- PTP_MESSAGE (R291 to R293): a message crosses the reference plane of a host port at a plant time.
An event message is stamped, corrected by the port's latency; what the firmware's engine and servo make
of it arrives as commands of their own. -/
def execPtpMessage (p : Fin 2) (sent : Bool) (mtype : BitVec 4) (seqid : BitVec 16) (time : BitVec 64)
    (s : State) : Result :=
  .next (s.live fun m =>
    if !m.ptpPort p || (sent && !m.ptpMaySend mtype.toNat) then m else
    let m := if sent then m.emit (.ptp mtype.toNat p) else m
    if 3 < mtype.toNat then m else
      let t := if sent then time.toNat + m.fld (TMB_LAT p) 31 16
        else time.toNat + 2 ^ 64 - m.fld (TMB_LAT p) 15 0
      m.stampPut ⟨p, sent, mtype.toNat, seqid.toNat, t % 2 ^ 64⟩)

/-- PTP_LOCK_CHANGE (R283, R294): the servo reports lock, or loses it. A module that waits for lock
before PRIMARY sets plant time from PTP. -/
def execPtpLockChange (lock : Bool) (time : BitVec 64) (s : State) : Result :=
  .next (s.live fun m =>
    let m := if lock = m.bit TMB_STAT 4 then m
      else (m.setBit TMB_STAT 4 lock).ledger (if lock then 0x0704 else 0x0705) 8 0 0 0
    if lock && m.tmb.wait then
      ({ m with tmb := { m.tmb with wait := false } }).setTime time.toNat 2
    else m)

/-- PTP_WAIT_EXPIRY (R283): the wait ends without lock, and the entry goes on with RTC time. -/
def execPtpWaitExpiry (s : State) : Result :=
  .next (s.live fun m =>
    if m.tmb.wait then ({ m with tmb := { m.tmb with wait := false } }).ledger 0x0705 8 0 0 0 else m)

/-- PPS_PULSE (R499): plant time is a whole second. -/
def execPpsPulse (s : State) : Result :=
  .next (s.live fun m => if m.timeValid then m.emit .pps else m)

/-! ### The calendar -/

/-- A leap year, by its number after 2000: every fourth, but 2100 is none (R299). -/
def leapYear (y : Nat) : Bool := decide (y % 4 = 0) && decide (y ≠ 100)

/-- The days of a month. -/
def monthDays (y mo : Nat) : Nat :=
  if mo = 2 then (if leapYear y then 29 else 28)
  else if mo = 4 ∨ mo = 6 ∨ mo = 9 ∨ mo = 11 then 30
  else 31

/-- The days from 2000-01-01 to a date. -/
def daysSince (y mo d : Nat) : Nat :=
  365 * y + (y + 3) / 4 - (if 100 < y then 1 else 0) +
  ((countFrom 1 (mo - 1)).map (monthDays y)).sum + (d - 1)

/-- The seconds from 2000-01-01 of the values of RTC_TIME and RTC_DATE. -/
def calSeconds (time date : Nat) : Nat :=
  86400 * daysSince (bits date 23 16) (bits date 11 8) (bits date 4 0) +
  3600 * bits time 20 16 + 60 * bits time 13 8 + bits time 5 0

/-- The date exists (R302, R309). -/
def dateExists (date : Nat) : Bool :=
  let y := bits date 23 16
  let mo := bits date 11 8
  let d := bits date 4 0
  decide (y < 200) && decide (1 ≤ mo) && decide (mo ≤ 12) && decide (1 ≤ d) && decide (d ≤ monthDays y mo)

/-- The next second of a time and date; nothing after the last second of 2199. -/
def nextSecond (time date : Nat) : Option (Nat × Nat) :=
  let y := bits date 23 16
  let mo := bits date 11 8
  let d := bits date 4 0
  let h := bits time 20 16
  let mi := bits time 13 8
  let sec := bits time 5 0
  if sec < 59 then some (h * 2 ^ 16 + mi * 2 ^ 8 + sec + 1, date)
  else if mi < 59 then some (h * 2 ^ 16 + (mi + 1) * 2 ^ 8, date)
  else if h < 23 then some ((h + 1) * 2 ^ 16, date)
  else if d < monthDays y mo then some (0, y * 2 ^ 16 + mo * 2 ^ 8 + d + 1)
  else if mo < 12 then some (0, y * 2 ^ 16 + (mo + 1) * 2 ^ 8 + 1)
  else if y < 199 then some (0, (y + 1) * 2 ^ 16 + 0x101)
  else none

/-- The fields of an alarm word that take part match a value (R304): hours, minutes and seconds, or
year, month and day, each with its mask bit. -/
def fieldsMatch (alarm value hi lo2 : Nat) : Bool :=
  (alarm.testBit 31 || decide (bits alarm hi 16 = bits value hi 16)) &&
  (alarm.testBit 30 || decide (bits alarm lo2 8 = bits value lo2 8)) &&
  (alarm.testBit 29 || decide (bits alarm 5 0 = bits value 5 0))

/-- The alarm's time part matches. -/
def timeMatch (alm time : Nat) : Bool := fieldsMatch alm time 20 13

/-- The alarm's date part matches. -/
def dateMatch (alm date : Nat) : Bool := fieldsMatch alm date 23 11

/-- RTC_TIME of a second of the day. -/
def timeOfDay (n : Nat) : Nat := n / 3600 * 2 ^ 16 + n / 60 % 60 * 2 ^ 8 + n % 60

/-- Whether a time that the alarm matches lies in seconds `[lo, lo + n)` of a day. -/
def matchInDay (almTime lo n : Nat) : Bool := (countFrom lo n).any fun x => timeMatch almTime (timeOfDay x)

/-- Whether the alarm matches in seconds `[from_, to_)`, walking day by day from a date. -/
def matchBetween (almTime almDate from_ to_ : Nat) : Nat → Nat → Nat → Bool
  | 0, _, _ => false
  | n + 1, day, date =>
    let lo := max from_ (86400 * day)
    let hi := min to_ (86400 * (day + 1))
    (dateMatch almDate date && matchInDay almTime (lo - 86400 * day) (hi - lo)) ||
    matchBetween almTime almDate from_ to_ n (day + 1) (((nextSecond (timeOfDay 86399) date).map (·.2)).getD 0)

namespace Mach

/-- The alarm fires (R304): ALARM is set, and a single alarm disarms itself. -/
def alarmFire (m : Mach) (skipped : Bool) : Mach :=
  let m := (m.setBit RTC_STAT 2 true).setBit RTC_STAT 3 skipped
  if m.fld RTC_ALMTIME 31 29 = 0 ∧ m.fld RTC_ALMDATE 31 29 = 0 then m.setBit RTC_CTL 1 false else m

/-- The alarm's fields match the calendar. -/
def alarmMatches (m : Mach) : Bool :=
  timeMatch (m.rg RTC_ALMTIME) (m.rg RTC_TIME) && dateMatch (m.rg RTC_ALMDATE) (m.rg RTC_DATE)

/-- The calendar in seconds. -/
def rtcSeconds (m : Mach) : Nat := calSeconds (m.rg RTC_TIME) (m.rg RTC_DATE)

/-- Shadowing is on (R301). -/
def shadowOn (m : Mach) : Bool := decide (m.mode = 1) || decide (m.mode = 2) || m.bit RTC_CTL 2

/-- Release the shadows (R301). -/
def shadowDrop (m : Mach) : Mach :=
  ({ m with rtc := { m.rtc with shadow := none } }).setBit RTC_STAT 1 false

/-- Set HALT (R302): the counter stops at the pulse `sub` of the second and the value is kept. -/
def rtcHalt (m : Mach) (sub : Nat) : Mach :=
  if m.bit RTC_CTL 0 then m else
  let m := { m with rtc := { m.rtc with haltSec := m.rtcSeconds, haltSub := sub } }
  ((m.wr RTC_SUB sub).setBit RTC_CTL 0 true).setBit RTC_STAT 0 true

/-- Clear HALT (R302, R305): the calendar is checked, the counter restarts, and the alarm acts on the
adjustment. -/
def rtcRelease (m : Mach) : Mach :=
  if !m.bit RTC_CTL 0 then m
  else if !dateExists (m.rg RTC_DATE) then m.setBit RTC_STAT 5 true
  else
    let m := (m.setBit RTC_CTL 0 false).setBit RTC_STAT 0 false
    let hs := m.rtc.haltSec
    let hb := m.rtc.haltSub
    let ws := m.rtcSeconds
    let wb := m.rg RTC_SUB
    if ws < hs ∨ (ws = hs ∧ wb < hb) then m.setBit RTC_STAT 4 true
    else if (hs < ws ∨ hb < wb) ∧ m.bit RTC_CTL 1 then
      let stop := if wb = 0 then ws else ws + 1
      let day := (hs + 1) / 86400
      let skipped := matchFrom m (hs + 1) stop day
      let at_ := decide (wb = 0) && m.alarmMatches
      let m := if skipped then m.alarmFire true else m
      if at_ && m.bit RTC_CTL 1 then
        if skipped then m.setBit RTC_STAT 2 true else m.alarmFire false
      else m
    else m
where
  /-- An occurrence of the alarm in seconds `[from_, to_)`. -/
  matchFrom (m : Mach) (from_ to_ day : Nat) : Bool :=
    if to_ ≤ from_ then false else
    let start := dateOfDay day
    matchBetween (m.rg RTC_ALMTIME) (m.rg RTC_ALMDATE) from_ to_ (to_ / 86400 + 1 - day) day start
  /-- RTC_DATE of a day number since 2000-01-01. -/
  dateOfDay (day : Nat) : Nat :=
    match (countFrom 0 200).find? fun y => decide (day < daysSince (y + 1) 1 1) with
    | none => 0
    | some y =>
      let r := day - daysSince y 1 1
      match (countFrom 1 12).find? fun mo => decide (daysSince y 1 1 + r < daysSince y mo 1 + monthDays y mo) with
      | none => 0
      | some mo => y * 2 ^ 16 + mo * 2 ^ 8 + (day - daysSince y mo 1) + 1

/-- Whether a calendar word is within its fields' ranges (R309): RTC_TIME and RTC_ALMTIME. -/
def timeInRange (v : Nat) : Bool :=
  decide (bits v 20 16 < 24) && decide (bits v 13 8 < 60) && decide (bits v 5 0 < 60)

/-- Whether a calendar word is within its fields' ranges (R309): RTC_DATE and RTC_ALMDATE. -/
def dateInRange (v : Nat) : Bool :=
  decide (bits v 23 16 < 200) && decide (1 ≤ bits v 11 8) && decide (bits v 11 8 ≤ 12) && decide (1 ≤ bits v 4 0)

/-- A write that re-arms the alarm clears HOLD (R305); a value out of range is refused (R309). -/
def alarmWrite (m : Mach) (a : AlarmWrite) (w : Nat) : Mach :=
  match a with
  | .time v =>
    if timeInRange v.toNat then
      (m.wr RTC_ALMTIME (v.toNat &&& (fm 31 29 + fm 20 16 + fm 13 8 + fm 5 0))).setBit RTC_STAT 4 false
    else m.refuse 0x0C01 w RTC_ALMTIME v.toNat
  | .date v =>
    if dateInRange v.toNat then
      (m.wr RTC_ALMDATE (v.toNat &&& (fm 31 29 + fm 23 16 + fm 11 8 + fm 4 0))).setBit RTC_STAT 4 false
    else m.refuse 0x0C01 w RTC_ALMDATE v.toNat
  | .almen on => (m.setBit RTC_CTL 1 on).setBit RTC_STAT 4 false

/-! ### The backup record (R307) -/

/-- Byte `k` of the backup RAM (R306). -/
def bkpByte (m : Mach) (k : Nat) : Nat := m.fld (RTC_BKP (k / 4)) (8 * (k % 4) + 7) (8 * (k % 4))

/-- Set a byte of the backup RAM. -/
def setBkpByte (m : Mach) (k v : Nat) : Mach := m.setFld (RTC_BKP (k / 4)) (8 * (k % 4) + 7) (8 * (k % 4)) v

/-- Write LASTTICK (R307): the tick number. -/
def bkpTick (m : Mach) : Mach := m.wr64 (RTC_BKP 5) m.tickNo

/-- The backup record at the power-fail warning (R307, R437). -/
def bkpPowerFail (m : Mach) : Mach :=
  let md := m.mode
  let m := ((m.setBkpByte 0 0).setBkpByte 1 md).setBkpByte 2 1
  (m.wr (RTC_BKP 1) (m.rtcSeconds % 2 ^ 32)).wr64 (RTC_BKP 2) (if m.timeValid then m.tick.now else 0)

end Mach

/-- RTC_SECOND (R299, R304, R305): the calendar advances and the alarm is matched. What follows the
last second of 2199 is open. -/
def execRtcSecond (s : State) : Result :=
  .next (s.mod fun m =>
    if m.bit RTC_CTL 0 then m else
    let m := match nextSecond (m.rg RTC_TIME) (m.rg RTC_DATE) with
      | some (t, d) => ((m.wr RTC_TIME t).wr RTC_DATE d).wr RTC_SUB 0
      | none =>
        let (v, m) := m.free
        ((m.wr RTC_TIME 0).wr RTC_DATE (v &&& (fm 23 16 + fm 11 8 + fm 4 0))).wr RTC_SUB 0
    let past := decide (m.rtc.haltSec < m.rtcSeconds)
    let m := if m.bit RTC_STAT 4 && past then m.setBit RTC_STAT 4 false else m
    if m.bit RTC_CTL 1 && !m.bit RTC_STAT 4 && m.alarmMatches then m.alarmFire false else m)

/-- RTC_TRIM_WINDOW (R303): a window of 64 s starts with the trim that RTC_TRIM holds. -/
def execRtcTrimWindow (s : State) : Result :=
  .next (s.mod fun m => { m with rtc := { m.rtc with trim := m.rg RTC_TRIM } })

/-- RTC_HALT_SET (R302). -/
def execRtcHaltSet (sub : BitVec 15) (s : State) : Result := .next (s.live fun m => m.rtcHalt sub.toNat)

/-- RTC_RELEASE (R302, R305). -/
def execRtcRelease (s : State) : Result := .next (s.live Mach.rtcRelease)

/-- RTC_SHADOW_READ (R300, R301): a read of one of the time registers, while the counter stands at
pulse `sub`; under shadowing the first read freezes all three. -/
def execRtcShadowRead (r : RtcReg) (sub : BitVec 15) (s : State) : Result :=
  .next (s.live fun m =>
    let live := (if m.bit RTC_CTL 0 then m.rg RTC_SUB else sub.toNat, m.rg RTC_TIME, m.rg RTC_DATE)
    let v := if m.shadowOn then m.rtc.shadow.getD live else live
    let m := if m.shadowOn && m.rtc.shadow.isNone then
      ({ m with rtc := { m.rtc with shadow := some live } }).setBit RTC_STAT 1 true else m
    match r with
    | .sub => m.emit (.data (leBytes 4 v.1))
    | .time => m.emit (.data (leBytes 4 v.2.1))
    | .date => (m.emit (.data (leBytes 4 v.2.2))).shadowDrop)

/-- SHADOW_RELEASE (R301): 4 ms have passed since the first read. -/
def execShadowRelease (s : State) : Result := .next (s.mod Mach.shadowDrop)

/-- ALARM_REARM (R305, R309). -/
def execAlarmRearm (a : AlarmWrite) (w : Writer) (s : State) : Result := .next (s.access w fun m => m.alarmWrite a w)

/-- VLOST_CLEAR (R299): a 1 written to VLOST clears it, and clears HALT as R302 does. -/
def execVlostClear (s : State) : Result :=
  .next (s.live fun m => (m.setBit RTC_STAT 6 false).rtcRelease)

/-- BACKUP_SUPPLY_LOST (R299, R309, R509): the backup domain has lost its supply; its registers take
their reset values when it powers up, and the calendar and the backup RAM are undefined. -/
def execBackupSupplyLost (s : State) : Result :=
  .next (s.mod fun m =>
    let m := ({ m with rtc := {} }).resetRegs 0x080C0000 0x080D0000
    let (t, m) := m.free
    let (d, m) := m.free
    let (x, m) := m.free
    let m := ((m.wr RTC_TIME (t &&& (fm 20 16 + fm 13 8 + fm 5 0))).wr RTC_DATE
      (d &&& (fm 23 16 + fm 11 8 + fm 4 0))).wr RTC_SUB (x % 2 ^ 15)
    let m := (countFrom 0 32).foldl (fun m k => let (v, m) := m.free; m.wr (RTC_BKP k) v) m
    m.setBit RTC_STAT 6 true)

end Sys2Proof.Machine
end

