-- ==== Sys2Proof/Machine/Supply.lean ====
section
/-! DEFINITION. The supply supervision converter (R431 to R435, R448), the power-fail warning, the
shutdown hold and HOLDOK (R436 to R439). -/

namespace Sys2Proof.Machine

namespace Mach

/-- A channel is OUT of its window (R434). -/
def svaOut (m : Mach) (ch : Nat) : Bool := m.bit SVA_WINSTAT ch

/-- The action of a channel's window (R434). -/
def svaAction (m : Mach) (ch : Nat) : Nat := m.fld (SVA_WCFG ch) 2 1

/-- Show the sources of the supply warning and of the freeze (R434, R435, R439, R448). -/
def svaShow (m : Mach) : Mach :=
  let chs := countFrom 0 24
  let warn := m.svaOut 19 || m.sva.holdLow ||
    chs.any fun n => m.svaOut n && decide (n ≠ 19) && decide (2 ≤ m.svaAction n)
  let freeze := chs.any fun n => m.svaOut n && decide (n ≠ 19) && decide (m.svaAction n = 3)
  (((m.setBit SVA_STAT 3 warn).setBit SVA_STAT 4 freeze).setBit SVA_STAT 2 (m.svaOut 19)).admShow

/-- VPUMP goes OUT while the charge pump runs (R469). -/
def pumpOut (m : Mach) : Mach :=
  if m.bit LBL_STAT 3 then (m.labelStop.ledger 0x0E0A 19 0 0 0).admDrop .label else m

/-- A channel changes its state with a result (R434, R435). -/
def svaChange (m : Mach) (ch code : Nat) : Mach :=
  let out := !m.svaOut ch
  let m := (m.setBit SVA_WINSTAT ch out).setBit SVA_WINEVT ch true
  let m := m.svaShow
  let m := if ch = 19 then (if out then m.ledger 0x0D03 14 ch code 0 else m)
    else if m.svaAction ch = 0 then m
    else m.ledger (if out then 0x0D03 else 0x0D04) 14 ch code 0
  if ch = 14 ∧ out then m.pumpOut else m

/-- A conversion of a channel (R432, R434): its result, and the comparison with its window. Channel 14
is compared only while the charge pump runs (R469). -/
def convert (m : Mach) (ch code : Nat) : Mach :=
  let m := (m.setFld (SVA_RES ch) 11 0 code).setFld (SVA_RES ch) 31 16 ((m.fld (SVA_RES ch) 31 16 + 1) % 65536)
  if !m.bit (SVA_WCFG ch) 0 || (decide (ch = 14) && !m.bit LBL_STAT 3) then m else
    let outside := decide (code < m.fld (SVA_WIN ch) 11 0) || decide (m.fld (SVA_WIN ch) 27 16 < code)
    let n := if outside = m.svaOut ch then 0 else tabGet 0 m.sva.runs ch + 1
    if n ≠ 0 ∧ m.fld (SVA_WCFG ch) 7 4 ≤ n then
      ({ m with sva := { m.sva with runs := tabPut 0 m.sva.runs ch 0 } }).svaChange ch code
    else { m with sva := { m.sva with runs := tabPut 0 m.sva.runs ch n } }

/-- Convert a channel several times with one result. -/
def convertN (m : Mach) (ch code : Nat) : Nat → Mach
  | 0 => m
  | n + 1 => (m.convert ch code).convertN ch code n

/-- An injected sequence (R433, R448): the time of its trigger, its channels in order, and its
results. A trigger while the sequence runs is ignored, with OVR. -/
def injectSeq (m : Mach) (k : Nat) (codes : Codes) (running : Bool) : Mach :=
  if running then m.setBit (SVA_INJCTL k) 14 true else
    let len := min 4 (m.fld (SVA_INJCTL k) 12 10)
    let m := (m.setBit (SVA_INJCTL k) 15 false).wr64 (SVA_INJTIME k) m.tick.now
    let ch (i : Nat) : Nat := min 23 (m.fld (SVA_INJCH k) (8 * i + 4) (8 * i))
    let code (i : Nat) : Nat := ([codes.r0, codes.r1, codes.r2, codes.r3].getD i 0).toNat
    let m := (countFrom 0 len).foldl (fun m i =>
      let m := m.convert (ch i) (code i)
      let lo := 16 * (i % 2)
      m.setFld (if i < 2 then SVA_INJRESA k else SVA_INJRESB k) (lo + 11) lo (code i)) m
    m.setBit (SVA_INJCTL k) 15 true

/-- The latched power-fail warning. -/
def pfw (m : Mach) : Bool := m.bit SVA_STAT 0

/-- Steps 1 and 2 of the power-fail sequence (R437): the record, the backup record, the grants. -/
def powerFail (m : Mach) : Mach :=
  let m := (m.setBit SVA_STAT 0 true).ledger 0x0D02 14 0 0 0
  m.bkpPowerFail.admRevoke

/-- Steps 4 and 5 (R437): what MRAM still owes is written, and the Curator enters the shutdown hold,
in which the module serves nothing outside itself (R438). -/
def shutdownHold (m : Mach) : Mach :=
  let m := (m.ledgerCopy).setBit LDG_STAT 1 false
  let m := { m with
    k0 := stopKiln m.k0, k1 := stopKiln m.k1
    sva := { m.sva with hold := true } }
  ((m.setBit KLN_SCHSTAT 3 false).wr LIO_DRIVE 0).setBit PTL_STAT 8 false

end Mach

/-- WINDOW_CHANGE (R434, R435, R469): FILT consecutive results of a channel on the other side of its
window. -/
def execWindowChange (ch : Fin 24) (code : BitVec 12) (s : State) : Result :=
  .next (s.live fun m => m.convertN ch code.toNat (m.fld (SVA_WCFG ch) 7 4))

/-- INJECTED_SEQUENCE (R433): the trigger of a sequence fires. With no channels, nothing moves (R10,
R11). -/
def execInjectedSequence (k : Fin 4) (codes : Codes) (running : Bool) (s : State) : Result :=
  .next (s.live fun m =>
    let trig := m.fld (SVA_INJCTL k) 3 0
    if m.fld (SVA_INJCTL k) 12 10 = 0 ∨ trig = 0 ∨ 5 < trig then m else m.injectSeq k codes running)

/-- SVA_INJECT_GO (R433, R448): the software trigger; LEN = 0 is refused. -/
def execSvaInjectGo (k : Fin 4) (codes : Codes) (running : Bool) (w : Writer) (s : State) : Result :=
  .next (s.access w fun m =>
    if m.fld (SVA_INJCTL k) 12 10 = 0 then
      m.refuse 0x0C02 w (SVA_INJCTL k) ((m.rg (SVA_INJCTL k)) % 2 ^ 13 + 2 ^ 13)
    else if m.fld (SVA_INJCTL k) 3 0 = 6 then m.injectSeq k codes running
    else m)

/-- POWER_FAIL_WARNING (R436, R437): steps 1 and 2 at once. In a mode without a tick the rest follows
at once; otherwise it follows the tick in progress. -/
def execPowerFailWarning (s : State) : Result :=
  .next (s.live fun m =>
    if m.pfw then m else
      let m := m.powerFail
      if m.mode < 3 then m.shutdownHold else m)

/-- HOLDOK_CHANGE (R436, R439): SCAP crosses 24.0 V. -/
def execHoldokChange (up : Bool) (s : State) : Result :=
  .next (s.live fun m =>
    let was := m.bit SVA_STAT 1
    let m := m.setBit SVA_STAT 1 up
    if up then ({ m with sva := { m.sva with holdLow := false } }).svaShow
    else if was && decide (4 ≤ m.mode) && decide (m.mode ≤ 6) then
      (({ m with sva := { m.sva with holdLow := true } }).ledger 0x0D05 14 0 0 0).svaShow
    else m)

end Sys2Proof.Machine
end

