-- ==== Sys2Proof/Machine/PairBase.lean ====
section
/-! DEFINITION. What the modules of a pair show each other (R321 to R324, R342): image blocks and their
digests, the health word, the pair state and the INPUT message; divergence (R327, R328), the healthy standby
(R315), and the accounting of overruns (R54 to R58). -/

namespace Sys2Proof.Machine

namespace Mach

/-! ### Image blocks (R322) -/

/-- The address of a block: in the back input buffer, or among the axis records. -/
def blockAt (m : Mach) (k : Nat) : Nat :=
  if k < 81 then inBase (1 - m.tick.inBuf) + 1024 * k else 0x02600000 + 1024 * (k - 81)

/-- The length of a block. -/
def blockLen (k : Nat) : Nat := if k = 80 then 512 else 1024

/-- The contents of a block. -/
def blockBytes (m : Mach) (k : Nat) : List Byte := m.mem.ldBytes (m.blockAt k) (blockLen k)

/-- The 89 block digests. -/
def blockDigests (m : Mach) : List Nat := (countFrom 0 89).map fun k => crc64Fold 0 (m.blockBytes k)

/-- The whole-image digest over the block digests. -/
def wholeDigest (ds : List Nat) : Nat := crc64Fold 0 (ds.flatMap (leBytes 8))

/-! ### The health word (R342, R489) -/

/-- A cluster serves: TRIPLE, MASKING or DETECT, with two healthy cores. -/
def clusterFit (m : Mach) (cl : Nat) : Bool :=
  let st := m.fld (KLN_CLSTAT cl) 2 0
  decide (1 ≤ st) && decide (st ≤ 3) && decide (2 ≤ (m.actives cl).length)

/-- The smallest working set for plant service holds, and each cluster with an enabled task serves. -/
def fit (m : Mach) : Bool :=
  (m.clusterFit 0 || m.clusterFit 1) && ([0, 1].all fun cl => !m.hasTasks cl || m.clusterFit cl)

/-- The engine is sound (R342). -/
def dleOk (m : Mach) : Bool := m.bit DLE_STAT 0 && m.bit DLE_STAT 3

/-- The Gexia bits of the health word. -/
def gxpOk (m : Mach) : Nat :=
  ((countFrom 0 4).map fun p =>
    let unused := decide ((ringRec m.mem catActive p).direct = 0)
    if unused || (m.bit (GXP_CTL p) 0 && m.bit (GXP_STAT p) 7) then 2 ^ p else 0).sum

/-- The module sends copies in its role (R30, R325). -/
def echoes (m : Mach) : Bool := decide (m.mode = 6) || (decide (m.mode = 5) && !m.pair.diverged)

/-- The health word as formed now. -/
def healthWord (m : Mach) : Nat :=
  let timeOk := !m.bit TMB_STAT 7
  let inStep := m.bit PTL_STAT 6
  let lanes := m.fld PTL_STAT 5 4
  let healthy := m.fit && inStep && timeOk && m.pair.gateOk && m.pair.mramOk
  m.tickNo % 256 * 2 ^ 24 + b2n (m.bit SVA_STAT 3) * 2 ^ 19 + b2n m.pair.gateOk * 2 ^ 18 + b2n m.pair.mramOk * 2 ^ 17 +
  b2n (decide (lanes = 1) || decide (lanes = 2)) * 2 ^ 16 + m.gxpOk * 2 ^ 12 + b2n m.dleOk * 2 ^ 11 +
  m.fld (KLN_CLSTAT 1) 2 0 * 2 ^ 8 + m.fld (KLN_CLSTAT 0) 2 0 * 2 ^ 5 + b2n timeOk * 2 ^ 4 + b2n m.echoes * 2 ^ 3 +
  b2n inStep * 2 ^ 2 + b2n m.fit * 2 + b2n healthy

/-- Form the health word (R342). -/
def healthForm (m : Mach) : Mach := m.wr PTL_HEALTH m.healthWord

/-! ### Pair state (R321) -/

/-- The event that the pair state shows: the earliest. -/
def nextEvent (m : Mach) : Nat × Nat :=
  match m.pair.events with
  | [] => (0, 0)
  | e :: es => es.foldl (fun a b => if b.1 < a.1 then b else a) e

/-- FLAGS of the pair state. -/
def pairFlags (m : Mach) : Nat :=
  b2n m.solo + 2 * b2n (decide (m.pair.handOver ≠ 0)) + 4 * b2n (m.bit CUR_BOOTSTAT 3) + 8 * b2n m.pgm.restarted

/-- The pair state of the tick. ACCDUE is the highest number of the delivery set; in a replica the highest
that its journal holds (R354). -/
def pairState (m : Mach) : List Byte :=
  let (et, ek) := m.nextEvent
  let step : Int := if m.mode = 6 then m.tmb.step.getD 0 else 0
  let due := if m.mode = 6 then m.accDue else m.nextAcc - 1
  leBytes 8 m.tickNo ++ leBytes 8 m.prog.gen ++ leBytes 8 due ++ leBytes 8 m.pair.lastCommit ++
  leBytes 4 (catGen m.mem catActive) ++ leBytes 4 (m.pgm.frcGen % 2 ^ 32) ++ leBytes 8 et ++ leBytes 1 ek ++
  leBytes 1 (m.fld KLN_OVRCNT 1 0) ++ leBytes 1 m.mode ++ leBytes 1 m.pairFlags ++ leBytes 4 (m.rg PTL_HEALTH) ++
  leBytes 4 (wrapInt 32 step) ++ leBytes 2 m.proto ++ leBytes 2 0

/-- The INPUT payload (R318). -/
def inputPayload (m : Mach) : List Byte :=
  let ds := m.blockDigests
  m.pairState ++ m.blockBytes 80 ++ ds.flatMap (leBytes 8) ++ leBytes 8 (wholeDigest ds)

/-- The module takes part in reconcile (R323, R335). -/
def reconciles (m : Mach) : Bool :=
  decide (m.mode = 5) || decide (m.mode = 6) || (decide (m.mode = 4) && m.pair.accepted)

/-- A field of the partner's last INPUT. -/
def partF (m : Mach) (o n : Nat) : Nat := fieldAt m.pair.partIn o n

/-- The partner's mode, flags and health as it last reported them. -/
def partMode (m : Mach) : Nat := m.partF 50 1
def partFlag (m : Mach) (k : Nat) : Bool := (m.partF 51 1).testBit k
def partHealth (m : Mach) (k : Nat) : Bool := (m.rg PTL_PHEALTH).testBit k

/-- The partner was a healthy standby in this tick (R315). -/
def standbyHealthy (m : Mach) : Bool :=
  m.pair.heard && decide (m.partMode = 5) && m.partHealth 0 && !m.pair.partDiv

/-! ### Divergence (R327, R328) -/

/-- A standby's divergence (R328): the comparisons are 0 pair state, 1 input image, 2 action digest, 3 output
digest, 4 commit record, 5 late digest. It sends no copies, ends its firing, and leaves at the next boundary. -/
def diverge (m : Mach) (cmp : Nat) : Mach :=
  if m.mode ≠ 5 ∨ m.pair.diverged then m else
    let m := ((m.setBit PTL_STAT 11 true).setBit PTL_STAT 6 false).incFld PTL_DIVCNT 31 16
    let recent := m.pair.divTimes.filter fun t => decide (m.tick.now < t + 3600000000000)
    let m := { m with
      k0 := stopKiln m.k0, k1 := stopKiln m.k1
      tick := { m.tick with fires := false, blocked := true }
      pair := { m.pair with diverged := true, heldAct := [], heldOut := [], waitAct := false, waitOut := false
                            divTimes := m.tick.now :: recent }
      wantMode := some 4 }
    (m.showFiring).ledger 0x0801 5 cmp (m.tickNo % 2 ^ 32) (m.tickNo / 2 ^ 32)

/-- The primary notes that its partner has diverged (R328). -/
def partnerDiverged (m : Mach) (cmp : Nat) : Mach :=
  if m.mode ≠ 6 ∨ m.solo ∨ m.pair.partDiv then m else
    ({ m with pair := { m.pair with partDiv := true } }).ledger 0x0802 5 cmp (m.tickNo % 2 ^ 32) (m.tickNo / 2 ^ 32)

/-- More divergences in the last 3,600 s of plant time than PTL_CFG.RJLIMIT: HALTED follows instead of RESYNC
(R328). -/
def rejoinLimit (m : Mach) : Mach :=
  if m.pair.diverged ∧ m.wantMode = some 4 ∧ m.mode = 5 ∧ m.fld PTL_CFG 15 12 < m.pair.divTimes.length then
    ({ m with wantMode := some 7 }).ledger 0x0803 5 0 0 0
  else m

/-- A fixed swap is cancelled (R332). -/
def swapCancel (m : Mach) : Mach :=
  if m.pair.events.any fun e => e.2 = 1 then
    ({ m with pair := { m.pair with events := m.pair.events.filter fun e => e.2 ≠ 1 } }).ledger 0x0806 5 0 0 0
  else m

/-! ### Overruns (R54 to R58) -/

/-- The tick counts as an overrun (R54, R56, R58): its counters and its record, with the task whose slice ran. -/
def overrunCount (m : Mach) (task : Nat) : Mach :=
  let m := { m with tick := { m.tick with overrun := true } }
  let m := (m.setBit KLN_OVRSTAT 0 true).wr KLN_OVRLAST (m.tickNo % 2 ^ 32)
  let m := (m.incFld KLN_OVRCNT 31 8).setFld KLN_OVRCNT 1 0 (min 3 (m.fld KLN_OVRCNT 1 0 + 1))
  m.ledger 0x0200 1 task (m.tickNo % 2 ^ 32) (m.tickNo / 2 ^ 32)

/-- The limit of consecutive overruns (R58): in BENCH the scheduler stops; otherwise HALTED follows. -/
def overrunLimit (m : Mach) : Mach :=
  if m.fld KLN_OVRCNT 1 0 < 3 ∨ m.tick.ovrLimit then m
  else
    let m := { m with tick := { m.tick with ovrLimit := true } }
    if m.mode = 3 then (m.setBit KLN_SCHCTL 0 false).setBit KLN_SCHSTAT 8 true else m

end Mach

end Sys2Proof.Machine
end

