-- ==== Sys2Proof/Machine/Reconcile.lean ====
section
/-! DEFINITION. The reconcile phase: input close, the exchange of R323 with its two deadlines, adoption, the
delivery set (R354), and what is fixed at a reconcile (R198, R204). -/

namespace Sys2Proof.Machine

namespace Mach

/-- Enter a phase of the tick (R61). -/
def enterPhase (m : Mach) (n : Nat) : Mach :=
  ({ m with tick := { m.tick with phase := n } }).setFld KLN_SCHSTAT 2 0 n

/-! ### Input close -/

/-- Every enabled task of a rate above 1 loses its period in a tick that does not fire (R57). -/
def loseAll (m : Mach) : Mach :=
  (countFrom 0 16).foldl (fun m t =>
    if m.bit (KLN_TCFG t) 0 && !m.bit (KLN_TFLT t) 2 && !m.tick.lost.contains t then m.losePeriod t else m) m

/-- The commit of the last tick is not complete (R54, R60): the tick does not fire and counts as an overrun;
a commit that stays so is a divergence (R30). -/
def commitLate (m : Mach) : Mach :=
  match m.jrn.commit with
  | none => m
  | some c =>
    let m := (m.setBit KLN_OVRSTAT 1 true).ledger 0x0202 1 0 (c.tick % 2 ^ 32) (c.tick / 2 ^ 32)
    let m := (({ m with tick := { m.tick with blocked := true } }).overrunCount 0xFFFF).loseAll
    if c.tick + 2 ≤ m.tickNo then (m.diverge 4).partnerDiverged 4 else m

/-- A cut that is not complete at the input close of its tick counts as an adoption failure, and RESYNC goes on
(R339). -/
def cutFailed (m : Mach) : Mach :=
  let m := (m.setBit PTL_STAT 12 true).incFld PTL_DIVCNT 15 0
  let m := m.incFld PTL_RSSTAT 23 16
  { m with
    tick := { m.tick with blocked := true }
    pair := { m.pair with cutAt := none, goodTicks := 0 }
    wantMode := some 4 }

/-- The delivery set of the tick by this module's own journal (R354): none while a restart runs (R198). -/
def ownDelivery (m : Mach) : Mach :=
  if (m.mode = 5 ∨ m.mode = 6) ∧ m.pgm.restart.isNone then m.fixDelivery else m.setDelivery []

/-- What of a commit or a cut is not complete by input close (R54, R339). -/
def closeChecks (m : Mach) : Mach :=
  let m := if m.mode = 5 ∨ m.mode = 6 then m.commitLate else m
  if m.mode = 5 ∧ m.pair.cutAt = some m.tickNo ∧ !m.pair.cutOk then m.cutFailed else m

/-- The module shows RESTARTED once its restart has written what it asks for (R198). -/
def showRestarted (m : Mach) : Mach := { m with pgm := { m.pgm with restarted := m.pgm.restart.any Restart.written } }

/-- Send INPUT (R321 to R323). -/
def sendInput (m : Mach) : Mach :=
  let m := if m.mode = 6 then m.wr64 PTL_EVTTICK m.nextEvent.1 else m
  if m.reconciles then
    { m.sendLink 0x01 m.inputPayload with tmb := { m.tmb with carried := m.tmb.step.isSome } }
  else m

/-- Input close (R22, R54, R321 to R323, R354). -/
def inputClose (m : Mach) : Mach :=
  let m := ((m.enterPhase 1).gxClose).closeChecks
  let m := (((m.showRestarted).ownDelivery).changeReady).healthForm
  (m.sendInput).admEvaluate false

/-! ### The exchange (R321, R323) -/

/-- The tick of a batch whose boundary is not known yet. -/
def batchOpen : Nat := 2 ^ 64

/-- Give each force batch that waits for its boundary the tick of a fixed event, in order (R211, R319). -/
def batchBind (m : Mach) : Mach :=
  let ticks := (m.pair.events.filter fun e => e.2 = 5 ∧ !(m.pgm.batches.any fun b => b.1 = e.1)).map (·.1)
  let rec go : List (Nat × List FItem) → List Nat → List (Nat × List FItem)
    | [], _ => []
    | b :: bs, [] => b :: bs
    | b :: bs, t :: ts => if b.1 = batchOpen then (t, b.2) :: go bs ts else b :: go bs (t :: ts)
  { m with pgm := { m.pgm with batches := go m.pgm.batches ticks } }

/-- Adopt the primary's event (R321): a swap stands only while the primary shows it (R332). -/
def eventAdopt (m : Mach) (tick kind : Nat) : Mach :=
  let keep := m.pair.events.filter fun e => e.2 ≠ 1
  let evs := if kind = 0 ∨ tick ≤ m.tickNo ∨ keep.contains (tick, kind) then keep else keep ++ [(tick, kind)]
  let m := (({ m with pair := { m.pair with events := evs } }).wr64 PTL_EVTTICK tick).batchBind
  if kind = 2 ∧ m.pgm.change.isSome ∧ m.tickNo < tick then (m.setFld KLN_CHGSTAT 2 0 5).wr64 KLN_CHGTICK tick else m

/-- Adopt the primary's time step (R287). -/
def stepAdopt (m : Mach) (v : Nat) : Mach :=
  if v = 0 then m
  else ({ m with tmb := { m.tmb with step := some (signed 32 v) } }).setBit TMB_STAT 5 true

/-- The pair offset that the timestamps of INPUT give (R288, R289). -/
def pairOffset (m : Mach) (ofs : Nat) : Mach :=
  let m := m.wr TMB_PAIROFS ofs
  let out := decide (m.rg TMB_PAIRLIM < (signed 32 ofs).natAbs)
  if m.mode ≠ 5 then m
  else { m with tmb := { m.tmb with exceeds := if out then m.tmb.exceeds + 1 else 0 } }

/-- The compared fields of the pair state agree (R321, R354). -/
def pairAgrees (m : Mach) (p : List Byte) : Bool :=
  decide (fieldAt p 0 8 = m.tickNo) && decide (fieldAt p 8 8 = m.prog.gen) && m.holdsTo (fieldAt p 16 8) &&
  decide (fieldAt p 24 8 = m.pair.lastCommit) && decide (fieldAt p 32 4 = catGen m.mem catActive) &&
  decide (fieldAt p 36 4 = m.pgm.frcGen % 2 ^ 32) && decide (fieldAt p 49 1 = m.fld KLN_OVRCNT 1 0)

/-- The input data of a leaf in the order of R223 without its status area. -/
def leafData (m : Mach) (e : CatEnt) : List Byte :=
  let base := inBase (1 - m.tick.inBuf)
  m.mem.ldBytes (base + e.dinBase / 8) (e.dinCnt / 8) ++ m.mem.ldBytes (base + 0x8000 + 2 * e.ainBase) (2 * e.ainCnt) ++
  m.mem.ldBytes (0x02600000 + 8 * e.encBase) (8 * e.encCnt)

/-- The FILL payload (R318, R323): every leaf whose status bit is 0 in the primary and 1 here. -/
def fillPayload (m : Mach) : List Byte :=
  ((catLeaves m.mem catActive).filter fun e => leafPresent m.mem (inBase (1 - m.tick.inBuf)) e.slot &&
    !(m.partF (64 + e.slot / 8) 1).testBit (e.slot % 8)).flatMap fun e =>
      let d := m.leafData e
      let r := leBytes 2 e.slot ++ leBytes 2 d.length ++ d
      fixLen ((r.length + 7) / 8 * 8) r

/-- The partner's INPUT of the tick (R321, R323): `ready` is the partner's READY of R204, for which R321 has no
bit (log entry 31). -/
def inputTake (m : Mach) (p : List Byte) (ready : Bool) (ofs : Nat) : Mach :=
  let m := { m with
    pair := { m.pair with partIn := p, heard := true, silent := 0 }
    pgm := { m.pgm with partReady := ready }
    upd := { m.upd with partProto := some (fieldAt p 60 2) } }
  let m := ((m.wr PTL_PHEALTH (fieldAt p 52 4)).setBit PTL_STAT 10 true).pairOffset ofs
  if m.mode = 6 then m
  else
    let m := (m.eventAdopt (fieldAt p 40 8) (fieldAt p 48 1)).stepAdopt (fieldAt p 56 4)
    let m := if m.mode = 5 then (if m.pairAgrees p then m.adoptDelivery (fieldAt p 16 8) else m.diverge 0) else m
    m.sendLink 0x02 m.fillPayload

/-- Send the blocks in which the standby differs, then FINAL (R323). -/
def sendDeltas (m : Mach) : Mach :=
  let ds := m.blockDigests
  let l := (countFrom 0 89).filter fun k => ds.getD k 0 ≠ m.partF (576 + 8 * k) 8
  let m := l.foldl (fun m k => m.sendLink 0x03 (leBytes 2 k ++ leBytes 6 0 ++ m.blockBytes k)) m
  (m.sendLink 0x04 (leBytes 2 l.length ++ leBytes 6 0 ++ leBytes 8 (wholeDigest ds))).setFld PTL_ADOPT 15 8 (min 255 l.length)

/-- Write the leaves of a FILL payload; the number of leaves, and the module after. -/
def fillTake : Nat → Mach → List Byte → Nat × Mach
  | 0, m, _ => (0, m)
  | fuel + 1, m, bs =>
    if bs.length < 8 then (0, m) else
    let n := fieldAt bs 2 2
    let rest := bs.drop ((4 + n + 7) / 8 * 8)
    match (catLeaves m.mem catActive).find? fun e => e.slot = fieldAt bs 0 2 with
    | some e =>
      let (k, m) := fillTake fuel (m.leafIn e.ring e ((bs.drop 4).take n)) rest
      (k + 1, m)
    | none => fillTake fuel m rest

/-! ### Adoption (R22, R27, R46, R323) -/

/-- Input forces over the back input buffer (R209). -/
def inputForces (m : Mach) : Mach :=
  let base := inBase (1 - m.tick.inBuf)
  (m.forces.filter fun f => f.space = 0).foldl (fun m f =>
    if f.kind = 0 then
      let a := base + f.point / 8
      m.store a [BitVec.ofNat 8 (putBits (m.mem.ld8 a).toNat (f.point % 8) (f.point % 8) f.value)] 6
    else m.store (base + 0x8000 + 2 * f.point) (leBytes 2 f.value) 6) m

/-- A rate that an enabled task uses. -/
def rateUsed (m : Mach) (r : Nat) : Bool :=
  (countFrom 0 16).any fun n => m.bit (KLN_TCFG n) 0 && decide (m.fld (KLN_TCFG n) 5 2 = r)

/-- The rate snapshots of the tick (R46). -/
def snapshots (m : Mach) : Mach :=
  (countFrom 1 8).foldl (fun m r =>
    if m.rateUsed r && decide (m.tickNo % 2 ^ r = 0) then m.copyWords (inBase m.tick.inBuf) (snapBase r) 0x20000 else m) m

/-- The standby, or a module in RESYNC, judges its adoption (R323, R327, R335). -/
def adoptJudge (m : Mach) : Mach :=
  if !m.pair.heard ∨ (m.mode ≠ 4 ∧ m.mode ≠ 5) ∨ !m.reconciles then m else
  let ok := decide (m.pair.finalDig = some (wholeDigest m.blockDigests))
  let fail (m : Mach) : Mach := (m.setBit PTL_STAT 12 true).incFld PTL_DIVCNT 15 0
  if m.mode = 5 then
    if ok then (if m.pair.diverged then m else m.setBit PTL_STAT 6 true) else (fail m).diverge 1
  else if ok then { m.setBit PTL_STAT 6 true with pair := { m.pair with goodTicks := m.pair.goodTicks + 1 } }
  else { (fail m).setBit PTL_STAT 6 false with pair := { m.pair with goodTicks := 0 } }

/-- The tick of the first firing after a restart, once every module that serves has reported it (R198). -/
def restartFix (m : Mach) : Mach :=
  match m.pgm.restart with
  | none => m
  | some r =>
    let alone := (decide (m.mode ≠ 5) && decide (m.mode ≠ 6)) || (decide (m.mode = 6) && m.solo)
    if r.at_.isSome ∨ !m.pgm.restarted ∨ !(alone || (m.pair.heard && m.partFlag 3)) then m else
      let k := m.prog.rmax
      { m with pgm := { m.pgm with restart := some { r with at_ := some ((m.tickNo / k + 1) * k) } } }

/-- The end of reconcile (R22, R46, R323). -/
def adoption (m : Mach) : Mach :=
  let m := (m.adoptJudge).inputForces
  let m := { m with tick := { m.tick with inBuf := 1 - m.tick.inBuf, adopted := true } }
  (((m.snapshots).presence).restartFix).switchFix

end Mach

/-! ### The commands -/

/-- INPUT_CLOSE (R22, R54, R323, R354). -/
def execInputClose (s : State) : Result :=
  .next (s.live fun m => if m.mode < 3 ∨ m.tick.phase ≠ 0 then m else m.inputClose)

/-- INPUT_MESSAGE (R318, R321, R323): the partner's INPUT, with what its frame's timestamps give as the pair
offset (R288) and the partner's READY (R204). One that comes after the fill deadline is too late. -/
def execInputMessage (f : List Byte) (ready : Bool) (ofs : BitVec 32) (s : State) : Result :=
  .next (s.live fun m => m.linkRecv 0x01 f fun m _ tick p =>
    if p.length ≠ 1296 ∨ tick ≠ m.tickNo ∨ !m.reconciles ∨ m.tick.phase ≠ 1 ∨ m.pair.filled ∨ m.pair.heard then m
    else m.inputTake p ready ofs.toNat)

/-- FILL_MESSAGE (R323): the primary writes what the standby fills and sends the difference. -/
def execFillMessage (f : List Byte) (s : State) : Result :=
  .next (s.live fun m => m.linkRecv 0x02 f fun m _ tick p =>
    if m.mode ≠ 6 ∨ tick ≠ m.tickNo ∨ m.tick.phase ≠ 1 ∨ m.pair.filled ∨ !m.pair.heard then m else
      let (n, m) := Mach.fillTake p.length m p
      (({ m with pair := { m.pair with filled := true } }).setFld PTL_ADOPT 31 16 n).sendDeltas)

/-- FILL_DEADLINE (R323, R330): the primary goes on without FILL; a standby that has not heard its partner
treats the tick as partner-silent. -/
def execFillDeadline (s : State) : Result :=
  .next (s.live fun m =>
    if m.tick.phase ≠ 1 ∨ m.pair.filled ∨ m.tick.adopted then m else
    let m := { m with pair := { m.pair with filled := true } }
    if m.pair.heard then (if m.mode = 6 then (m.setFld PTL_ADOPT 31 16 0).sendDeltas else m)
    else if m.mode = 5 then (({ m with pair := { m.pair with silent := m.pair.silent + 1 } }).swapCancel).wr TMB_PAIROFS 0
    else if m.mode = 4 then ({ m with pair := { m.pair with goodTicks := 0 } }).wr TMB_PAIROFS 0
    else if m.mode = 6 then (m.swapCancel).wr TMB_PAIROFS 0
    else m)

/-- DELTA_MESSAGE (R323): a block of the primary's image. -/
def execDeltaMessage (f : List Byte) (s : State) : Result :=
  .next (s.live fun m => m.linkRecv 0x03 f fun m _ tick p =>
    let k := fieldAt p 0 2
    if (m.mode ≠ 4 ∧ m.mode ≠ 5) ∨ tick ≠ m.tickNo ∨ m.tick.phase ≠ 1 ∨ m.tick.adopted ∨ !m.pair.heard ∨ 88 < k ∨
        p.length ≠ 8 + Mach.blockLen k then m else
      let m := m.putWords (m.blockAt k) (p.drop 8)
      ({ m with pair := { m.pair with deltas := m.pair.deltas + 1 } }).setFld PTL_ADOPT 15 8 (min 255 (m.pair.deltas + 1)))

/-- FINAL_MESSAGE (R323): the primary's whole-image digest. -/
def execFinalMessage (f : List Byte) (s : State) : Result :=
  .next (s.live fun m => m.linkRecv 0x04 f fun m _ tick p =>
    if (m.mode ≠ 4 ∧ m.mode ≠ 5) ∨ tick ≠ m.tickNo ∨ m.tick.phase ≠ 1 ∨ m.tick.adopted ∨ !m.pair.heard ∨ p.length ≠ 16 then m
    else { m with pair := { m.pair with finalDig := some (fieldAt p 8 8) } })

/-- ADOPTION_DEADLINE (R22, R27, R46, R237, R246, R323). -/
def execAdoptionDeadline (s : State) : Result :=
  .next (s.live fun m => if m.tick.phase ≠ 1 ∨ m.tick.adopted then m else m.adoption)

end Sys2Proof.Machine
end

