-- ==== Sys2Proof/Machine/Serve.lean ====
section
/-! DEFINITION. A primary with a partner in RESYNC (R335 to R339): REQ payloads, the acceptance, passes of
pages, MIRROR records, OUTBLK, and the cut with its module state block (R320). -/

namespace Sys2Proof.Machine

/-! ### REQ payloads (R320) -/

/-- The fields of a REQ payload. -/
structure ReqMsg where
  proto   : Nat
  flags   : Nat
  refuse  : Nat
  tickNs  : Nat
  pgmGen  : Nat
  catGen  : Nat
  last    : Nat
  commit  : Nat
  deriving DecidableEq, Repr

/-- Read a REQ payload. -/
def reqOf (p : List Byte) : ReqMsg :=
  ⟨fieldAt p 0 2, fieldAt p 2 1, fieldAt p 3 1, fieldAt p 4 4, fieldAt p 8 8, fieldAt p 16 4, fieldAt p 24 1, fieldAt p 32 8⟩

namespace Mach

/-- A REQ payload of this module. -/
def reqBytes (m : Mach) (flags refuse : Nat) : List Byte :=
  leBytes 2 m.proto ++ leBytes 1 flags ++ leBytes 1 refuse ++ leBytes 4 m.tickNs ++ leBytes 8 m.prog.gen ++
  leBytes 4 (catGen m.mem catActive) ++ leBytes 4 (m.mem.ldN (bankOf m.upd.booted + 16) 4) ++
  leBytes 1 m.pair.lastRole ++ leBytes 7 0 ++ leBytes 8 m.pair.lastCommit

/-- Send a REQ. -/
def sendReq (m : Mach) (flags refuse : Nat) : Mach := m.sendLink 0x40 (m.reqBytes flags refuse)

/-! ### Pages (R336, R337) -/

/-- The DDR regions of the checkpoint: address and length. -/
def ddrRanges (m : Mach) : List (Nat × Nat) :=
  (countFrom 0 8).map fun n => (4096 * m.rg (PTL_DDRBASE n), 4096 * m.rg (PTL_DDRLEN n))

/-- What is sent as dirty pages: Kiln SRAM, process image SRAM without the areas that R336 excepts, journal
SRAM, the DDR regions. -/
def trackedRanges (m : Mach) : List (Nat × Nat) :=
  [(0, 0x01800000), (0x02200000, 0x00400000), (0x02602000, 0x001FE000), (0x03800000, 0x00200000)] ++ m.ddrRanges

/-- What the first pass sends, in address order: also the track table and the partitions of MRAM. -/
def firstRanges (m : Mach) : List (Nat × Nat) :=
  [(0, 0x01800000), (0x02200000, 0x00400000), (0x02602000, 0x001FE000), (0x03000000, 0x00400000),
   (0x03800000, 0x00200000), (0x11000000, 0x00800000),
   (bankAt m.pgm.bank, (m.prog.rlen + 4095) / 4096 * 4096),
   (0x13800000 + 0x20000 * (m.pgm.frcGen % 2), 0x20000)] ++ m.ddrRanges

/-- The pages of a range. -/
def pagesOf (r : Nat × Nat) : List Nat := (countFrom 0 (r.2 / 4096)).map fun k => r.1 + 4096 * k

/-- A page differs from what it read in an earlier memory. -/
def pageDiffers (m : Mach) (old : Memory) (p : Nat) : Bool := decide (m.mem.ldBytes p 4096 ≠ old.ldBytes p 4096)

/-- The tracked pages that differ from an earlier memory (log entry 40). -/
def dirtyPages (m : Mach) (old : Memory) : List Nat := (m.trackedRanges.flatMap pagesOf).filter (m.pageDiffers old)

/-- Send one page of the current pass (R319). -/
def sendPage (m : Mach) (p : Nat) : Mach :=
  m.sendLink 0x42 (leBytes 8 (p + m.pair.pass % 256 * 2 ^ 48) ++ m.mem.ldBytes p 4096)

/-- Show a pass: its phase, its number, the KiB that it sends (R344). -/
def showPass (m : Mach) (phase pages : Nat) : Mach :=
  ((m.setFld PTL_RSSTAT 2 0 phase).setFld PTL_RSSTAT 15 8 (m.pair.pass % 256)).wr PTL_RSLEFT (4 * pages)

/-! ### MIRROR records (R338) -/

end Mach

/-! ### What the module keeps for the cut beside registers and pages (log entry 44) -/

/-- A queued request as bytes. -/
def reqPack (r : Req) : List Byte :=
  leBytes 1 (match r.op with | .tact => 0 | .trku => 1 | .trkq => 2) ++ leBytes 2 r.blk.length ++ r.blk

/-- Queued requests from bytes. -/
def reqUnpack : Nat → List Byte → List Req × List Byte
  | 0, b => ([], b)
  | n + 1, b =>
    let len := fieldAt b 1 2
    let op : ReqOp := if fieldAt b 0 1 = 0 then .tact else if fieldAt b 0 1 = 1 then .trku else .trkq
    let (l, rest) := reqUnpack n (b.drop (3 + len))
    (⟨op, (b.drop 3).take len⟩ :: l, rest)

/-- An answer to a posted query as 38 bytes. -/
def resPack (q : QueryResult) : List Byte :=
  leBytes 4 q.qtag ++ leBytes 1 q.kind ++ leBytes 1 q.outcome ++ leBytes 4 q.key ++ leBytes 4 q.tag ++ leBytes 8 q.value ++
  leBytes 8 q.speed ++ leBytes 8 q.time

/-- An answer from bytes. -/
def resUnpack (b : List Byte) : QueryResult :=
  ⟨fieldAt b 0 4, fieldAt b 4 1, fieldAt b 5 1, fieldAt b 6 4, fieldAt b 10 4, fieldAt b 14 8, fieldAt b 22 8, fieldAt b 30 8⟩

/-- A candidate of the engine as 13 bytes. -/
def candPack (c : Cand) : List Byte :=
  leBytes 1 (b2n c.cancel + 2 * b2n c.sup + 4 * b2n c.again) ++ leBytes 4 c.aid ++ leBytes 2 c.station ++ leBytes 2 c.output ++
  leBytes 4 c.rcd

/-- A candidate from bytes. -/
def candUnpack (b : List Byte) : Cand :=
  let f := fieldAt b 0 1
  ⟨f.testBit 0, fieldAt b 1 4, fieldAt b 5 2, fieldAt b 7 2, fieldAt b 9 4, f.testBit 1, f.testBit 2⟩

/-- A list of items of one size, with its length. -/
def listPack {α : Type} (f : α → List Byte) (l : List α) : List Byte := leBytes 4 l.length ++ l.flatMap f

/-- The list, and the bytes after it. -/
def listUnpack {α : Type} (size : Nat) (f : List Byte → α) (b : List Byte) : List α × List Byte :=
  let n := fieldAt b 0 4
  ((countFrom 0 n).map fun k => f ((b.drop (4 + size * k)).take size), b.drop (4 + size * n))

namespace Mach

/-- Where the module keeps them: in the part of process image SRAM reserved for it (R240). -/
def keptAt : Nat := 0x02602000

/-- The queues that the engine takes in C, the answers to come, the entries that wait, the lost periods. -/
def keptBytes (m : Mach) : List Byte :=
  listPack reqPack m.k0.taken ++ listPack reqPack m.k1.taken ++ listPack resPack m.k0.nextRes ++ listPack resPack m.k1.nextRes ++
  listPack candPack m.dle.cands ++ listPack (leBytes 4) m.dle.firstSup ++ listPack (leBytes 1) m.tick.lost

end Mach

/-- The state of an axis in 64 bytes, as MIRROR carries it (log entry 41). -/
def axisBytes (x : Axis) : List Byte :=
  leBytes 1 x.state ++ leBytes 1 (b2n x.lost) ++ leBytes 2 x.miss ++ leBytes 4 x.erratic ++ leBytes 8 x.count ++
  leBytes 16 (wrapInt 128 x.p) ++ leBytes 16 (wrapInt 128 x.v) ++ leBytes 16 (wrapInt 128 x.t)

/-- The axis state that 64 bytes hold. -/
def axisOf (b : List Byte) : Axis where
  state := fieldAt b 0 1
  lost := decide (fieldAt b 1 1 ≠ 0)
  miss := fieldAt b 2 2
  erratic := fieldAt b 4 4
  count := fieldAt b 8 8
  p := signed 128 (fieldAt b 16 16)
  v := signed 128 (fieldAt b 32 16)
  t := signed 128 (fieldAt b 48 16)

namespace Mach

/-- The records for the track table: each word that has changed since it was sent. -/
def trackMirror (m : Mach) : List (List Byte) :=
  ((countFrom 0 0x80000).filter fun k =>
      m.mem.ldBytes (0x03000000 + 8 * k) 8 ≠ m.pair.sentMem.ldBytes (0x03000000 + 8 * k) 8).map fun k =>
    leBytes 4 (8 * k) ++ m.mem.ldBytes (0x03000000 + 8 * k) 8

/-- The records for the state of one axis. -/
def axisMirror (m : Mach) (a : Nat) : List (List Byte) :=
  let now := axisBytes (m.axis a)
  let old := axisBytes ((assocGet m.pair.sentAxes a).getD {})
  ((countFrom 0 8).filter fun k => (now.drop (8 * k)).take 8 ≠ (old.drop (8 * k)).take 8).map fun k =>
    leBytes 4 (2 ^ 31 + 64 * a + 8 * k) ++ (now.drop (8 * k)).take 8

/-- Send records, at most 342 in a message. -/
def sendMirror (m : Mach) (recs : List (List Byte)) : Mach :=
  let n := (recs.length + 341) / 342
  (countFrom 0 n).foldl (fun m k => m.sendLink 0x41 ((recs.drop (342 * k)).take 342).flatten) m

/-- Mirror what has changed of the track table and the axis state since it was sent. -/
def mirrorSync (m : Mach) : Mach :=
  let recs := m.trackMirror ++ (countFrom 0 1024).flatMap m.axisMirror
  let m := m.sendMirror recs
  { m with pair := { m.pair with
    mirrored := m.pair.mirrored + 12 * recs.length
    sentAxes := m.dle.axes } }

/-- Send pages, after the MIRROR records that precede them; what memory reads now is what has been sent. -/
def sendPages (m : Mach) (ps : List Nat) : Mach :=
  let m := ps.foldl sendPage m.mirrorSync
  { m with pair := { m.pair with sentMem := m.mem } }

/-! ### Passes -/

/-- The first pass begins once the grant is held (R337). -/
def passFirst (m : Mach) : Mach :=
  if m.pair.pass ≠ 0 ∨ !(m.adm.granted.any fun g => g.who = .pages) then m else
    let ps := m.firstRanges.flatMap pagesOf
    (({ m with pair := { m.pair with pass := 1 } }).showPass 2 ps.length).sendPages ps

/-- The next pass begins with the pages that are dirty now (R337). -/
def passNext (m : Mach) : Mach :=
  let ps := m.dirtyPages m.pair.sentMem
  (({ m with pair := { m.pair with pass := m.pair.pass + 1 } }).showPass 3 ps.length).sendPages ps

/-- The bytes that the link can carry between the output deadline and the cut's completion (R339). -/
def cutRoom (m : Mach) : Nat :=
  let (close, _, _, out, _) := phaseNs m.tick.len
  let ns := m.tickNs + close - out - 5000
  if m.fld PTL_STAT 5 4 = 3 then 2 * ns else ns

/-- The size of the cut (R339). -/
def cutSize (m : Mach) : Nat := 4096 * m.pair.dirtied + 4096 + m.pair.mirrorLast

/-- Every condition of the cut but the end of a pass holds (R339). -/
def cutFits (m : Mach) : Bool :=
  decide (256 ≤ m.pair.partGood) && m.pair.events.isEmpty && decide (m.cutSize ≤ m.cutRoom)

/-- A pass ends: the cut is fixed, or the next pass begins (R337, R339). -/
def passEnd (m : Mach) : Mach :=
  if m.cutFits then
    ({ m with pair := { m.pair with serveCut := some (m.tickNo + 2) } }).showPass 4 0
  else m.passNext

/-- A cut is abandoned and passes go on (R339). -/
def cutAbandon (m : Mach) : Mach :=
  (({ m with pair := { m.pair with serveCut := none } }).incFld PTL_RSSTAT 23 16).passNext

/-! ### OUTBLK (R319, R336) -/

/-- A block of the emitted output image. -/
def outBlock (m : Mach) (k : Nat) : List Byte := m.mem.ldBytes (outBase m.tick.outBuf + 1024 * k) 1024

/-- Send output blocks. -/
def sendBlocks (m : Mach) (ks : List Nat) : Mach :=
  ks.foldl (fun m k =>
    let b := m.outBlock k
    ({ m with pair := { m.pair with outSent := m.pair.outSent.stBytes (1024 * k) b } }).sendLink 0x33
      (leBytes 2 k ++ leBytes 6 0 ++ b)) m

/-- Send every block that has changed since it was sent. -/
def blocksSync (m : Mach) : Mach :=
  m.sendBlocks ((countFrom 0 80).filter fun k => m.outBlock k ≠ m.pair.outSent.ldBytes (1024 * k) 1024)

/-! ### The cut (R320, R339) -/

/-- Registers as bytes. -/
def regBytes (m : Mach) (a n : Nat) : List Byte := (countFrom 0 (n / 4)).flatMap fun k => leBytes 4 (m.rg (a + 4 * k))

/-- The change state (R320): CHGSTAT, S, the staged generations of program and Catalogue (log entry 42). -/
def changeBytes (m : Mach) : List Byte :=
  let staged := m.pgm.change.map fun c => (c.prog.gen, c.prog.catGen)
  leBytes 4 (m.rg KLN_CHGSTAT) ++ leBytes 8 (m.rg64 KLN_CHGTICK) ++ leBytes 8 ((staged.map (·.1)).getD 0) ++
  leBytes 4 ((staged.map (·.2)).getD 0)

/-- The module state block without its CRC. -/
def stateBody (m : Mach) : List Byte :=
  m.regBytes 0x08000000 512 ++ fixLen 64 (m.regBytes 0x08000400 40) ++
  (countFrom 0 4).flatMap (fun p => leBytes 4 (m.rg (GXP_OSEQ p))) ++
  (countFrom 0 4).flatMap (fun p => leBytes 4 (m.rg (GXP_ASEQ p))) ++
  fixLen 64 (m.regBytes 0x08020000 56) ++ fixLen 88 (m.regBytes 0x08090000 60) ++ leBytes 8 m.jrn.cmtno ++
  fixLen 64 m.changeBytes ++ leBytes 3260 0

/-- The module state block. -/
def stateBlock (m : Mach) : List Byte := m.stateBody ++ leBytes 4 (crc32c m.stateBody)

/-- Send the pages dirtied since they were sent, and the CUT message. -/
def sendCut (m : Mach) (c : Nat) : Mach :=
  let m := m.putWords keptAt m.keptBytes
  let m := m.sendPages (m.dirtyPages m.pair.sentMem)
  m.sendLink 0x43 (leBytes 8 c ++ m.stateBlock)

/-! ### The serving primary in each tick -/

/-- The partner's checkpoint starts (R335 to R337): images where the generations differ, the whole emitted
output image, and the request for admission. -/
def serveStart (m : Mach) (q : ReqMsg) : Mach :=
  let m := { m with pair := { m.pair with
    serving := true, pass := 0, partGood := 0, mirrored := 0, mirrorLast := 0, dirtied := 0, serveCut := none
    sentMem := m.mem, lastMem := m.mem, sentAxes := [], outSent := [] } }
  let m := m.showPass 1 0
  let m := if q.catGen = catGen m.mem catActive then m else m.sendImage 1 (m.mem.ldBytes catActive 0x100000)
  let m := if q.pgmGen = m.prog.gen ∨ m.prog.gen = 0 then m else m.sendImage 0 m.prog.bytes
  (m.sendBlocks (countFrom 0 80)).admWait 1 .pages

/-- The checkpoint ends. -/
def serveStop (m : Mach) : Mach :=
  if !m.pair.serving then m else
  let m := { m with pair := { m.pair with
    serving := false, pass := 0, serveCut := none, sentMem := [], lastMem := [], sentAxes := [], outSent := [] } }
  (m.showPass 0 0).admDrop .pages

/-- What a serving primary sends after the output deadline (R336 to R339): changed output blocks, MIRROR
records, the first pass once it is admitted, and the cut in C − 1. -/
def serveTick (m : Mach) : Mach :=
  if m.mode ≠ 6 ∨ !m.pair.serving then m else
  let m := ((m.blocksSync).passFirst)
  if m.pair.serveCut = some (m.tickNo + 1) then (if m.tick.overrun then m.cutAbandon else m.sendCut (m.tickNo + 1))
  else if m.pair.pass = 0 then m
  else
    let m := m.mirrorSync
    { m with pair := { m.pair with sentMem := tabCopyRange m.pair.sentMem m.mem } }
where
  /-- What has been sent, with the track table as it reads now. -/
  tabCopyRange (sent now : Memory) : Memory :=
    (tabRange now 0x03000000 0x00400000).foldl (fun t e => tabPut Memory.unlisted t e.1 e.2) (sent.zero 0x03000000 0x00400000)

/-- The serving primary at a boundary, at the end of a tick (R337, R339): what the tick dirtied, whether the
partner took part, and how a cut has ended. -/
def serveBoundary (m : Mach) : Mach :=
  if m.mode ≠ 6 ∨ !m.pair.serving then m else
  let good := m.pair.heard && decide (m.partMode = 4) && m.partHealth 2
  let m := { m with pair := { m.pair with
    dirtied := (m.dirtyPages m.pair.lastMem).length
    lastMem := m.mem
    mirrorLast := m.pair.mirrored
    mirrored := 0
    partGood := if good then m.pair.partGood + 1 else 0 } }
  match m.pair.serveCut with
  | some c =>
    if !m.pair.heard ∨ m.tickNo ≤ c then m
    else if m.partMode = 5 then m.serveStop
    else if m.partMode = 4 then m.cutAbandon
    else m.serveStop
  | none => m

end Mach

end Sys2Proof.Machine
end

