-- ==== Sys2Proof/Machine/Emit.lean ====
section
/-! DEFINITION. The firing phase and what leaves after it (R22): its start, action telegrams, its end, the
output deadline with overruns (R54 to R57), the copies of the standby (R324 to R326), and the apply instant of
the module's own outputs. -/

namespace Sys2Proof.Machine

namespace Mach

/-! ### The start of the firing -/

/-- The slices due on a cluster in this tick, in ascending task number (R44, R45): of enabled tasks that are
neither disabled nor in a lost period (R57, R86), on a cluster that has passed its test (R521). -/
def dueSlices (m : Mach) (cl : Nat) : List (Nat × Nat) :=
  let st := m.fld (KLN_CLSTAT cl) 2 0
  if st = 0 ∨ 4 ≤ st then [] else
    ((countFrom 0 16).filter fun t => m.bit (KLN_TCFG t) 0 && decide (m.fld (KLN_TCFG t) 1 1 = cl) &&
      !m.bit (KLN_TFLT t) 2 && !m.tick.lost.contains t).map fun t => (t, m.tickNo % 2 ^ m.fld (KLN_TCFG t) 5 2)

/-- The firing of the tick takes place (R33, R54, R61, R171, R198). -/
def canFire (m : Mach) : Bool :=
  !m.tick.blocked && !m.tick.stopped && m.pgm.restart.isNone &&
  if m.mode = 5 ∨ m.mode = 6 then m.bit KLN_SCHCTL 0 else m.mode = 3 && (m.bit KLN_SCHCTL 0 || m.tick.single)

/-- The Deadline Engine works in this mode (R33). -/
def dleServes (m : Mach) : Bool := decide (m.mode = 3) || decide (m.mode = 5) || decide (m.mode = 6)

/-- Action telegrams of the tick may leave (R33, R198). -/
def emitsActs (m : Mach) : Bool := (decide (m.mode = 5) || decide (m.mode = 6)) && m.pgm.restart.isNone

/-- A cluster opens its firing with the fixed cost of R51; a FAILED one uses no cycles (R521). -/
def openKiln (m : Mach) (cl : Nat) : Mach :=
  let due := m.dueSlices cl
  let cost := if m.fld (KLN_CLSTAT cl) 2 0 = 4 then 0 else 600
  m.modKiln cl fun k => { k with cyc := cost, due := due, dirty := [] }

/-- The firing phase begins (R22, R45, R269). -/
def firingPhase (m : Mach) (mis : Option Nat) : Mach :=
  let m := m.enterPhase 2
  let m := if m.dleServes then m.requestPhase mis m.emitsActs else m
  if m.canFire then (({ m with tick := { m.tick with fires := true } }).openKiln 0).openKiln 1 else m

/-! ### Digests (R324, R325) -/

/-- The ports in service. -/
def enPorts (m : Mach) : List Nat := (countFrom 0 4).filter fun p => m.bit (GXP_CTL p) 0

/-- The action digest (R324). -/
def actDigest (m : Mach) : Nat :=
  crc64Fold 0 (m.enPorts.flatMap fun p =>
    (if m.gxServes p then (m.dle.placed.filter fun e => e.1 = p).flatMap (·.2) else []) ++ leBytes 4 (m.rg (GXP_ASEQ p)))

/-- The output digest (R324). -/
def outDigest (m : Mach) : Nat :=
  crc64Fold 0 (m.enPorts.flatMap fun p => m.outPayload p ++ leBytes 4 (m.rg (GXP_OSEQ p)))

/-- Send ACTDIG or OUTDIG (R318). -/
def sendDigest (m : Mach) (type : Nat) (d : Digest) : Mach :=
  m.sendLink type (leBytes 8 d.value ++ leBytes 1 d.kind ++ leBytes 1 (b2n d.self) ++ leBytes 6 0)

/-- The standby's action telegrams leave (R325). -/
def sendAct (m : Mach) : Mach :=
  let l := m.pair.heldAct
  ({ m with pair := { m.pair with heldAct := [], waitAct := false } }).gxOuts l

/-- The standby's output telegrams leave: it has emitted the image (R325, R454). -/
def sendOut (m : Mach) : Mach :=
  let l := m.pair.heldOut
  ({ m with
    pair := { m.pair with heldOut := [], waitOut := false }
    tick := { m.tick with emitted := true } }).gxOuts l

/-- The standby compares its own digest with the primary's, once it has both of one tick (R325 to R327). -/
def judge (m : Mach) (out : Bool) : Mach :=
  if m.mode ≠ 5 ∨ m.pair.diverged then m else
  let own := if out then m.pair.ownOut else m.pair.ownAct
  let part := if out then m.pair.partOut else m.pair.partAct
  let held := if out then m.pair.waitOut else m.pair.waitAct
  let go (m : Mach) : Mach := if !held then m else if out then m.sendOut else m.sendAct
  match own, part with
  | some o, some p =>
    if o.tick ≠ p.tick ∨ o.kind = 2 then m
    else if p.kind = 2 then go m
    else if p.self then go { m with pair := { m.pair with skipCommit := true } }
    else if p.kind = 0 ∧ o.kind = 0 ∧ p.value = o.value then go m
    else if p.kind = 1 ∧ o.kind = 1 then m
    else m.diverge (if o.kind = 0 ∧ !held then 5 else if out then 3 else 2)
  | _, _ => m

/-- The module's own digest of the tick: kept, sent, and compared in the standby. -/
def ownDigest (m : Mach) (out : Bool) (kind value : Nat) (self : Bool) : Mach :=
  let d : Digest := ⟨m.tickNo, value, kind, self⟩
  let m := { m with pair := if out then { m.pair with ownOut := some d } else { m.pair with ownAct := some d } }
  (m.sendDigest (if out then 0x06 else 0x05) d).judge out

/-! ### Action emit (R22, R226, R262) -/

/-- The action telegrams of the tick leave, or wait in the standby (R325). -/
def actEmit (m : Mach) : Mach :=
  let (ts, m) := m.actTrains
  let m := if m.mode = 6 then m.gxOuts ts
    else { m with pair := { m.pair with heldAct := ts, waitAct := true } }
  m.ownDigest false (if m.dle.fault then 2 else 0) m.actDigest (m.mode = 6 && m.pair.selfCause)

/-- Action emit and the start of the recompute phase. -/
def actionEmit (m : Mach) (mis : Option Nat) : Mach :=
  let done := m.pair.ownAct.any fun d => d.tick = m.tickNo
  let m := if m.emitsActs ∧ !m.pair.diverged ∧ !done then m.actEmit else m
  if m.dleServes then m.recomputePhase mis else m

/-! ### The primary's commit record in the standby (R319, R327, R352) -/

/-- Send CONFIRM for a tick with the CHECK as computed here (R319). -/
def sendConfirm (m : Mach) (result check : Nat) : Mach := m.sendLink 0x11 (leBytes 1 result ++ leBytes 3 0 ++ leBytes 4 check)

/-- The CHECK over a commit stream (R352). -/
def streamCheck (bs : List Byte) : Nat := crc32c (bs.take 60 ++ bs.drop 64)

/-- The standby compares a whole commit stream with its own record of the tick. -/
def commitCompare (m : Mach) (tick : Nat) (bs : List Byte) : Mach :=
  let check := streamCheck bs
  match m.jrn.commit.filter fun c => c.tick = tick with
  | some c =>
    if m.pair.skipCommit ∨ (check = fieldAt bs 60 4 ∧ check = fieldAt c.header 60 4) then
      let m := (m.commitMap tick fun c => { c with partner := true }).sendConfirm 1 check
      (if c.ownMirror then m.sendConfirm 2 check else m).commitTry
    else (m.sendConfirm 3 check).diverge 4
  | none => if m.pair.skipCommit ∨ m.pair.lastCommit = tick then m else (m.sendConfirm 3 check).diverge 4

/-- Key of a commit stream that came before the standby's own firing ended. -/
def earlyCommit : Nat := 0x110

/-- Compare a commit stream that waited for the standby's own record. -/
def commitEarly (m : Mach) : Mach :=
  match assocGet m.pair.rx earlyCommit with
  | none => m
  | some x =>
    let m := { m with pair := { m.pair with rx := assocDel m.pair.rx earlyCommit } }
    if x.tick = m.tickNo then m.commitCompare x.tick x.bytes else m

/-- A whole commit stream arrives at the standby. -/
def commitStandby (m : Mach) (tick : Nat) (bs : List Byte) : Mach :=
  if tick = m.tickNo ∧ m.tick.fires ∧ !m.tick.ended then
    { m with pair := { m.pair with rx := assocPut m.pair.rx earlyCommit ⟨tick, bs.length, bs⟩ } }
  else m.commitCompare tick bs

/-! ### The end of the firing -/

/-- Nothing of the firing runs on a cluster, and its windows are compared. -/
def idleKiln (k : Kiln) : Bool := k.slice.isNone && k.due.isEmpty && k.dueWin.isEmpty && k.cmpWin.isNone

/-- The check state that a copied word takes (R71). -/
def exchangeEcc : Ecc → Ecc
  | .good => .good
  | .single => .good
  | .uncorr => .poison
  | .poison => .poison

/-- Copy an exchange line of 64 bytes into the front copy (R71). -/
def exchangeLine (m : Mach) (l : Nat) : Mach :=
  let dst := 8 * l + 0x1000
  { m with
    mem := m.mem.copy (64 * l) (64 * l + 0x8000) 64
    ecc := (countFrom 0 8).foldl (fun e k => tabPut Ecc.good e (dst + k) (exchangeEcc (tabGet Ecc.good e (8 * l + k)))) m.ecc }

/-- A cluster closes its firing: cycles, exchange copies, and the requests that the engine takes next (R61, R71,
R148). -/
def closeKiln (m : Mach) (cl : Nat) : Mach :=
  let k := m.kiln cl
  let m := m.wr (KLN_FIRECYC cl) (k.cyc % 2 ^ 20)
  let m := m.wr (KLN_FIREMAX cl) (max (m.fld (KLN_FIREMAX cl) 19 0) (k.cyc % 2 ^ 20))
  let m := k.dirty.foldl exchangeLine m
  m.modKiln cl fun k => { k with dirty := [], taken := k.queue, queue := [] }

/-- The new back output buffer takes the values last emitted (R76, R242). -/
def outRefill (m : Mach) : Mach := m.copyWords (outBase m.tick.outBuf) (outBase (1 - m.tick.outBuf)) 0x20000

/-- The output image is emitted: buffers swap, forces go with it, telegrams leave or wait in the standby (R225,
R242, R325). -/
def outEmit (m : Mach) : Mach :=
  let m := { m with tick := { m.tick with outBuf := 1 - m.tick.outBuf }, forcesOut := m.forces }
  let m := m.outRefill
  if m.mode ≠ 5 ∧ m.mode ≠ 6 then m else
  let (ts, m) := m.outTrains
  if m.mode = 6 then
    ({ m with tick := { m.tick with emitted := true } }.gxOuts ts).ownDigest true 0 m.outDigest m.pair.selfCause
  else
    ({ m with pair := { m.pair with heldOut := ts, waitOut := true, skipCommit := false } }).ownDigest true 0 m.outDigest false

/-- The firing of the tick is over; a single STEP has run (R61). -/
def tickEnded (m : Mach) : Mach :=
  let m := { m with tick := { m.tick with ended := true, single := false } }
  if m.mode = 3 then m.setBit KLN_SCHCTL 1 false else m

/-- The end of a firing without overrun (R22, R61, R71, R225, R352, R363). -/
def firingEnd (m : Mach) : Mach :=
  let m := m.tickEnded
  let m := (((m.closeKiln 0).closeKiln 1).outEmit).showFiring
  if m.mode = 6 then (m.commitWrite).completesDue
  else if m.mode = 5 ∧ !m.pair.diverged then (m.commitWrite).commitEarly
  else m

/-! ### The output deadline -/

/-- The task whose slice runs at the deadline; cluster 0's where both run one. -/
def runningTask (m : Mach) : Nat :=
  match m.k0.slice, m.k1.slice with
  | some s, _ => s.task
  | none, some s => s.task
  | none, none => 0xFFFF

/-- The tasks with a slice that is not finished. -/
def unfinished (m : Mach) : List Nat :=
  let of (k : Kiln) : List Nat := k.slice.toList.map (·.task) ++ k.due.map (·.1)
  of m.k0 ++ of m.k1

/-- A cluster's part of the deadline (R55, R183): its slice ends, but for one that the debugger has stopped. -/
def cutKiln (m : Mach) (cl : Nat) : Mach :=
  let hold := m.bit (KLN_DBGSTAT cl) 0
  m.modKiln cl fun k => { k with due := [], dirty := [], slice := if hold then k.slice else none }

/-- SELF of a primary's output digest (R326). -/
def outSelf (m : Mach) (overran : Bool) : Bool :=
  decide (m.mode = 6) && (m.pair.selfCause || (overran && m.pair.partOut.any fun d => d.tick = m.tickNo ∧ d.kind = 0))

/-- The part of an overrun that both modes share: periods lost, the work of the tick undone, the count (R55 to
R57). -/
def overrunWork (m : Mach) : Mach :=
  let task := m.runningTask
  let m := m.unfinished.foldl losePeriod m
  let m := ((m.undoTick).cutKiln 0).cutKiln 1
  (((m.tickEnded).overrunCount task).outRefill).showFiring

/-- The firing has not ended by the output deadline (R55 to R57): an overrun that the standby has not shared is a
cause of R326. -/
def overrunTick (m : Mach) : Mach :=
  let self := m.outSelf true
  let m := m.overrunWork
  let m := { m with pair := { m.pair with selfCause := m.pair.selfCause || self } }
  if m.mode = 5 ∨ m.mode = 6 then (m.ownDigest true 1 0 self).commitEarly else m

/-- OUTDIG of a tick that did not fire (R318, R325). -/
def deadDigest (m : Mach) : Mach :=
  if (m.mode ≠ 5 ∧ m.mode ≠ 6) ∨ m.pair.diverged ∨ (m.pair.ownOut.any fun d => d.tick = m.tickNo) then m
  else if m.tick.stopped then m.ownDigest true 2 0 false
  else if m.tick.blocked then m.ownDigest true 1 0 (m.outSelf false)
  else m

/-- The status telegrams of the tick (R227). -/
def statusPhase (m : Mach) : Mach :=
  if m.mode = 7 then m.statusTelegrams 3
  else if (m.mode ≠ 5 ∧ m.mode ≠ 6) ∨ m.pair.diverged then m
  else if m.tick.stopped then m.statusTelegrams 4
  else if m.pgm.restart.isSome then m.statusTelegrams 2
  else if m.tick.overrun then m.statusTelegrams 1
  else m

/-! ### The standby's tests in the guard phase (R341) -/

/-- A voter injection of the rotation of R177: cluster, instance, point, FIELD and mask. -/
def injRotation (k : Nat) : Nat × Nat × Nat × Nat × Nat :=
  let n := k % 1576
  let cl := n / 788
  let v := n / 394 % 2
  let i := n % 394
  if i < 291 then
    let b := i % 97
    let (f, j) := if b < 32 then (0, b) else if b < 64 then (1, b - 32) else if b < 89 then (2, b - 64) else (3, b - 89)
    (cl, v, i / 97, f, 2 ^ j)
  else if i < 387 then (cl, v, 3 + (i - 291) / 32, 0, 2 ^ ((i - 291) % 32))
  else (cl, v, 6 + (i - 387), 0, 1)

/-- One voter injection by the Curator (R178). -/
def injTest (m : Mach) (k : Nat) (observed : Option Nat) : Mach :=
  let (cl, v, point, field, mask) := injRotation k
  let m := (m.wr (VOT_INJCTL cl v) (point * 2 ^ 8 + field * 2 ^ 4 + 1)).wr (VOT_INJMASK cl v) mask
  m.inject cl v observed

/-- One comparator injection by the Curator (R274): what DLE_CMPINJ shows. -/
def cmpTest (m : Mach) (k : Nat) (observed : Option Nat) : Mach :=
  let n := k % 256
  let m := (m.wr DLE_CMPMASK (2 ^ (n % 32))).wr DLE_CMPINJ (n / 64 + n / 32 % 2 * 4)
  match observed with
  | none => (m.setBit DLE_STAT 2 true).setFld DLE_CMPINJ 10 9 3
  | some o => m.setFld DLE_CMPINJ 10 9 (bits o 10 9)

/-- A failed comparator injection leaves the engine stopped (R274). -/
def cmpFailed (m : Mach) (point half mask res : Nat) : Mach :=
  ((m.setBit DLE_STAT 3 false).setBit DLE_STAT 0 false).ledger 0x0604 3 (point + 4 * half) mask res

/-- The tests of one guard phase (R341). -/
def standbyTests (m : Mach) (t : SelfTest) : Mach :=
  let k := m.pair.rot
  let m := { m with pair := { m.pair with rot := k + 1, mramOk := m.pair.mramOk && !t.mram } }
  let m := m.injTest k (t.inj.map fun f => f.2.res.toNat)
  let m := match t.inj with
    | some (cl, f) => m.injectionResult cl (some f)
    | none => m
  let m := m.cmpTest k (t.cmp.map fun f => f.2.2.2.toNat)
  match t.cmp with
  | some (p, h, x, r) => m.cmpFailed p.toNat (b2n h) x.toNat r.toNat
  | none => m

/-! ### The primary gives up the role (R311, R326, R329, R332) -/

/-- The module releases its role line. -/
def lineRelease (m : Mach) : Mach :=
  ({ m with pair := { m.pair with driver := false } }).setFld PTL_STAT 8 7 0

/-- A swap is fixed for the next boundary, and this tick has not overrun (R332). -/
def swapNow (m : Mach) : Bool :=
  !m.tick.overrun && !m.tick.stopped && m.pair.events.any fun e => e.2 = 1 ∧ e.1 ≤ m.tickNo + 1

/-- Whether and how the primary gives up the role in this tick: 1 into HALTED, 2 into RESYNC, 3 by a swap,
4 at the power-fail warning; 0 not at all. -/
def leaving (m : Mach) : Nat :=
  if m.tick.stopped then 1
  else if m.pfw then 4
  else if m.pair.handOver = 1 ∨ !m.fit then 1
  else if m.pair.selfCause ∧ m.standbyHealthy then 2
  else if m.pair.handOver = 2 then 2
  else if m.swapNow ∧ m.standbyHealthy then 3
  else 0

/-- The commit of the tick stands in the partner, where one is in step. -/
def confirmed (m : Mach) : Bool := m.solo || m.jrn.commit.all (·.partner)

/-- The primary releases its line before the role sample point, with the notice of its cause (R319, R329). -/
def giveUp (m : Mach) : Mach :=
  if m.mode ≠ 6 ∨ !m.pair.driver then m else
  match m.leaving with
  | 0 => m
  | 1 =>
    if m.tick.stopped then m.lineRelease
    else if !m.confirmed then m
    else (({ m with pair := { m.pair with handOver := 1 } }).notice 4).lineRelease
  | 2 => if m.confirmed then (({ m with pair := { m.pair with handOver := 2 } }).notice 4).lineRelease else m
  | 3 => if m.confirmed then m.lineRelease else m
  | _ => if m.confirmed then (m.notice 3).lineRelease else m

/-- The output deadline (R22, R54 to R57, R227, R286, R341). -/
def outDeadline (m : Mach) (t : SelfTest) : Mach :=
  let m := m.enterPhase 3
  let m := if m.tick.fires ∧ !m.tick.ended ∧ !m.tick.stopped then m.overrunTick else m
  let m := if m.tick.stopped ∧ !m.tick.ended then
      ({ m with tick := { m.tick with ended := true, single := false } }).outRefill else m
  let m := (m.deadDigest).statusPhase
  let m := if m.mode = 6 then (m.completesDue).serveTick else m
  let m := if m.mode = 5 then m.standbyTests t else m
  let m := if m.mode = 5 ∧ m.pfw then m.notice 3 else m
  (m.stepGuard).giveUp

end Mach

/-! ### The commands -/

/-- FIRING_START (R22, R23, R44, R45, R67, R269, R273): `mis` is the number of requests after which the engine's
comparator finds a mismatch. -/
def execFiringStart (mis : Option (BitVec 16)) (s : State) : Result :=
  .next (if s.m.dead ∨ s.m.tick.phase ≠ 1 ∨ !s.m.tick.adopted then s else
    let s := s.mod fun m => m.firingPhase (mis.map (·.toNat))
    let s := if !s.m.tick.fires then s
      else [0, 1].foldl (fun s cl => if (s.m.kiln cl).slice.isSome then s else s.dispatch cl) s
    s.mod fun m => m.admEvaluate false)

/-- ACTION_EMIT (R22, R226, R262, R264, R324): `mis` is the number of records after which the engine's comparator
finds a mismatch in the recompute phase. -/
def execActionEmit (mis : Option (BitVec 16)) (s : State) : Result :=
  .next (s.live fun m => if m.tick.phase ≠ 2 then m else m.actionEmit (mis.map (·.toNat)))

/-- FIRING_END (R22, R71, R225, R242, R352): every due slice of both clusters has ended and every signature window
has been compared. -/
def execFiringEnd (s : State) : Result :=
  .next (s.live fun m =>
    if m.tick.phase = 2 ∧ m.tick.fires ∧ !m.tick.ended ∧ !m.tick.stopped ∧ Mach.idleKiln m.k0 ∧ Mach.idleKiln m.k1 then
      m.firingEnd
    else m)

/-- OUTPUT_DEADLINE (R55 to R57, R227, R286, R341): `t` is what the standby's tests of this guard phase find. -/
def execOutputDeadline (t : SelfTest) (s : State) : Result :=
  .next (if s.m.dead ∨ s.m.tick.phase ≠ 2 then s else
    let open_ := s.m.tick.fires && !s.m.tick.ended && !s.m.tick.stopped
    let s := if open_ then
        [0, 1].foldl (fun s cl => if s.m.bit (KLN_DBGSTAT cl) 0 then s else s.closeWindow cl) s
      else s
    s.mod fun m => m.outDeadline t)

/-- MODULE_APPLY_INSTANT (R454, R456, R462): the apply instant of the last tick's image. -/
def execModuleApplyInstant (s : State) : Result :=
  .next (s.live fun m => if m.mode < 3 then m else (countFrom 0 4).foldl Mach.canApply m.lioApply)

/-- ACTDIG_MESSAGE (R318, R325, R326). -/
def execActdigMessage (f : List Byte) (s : State) : Result :=
  .next (s.live fun m => m.linkRecv 0x05 f fun m _ tick p =>
    if p.length ≠ 16 then m else
      let d : Digest := ⟨tick, fieldAt p 0 8, fieldAt p 8 1, (fieldAt p 9 1).testBit 0⟩
      ({ m with pair := { m.pair with partAct := some d } }).judge false)

/-- OUTDIG_MESSAGE (R318, R325, R326). -/
def execOutdigMessage (f : List Byte) (s : State) : Result :=
  .next (s.live fun m => m.linkRecv 0x06 f fun m _ tick p =>
    if p.length ≠ 16 then m else
      let d : Digest := ⟨tick, fieldAt p 0 8, fieldAt p 8 1, (fieldAt p 9 1).testBit 0⟩
      ({ m with pair := { m.pair with partOut := some d } }).judge true)

/-- DIGEST_TIMEOUT (R325): 2 µs have passed since a digest of the standby without the primary's. -/
def execDigestTimeout (s : State) : Result :=
  .next (s.live fun m =>
    if m.mode ≠ 5 ∨ !(m.pair.waitAct || m.pair.waitOut) then m else
      let m := if m.pair.waitAct then m.sendAct else m
      let m := if m.pair.waitOut then m.sendOut else m
      m.setBit PTL_STAT 13 true)

/-- OVERRUN_LIMIT (R58, R60): the third overrun in a row. -/
def execOverrunLimit (s : State) : Result := .next (s.live Mach.overrunLimit)

end Sys2Proof.Machine
end

