-- ==== Sys2Proof/Machine/Copies.lean ====
section
/-! DEFINITION. What the partner sends of classes 0, 1 and 3 and the receiver keeps (R318, R319): notices,
commit records and their confirmations, images, force batches, session operations, output blocks. -/

namespace Sys2Proof.Machine

namespace Mach

/-! ### Commit records (R319, R336, R352, R353) -/

/-- DP1 of a commit header. -/
def headerDp1 (bs : List Byte) : Nat := wrapInt 64 ((fieldAt bs 8 8 : Int) + signed 32 (fieldAt bs 16 4))

/-- The accessions that the delivery pointers of a commit record show as delivered (R353). -/
def deliveredBy (m : Mach) (bs : List Byte) : List Nat :=
  (m.usedSlots.map m.accOf).filter fun n =>
    decide (m.recState n ≤ 2) && decide (n < (if m.routeOf (m.recClass n) = 0 then fieldAt bs 8 8 else headerDp1 bs))

/-- The completion entries of a commit stream (R353): slot and code. -/
def streamComps (bs : List Byte) : List (Nat × Nat) :=
  let o := 64 + fieldAt bs 56 2
  (countFrom 0 (fieldAt bs 58 2)).map fun k => (fieldAt bs (o + 8 * k) 2, fieldAt bs (o + 8 * k + 4) 4)

/-- A completion that is not recorded yet. -/
def compNew (m : Mach) (e : Nat × Nat) : Bool := decide (m.mem.ldN (recordAt e.1) 1 < 4)

/-- What a commit record changes in the journal of a module in RESYNC (R336, R353): header, deliveries,
completions, pointers. -/
def commitApply (m : Mach) (tick : Nat) (bs : List Byte) : Mach :=
  let m := (m.jst (headerAt tick) (bs.take 64)).jst (mirrorHeaderAt tick) (bs.take 64)
  let news := m.deliveredBy bs
  let comps := (streamComps bs).filter m.compNew
  let m := news.foldl deliverRec m
  let m := comps.foldl (completeRec · tick) m
  let m := (m.wr64 (ACJ_DP 0) (fieldAt bs 8 8)).wr64 (ACJ_DP 1) (headerDp1 bs)
  let slots := news.map (· % 65536) ++ comps.map (·.1)
  let m := { m with jrn := { m.jrn with lag := m.jrn.lag ++ [(tick, slots)] } }
  (m.pairRecord tick).acjShow

/-- A whole commit stream arrives at a module in RESYNC: it applies it and keeps it until the cut. -/
def commitResync (m : Mach) (tick : Nat) (bs : List Byte) : Mach :=
  let check := streamCheck bs
  if check ≠ fieldAt bs 60 4 then m.sendConfirm 3 check else
    let m := m.commitApply tick bs
    let m := { m with pair := { m.pair with rx := assocPut m.pair.rx earlyCommit ⟨tick, bs.length, bs⟩ } }
    (m.sendConfirm 1 check).sendConfirm 2 check

/-- A part of a commit stream (R319). -/
def commitPart (m : Mach) (tick : Nat) (p : List Byte) : Mach :=
  let (whole, m) := m.streamAdd 0x10 tick (fieldAt p 0 4) (fieldAt p 4 4) (p.drop 8)
  match whole with
  | none => m
  | some bs =>
    if bs.length < 64 then m
    else if m.mode = 5 ∧ !m.pair.diverged then m.commitStandby tick bs
    else if m.mode = 4 ∧ m.pair.pageWritten then m.commitResync tick bs
    else m

/-- The partner reports on the open commit (R319, R327, R352). -/
def confirmTake (m : Mach) (tick result check : Nat) : Mach :=
  match m.jrn.commit.filter fun c => c.tick = tick with
  | none => m
  | some c =>
    if result = 3 ∨ check ≠ fieldAt c.header 60 4 then (if m.partMode = 5 then m.partnerDiverged 4 else m)
    else
      let m := m.commitMap tick fun c => { c with partner := true, partMirror := c.partMirror || decide (result = 2) }
      let m := m.commitTry
      if m.tick.phase = 3 then m.giveUp else m

/-! ### Notices (R319, R329, R343) -/

/-- A notice of the partner: a standby with a fault is not healthy in the tick, and a fault before the swap
cancels it (R332). -/
def noticeTake (m : Mach) (cause : Nat) : Mach :=
  if m.mode = 6 then
    if cause = 1 ∨ cause = 2 ∨ cause = 3 then ({ m with pair := { m.pair with partDiv := true } }).swapCancel else m
  else if m.mode = 5 ∧ (cause = 1 ∨ cause = 2) then m.swapCancel
  else m

/-! ### Images (R204, R319, R336) -/

/-- The keys of image streams in arrival, and of a Catalogue that waits for its image. -/
def imageKey (kind : Nat) : Nat := 0x130 + kind
def catWaits : Nat := 0x132

/-- The Catalogue that came before an image. -/
def waitingCat (m : Mach) : List Byte := ((assocGet m.pair.rx catWaits).map (·.bytes)).getD []

/-- Forget it. -/
def dropCat (m : Mach) : Mach := { m with pair := { m.pair with rx := assocDel m.pair.rx catWaits } }

/-- The standby takes an image for the change of its primary; one that it refuses is a difference of the pair
state (R191, R204, R327). -/
def imageStandby (m : Mach) (img : List Byte) : Mach :=
  let cat := m.waitingCat
  let (_, code, t) := (m.dropCat).changeTake img cat
  if code = 0 then t else (m.dropCat).diverge 0

/-- A module in RESYNC takes the image that its primary runs (R193, R336), with the primary's generation. -/
def imageResync (m : Mach) (img : List Byte) : Mach :=
  if imgCheck img ≠ 0 then m else
    let p := progOf img m.pgm.gens
    let c : Change := ⟨p, [], true, [], [], true, true, true⟩
    (m.storePut m.storeEntry c).progTake p

/-- A whole image or Catalogue has arrived. -/
def imageTake (m : Mach) (kind tick : Nat) (bs : List Byte) : Mach :=
  if m.mode = 5 then
    if kind = 1 then { m with pair := { m.pair with rx := assocPut m.pair.rx catWaits ⟨tick, bs.length, bs⟩ } }
    else m.imageStandby bs
  else if m.mode = 4 ∧ m.pair.accepted then
    if kind = 1 then (m.catWrite catActive bs).catSwitch m.mem else m.imageResync bs
  else m

/-- A part of an image stream. -/
def imagePart (m : Mach) (tick : Nat) (p : List Byte) : Mach :=
  let kind := fieldAt p 8 1
  if 1 < kind then m else
    let (whole, m) := m.streamAdd (imageKey kind) tick (fieldAt p 0 4) (fieldAt p 4 4) (p.drop 16)
    match whole with
    | none => m
    | some bs => m.imageTake kind tick bs

/-! ### Force batches (R211, R319) -/

/-- An item of a FORCE message. -/
def fitemOf (b : List Byte) : FItem := ⟨fieldAt b 0 1, fieldAt b 1 1, fieldAt b 2 1, fieldAt b 4 4, fieldAt b 8 2, 0⟩

/-- A message of a force batch; with LAST the batch waits for its event. -/
def forceTake (m : Mach) (p : List Byte) : Mach :=
  let n := min (fieldAt p 4 2) ((p.length - 8) / 16)
  let items := m.pgm.frcRx ++ (countFrom 0 n).map fun k => fitemOf ((p.drop (8 + 16 * k)).take 16)
  if (fieldAt p 6 1).testBit 0 then
    ({ m with pgm := { m.pgm with frcRx := [], batches := m.pgm.batches ++ [(batchOpen, items)] } }).batchBind
  else { m with pgm := { m.pgm with frcRx := items } }

/-! ### Session operations (R319) -/

/-- A configuration as the primary passes it on (log entry 43). -/
def sessionCfg (m : Mach) (bs : List Byte) : CfgCopy :=
  let fmt := m.fld UPD_CFG 31 24
  let gen := fieldAt bs 0 4
  let regs := (countFrom 0 ((bs.length - 4) / 8)).map fun k => (fieldAt bs (4 + 8 * k) 4, fieldAt bs (8 + 8 * k) 4)
  ⟨true, fmt, gen, regs, Config.cfgDigest fmt gen regs⟩

/-- A whole session operation of the primary takes effect in its partner. -/
def sessionTake (m : Mach) (op sid : Nat) (bs : List Byte) : Mach :=
  match op with
  | 1 => m.clientWrite (sid % 256) (bs.take 12) ((bs.drop 12).take 32)
  | 2 => m.cfgTake (m.sessionCfg bs)
  | 3 => if m.pgm.change.isSome then (m.changeDrop).ledger 0x0400 1 0 0 0 else m
  | 4 => m.changeDrop
  | _ => m

/-- A part of a session operation. -/
def sessionPart (m : Mach) (tick : Nat) (p : List Byte) : Mach :=
  let op := fieldAt p 0 2
  let (whole, m) := m.streamAdd (0x10000 + op) tick (fieldAt p 8 4) (fieldAt p 12 4) (p.drop 16)
  match whole with
  | none => m
  | some bs => m.sessionTake op (fieldAt p 4 4) bs

/-- The module takes what its primary replicates: a standby, or a module in RESYNC after acceptance. -/
def replicates (m : Mach) : Bool := decide (m.mode = 5) || (decide (m.mode = 4) && m.pair.accepted)

end Mach

/-! ### The commands -/

/-- NOTICE_MESSAGE (R319, R329, R343). -/
def execNoticeMessage (f : List Byte) (s : State) : Result :=
  .next (s.live fun m => m.linkRecv 0x07 f fun m _ _ p => if p.length ≠ 8 then m else m.noticeTake (fieldAt p 0 1))

/-- COMMIT_MESSAGE (R319, R327, R336, R352). -/
def execCommitMessage (f : List Byte) (s : State) : Result :=
  .next (s.live fun m => m.linkRecv 0x10 f fun m _ tick p => if p.length < 8 then m else m.commitPart tick p)

/-- CONFIRM_MESSAGE (R319, R327, R352). -/
def execConfirmMessage (f : List Byte) (s : State) : Result :=
  .next (s.live fun m => m.linkRecv 0x11 f fun m _ tick p =>
    if m.mode ≠ 6 ∨ p.length ≠ 8 then m else m.confirmTake tick (fieldAt p 0 1) (fieldAt p 4 4))

/-- IMAGE_MESSAGE (R204, R319, R336). -/
def execImageMessage (f : List Byte) (s : State) : Result :=
  .next (s.live fun m => m.linkRecv 0x30 f fun m _ tick p => if p.length < 16 then m else m.imagePart tick p)

/-- FORCE_MESSAGE (R211, R319). -/
def execForceMessage (f : List Byte) (s : State) : Result :=
  .next (s.live fun m => m.linkRecv 0x31 f fun m _ _ p => if p.length < 8 ∨ !m.replicates then m else m.forceTake p)

/-- SESSION_MESSAGE (R319). -/
def execSessionMessage (f : List Byte) (s : State) : Result :=
  .next (s.live fun m => m.linkRecv 0x32 f fun m _ tick p => if p.length < 16 ∨ !m.replicates then m else m.sessionPart tick p)

/-- OUTBLK_MESSAGE (R319, R336): a block of the emitted output image. -/
def execOutblkMessage (f : List Byte) (s : State) : Result :=
  .next (s.live fun m => m.linkRecv 0x33 f fun m _ _ p =>
    let k := fieldAt p 0 2
    if m.mode ≠ 4 ∨ !m.pair.accepted ∨ p.length ≠ 1032 ∨ 79 < k then m
    else (m.masterWrite 4 0 (Mach.outBase m.tick.outBuf + 1024 * k) (p.drop 8)).2)

end Sys2Proof.Machine
end

