-- ==== Sys2Proof/Machine/Rejoin.lean ====
section
/-! DEFINITION. Rejoining through RESYNC (R333 to R340): the claim stage's exchange, REQ and its answer, the
checkpoint as the rejoining module takes it, the cut, and what ends a RESYNC. -/

namespace Sys2Proof.Machine

namespace Mach

/-! ### What the module keeps for the cut beside registers and pages -/

/-- Take what the primary's reserved area holds (log entry 44). -/
def keptTake (m : Mach) (b : List Byte) : Mach :=
  let (t0, b) := reqUnpack (fieldAt b 0 4) (b.drop 4)
  let (t1, b) := reqUnpack (fieldAt b 0 4) (b.drop 4)
  let (r0, b) := listUnpack 38 resUnpack b
  let (r1, b) := listUnpack 38 resUnpack b
  let (cs, b) := listUnpack 13 candUnpack b
  let (fs, b) := listUnpack 4 leNat b
  let (ls, _) := listUnpack 1 leNat b
  { m with
    k0 := { m.k0 with taken := t0, nextRes := r0 }
    k1 := { m.k1 with taken := t1, nextRes := r1 }
    dle := { m.dle with cands := cs, firstSup := fs }
    tick := { m.tick with lost := ls } }

/-! ### The claim stage (R333) -/

/-- Two modules in the claim stage compare their pair records: the later commit claims, and on equal values
module A. -/
def claimDecide (m : Mach) (commit : Nat) : Mach :=
  let mine := m.pair.lastCommit
  let wins := decide (commit < mine) || (decide (commit = mine) && !m.bit CUR_PAIR 1)
  { m with pair := { m.pair with claim := if wins then 2 else 3 } }

/-- The module is in the exchange of the claim stage. -/
def claiming (m : Mach) : Bool := decide (m.mode = 1) && decide (m.pair.claim = 1)

/-! ### REQ (R320, R335) -/

/-- Why a primary refuses a REQ: its code, 0 for acceptance. -/
def reqRefuse (m : Mach) (q : ReqMsg) : Nat :=
  if q.proto ≠ m.proto then 3
  else if q.tickNs ≠ m.tickNs then 4
  else if m.pgmBusy ∨ m.pair.events.any (fun e => e.2 = 1) then 1
  else 0

/-- A request arrives. -/
def reqTake (m : Mach) (q : ReqMsg) : Mach :=
  let m := { m with upd := { m.upd with partProto := some q.proto } }
  let claim := q.flags.testBit 1
  if m.claiming ∧ claim then (m.sendReq 3 0).claimDecide q.commit
  else if m.mode ≠ 6 then m
  else if claim then m.sendReq 1 0
  else
    let code := m.reqRefuse q
    let m := m.sendReq 1 code
    if code = 0 then m.serveStart q else m

/-- The answer to a rejoining module (R335): the refusal is shown; acceptance sets plant time from the partner,
whose place in its tick no field of the answer gives. -/
def answerTake (m : Mach) (tick : Nat) (q : ReqMsg) : Mach :=
  let m := { m with upd := { m.upd with partProto := some q.proto } }
  if m.claiming ∧ q.flags.testBit 1 then m.claimDecide q.commit
  else if m.mode ≠ 4 ∨ m.pair.accepted ∨ q.flags.testBit 1 then m
  else if q.refuse ≠ 0 then m.setFld PTL_RSSTAT 31 24 q.refuse
  else
    let (x, m) := m.free
    let m := m.setTime (tick * m.tickNs + x % m.tickNs) 3
    let m := { m with
      pair := { m.pair with accepted := true, goodTicks := 0, pageWritten := false, cutAt := none, cutOk := false }
      pgm := { m.pgm with gens := max m.pgm.gens q.pgmGen }
      dle := { m.dle with axes := [] } }
    m.admWait 2 .pages

/-- Ask again (R335), or in the claim stage offer the pair record (R333). -/
def reqAgain (m : Mach) : Mach :=
  if m.mode = 4 ∧ !m.pair.accepted then (m.setFld PTL_RSSTAT 2 0 1).sendReq 0 0
  else if m.claiming then m.sendReq 2 0
  else m

/-! ### The checkpoint (R336 to R338) -/

/-- A page of a checkpoint reaches its array: MRAM through the Curator, everything else as the link's own write. -/
def pageWrite (m : Mach) (a : Nat) (data : List Byte) : Mach :=
  match placeOf a with
  | .mram =>
    let m := m.store a data 6
    if 0x11800000 ≤ a ∧ a < 0x13800000 then
      { m with pgm := { m.pgm with bank := (a - 0x11800000) / 0x1000000 } } else m
  | .none => m
  | _ => (m.masterWrite 4 0 a data).2

/-- A PAGE message (R319, R337). -/
def pageTake (m : Mach) (p : List Byte) : Mach :=
  let a := fieldAt p 0 6
  let pass := fieldAt p 6 1
  if a % 4096 ≠ 0 then m else
    let m := m.pageWrite a (p.drop 8)
    let m := { m with pair := { m.pair with pageWritten := true } }
    (m.setFld PTL_RSSTAT 15 8 pass).setFld PTL_RSSTAT 2 0 (if pass = 1 then 2 else 3)

/-- One MIRROR record (R338). -/
def mirrorTake (m : Mach) (r : List Byte) : Mach :=
  let o := fieldAt r 0 4 % 2 ^ 31
  let data := (r.drop 4).take 8
  if (fieldAt r 0 4).testBit 31 then
    let a := o / 64
    if 1024 ≤ a then m else m.setAxis a (axisOf (overlay (axisBytes (m.axis a)) (o % 64) data))
  else if 0x400000 ≤ o then m
  else (m.masterWrite 4 0 (0x03000000 + o) data).2

/-! ### The cut (R320, R339) -/

/-- Registers from bytes, but for those of a list. -/
def regsTake (m : Mach) (a : Nat) (skip : List Nat) (bs : List Byte) : Mach :=
  (countFrom 0 (bs.length / 4)).foldl (fun m k => if skip.contains (4 * k) then m else m.wr (a + 4 * k) (fieldAt bs (4 * k) 4)) m

/-- The journal registers of the cut: pointers and numbers never go back. -/
def journalTake (m : Mach) (b : List Byte) : Mach :=
  let f (o n : Nat) : Nat := fieldAt b o n
  let m := m.regsTake 0x08090000 [0, 0x10, 0x14, 0x18, 0x1C, 0x20, 0x24, 0x38] (b.take 60)
  let m := m.wr64 ACJ_NEXT (max m.nextAcc (f 0x10 8))
  let m := (m.wr64 (ACJ_DP 0) (max (m.rg64 (ACJ_DP 0)) (f 0x18 8))).wr64 (ACJ_DP 1) (max (m.rg64 (ACJ_DP 1)) (f 0x20 8))
  m.orderCmtno (f 0x58 8)

/-- The registers of the module state block. -/
def blockRegs (m : Mach) (b : List Byte) : Mach :=
  let part (o n : Nat) : List Byte := (b.drop o).take n
  let m := m.regsTake 0x08000000 [0x0C, 0x10, 0x14] (part 0 512)
  let m := m.regsTake 0x08000400 [] (part 0x200 40)
  let m := (countFrom 0 4).foldl (fun m p =>
    (m.wr (GXP_OSEQ p) (fieldAt b (0x240 + 4 * p) 4)).wr (GXP_ASEQ p) (fieldAt b (0x250 + 4 * p) 4)) m
  let m := m.regsTake 0x08020000 [0, 4] (part 0x260 56)
  m.journalTake (part 0x2A0 96)

/-- A force table entry from its bytes (R210). -/
def forceOfBytes (b : List Byte) : Force := ⟨fieldAt b 0 1, fieldAt b 1 1, fieldAt b 4 4, fieldAt b 8 2, fieldAt b 12 4⟩

/-- The force table and its generation, from the copy in MRAM (R210, R336). -/
def forcesTake (m : Mach) : Mach :=
  let g := m.partF 36 4
  let n := m.fld KLN_FRCSTAT 13 0
  let a := 0x13800000 + 0x20000 * (g % 2)
  { m with
    pgm := { m.pgm with frcGen := g }
    forces := (countFrom 0 n).map fun k => forceOfBytes (m.mem.ldBytes (a + 16 * k) 16) }

/-- The ended action records, newest first by their UNTIL tick. -/
def endedOf (m : Mach) : List Nat :=
  Sys2Proof.Machine.isort (fun a b => decide (m.recF b 48 8 ≤ m.recF a 48 8)) (m.acts.filter fun r => m.recF r 0 1 = 3)

/-- The engine and the program's life as the cut gives them. -/
def engineTake (m : Mach) : Mach :=
  let m := { m with dle := { m.dle with tracks := m.rg DLE_SPLIT } }
  let m := { m with
    dle := { m.dle with ended := m.endedOf }
    pgm := { m.pgm with restarts := m.fld KLN_PGMSTAT 31 16, restart := none, want := none } }
  (m.keptTake (m.mem.ldBytes keptAt 0x1FE000)).dleShow

/-- The retained bank takes the values of Kiln SRAM (R195, R336), with its header. -/
def bankTake (m : Mach) : Mach :=
  (m.copyWords m.prog.rbase (bankAt m.pgm.bank) m.prog.rlen).headPut m.pgm.bank ⟨m.prog.gen, m.pgm.restarts⟩

/-- The commit record of C − 1, where it has arrived: the pages may be older (R336). -/
def lastCommitTake (m : Mach) (c : Nat) : Mach :=
  match assocGet m.pair.rx earlyCommit with
  | some x => if x.tick + 1 = c then m.commitApply x.tick x.bytes else m
  | none => m

/-- The cut is complete: the state of the primary at the end of C − 1 (R320, R336). -/
def cutApply (m : Mach) (c : Nat) (b : List Byte) : Mach :=
  let m := (((m.blockRegs b).forcesTake).engineTake).lastCommitTake c
  let m := { m with jrn := { m.jrn with commit := none, gaps := [], loaded := true } }
  (((m.bankTake).copyWords (outBase m.tick.outBuf) (outBase (1 - m.tick.outBuf)) 0x20000).acjShow).setFld PTL_RSSTAT 2 0 4

/-- A cut that came too late counts as one that is not complete (R339). -/
def cutMissed (m : Mach) : Mach :=
  let m := ((m.setBit PTL_STAT 12 true).incFld PTL_DIVCNT 15 0).incFld PTL_RSSTAT 23 16
  { m with pair := { m.pair with goodTicks := 0 } }

/-- A CUT message (R339): in C − 1, or in C before input close. -/
def cutTake (m : Mach) (p : List Byte) : Mach :=
  let c := fieldAt p 0 8
  let b := p.drop 8
  let ok := decide (crc32c (b.take 4092) = fieldAt b 4092 4)
  let early := decide (c = m.tickNo + 1)
  let late := decide (c = m.tickNo) && decide (m.tick.phase = 0)
  if !(early || late) then m.cutMissed else
    let m := if ok then m.cutApply c b else m
    { m with pair := { m.pair with cutAt := some c, cutOk := ok } }

/-! ### What ends a RESYNC (R340) -/

/-- RESYNC starts again with REQ. -/
def resyncAgain (m : Mach) : Mach :=
  let m := { m with pair := { m.pair with accepted := false, goodTicks := 0, cutAt := none, cutOk := false } }
  ((m.setBit PTL_STAT 6 false).admDrop .pages).reqAgain

/-- RESYNC ends in HALTED at the next boundary, with RESYNC_ABORTED; a partial checkpoint bars the module from the
role. -/
def resyncAbort (m : Mach) : Mach :=
  if m.mode ≠ 4 ∨ m.wantMode = some 7 then m else
    let m := { m with
      wantMode := some 7
      pair := { m.pair with
        accepted := false, cutAt := none, cutOk := false
        partial_ := m.pair.partial_ || m.pair.pageWritten } }
    (((m.setFld PTL_RSSTAT 2 0 0).setBit PTL_STAT 6 false).admDrop .pages).ledger 0x0809 5 0 0 0

end Mach

/-! ### The commands -/

/-- REQ_MESSAGE (R320, R333, R335 to R337). -/
def execReqMessage (f : List Byte) (s : State) : Result :=
  .next (s.live fun m => m.linkRecv 0x40 f fun m _ _ p =>
    if p.length ≠ 40 ∨ (fieldAt p 2 1).testBit 0 then m else m.reqTake (reqOf p))

/-- REQ_ANSWER (R284, R289, R320, R333, R335). -/
def execReqAnswer (f : List Byte) (s : State) : Result :=
  .next (s.live fun m => m.linkRecv 0x40 f fun m _ tick p =>
    if p.length ≠ 40 ∨ !(fieldAt p 2 1).testBit 0 then m else m.answerTake tick (reqOf p))

/-- REQ_RETRY (R335): 1 s has passed without an acceptance. -/
def execReqRetry (s : State) : Result := .next (s.live Mach.reqAgain)

/-- PAGE_MESSAGE (R319, R336, R337, R392). -/
def execPageMessage (f : List Byte) (s : State) : Result :=
  .next (s.live fun m => m.linkRecv 0x42 f fun m _ _ p =>
    if m.mode ≠ 4 ∨ !m.pair.accepted ∨ p.length ≠ 4104 then m else m.pageTake p)

/-- MIRROR_MESSAGE (R319, R338). -/
def execMirrorMessage (f : List Byte) (s : State) : Result :=
  .next (s.live fun m => m.linkRecv 0x41 f fun m _ _ p =>
    if m.mode ≠ 4 ∨ !m.pair.accepted ∨ 4104 < p.length then m
    else (countFrom 0 (p.length / 12)).foldl (fun m k => m.mirrorTake ((p.drop (12 * k)).take 12)) m)

/-- RESYNC_PASS_END (R337, R339): every page of the current pass has been sent. -/
def execResyncPassEnd (s : State) : Result :=
  .next (s.live fun m =>
    if m.mode ≠ 6 ∨ !m.pair.serving ∨ m.pair.pass = 0 ∨ m.pair.serveCut.isSome then m else m.passEnd)

/-- RSREQ (R184, R335, R340): PTL_CTL.RSREQ in BENCH or HALTED. -/
def execRsreq (w : Writer) (s : State) : Result :=
  .next (s.access w fun m =>
    if m.mode ≠ 3 ∧ m.mode ≠ 7 then m
    else if m.mode = 3 ∧ (m.bit (KLN_DBGSTAT 0) 0 ∨ m.bit (KLN_DBGSTAT 1) 0) then m.emit (.status "BUSY")
    else if m.pair.partial_ then m.emit (.status "NOT_READY")
    else ({ m with wantMode := some 4, notReady := false }).emit (.status "OK"))

/-- CLAIM (R333, R340): PTL_CTL.CLAIM in HALTED. -/
def execClaim (w : Writer) (s : State) : Result :=
  .next (s.access w fun m =>
    if m.mode ≠ 7 then m
    else if m.pair.partial_ then m.emit (.status "NOT_READY")
    else if m.pair.claim ≠ 4 ∨ m.bit PTL_STAT 9 then m
    else ({ m with pair := { m.pair with claim := 2, claimStart := 0 } }).emit (.status "OK"))

/-- RSABORT (R340): PTL_CTL.RSABORT. -/
def execRsabort (w : Writer) (s : State) : Result := .next (s.access w Mach.resyncAbort)

/-- CLAIM_WAIT_EXPIRY (R333): the wait of the claim stage ends with the partner's line released. -/
def execClaimWaitExpiry (s : State) : Result :=
  .next (s.live fun m =>
    if !m.claiming ∨ m.bit PTL_STAT 9 then m
    else if m.pair.lastRole = 6 ∧ !m.pair.partial_ then { m with pair := { m.pair with claim := 2, claimStart := 0 } }
    else { m with pair := { m.pair with claim := 4 }, wantMode := some 7 })

/-- The link has gone down: what is in flight is lost, and a RESYNC starts again (R316, R340). -/
def Mach.linkDown (m : Mach) : Mach :=
  let m := { m with pair := { m.pair with sent := [], rx := [] } }
  if m.mode = 6 then m.serveStop else if m.mode = 4 then m.resyncAgain else m

/-- A lane is lost (R316, R343): a fixed cut is judged on the other lane. -/
def Mach.laneLost (m : Mach) (k : Nat) : Mach :=
  let m := (m.setBit PTL_STAT (4 + k) false).ledger 0x0805 5 k 0 0
  if m.fld PTL_STAT 5 4 = 0 then m.linkDown
  else if m.pair.serveCut.isSome ∧ m.cutRoom < m.cutSize then m.cutAbandon
  else m

/-- LINK_LANE (R316, R340, R343): a lane loses block lock for 10 µs. -/
def execLinkLane (lane : Fin 2) (s : State) : Result :=
  .next (s.live fun m => if m.bit PTL_STAT (4 + lane.val) then m.laneLost lane.val else m)

/-- The link has come up: its sequences start afresh. -/
def Mach.linkFresh (m : Mach) : Mach :=
  ({ m with pair := { m.pair with dead := false, sent := [], rx := [], mseq := [0, 0, 0, 0, 0] } }).reqAgain

/-- A lane has block lock again. -/
def Mach.laneUp (m : Mach) (k delay : Nat) : Mach :=
  let up := m.linkUp
  let m := (m.setBit PTL_STAT (4 + k) true).wr PTL_DELAY delay
  if up then m else m.linkFresh

/-- PARTNER_LINK_START (R316): a lane regains block lock, with the one-way latency as measured in ns. -/
def execPartnerLinkStart (lane : Fin 2) (delay : BitVec 16) (s : State) : Result :=
  .next (s.live fun m => if m.bit PTL_CTL 0 then m.laneUp lane.val delay.toNat else m)

end Sys2Proof.Machine
end

