-- ==== Sys2Proof/Machine/Modes.lean ====
section
/-! DEFINITION. Modes and the role (R33 to R35, R310 to R315, R329, R332, R475 to R480, R511): what a mode
change does, the conditions of entry, the claim, the requests that lead to a change, and the role lines. -/

namespace Sys2Proof.Machine

namespace Mach

/-! ### The role line (R310 to R313) -/

/-- The driver asserts the module's line, which the gate allows while the partner's reads released (R312). -/
def lineAssert (m : Mach) : Mach :=
  let own := !m.bit PTL_STAT 9
  (({ m with pair := { m.pair with driver := true } }).setBit PTL_STAT 7 true).setBit PTL_STAT 8 own

/-- The Gexia transmitters are on in STANDBY, PRIMARY and HALTED (R33, R215). -/
def gxTransmit (m : Mach) (on : Bool) : Mach := (countFrom 0 4).foldl (fun m p => m.setBit (GXP_CTL p) 1 on) m

/-- A PRIMARY whose own line reads released stops acting as one (R313). -/
def roleLost (m : Mach) : Mach :=
  if m.mode ≠ 6 ∨ !m.pair.driver then m else
    let m := ({ m with wantMode := some 7 }).lineRelease
    (m.gxTransmit false).ledger 0x0800 5 0 0 0

/-! ### What service keeps in the journal (R346, R356, R365) -/

/-- Every pending record counts as accepted, and stands in the mirror (R356, R365). -/
def pendAccept (m : Mach) : Mach :=
  let news := m.usedSlots.filter fun s => decide (m.recState s = 1)
  let m := news.foldl (fun m s =>
    let m := m.setRecState s 2
    (m.toMirror (recordAt s) 16).toMirror (cellAt (m.recCell s)) (32 + m.recLen s)) m
  { m with jrn := { m.jrn with pend := [], gaps := [] } }

/-- A new primary sends every COMPLETE that is not acknowledged again (R363, R365). -/
def dueAll (m : Mach) : Mach :=
  { m with jrn := { m.jrn with due := (m.usedSlots.filter fun s => decide (4 ≤ m.recState s)).map m.accOf } }

/-- The highest number in a cell of the journal. -/
def cellMax (m : Mach) : Nat := (m.usedCells.map fun c => m.mem.ldN (cellAt c) 8).foldl max 0

/-- The times of numbering that cells hold. -/
def cellTimes (m : Mach) : Tab Nat :=
  (m.usedSlots.filter fun s => decide (m.recState s ≤ 2)).foldl
    (fun t s => tabPut 0 t s (m.mem.ldN (cellAt (m.recCell s) + 8) 8)) []

/-- Pointers and sequences from the header of the last complete commit record (R365, R485). -/
def headerTake (m : Mach) (h : List Byte) : Mach :=
  let m := (m.wr64 (ACJ_DP 0) (fieldAt h 8 8)).wr64 (ACJ_DP 1) (headerDp1 h)
  (countFrom 0 4).foldl (fun m p =>
    (m.wr (GXP_OSEQ p) (fieldAt h (24 + 4 * p) 4)).wr (GXP_ASEQ p) (fieldAt h (40 + 4 * p) 4)) m

/-- The first start of service since BOOT takes the journal from its mirror (R365, R485). -/
def journalLoad (m : Mach) : Mach :=
  if m.jrn.loaded then m else
    let m := m.copyWords 0x11000000 0x03800000 0x200000
    let m := if m.pair.lastCommit = 0 then m else m.headerTake (m.mem.ldBytes (mirrorHeaderAt m.pair.lastCommit) 64)
    let m := m.wr64 ACJ_NEXT (max (m.cellMax + 1) (max (m.rg64 (ACJ_DP 0)) (m.rg64 (ACJ_DP 1))))
    { m with jrn := { m.jrn with loaded := true, tacc := m.cellTimes } }

/-- The journal of a module that becomes PRIMARY. -/
def journalServe (m : Mach) : Mach := (((m.journalLoad).pendAccept).dueAll).acjShow

/-! ### Leaving a mode -/

/-- BENCH ends: a load or change of its own, the debugger's sessions and a single step end with it. -/
def benchLeave (m : Mach) : Mach :=
  let m := if m.pgm.change.isSome then m.changeDrop else m
  let m := (((m.setBit (KLN_DBGCTL 0) 0 false).setBit (KLN_DBGCTL 1) 0 false).setBit KLN_SCHCTL 1 false)
  { m with pgm := { m.pgm with want := none } }

/-- A standby that leaves drops out of an online change (R205). -/
def standbyLeave (m : Mach) (next : Nat) : Mach := if next ≠ 6 ∧ m.pgm.change.isSome ∧ m.chgState ≠ 5 then m.changeDrop else m

/-- What ends with a mode. -/
def modeLeave (m : Mach) (next : Nat) : Mach :=
  match m.mode with
  | 1 => m.setBit CUR_BOOTSTAT 0 true
  | 3 => m.benchLeave
  | 4 => m.admDrop .pages
  | 5 => m.standbyLeave next
  | 6 => ((m.stepDiscard next).serveStop)
  | _ => m

/-! ### Entering a mode -/

/-- A mode change shows: CUR_MODE, its record, the backup record (R307, R476). -/
def modeShow (m : Mach) (md : Nat) : Mach :=
  let old := m.mode
  let m := (m.wr CUR_MODE (old * 2 ^ 8 + md)).ledger 0x0F01 11 (16 * old + md) 0 0
  (m.setBkpByte 0 md).bkpTick

/-- The count of consecutive overruns restarts (R62). -/
def consecClear (m : Mach) : Mach := m.setFld KLN_OVRCNT 1 0 0

/-- Nothing of the pair's comparisons is left open. -/
def pairFresh (p : Pair) : Pair :=
  { p with diverged := false, heldAct := [], heldOut := [], waitAct := false, waitOut := false, handOver := 0
           partDiv := false, selfCause := false, silent := 0, healthyRun := 0 }

/-- RESYNC (R335): after a failed cut its passes go on; otherwise it asks for acceptance. -/
def enterResync (m : Mach) : Mach :=
  let m := (({ m with pair := { pairFresh m.pair with claim := 0, cutAt := none, cutOk := false } }).changeDrop).gxTransmit false
  let m := m.setBit PTL_STAT 6 false
  if m.pair.accepted then (m.setFld PTL_RSSTAT 2 0 3).admWait 2 .pages
  else
    ({ m with pair := { m.pair with goodTicks := 0, pageWritten := false }, jrn := { m.jrn with commit := none } }).reqAgain

/-- STANDBY (R61, R62, R335, R339), from RESYNC or by a swap. -/
def enterStandby (m : Mach) (old : Nat) : Mach :=
  let p := pairFresh m.pair
  let m := { m with
    pair := { p with mramOk := true, accepted := m.pair.accepted && !m.pair.cutOk }
    jrn := { m.jrn with loaded := true }
    tmb := { m.tmb with exceeds := 0, bad := 0 } }
  let m := (((m.gxTransmit true).setBit KLN_SCHCTL 0 true).setBit PTL_STAT 6 true).setBit CUR_PAIR 0 false
  if old = 4 then (m.consecClear).setFld PTL_RSSTAT 2 0 0 else m.lineRelease

/-- A role change is counted (R344). -/
def roleCount (m : Mach) : Mach := (m.incFld PTL_SWCNT 31 16).wr64 PTL_LASTSW m.tickNo

/-- A host port carries the pair address (R314, R368). -/
def pairPort (m : Mach) (p : Nat) : Bool := m.bit (HST_CTL p) 0 && m.bit (HST_CTL p) 2

/-- The pair address is announced on every host port that carries it (R314). -/
def announce (m : Mach) : Mach := (countFrom 0 2).foldl (fun m p => if m.pairPort p then m.emit .announce else m) m

/-- The addresses that the host ports answer on (R314, R368). -/
def hostShow (m : Mach) : Mach :=
  (countFrom 0 2).foldl (fun m p =>
    (m.setBit (HST_STAT p) 1 (decide (m.mode = 6) && m.pairPort p)).setBit (HST_STAT p) 2 (decide (3 ≤ m.mode) && m.bit (HST_CTL p) 0)) m

/-- PRIMARY (R31, R61, R62, R311, R314, R346, R356). -/
def enterPrimary (m : Mach) (old : Nat) (solo : Bool) : Mach :=
  let m := { m with pair := { pairFresh m.pair with mramOk := true, claim := 0, accepted := false, cutAt := none } }
  let m := (((m.gxTransmit true).setBit KLN_SCHCTL 0 true).setBit CUR_PAIR 0 solo).setBit PTL_STAT 6 (!solo)
  let m := ((m.lineAssert).journalServe).announce
  let m := (if old = 5 then m else m.consecClear).roleCount
  (m.commitTry).orderCommits

/-- HALTED (R35, R61). -/
def enterHalted (m : Mach) : Mach :=
  let m := { m with pair := { pairFresh m.pair with accepted := false, cutAt := none } }
  (((m.gxTransmit true).setBit KLN_SCHCTL 0 false).lineRelease).setBit PTL_STAT 6 false

/-- BENCH (R62, R215, R479). -/
def enterBench (m : Mach) : Mach :=
  ((({ m with pair := { pairFresh m.pair with claim := 0 } }).gxTransmit false).setBit PTL_STAT 6 false).consecClear

/-- What begins with a mode. -/
def modeEnter (m : Mach) (old md : Nat) (solo : Bool) : Mach :=
  match md with
  | 3 => m.enterBench
  | 4 => m.enterResync
  | 5 => m.enterStandby old
  | 6 => m.enterPrimary old solo
  | 7 => m.enterHalted
  | _ => m

/-- The engines that follow the role (R33, R450, R459, R367). -/
def modeRole (m : Mach) : Mach :=
  let prim := decide (m.mode = 6)
  let m := (countFrom 0 4).foldl (fun m p => m.canRole p prim) m
  let m := ((m.driveRole prim).setFld ACJ_STAT 2 0 (acjRole m.mode)).hostShow
  if prim then m else m.setBit CUR_PAIR 0 false

/-- The module changes its mode (R476). -/
def modeSet (m : Mach) (md : Nat) (solo : Bool) : Mach :=
  let old := m.mode
  let m := ((m.modeLeave md).modeShow md).modeEnter old md solo
  { m.modeRole with wantMode := none, notReady := false }

/-! ### Conditions of entry (R439, R477) -/

/-- RESYNC, STANDBY and PRIMARY may be entered. -/
def entryOk (m : Mach) : Bool := m.timeValid && m.bit SVA_STAT 1 && m.fit

/-- A pending entry waits: NOT_READY once, and HOLDUP_LOW where HOLDOK is missing. -/
def entryWait (m : Mach) : Mach :=
  if m.notReady then m else
    let m := ({ m with notReady := true }).ledger 0x0F07 11 0 0 0
    if m.bit SVA_STAT 1 then m else m.ledger 0x0D05 14 0 0 0

/-! ### Starts of service (R200, R333, R479, R480) -/

/-- The restart of a claim (R200, R480): 2 warm, 3 cold. -/
def claimKind (m : Mach) : Nat :=
  match m.pair.claimStart with
  | 1 => 2
  | 2 => 3
  | _ => if m.fld KLN_PGMCTL 5 4 = 1 then 3 else 2

/-- The retained bank is not one of the program (R200). -/
def noBank (m : Mach) (kind : Nat) : Bool := decide (kind = 2) && decide ((m.headOf m.pgm.bank).gen ≠ m.prog.gen)

/-- The claim: PRIMARY with SOLO set, then the restart of R200; without a bank for a warm one, HALTED. -/
def claimGo (m : Mach) : Mach :=
  let kind := m.claimKind
  if m.noBank kind then
    let m := ({ m with pair := { m.pair with claim := 0 } }).ledger 0x0402 1 0 0 0
    if m.mode = 7 then m else m.modeSet 7 false
  else (m.modeSet 6 true).restartBegin kind

/-- START from BENCH (R479): PRIMARY with SOLO, then the restart; without a bank for a warm one the module does
not fire and enters HALTED. -/
def startGo (m : Mach) : Mach :=
  let kind := m.wantStart + 1
  let m := m.modeSet 6 true
  let m := { m with wantStart := 0 }
  if m.noBank kind then
    ({ m with wantMode := some 7, tick := { m.tick with blocked := true } }).ledger 0x0402 1 0 0 0
  else m.restartBegin kind

/-! ### Maintenance swap (R329, R332) -/

/-- A swap is due in this tick. -/
def swapDue (m : Mach) : Bool := m.pair.events.any fun e => e.2 = 1 ∧ e.1 = m.tickNo

/-- The swap is done: its event, and its record. -/
def swapDone (m : Mach) : Mach :=
  ({ m with pair := { m.pair with events := m.pair.events.filter fun e => e.2 ≠ 1 } }).ledger 0x0807 5 0 0 0

/-- The standby may take the role (R329). -/
def mayTake (m : Mach) : Bool :=
  !m.bit PTL_STAT 9 && m.bit PTL_STAT 6 && m.bit PTL_HEALTH 0 && !m.pair.diverged

/-- The role moves at boundary W (R329, R332); SOLO stays clear. -/
def swapDo (m : Mach) : Mach :=
  if m.mode = 6 ∧ !m.pair.driver then ((m.modeSet 5 false).swapDone).roleCount
  else if m.mode = 5 ∧ m.mayTake then (if m.entryOk then (m.modeSet 6 false).swapDone else m.entryWait)
  else m

/-- Why a swap is refused (R332): 1 BUSY, 3 NOT_READY, 0 for none. -/
def swapRefuse (m : Mach) : Nat :=
  let part (k : Nat) : Nat := bits (m.rg PTL_PHEALTH) (7 + 3 * k) (5 + 3 * k)
  let worse (k : Nat) : Bool := decide (m.fld (KLN_CLSTAT k) 2 0 = 1) && decide (2 ≤ part k)
  if (m.pair.events.any fun e => e.2 ≠ 2) ∨ m.chgState = 5 ∨ m.restarting then 1
  else if m.mode ≠ 6 ∨ m.pair.healthyRun < 1024 then 3
  else if worse 0 ∨ worse 1 then 3
  else if m.partFlag 2 then 3
  else 0

/-- The first tick at least 4 ahead that no event occupies. -/
def swapTick (m : Mach) : Nat :=
  let n := m.tickNo + 4
  ((countFrom n (m.pair.events.length + 1)).find? fun t => !(m.pair.events.any fun e => e.1 = t)).getD n

/-! ### Mode commands (R479, R511) -/

/-- The names of the status codes of CUR_MODECTL. -/
def modeName (code : Nat) : String :=
  (["OK", "BUSY", "WRONG_MODE", "NOT_READY", "NO_PROGRAM", "PARTNER_PRIMARY", "TIME_INVALID", "BAD_CODE",
    "REFUSED_ZERO"] : List String).getD code ""

/-- The status of a mode command (R491). -/
def modeDone (m : Mach) (code : Nat) : Mach := (m.setFld CUR_MODECTL 15 8 code).emit (.status (modeName code))

/-- Why START is refused, in the order of R479; 0 for none. -/
def startRefuse (m : Mach) : Nat :=
  if m.mode ≠ 3 then 2
  else if m.prog.gen = 0 then 4
  else if m.bit PTL_STAT 9 then 5
  else if m.bit (KLN_DBGSTAT 0) 0 ∨ m.bit (KLN_DBGSTAT 1) 0 ∨ m.pgm.change.isSome ∨ m.chgState ≠ 0 then 1
  else if !m.timeValid then 6
  else if !m.entryOk ∨ m.pair.partial_ then 3
  else 0

/-- START (R283, R479): `kind` 1 warm, 2 cold. With SRC = RTC and a WAIT the entry first waits for PTP lock. -/
def startReq (m : Mach) (kind : Nat) : Mach :=
  let code := m.startRefuse
  if code ≠ 0 then m.modeDone code else
    let wait := decide (m.fld TMB_STAT 3 1 = 1) && decide (m.fld TMB_PTPCFG 31 24 ≠ 0)
    ({ m with wantMode := some 6, wantStart := kind, notReady := false, tmb := { m.tmb with wait := wait } }).modeDone 0

/-- HALT (R479). -/
def haltReq (m : Mach) (force : Bool) : Mach :=
  let healthy := !m.solo && !m.pair.partDiv
  if m.mode = 5 ∨ (m.mode = 6 ∧ force) then ({ m with wantMode := some 7 }).modeDone 0
  else if m.mode ≠ 6 then m.modeDone 2
  else if healthy then ({ m with pair := { m.pair with handOver := 1 } }).modeDone 0
  else m.modeDone 3

/-- The extraction lever opens (R511). -/
def leverReq (m : Mach) : Mach :=
  if m.mode = 5 then { m with wantMode := some 7 }
  else if m.mode ≠ 6 then m
  else if !m.solo && !m.pair.partDiv then { m with pair := { m.pair with handOver := 1 } }
  else m.ledger 0x0F07 11 0 0 0

/-! ### Limits that end service in the standby (R289, R330, R342) -/

/-- The pair offset has exceeded its limit in 4 ticks in a row (R289). -/
def pairTimeLimit (m : Mach) : Mach :=
  if m.mode = 5 ∧ 4 ≤ m.tmb.exceeds ∧ !m.bit TMB_STAT 7 then (m.setBit TMB_STAT 7 true).ledger 0x0706 8 0 0 0 else m

/-- TIMEOK has been 0 for 1,024 ticks in a row (R342). -/
def timeokLimit (m : Mach) : Mach :=
  if m.mode = 5 ∧ 1024 ≤ m.tmb.bad ∧ m.wantMode.isNone then { m with wantMode := some 4 } else m

/-- The partner stays silent with its line asserted (R330). -/
def partnerLinkLost (m : Mach) : Mach :=
  if m.mode ≠ 5 ∨ m.pair.diverged ∨ m.pair.silent < 2 ∨ !m.bit PTL_STAT 9 then m else
    let m := { m with
      pair := { m.pair with diverged := true, heldAct := [], heldOut := [], waitAct := false, waitOut := false }
      wantMode := some 4 }
    (m.setBit PTL_STAT 6 false).ledger 0x0804 5 0 0 0

/-- A write of KLN_SCHCTL.STEP (R61): a BENCH field, in which a 1 asks for one firing while RUN is 0. -/
def stepBit (m : Mach) (on : Bool) (w v : Nat) : Mach :=
  if m.mode ≠ 3 then (if m.bit KLN_SCHCTL 1 = on then m else m.refuse 0x0C00 w KLN_SCHCTL v)
  else m.setBit KLN_SCHCTL 1 (on && !m.bit KLN_SCHCTL 0)

end Mach

/-! ### The commands -/

/-- ROLE_SAMPLE_POINT (R310, R313): the own and the partner's line as they read 2 µs before the boundary. -/
def execRoleSamplePoint (own part : Bool) (s : State) : Result :=
  .next (s.live fun m =>
    let m := (m.setBit PTL_STAT 8 own).setBit PTL_STAT 9 part
    if own then m else m.roleLost)

/-- KEEPER_RELEASE (R311): the keeper has not been refreshed for 1.25 tick lengths. -/
def execKeeperRelease (s : State) : Result := .next (s.live fun m => m.setFld PTL_STAT 8 7 0)

/-- ROLE_LOST (R313). -/
def execRoleLost (s : State) : Result := .next (s.live Mach.roleLost)

/-- ROLE_CONTENTION (R312): both lines become asserted within 100 ns; module B's driver releases its own. -/
def execRoleContention (s : State) : Result :=
  .next (s.live fun m =>
    if m.mode = 6 ∧ m.bit CUR_PAIR 1 then (m.setFld PTL_STAT 8 7 0).setBit PTL_STAT 9 true else m)

/-- PARTNER_LINK_LOST (R330). -/
def execPartnerLinkLost (s : State) : Result := .next (s.live Mach.partnerLinkLost)

/-- ROLE_GATE_TEST (R341): with the driver enabled while the partner's line is asserted, the own line must read
released. -/
def execRoleGateTest (released : Bool) (s : State) : Result :=
  .next (s.live fun m =>
    if m.mode ≠ 5 ∨ !m.bit PTL_STAT 9 then m else
    let m := { m with pair := { m.pair with gateOk := released } }
    if released then m else m.ledger 0x080B 5 0 0 0)

/-- PAIR_TIME_LIMIT (R289). -/
def execPairTimeLimit (s : State) : Result := .next (s.live Mach.pairTimeLimit)

/-- TIMEOK_LIMIT (R342). -/
def execTimeokLimit (s : State) : Result := .next (s.live Mach.timeokLimit)

/-- REJOIN_LIMIT (R328). -/
def execRejoinLimit (s : State) : Result := .next (s.live Mach.rejoinLimit)

/-- SWAP (R332, R344): PTL_CTL.SWAP. -/
def execSwap (w : Writer) (s : State) : Result :=
  .next (s.access w fun m =>
    match m.swapRefuse with
    | 1 => m.emit (.status "BUSY")
    | 0 => (m.eventPut m.swapTick 1).emit (.status "OK")
    | _ => m.emit (.status "NOT_READY"))

/-- MAINTENANCE_SWAP (R329, R332): boundary W of a fixed swap. -/
def execMaintenanceSwap (s : State) : Result :=
  .next (s.live fun m => if m.swapDue ∧ m.tick.phase = 0 then m.swapDo else m)

/-- SCHCTL_RUN (R61): KLN_SCHCTL.RUN. -/
def execSchctlRun (on : Bool) (w : Writer) (s : State) : Result :=
  .next (s.access w fun m =>
    let m := m.setBit KLN_SCHCTL 0 on
    if on then m.setBit KLN_SCHSTAT 8 false else m)

/-- SCHCTL_STEP (R61): KLN_SCHCTL.STEP. -/
def execSchctlStep (w : Writer) (s : State) : Result := .next (s.access w fun m => m.stepBit true w 2)

/-- TICK_LENGTH_SELECT (R36, R61): KLN_TICKSEL.LEN, which takes effect at a boundary. -/
def execTickLengthSelect (len : BitVec 3) (w : Writer) (s : State) : Result :=
  .next (s.access w fun m =>
    if m.mode ≠ 3 then
      (if m.fld KLN_TICKSEL 2 0 = len.toNat then m else m.refuse 0x0C00 w KLN_TICKSEL len.toNat)
    else if 4 < len.toNat then m.refuse 0x0C01 w KLN_TICKSEL len.toNat
    else m.setFld KLN_TICKSEL 2 0 len.toNat)

/-- START_WARM (R283, R479). -/
def execStartWarm (s : State) : Result := .next (s.live fun m => m.startReq 1)

/-- START_COLD (R283, R479). -/
def execStartCold (s : State) : Result := .next (s.live fun m => m.startReq 2)

/-- HALT (R479). -/
def execHalt (force : Bool) (s : State) : Result := .next (s.live fun m => m.haltReq force)

/-- BENCH (R479). -/
def execBench (s : State) : Result :=
  .next (s.live fun m => if m.mode = 7 then ({ m with wantMode := some 3 }).modeDone 0 else m.modeDone 2)

/-- LEVER_OPEN (R511). -/
def execLeverOpen (s : State) : Result := .next (s.live Mach.leverReq)

/-- CUT_MESSAGE (R319, R320, R339): one that comes in C itself still makes the module STANDBY for the tick. -/
def execCutMessage (f : List Byte) (s : State) : Result :=
  .next (s.live fun m => m.linkRecv 0x43 f fun m _ _ p =>
    if m.mode ≠ 4 ∨ !m.pair.accepted ∨ p.length ≠ 4104 then m else
    let m := m.cutTake p
    if m.pair.cutAt = some m.tickNo then m.modeSet 5 false else m)

end Sys2Proof.Machine
end

