-- ==== Sys2Proof/Machine/Boundary.lean ====
section
/-! DEFINITION. The tick boundary (R21, R22, R476): what ends with the old tick, the mode that the module goes on
in, and how the new tick opens. -/

namespace Sys2Proof.Machine

namespace Mach

/-! ### The tick that ends -/

/-- The tick that ends has run without a cluster or engine fault and without an overrun (R62). -/
def consecEnd (m : Mach) : Mach := if m.tick.overrun then m else m.setFld KLN_OVRCNT 1 0 0

/-- The standby counts the ticks with TIMEOK = 0 (R342). -/
def timeokCount (m : Mach) : Mach :=
  { m with tmb := { m.tmb with bad := if m.mode = 5 ∧ m.bit TMB_STAT 7 then m.tmb.bad + 1 else 0 } }

/-- The limits that the old tick may have reached (R58, R62, R289, R328, R330, R342). -/
def tickLimits (m : Mach) : Mach :=
  let m := ((m.overrunLimit).consecEnd).timeokCount
  (((m.partnerLinkLost).pairTimeLimit).timeokLimit).rejoinLimit

/-- The new standby reports its first healthy tick (R336, R344). -/
def rejoined (m : Mach) : Mach :=
  if m.mode ≠ 5 ∨ m.pair.cutAt.isNone ∨ !m.pair.cutOk ∨ !m.bit PTL_HEALTH 0 then m else
    (({ m with pair := { m.pair with cutAt := none } }).incFld PTL_SWCNT 15 0).ledger 0x080A 5 0 0 0

/-- A divergence, a partner-silent tick or a fault cancels a swap (R332). -/
def swapChecks (m : Mach) : Mach :=
  let silent := (decide (m.mode = 5) || (decide (m.mode = 6) && !m.solo)) && !m.pair.heard
  if m.tick.stopped ∨ m.pair.partDiv ∨ m.pair.diverged ∨ silent then m.swapCancel else m

/-- A core rebuilt at the last boundary has been watched for a tick (R168). -/
def rebuildWatch (m : Mach) (cl : Nat) : Mach :=
  match (m.kiln cl).rebuilt with
  | none => m
  | some j =>
    let m := m.modKiln cl fun (k : Kiln) => { k with rebuilt := none }
    if m.bit (KLN_CLSTAT cl) (5 + j) then m.setFld (KLN_RBSTAT cl) 17 16 0 else m.rebuildFailed cl

/-- The rebuild of a fenced core starts, or the cluster stays with two cores (R167, R168). -/
def rebuildStart (m : Mach) (cl : Nat) : Mach :=
  if m.fld (KLN_CLSTAT cl) 2 0 ≠ 2 then m
  else if m.fld (KLN_RBSTAT cl) 17 16 = 2 ∨ !m.bit (KLN_CLCTL cl) 1 then
    (m.setFld (KLN_CLSTAT cl) 2 0 3).ledger 0x0303 2 0 0 0
  else (m.modKiln cl fun (k : Kiln) => { k with rebuilding := true, retry := false }).incFld (KLN_RBSTAT cl) 7 0

/-- The part of the rebuilds at a boundary. -/
def rebuilds (m : Mach) : Mach := (((m.rebuildWatch 0).rebuildWatch 1).rebuildStart 0).rebuildStart 1

/-- The old tick ends: `mis` says that the engine's comparator found a mismatch after its output deadline
(R273). -/
def tickEnd (m : Mach) (mis : Bool) : Mach :=
  let m := if mis ∧ m.dleRuns ∧ m.dleServes then m.dleFault false else m
  let m := ((m.serveBoundary).tickLimits).rejoined
  let m := (m.swapChecks).rebuilds
  if m.pair.heard then m else m.setBit PTL_STAT 10 false

/-! ### The clock -/

/-- A tick length is in effect, with the reserve and the offsets that belong to it (R36, R38, R61). -/
def lenTake (m : Mach) (len : Nat) : Mach :=
  let (close, fire, emit, dead, apply) := phaseNs len
  let m := ({ m with tick := { m.tick with len := len } }).wr KLN_RESERVE (windowCycles len / 100)
  ((((m.wr KLN_PH_INCLOSE close).wr KLN_PH_FIRESTART fire).wr KLN_PH_ACTEMIT emit).wr KLN_PH_FIREEND dead).wr KLN_PH_APPLY apply

/-- A new tick length takes effect at a boundary of both lengths (R36, R61). -/
def lenAdopt (m : Mach) : Mach :=
  let len := m.fld KLN_TICKSEL 2 0
  if len = m.tick.len ∨ m.tick.now % lenNs len ≠ 0 then m else m.lenTake len

/-- Plant time reaches the next multiple of the tick length (R21). -/
def clockAdvance (m : Mach) : Mach :=
  let t := (m.tick.now / m.tickNs + 1) * m.tickNs
  let m := ({ m with tick := { m.tick with now := t, frac := 0 } }).wr64 TMB_TIME t
  let m := m.lenAdopt
  ({ m with tick := { m.tick with start := t } }).wr64 KLN_TICKNO (t / m.tickNs)

/-! ### The mode that the module goes on in (R172, R329, R476) -/

/-- Enter a mode under the conditions of R477, or wait. -/
def enterIf (m : Mach) (md : Nat) (solo : Bool) : Mach := if m.entryOk then m.modeSet md solo else m.entryWait

/-- RESYNC waits for the partner's line and the link (R335). -/
def enterResyncIf (m : Mach) : Mach := if m.bit PTL_STAT 9 ∧ m.linkUp then m.enterIf 4 false else m

/-- A primary goes on: SOLO follows the standby's health (R315). -/
def soloStep (m : Mach) : Mach :=
  let h := m.standbyHealthy
  let was := m.solo
  let m := { m with pair := { m.pair with healthyRun := if h then m.pair.healthyRun + 1 else 0 } }
  let m := (m.setBit CUR_PAIR 0 (!h)).setBit PTL_STAT 6 h
  if h ∨ was then m else (m.commitTry).orderCommits

/-- A cause that takes the module to HALTED (R58, R86, R172, R479). -/
def haltDue (m : Mach) : Bool :=
  m.tick.stopped || m.tick.haltPol || m.tick.ovrLimit || decide (m.wantMode = some 7)

/-- The boundary in PRIMARY. -/
def turnPrimary (m : Mach) : Mach :=
  if m.haltDue ∨ !m.fit ∨ (m.pair.handOver = 1 ∧ !m.pair.driver) then m.modeSet 7 false
  else if m.pair.driver then m.soloStep
  else if m.pair.handOver = 2 then m.modeSet 4 false
  else if m.swapDue then m
  else m.modeSet 7 false

/-- The boundary in STANDBY. -/
def turnStandby (m : Mach) : Mach :=
  if m.haltDue then m.modeSet 7 false
  else if m.wantMode = some 4 then m.enterIf 4 false
  else if m.mayTake ∧ !m.swapDue then m.enterIf 6 true
  else m

/-- The cut's own boundary has passed without the entry (R339, R477). -/
def cutDrop (m : Mach) : Mach :=
  let m := m.cutMissed
  { m with pair := { m.pair with cutAt := none } }

/-- The boundary in RESYNC. -/
def turnResync (m : Mach) : Mach :=
  if !m.bit PTL_STAT 9 then (m.resyncAbort).modeSet 7 false
  else if m.wantMode = some 7 then m.modeSet 7 false
  else if m.pair.cutAt = some m.tickNo then
    if m.entryOk then m.modeSet 5 false else (m.entryWait).cutDrop
  else m

/-- A module claims the role, unless the partner's line has become asserted (R333). -/
def claimTurn (m : Mach) : Mach :=
  if m.bit PTL_STAT 9 then { m with pair := { m.pair with claim := 4 } }
  else if m.entryOk then m.claimGo
  else m.entryWait

/-- The boundary in HALTED. -/
def turnHalted (m : Mach) : Mach :=
  if m.wantMode = some 3 then m.modeSet 3 false
  else if m.pair.claim = 2 then m.claimTurn
  else if m.wantMode = some 4 then m.enterResyncIf
  else m

/-- The boundary in BENCH. -/
def turnBench (m : Mach) : Mach :=
  let m := if m.tick.stopped then m.setBit KLN_SCHCTL 0 false else m
  if m.wantMode = some 6 then
    if m.tmb.wait ∨ m.bit PTL_STAT 9 then m else if m.entryOk then m.startGo else m.entryWait
  else if m.wantMode = some 4 then m.enterResyncIf
  else m

/-- The boundary in the claim stage (R333). -/
def turnClaim (m : Mach) : Mach :=
  if m.pair.claim = 0 then m
  else if m.bit PTL_STAT 9 then m.enterResyncIf
  else if m.pair.claim = 2 then m.claimTurn
  else if m.pair.claim = 4 then (m.modeSet 7 false).ledger 0x0808 5 0 0 0
  else m

/-- The mode changes of a boundary (R476). -/
def turn (m : Mach) : Mach :=
  match m.mode with
  | 1 => m.turnClaim
  | 3 => m.turnBench
  | 4 => m.turnResync
  | 5 => m.turnStandby
  | 6 => m.turnPrimary
  | 7 => m.turnHalted
  | _ => m

/-! ### Events that the boundary makes due (R198, R207, R321, R332) -/

/-- An overrun of the last tick moves a swap and a switch (R207, R332). -/
def eventsMove (m : Mach) (overran : Bool) : Mach :=
  if !overran then m else
    let n := m.tickNo
    let move (e : Nat × Nat) : Nat × Nat := if e.1 = n ∧ e.2 = 1 then (n + 1, 1) else e
    let m := { m with pair := { m.pair with events := m.pair.events.map move } }
    match m.pgm.change with
    | some c =>
      if m.chgState ≠ 5 ∨ m.rg64 KLN_CHGTICK ≠ n then m else
        let m := m.switchAt c (n + 1)
        let s := m.rg64 KLN_CHGTICK
        let shift (e : Nat × Nat) : Nat × Nat := if e.2 = 2 then (s, 2) else e
        { m with pair := { m.pair with events := m.pair.events.map shift } }
    | none => m

/-- The boundary of a restart (R196, R198, R340). -/
def restartDue (m : Mach) (kind : Nat) : Mach :=
  if m.mode = 4 then m.resyncAgain
  else if m.mode = 5 then m.restartBegin kind
  else if m.mode = 6 then (m.serveStop).restartBegin kind
  else m

/-- The events of the boundary: those that are past leave the list; a swap stands through its own boundary. -/
def eventsOpen (m : Mach) : Mach :=
  let n := m.tickNo
  let due := m.pair.events.filter fun e => e.1 ≤ n ∧ (e.2 = 3 ∨ e.2 = 4)
  let left := m.pair.events.filter fun e => decide (n < e.1) || (decide (e.1 = n) && decide (e.2 = 1))
  let m := { m with pair := { m.pair with events := left } }
  let m := due.foldl (fun m e => m.restartDue (e.2 - 1)) m
  match m.pgm.want with
  | some k => if m.mode = 3 then m.restartBegin k else m
  | none => m

/-! ### The tick that opens -/

/-- What the scheduler keeps of a tick, afresh (R57, R61). -/
def tickFresh (m : Mach) : Mach :=
  let n := m.tickNo
  let t := m.tick
  let single := decide (m.mode = 3) && !m.bit KLN_SCHCTL 0 && m.bit KLN_SCHCTL 1
  { m with
    tick := {
      now := t.now, frac := t.frac, len := t.len, start := t.start, inBuf := t.inBuf, outBuf := t.outBuf
      stopped := m.dle.faultNext, single := single, prevEmit := t.emitted
      lost := t.lost.filter fun k => decide (n % 2 ^ m.fld (KLN_TCFG k) 5 2 ≠ 0) }
    dle := { m.dle with fault := m.dle.fault || m.dle.faultNext, faultNext := false } }

/-- What the pair keeps of a tick, afresh. -/
def pairTick (m : Mach) : Mach :=
  { m with pair := { m.pair with
    heard := false, filled := false, finalDig := none, deltas := 0, selfCause := false, partDiv := false
    heldAct := [], heldOut := [], waitAct := false, waitOut := false } }

/-- The keeper of the role line is refreshed (R311). -/
def keeper (m : Mach) : Mach :=
  if m.mode = 6 ∧ m.pair.driver ∧ m.bit PTL_HEALTH 1 then m.setBit PTL_STAT 7 true else m

/-- The local part of the sample instant (R40). -/
def localSample (m : Mach) : Mach := (countFrom 0 4).foldl Mach.canSample m.lioSample

/-- The input phase opens (R22, R40, R241, R351, R389, R441). -/
def inputPhase (m : Mach) : Mach :=
  let m := ((m.mpuBoundary).mirrorEntries).enumBoundary
  (((m.inputOpen).localSample).enterPhase 0).admEvaluate true

/-! ### LEDs and degraded states (R470, R490) -/

/-- A level of an LED from what it shows, in order: 1 on, 2 slow flash, 3 fast flash, 0 off. -/
def ledLevel (on slow fast : Bool) : Nat := if on then 1 else if slow then 2 else if fast then 3 else 0

/-- A window with action 2 or 3 is OUT (R434, R470). -/
def windowOut (m : Mach) : Bool := (countFrom 0 24).any fun n => m.svaOut n && decide (n ≠ 19) && decide (2 ≤ m.svaAction n)

/-- The Curator drives the LEDs (R470). -/
def ledShow (m : Mach) : Mach :=
  let md := m.mode
  let failed := decide (m.fld (KLN_CLSTAT 0) 2 0 = 4) || decide (m.fld (KLN_CLSTAT 1) 2 0 = 4)
  let lanes := m.fld PTL_STAT 5 4
  let run := ledLevel (decide (md = 5 ∨ md = 6)) (decide (md = 3 ∨ md = 4)) (decide (md = 1 ∨ md = 2))
  let role := ledLevel (decide (md = 6) && !m.solo) (decide (md = 6) && m.solo) false
  let fault := ledLevel (decide (md = 7) || failed) m.windowOut (decide (m.mem.ldN (labelHeader + 3) 1 ≠ 0))
  let link := ledLevel (decide (lanes = 3)) (decide (lanes = 1 ∨ lanes = 2)) (m.bit PTL_STAT 9)
  m.wr LIO_LED (run + 4 * role + 16 * fault + 64 * link)

/-- A used Gexia port whose ring is broken (R248, R490). -/
def ringBroken (m : Mach) : Bool := (countFrom 0 4).any fun p => m.bit (GXP_CTL p) 0 && decide (m.fld (GXP_STAT p) 5 4 = 3)

/-- The states of R490, by bit number. -/
def degraded (m : Mach) : List Bool :=
  let st (cl : Nat) : Bool := decide (2 ≤ m.fld (KLN_CLSTAT cl) 2 0)
  let lanes := m.fld PTL_STAT 5 4
  [st 0, st 1, decide (lanes = 1 ∨ lanes = 2), m.ringBroken, decide (m.mode = 6) && m.solo,
    m.bit TMB_PTPCFG 0 && !m.bit TMB_STAT 4, m.bit SVA_STAT 3, m.bit CUR_BOOTSTAT 6, m.bit CUR_BOOTSTAT 5,
    m.bit LDG_STAT 0, !m.bit SVA_STAT 1, decide (m.fld TMB_STAT 24 16 ≠ 0), !m.dleOk]

/-- Show the degraded states; each rising bit writes a record (R490). -/
def degradeShow (m : Mach) : Mach :=
  let old := m.rg CUR_DEGRADE
  (m.degraded.zip (countFrom 0 13)).foldl (fun m e =>
    let m := m.setBit CUR_DEGRADE e.2 e.1
    if e.1 && !old.testBit e.2 then m.ledger 0x0F06 11 e.2 0 0 else m) m

/-- The new tick opens in a mode that has ticks. -/
def tickOpen (m : Mach) (overran : Bool) : Mach :=
  let m := (m.eventsMove overran).eventsOpen
  let m := ((m.tickFresh).pairTick).keeper
  let m := if m.tick.stopped then m.notice 2 else m
  ((m.inputPhase).ledShow).degradeShow

/-- A power-fail warning: with the tick in progress ended, the module writes what MRAM still owes, releases its
line and enters the shutdown hold (R27, R437). -/
def powerDown (m : Mach) : Mach := ((m.mirrorFlush).lineRelease).shutdownHold

/-- What the Curator resets after a fault of the last tick: the engine (R273). -/
def engineReset (m : Mach) : Mach :=
  if !m.dle.fault then m else
    let m := m.dleReset
    { m with dle := { m.dle with testing := true, autoRj := true } }

end Mach

/-- The clusters with a fault of the last tick are reset (R174). -/
def State.faultResets (s : State) : State :=
  [0, 1].foldl (fun s cl => if (s.m.kiln cl).faulted then s.resetCluster cl true else s) s

/-- A boundary in a mode that has ticks. -/
def State.boundary (s : State) (mis : Bool) : State :=
  let s := s.mod fun m => m.tickEnd mis
  if s.m.pfw then s.mod fun m => (m.clockAdvance).powerDown else
    let overran := s.m.tick.overrun
    let s := s.mod fun m => ((m.clockAdvance).turn).engineReset
    s.faultResets.mod fun m => m.tickOpen overran

/-- A boundary in BOOT or RECOVERY: plant time goes on, and the claim stage may end (R333). -/
def State.bootBoundary (s : State) : State :=
  let s := s.mod fun m => (m.clockAdvance).turn
  if s.m.mode = 1 ∨ s.m.mode = 2 then s.mod fun m => { m with tick := { m.tick with phase := 3, ended := true } }
  else s.mod fun m => m.tickOpen false

/-- TICK_BOUNDARY (R21, R22, R40, R172, R174, R476): `mis` says that the engine's comparator found a mismatch
between the output deadline and this boundary. -/
def execTickBoundary (mis : Bool) (s : State) : Result :=
  .next (if s.m.dead then s else if s.m.mode < 3 then s.bootBoundary else s.boundary mis)

end Sys2Proof.Machine
end

