-- ==== Sys2Proof/Machine/Boot.lean ====
section
/-! DEFINITION. Resets and BOOT (R397 to R400, R407 to R414, R427, R481 to R487), the watchdog, the supply and the
presence contacts as they reset the module (R436 to R438, R483, R497, R498, R512). -/

namespace Sys2Proof.Machine

namespace Mach

/-! ### What a reset leaves (R485) -/

/-- Every axis goes OFF, and its live tracks become STALE (R253, R485). -/
def axesReset (m : Mach) : Mach :=
  m.dle.axes.foldl (fun m e => if (m.axis e.1).state = 0 then m else m.staleAxis e.1) m

/-- On-chip SRAM and DDR5 lose their contents at a power-on (R376, R485). -/
def memReset (m : Mach) (power : Bool) : Mach :=
  if !power then m else { m with
    mem := (m.mem.zero 0 0x08000000).zero 0x400000000 0x400000000
    ecc := tabErase (tabErase m.ecc 0 0x1000000) 0x80000000 0x80000000 }

/-- Every register but those of the backup domain takes its value at reset (R309, R485). -/
def regsReset (m : Mach) : Mach := (m.resetRegs 0x08000000 0x080C0000).resetRegs 0x080D0000 0x10000000

/-- What the firmware keeps of updates, provenance and configuration. -/
def updReset (u : Upd) : Upd := { bcr := u.bcr, cfgA := u.cfgA, cfgB := u.cfgB, booted := u.booted }

/-- What the firmware keeps of the pair: the pair record, and that a partial checkpoint stands (R333, R340). -/
def pairReset (p : Pair) : Pair := { lastRole := p.lastRole, lastCommit := p.lastCommit, partial_ := p.partial_ }

/-- What the firmware keeps of the program's life: the stores in NOR and MRAM. -/
def pgmReset (g : Pgm) : Pgm :=
  { st0 := g.st0, st1 := g.st1, gens := g.gens, bank := g.bank, head0 := g.head0, head1 := g.head1, frcGen := g.frcGen }

/-- Engines and blocks start afresh; the force table, the backup domain and what stands outside the module stay. -/
def blocksReset (m : Mach) : Mach := { m with
  k0 := {}, k1 := {}, prog := {}, mpu := [], mpuNext := [], mpuWait := []
  tick := { phase := 3, ended := true }
  ldg := {}, jrn := { keys := m.jrn.keys }, adm := {}, sva := {}, forcesOut := [], lio := {}
  can0 := {}, can1 := {}, can2 := {}, can3 := {}, label := { lut := m.label.lut }
  wantMode := none, wantStart := 0, notReady := false, held := none
  tmb := {}, dle := {}, upd := updReset m.upd, pair := pairReset m.pair, gx := {}, pgm := pgmReset m.pgm }

/-- The module enters BOOT by a reset with its cause: 0 power-on, 1 backplane, 2 watchdog, 3 software (R476, R481,
R485). The record of the change waits in the staging buffer (R427). -/
def resetEnter (m : Mach) (cause : Nat) : Mach :=
  let old := m.mode
  let prev := if old = 1 then m.fld CUR_MODE 10 8 else old
  let seeded := m.bit DDC_STAT 0
  let m := (((m.axesReset).memReset (decide (cause = 0))).blocksReset).regsReset
  let m := (m.setBit DDC_STAT 0 (seeded && decide (cause ≠ 0))).bcrShow
  let m := (m.wr CUR_MODE (prev * 2 ^ 8 + 1)).setFld CUR_BOOTSTAT 10 8 cause
  if old = 1 then m else m.ledger 0x0F01 11 (16 * old + 1) 0 0

/-! ### Steps 1 to 4: the ROM (R397, R409) -/

/-- The last step reached. -/
def bootStep (m : Mach) (n : Nat) : Mach := m.setFld CUR_BOOTSTAT 19 16 n

/-- What the module reads at its contacts and ports. -/
def envShow (m : Mach) (e : BootEnv) : Mach :=
  let m := ((m.setFld PTL_STAT 5 4 e.lanes.toNat).setBit PTL_STAT 9 e.partLine).setBit SVA_STAT 1 e.holdOk
  let m := (countFrom 0 4).foldl (fun m p => m.setBit (GXP_STAT p) 7 (e.gexia.getLsbD p)) m
  (countFrom 0 2).foldl (fun m p => m.setBit (HST_STAT p) 0 (e.hosts.getLsbD p)) m

/-- The slot identity (R28, R495): which module it makes of invalid levels is open. -/
def sidTake (m : Mach) (e : BootEnv) : Mach :=
  if e.sid = 1 then m.setBit CUR_PAIR 1 true
  else if e.sid = 2 then m.setBit CUR_PAIR 1 false
  else let (x, m) := m.free; m.setBit CUR_PAIR 1 (x.testBit 0)

/-- Step 1. -/
def bootRom (m : Mach) (e : BootEnv) : Mach :=
  let m := ((m.bootStep 1).envShow e).sidTake e
  (m.wr (RTC_BKP 4) ((m.boots + 1) % 2 ^ 32)).psExtend 0 1 Config.romDigest

/-- Step 2: the boot control record. -/
def bootRecord (m : Mach) : Mach :=
  let m := m.bootStep 2
  if m.upd.bcr.readable then m else
    (m.setBit CUR_BOOTSTAT 7 true).bcrPut { m.upd.bcr with active := 0, trialState := 0 }

/-- The format of the configuration in use, if a copy is usable (R405). -/
def fmtInUse (m : Mach) : Option Nat :=
  let a := m.cfgOf m.upd.bcr.active
  let b := m.cfgOf (1 - m.upd.bcr.active)
  if a.valid then some a.fmt else if b.valid then some b.fmt else none

/-- The stored header of a slot. -/
def slotHeader (m : Mach) (k : Nat) : List Byte := m.mem.ldBytes (bankOf k) 512

/-- A slot may hold an image that boots. -/
def slotStored (m : Mach) (k : Nat) : Bool := decide ((m.slotOf k).state = 2) || decide ((m.slotOf k).state = 3)

/-- The ROM's checks of a slot (R406). -/
def romChecks (m : Mach) (k : Nat) : Bool :=
  let h := m.slotHeader k
  decide (headerCheck h m.fmtInUse = 0) &&
    decide (sha384 (m.mem.ldBytes (bankOf k + 512) (fieldAt h 24 4 - 512)) = (h.drop 40).take 48)

/-- A slot whose checks fail becomes FAILED (R406). -/
def romJudge (m : Mach) (k : Nat) : Mach :=
  if m.slotStored k ∧ !m.romChecks k then m.slotPut k { m.slotOf k with state := 4 } else m

/-- The candidate of R409. -/
def bootCandidate (m : Mach) : Nat × Mach :=
  let b := m.upd.bcr
  match b.trialState with
  | 0 => (b.active, m)
  | 1 => (b.trialSlot, m.bcrPut { b with trialState := 2 })
  | _ =>
    let m := m.slotPut b.trialSlot { m.slotOf b.trialSlot with state := 4 }
    (b.active, (m.bcrPut { m.upd.bcr with trialState := 0 }).ledger 0x0B01 12 0 0 0)

/-- The slot that boots, if any (R409). -/
def bootSelect (m : Mach) : Option Nat × Mach :=
  let (c, m) := m.bootCandidate
  let m := m.romJudge c
  if m.slotStored c then (some c, m) else
    let m := m.romJudge (1 - c)
    if !m.slotStored (1 - c) then (none, m) else
      let m := (m.setBit CUR_BOOTSTAT 5 true).ledger 0x0B01 12 0 0 0
      let lost := decide (m.upd.bcr.trialState = 2) && decide (m.upd.bcr.trialSlot = c)
      (some (1 - c), if lost then (m.slotPut c { m.slotOf c with state := 4 }).bcrPut
        { (m.slotPut c { m.slotOf c with state := 4 }).upd.bcr with trialState := 0 } else m)

/-- The bytes of the part of a kind in a slot's image (R404). -/
def slotPart (m : Mach) (k kind : Nat) : List Byte :=
  match (partTab (m.slotHeader k)).find? fun p => p.1 = kind with
  | some p => m.mem.ldBytes (bankOf k + p.2.2.1) p.2.2.2
  | none => []

/-- The booted slot is measured, and its firmware is copied into Curator SRAM (step 3). -/
def slotBoot (m : Mach) (k : Nat) : Mach :=
  let trial := decide (m.upd.bcr.trialState = 2) && decide (m.upd.bcr.trialSlot = k)
  let m := { m with upd := { m.upd with booted := k } }
  let m := ((m.setBit CUR_BOOTSTAT 4 (decide (k = 1))).setBit CUR_BOOTSTAT 3 trial).bcrShow
  let m := [1, 2, 3].foldl (fun (m : Mach) n => m.psExtend n 1 (sha384 (m.slotPart k n))) m
  m.putWords 0x03C00000 ((m.slotPart k 1).take 0x200000)

/-- RECOVERY (R397, R414): the ROM writes MODE alone into the backup record. -/
def enterRecovery (m : Mach) : Mach :=
  let m := { m with upd := { m.upd with bcr := { m.upd.bcr with recover := false } } }
  ((m.wr CUR_MODE (2 ^ 8 + 2)).setBkpByte 0 2).ledger 0x0F01 11 (16 + 2) 0 0

/-- Steps 3 and 4: the firmware takes over, or RECOVERY follows; answers whether it has. -/
def bootFirmware (m : Mach) : Bool × Mach :=
  let m := m.bootStep 3
  if m.upd.bcr.recover then (false, m.enterRecovery) else
    match m.bootSelect with
    | (none, m) => (false, m.enterRecovery)
    | (some k, m) => (true, ((m.slotBoot k).bootStep 4).setBit CUR_WDOG 13 true)

/-! ### Step 5: the Ledger (R427), the backup record (R484), DDR5 (R376) -/

/-- The SEQ that stands in an MRAM slot of the ring. -/
def mramSeq (m : Mach) (k : Nat) : Nat := m.mem.ldN (0x10000000 + 32 * k) 4

/-- Binary search for the break in the run that starts in slot 0: the last slot of the run, of which `lo` is one and
`hi` is not. -/
def seqSearch (m : Mach) (s0 : Nat) : Nat → Nat → Nat → Nat
  | 0, lo, _ => lo
  | n + 1, lo, hi =>
    let mid := (lo + hi) / 2
    if hi ≤ lo + 1 then lo
    else if m.mramSeq mid = (s0 + mid) % 2 ^ 32 then m.seqSearch s0 n mid hi
    else m.seqSearch s0 n lo mid

/-- The newest SEQ in MRAM; 0 for a ring without a run. -/
def newestSeq (m : Mach) : Nat :=
  let s0 := m.mramSeq 0
  if s0 % 524288 ≠ 0 then 0 else (s0 + m.seqSearch s0 19 0 524288) % 2 ^ 32

/-- How many SRAM records continue a sequence from `s` on. -/
def sramRun (m : Mach) : Nat → Nat → Nat
  | 0, _ => 0
  | n + 1, s => if m.mem.ldN (ledgerSram s) 4 = s % 2 ^ 32 then m.sramRun n (s + 1) + 1 else 0

/-- The recovery of the Ledger, and the records that waited for it (R427). -/
def ledgerRecover (m : Mach) (power : Bool) : Mach :=
  let next := m.newestSeq + 1
  let run := if power then 0 else m.sramRun 32768 next
  let m := ((m.wr LDG_FLUSHED (next % 2 ^ 32)).wr LDG_HEAD ((next + run) % 2 ^ 32)).ledgerCopy
  let staged := m.ldg.staged
  let lost := m.ldg.stLost
  let m := ({ m with ldg := { m.ldg with staged := [], stLost := 0 } }).setBit LDG_STAT 3 true
  let m := staged.foldl ledgerPut m
  let m := if staged.any fun r => ledgerCritical r.code then m.ledgerFlush else m
  if lost = 0 then m else m.ledger 0x0D01 10 1 lost 0

/-- What the backup record tells (R483, R484). -/
def backupReport (m : Mach) (cause : Nat) : Mach :=
  let md := m.bkpByte 0
  if cause = 2 then
    let t := m.rg64 (RTC_BKP 5)
    m.ledger 0x0F03 11 md (t % 2 ^ 32) (t / 2 ^ 32)
  else if cause ≠ 0 then m
  else if md ≠ 0 then m.ledger 0x0F04 11 (2 ^ 15 + md % 8) 0 0
  else if m.bkpByte 2 = 1 then
    m.ledger 0x0F04 11 (m.bkpByte 1) ((m.rtcSeconds % 2 ^ 32 + 2 ^ 32 - m.rg (RTC_BKP 1)) % 2 ^ 32) 0
  else m

/-- The backup record is read and written (R484). -/
def bootBackup (m : Mach) (cause : Nat) : Mach :=
  let m := m.ledger 0x0F00 11 cause m.boots 0
  if m.bit RTC_STAT 6 then
    let m := (countFrom 0 8).foldl (fun m k => m.wr (RTC_BKP k) 0) m
    ((m.setBkpByte 0 1).setBkpByte 2 2).wr (RTC_BKP 4) 1
  else
    let m := m.backupReport cause
    ((m.setBkpByte 0 1).setBkpByte 2 0).wr64 (RTC_BKP 5) 0

/-- Step 5 up to the seeding of DDR5. -/
def bootLedger (m : Mach) (cause : Nat) : Mach :=
  ((m.bootStep 5).ledgerRecover (decide (cause = 0))).bootBackup cause

/-! ### Step 6: the configuration (R412) and the locked regions (R391) -/

/-- The bits of a register that a configuration sets. -/
def cfgWrite (m : Mach) (e : Nat × Nat) : Mach :=
  match regRow? e.1 with
  | some r => m.wr e.1 ((m.rg e.1 &&& (2 ^ 32 - 1 - r.rw)) ||| (e.2 &&& r.rw))
  | none => m

/-- The values of a configuration take effect: the tick length first, since it sets the reserve (R61); then the
regions that it brings become active (R384). -/
def cfgApply (m : Mach) (regs : List (Nat × Nat)) : Mach :=
  let (ticks, others) := regs.partition fun e => e.1 = KLN_TICKSEL
  let m := ticks.foldl cfgWrite m
  let m := if m.fld KLN_TICKSEL 2 0 < 5 then m.lenTake (m.fld KLN_TICKSEL 2 0) else m
  let m := others.foldl cfgWrite m
  (countFrom 0 10).foldl (fun (m : Mach) c => m.mpuAdopt c (m.staged c)) m

/-- A copy that the booted firmware can use, by itself or after a conversion (R412). -/
def cfgUsable (m : Mach) (c : CfgCopy) : Bool :=
  let h := m.slotHeader m.upd.booted
  c.valid && decide (c.fmt ≤ fieldAt h 20 2)

/-- The copy with the highest generation, if one is usable; the own bank's on equal ones. -/
def cfgBest (m : Mach) : Option CfgCopy :=
  let a := m.cfgOf m.upd.booted
  let b := m.cfgOf (1 - m.upd.booted)
  if m.cfgUsable a ∧ (!m.cfgUsable b ∨ b.gen ≤ a.gen) then some a
  else if m.cfgUsable b then some b
  else none

/-- The copy in use, converted and stored in the booted slot's bank where it is not that bank's own in the
firmware's format. -/
def cfgSelect (m : Mach) : Option CfgCopy × Mach :=
  let h := m.slotHeader m.upd.booted
  let fmt := fieldAt h 20 2
  match m.cfgBest with
  | none => (none, m)
  | some c =>
    if c = m.cfgOf m.upd.booted ∧ c.fmt = fmt then (some c, m)
    else if c.fmt < fieldAt h 22 2 then (none, m)
    else
      let regs := if c.fmt = fmt then c.regs else Config.cfgConvert c.fmt fmt c.regs
      let d : CfgCopy := ⟨true, fmt, c.gen, regs, Config.cfgDigest fmt c.gen regs⟩
      (some d, (m.cfgPut m.upd.booted d).ledger 0x0B04 12 0 0 0)

/-- The regions of class 6 that lock the client keys and the provenance store: number, base, SIZE code (R391,
R396). -/
def bootRegions : List (Nat × Nat × Nat) := [(13, 0x13BFE000, 13), (14, 0x13D00000, 20), (15, 0x13E00000, 21)]

/-- Lock them. -/
def bootLocks (m : Mach) : Mach :=
  let m := bootRegions.foldl (fun m r =>
    (m.wr64 (MPU_RBASE 6 r.1) r.2.1).wr (MPU_RATTR 6 r.1) (2 ^ 15 + 2 ^ 14 + r.2.2 * 2 ^ 8 + permAll true true false)) m
  m.mpuAdopt 6 (m.staged 6)

/-- The trial window runs from step 4 (R397, R411). -/
def trialWindow (m : Mach) : Mach :=
  if m.bit CUR_BOOTSTAT 3 then m.wr UPD_TRIALLEFT (m.fld UPD_TRIAL 15 0) else m

/-- Step 6; answers whether a copy is in use. -/
def bootConfig (m : Mach) : Bool × Mach :=
  let m := m.bootStep 6
  let m := if m.bit CUR_BOOTSTAT 7 then m.ledger 0x0B05 12 0 0 0 else m
  match m.cfgSelect with
  | (some c, m) => (true, ((((m.cfgApply c.regs).cfgShow c).psExtend 4 2 c.digest).bootLocks).trialWindow)
  | (none, m) => (false, ((m.setBit CUR_BOOTSTAT 6 true).bootLocks).trialWindow)

/-! ### Steps 7 to 9: label (R466), plant time (R283), tests (R175, R274) -/

/-- Step 7. -/
def bootLabel (m : Mach) : Mach :=
  let m := m.bootStep 7
  let m := if m.mem.ldN (labelHeader + 3) 1 = 0 then m else (m.setBit LBL_STAT 5 true).ledger 0x0E08 19 0 0 0
  if !m.bit LBL_CTL 0 then m else
    let m := { m with label := { m.label with next := 1, slice := false } }
    let (st, m) := (m.setFld LBL_STAT 2 0 4).admRequest 6 0 .label
    if st = 0 then m else m.setFld LBL_STAT 2 0 0

/-- Step 8: plant time from the calendar (R277, R283). Where the counter runs, its place in the second is open. -/
def bootTime (m : Mach) : Mach :=
  let m := m.bootStep 8
  if m.bit RTC_STAT 6 then m else
    let (x, m) := m.free
    let sub := if m.bit RTC_CTL 0 then m.rg RTC_SUB * 1000000000 / 32768 else x % 1000000000
    m.setTime ((946684800 + m.rtcSeconds) * 1000000000 + sub) 1

/-- The comparator test of the engine (R274). -/
def bootEngine (m : Mach) (e : BootEnv) : Mach :=
  let m := { m with dle := { m.dle with tracks := m.rg DLE_SPLIT } }
  let m := { m with dle := { m.dle with ended := m.endedOf } }
  match e.cmp with
  | none => (((m.setBit DLE_STAT 0 true).setBit DLE_STAT 3 true)).dleShow
  | some (p, h, x, r) => ((m.cmpFailed p.toNat (b2n h) x.toNat r.toNat)).dleShow

/-- Step 9; a failed test is a step failure (R410). -/
def bootTests (m : Mach) (e : BootEnv) : Mach :=
  let m := (((m.bootStep 9).bootEngine e).injectionResult 0 e.inj0).injectionResult 1 e.inj1
  { m with upd := { m.upd with bootOk := m.upd.bootOk && e.cmp.isNone && e.inj0.isNone && e.inj1.isNone } }

/-! ### Step 10: the program (R193, R195, R206, R397) -/

/-- The store entry that holds a generation. -/
def storedGen (m : Mach) (g : Nat) : Option (Nat × Stored) :=
  match m.pgm.st0, m.pgm.st1 with
  | some a, some b => if a.gen = g then some (0, a) else if b.gen = g then some (1, b) else none
  | some a, none => if a.gen = g then some (0, a) else none
  | none, some b => if b.gen = g then some (1, b) else none
  | none, none => none

/-- The last complete commit record names the generation of a bank (R206, R207). -/
def commitNames (m : Mach) (b : Nat) : Bool :=
  let h := m.mem.ldBytes (mirrorHeaderAt m.pair.lastCommit) 64
  let g := (m.headOf b).gen
  decide (m.pair.lastCommit ≠ 0) && decide (fieldAt h 0 8 = m.pair.lastCommit) && decide (fieldAt h 20 4 = g % 2 ^ 32) &&
    (m.storedGen g).isSome

/-- The generation to boot, and its bank: as the last commit record says, else that of the active bank, else the
newest image in the store. -/
def bootGen (m : Mach) : Nat × Nat :=
  let b := m.pgm.bank
  if m.commitNames b then ((m.headOf b).gen, b)
  else if m.commitNames (1 - b) then ((m.headOf (1 - b)).gen, 1 - b)
  else if (m.storedGen (m.headOf b).gen).isSome then ((m.headOf b).gen, b)
  else (max ((m.pgm.st0.map (·.gen)).getD 0) ((m.pgm.st1.map (·.gen)).getD 0), b)

/-- The Catalogue built with the stored program becomes active (R236, R395). -/
def bootCatalogue (m : Mach) (e : Nat) (s : Stored) : Mach :=
  if s.catLen = 0 then m
  else ((m.catWrite catActive (m.mem.ldBytes (storeAt e + 0x02000000) s.catLen)).catActivate).dleCatalogue

/-- The stored program takes effect if its checks pass (R191, R397). -/
def bootImage (m : Mach) (e : Nat) (s : Stored) : Bool × Mach :=
  let m := m.bootCatalogue e s
  let img := m.mem.ldBytes (storeAt e) s.len
  let p := progOf img s.gen
  if imgCheck img = 0 ∧ m.progCheck img p catActive none = 0 then (true, m.progTake p) else (false, m)

/-- The force table in use shows and is measured (R400, R485). -/
def bootForces (m : Mach) : Mach :=
  (m.wr KLN_FRCSTAT (m.pgm.frcGen % 2 ^ 18 * 2 ^ 14 + m.forces.length)).psExtend 6 2 (sha384 (forceBytes m.forces))

/-- Step 10; answers whether a program is in force. -/
def bootProgram (m : Mach) : Bool × Mach :=
  let m := m.bootStep 10
  let (g, b) := m.bootGen
  let (ok, m) := match m.storedGen g with
    | some (e, s) => ({ m with pgm := { m.pgm with bank := b } }).bootImage e s
    | none => (false, m)
  (ok, m.bootForces)

/-! ### Step 11 (R333, R478, R495) -/

/-- The end of BOOT in BENCH. -/
def bootBench (m : Mach) : Mach := (((m.modeSet 3 false).ledShow).degradeShow)

/-- The claim stage begins (R333, R478). -/
def bootClaim (m : Mach) : Mach := ({ m with pair := { m.pair with claim := 1 } }).reqAgain

/-- An invalid slot identity: the module never pairs (R495). -/
def sidInvalid (m : Mach) (e : BootEnv) : Mach := (m.setBit PTL_CTL 0 false).ledger 0x0F07 11 0 e.sid.toNat 0

/-- Step 11; `sound` where no failure asks for BENCH. -/
def bootEnd (m : Mach) (e : BootEnv) (sound : Bool) : Mach :=
  let m := m.bootStep 11
  let sid := decide (e.sid = 1) || decide (e.sid = 2)
  let m := if sid then m else m.sidInvalid e
  if !m.timeValid then (m.ledger 0x0F05 11 0 0 0).bootBench
  else if !sound ∨ !sid ∨ m.fld KLN_PGMCTL 5 4 = 2 then m.bootBench
  else m.bootClaim

/-- Steps 6 to 11. -/
def bootRest (m : Mach) (e : BootEnv) : Mach :=
  let (cfg, m) := m.bootConfig
  let m := (((m.bootLabel).bootTime).bootTests e)
  let (prog, m) := m.bootProgram
  let sound := e.ddrOk && cfg && prog
  ({ m with upd := { m.upd with bootOk := m.upd.bootOk && sound && m.timeValid } }).bootEnd e sound

/-- BOOT from step 1: after a power-on it waits at step 5 for the seeding of usable DDR5 (R376, R397). -/
def boot (m : Mach) (cause : Nat) (e : BootEnv) : Mach :=
  let (ok, m) := ((m.bootRom e).bootRecord).bootFirmware
  if !ok then m.ledShow else
    let m := m.bootLedger cause
    if cause = 0 ∧ e.ddrOk then m.ledShow else m.bootRest e

/-! ### Commands that only prepare a reset -/

/-- The module becomes UNPOWERED (R438, R476): nothing of it drives. -/
def unpower (m : Mach) : Mach :=
  let old := m.mode
  if old = 0 then m else
    let m := (m.wr CUR_MODE (old * 2 ^ 8)).ledger 0x0F01 11 (16 * old) 0 0
    let m := { m with k0 := stopKiln m.k0, k1 := stopKiln m.k1, held := none, sva := { m.sva with hold := false } }
    ((((m.lineRelease).gxTransmit false).setBit KLN_SCHSTAT 3 false).wr LIO_DRIVE 0).wr LIO_LED 0

/-- The module is withdrawn (R512): silent at once, then steps 1, 2, 4 and 5 of R437. -/
def withdraw (m : Mach) : Mach :=
  let m := { m with mated := false }
  if m.dead then m else
    let m := ((m.lineRelease).gxTransmit false).wr LIO_DRIVE 0
    let m := if m.pfw then m else m.powerFail
    (m.mirrorFlush).shutdownHold

/-- The image of a RECOVERY download (R405, R406, R414); answers whether it is stored and armed. -/
def download (m : Mach) (slot : Nat) (h body : List Byte) : Bool × Mach :=
  let code := headerCheck h m.fmtInUse
  if code ≠ 0 then (false, m.updDone code) else
    let m := m.slotPut slot { m.slotOf slot with state := 1 }
    match m.updStore slot h body with
    | (true, m) => (true, m.bcrPut { m.upd.bcr with trialSlot := slot, trialState := 1 })
    | (false, m) => (false, m.updDone 7)

end Mach

/-- A reset of the whole module with its cause (R481, R485): every core and block, then BOOT. -/
def State.resetModule (s : State) (cause : Nat) : State :=
  { s with c0 := Tri.reset, c1 := Tri.reset, m := s.m.resetEnter cause }

/-- A reset, held while RESET_N is low (R481), and BOOT. -/
def State.resetBoot (s : State) (cause : Nat) (e : BootEnv) : State :=
  let s := s.resetModule cause
  if s.m.resetN then s.mod fun m => m.boot cause e else s.mod fun m => { m with held := some cause }

/-- A module reset of a module that is powered and in no reset or shutdown hold. -/
def State.moduleReset (s : State) (cause : Nat) (e : BootEnv) : State := if s.m.dead then s else s.resetBoot cause e

/-! ### The commands -/

/-- POWER_ON_RESET (R397, R481, R485, R510). -/
def execPowerOnReset (e : BootEnv) (s : State) : Result := .next (if s.m.mated then s.resetBoot 0 e else s)

/-- BACKPLANE_RESET (R481, R487, R497): with the power-fail warning latched, a power-on follows instead. -/
def execBackplaneReset (s : State) : Result :=
  .next (
    let low := s.mod fun m => { m with resetN := false }
    if s.m.mode = 0 ∨ s.m.held.isSome ∨ s.m.sva.hold then low
    else
      let pfw := s.m.pfw
      (low.resetModule 1).mod fun m => { m with held := some (if pfw then 0 else 1) })

/-- RESET_N_RISE (R481, R487, R497): a module held in reset enters BOOT; a power-on also waits for BUS. -/
def execResetNRise (busGood : Bool) (e : BootEnv) (s : State) : Result :=
  .next (
    let s := s.mod fun m => { m with resetN := true }
    match s.m.held with
    | some c => if c = 0 ∧ !busGood then s else s.resetBoot c e
    | none => if s.m.sva.hold ∧ busGood ∧ s.m.mode ≠ 0 then s.resetBoot 0 e else s)

/-- WATCHDOG_EXPIRY (R483). -/
def execWatchdogExpiry (e : BootEnv) (s : State) : Result :=
  .next (if s.m.bit CUR_WDOG 13 then s.moduleReset 2 e else s)

/-- WDKICK (R307, R483, R491): only the Curator writes it. -/
def execWdkick (key : BitVec 32) (w : Writer) (e : BootEnv) (s : State) : Result :=
  .next (if w.val ≠ 6 ∨ s.m.dead then s
    else if key = 0xA55A then s.mod Mach.bkpTick
    else if s.m.bit CUR_WDOG 13 then s.moduleReset 2 e
    else s)

/-- MODULE_SOFTWARE_RESET (R418, R481): only the Curator writes CUR_RST. -/
def execModuleSoftwareReset (key : BitVec 16) (go : Bool) (w : Writer) (e : BootEnv) (s : State) : Result :=
  .next (if w.val ≠ 6 ∨ !go ∨ s.m.dead then s
    else if key ≠ 0xC0DE then s.mod fun m => m.refuse 0x0C01 w CUR_RST (key.toNat * 2 ^ 16 + 1)
    else s.moduleReset 3 e)

/-- SEEDING_COMPLETE (R376, R397): BOOT goes on from step 5. -/
def execSeedingComplete (e : BootEnv) (s : State) : Result :=
  .next (s.live fun m =>
    if m.mode ≠ 1 ∨ m.fld CUR_BOOTSTAT 19 16 ≠ 5 ∨ m.bit DDC_STAT 0 then m
    else (m.setBit DDC_STAT 0 e.ddrOk).bootRest e)

/-- RECOVERY_DOWNLOAD (R405, R406, R414). -/
def execRecoveryDownload (slot : Fin 2) (header body : List Byte) (e : BootEnv) (s : State) : Result :=
  .next (if s.m.dead ∨ s.m.mode ≠ 2 then s else
    let r := s.m.download slot header body
    let s := { s with m := r.2 }
    if r.1 then s.moduleReset 3 e else s)

/-- SHUTDOWN_HOLD_END (R438, R487): BUS has stayed good; a power-on reset follows once RESET_N is high. -/
def execShutdownHoldEnd (e : BootEnv) (s : State) : Result :=
  .next (if !s.m.mated ∨ s.m.mode = 0 ∨ (!s.m.sva.hold ∧ s.m.held ≠ some 0) then s else s.resetBoot 0 e)

/-- SUPPLY_LOST (R438, R476). -/
def execSupplyLost (s : State) : Result := .next (s.mod Mach.unpower)

/-- PRESENCE_MATED (R498). -/
def execPresenceMated (s : State) : Result := .next (s.mod fun m => { m with mated := true })

/-- WITHDRAWAL (R498, R512). -/
def execWithdrawal (s : State) : Result := .next (s.mod Mach.withdraw)

end Sys2Proof.Machine
end

