-- ==== Sys2Proof/Machine/Cnd.lean ====
section
/-! DEFINITION. The comparisons and condition functions of the CND opcode (R104, R121). -/

namespace Sys2Proof.Machine

/-- A comparison of two registers into a condition bit (R104, R121). -/
def cndCmp (cl : ClusterId) (r : RR) (f : Word → Word → Bool) (s : State) : Result :=
  .next (execRR cl r .cond .greg .greg
    (pureStep 1 (effC (condField r.d) fun c => f (c.rd r.a) (c.rd r.b))) s)

/-- A logical function of two condition bits (R104, R121). -/
def cndLogic (cl : ClusterId) (r : RR) (f : Bool → Bool → Bool) (s : State) : Result :=
  .next (execRR cl r .cond .cond .cond
    (pureStep 1 (effC (condField r.d) fun c => f (c.cb (condField r.a)) (c.cb (condField r.b)))) s)

/-- CEQ (R121): c[d] = (g[a] == g[b]). -/
def execCeq (cl : ClusterId) (r : RR) (s : State) : Result :=
  cndCmp cl r (fun a b => decide (a = b)) s

/-- CLT (R121): c[d] = signed g[a] < g[b]. -/
def execClt (cl : ClusterId) (r : RR) (s : State) : Result :=
  cndCmp cl r (BitVec.slt) s

/-- CLTU (R121): c[d] = unsigned g[a] < g[b]. -/
def execCltu (cl : ClusterId) (r : RR) (s : State) : Result :=
  cndCmp cl r (BitVec.ult) s

/-- CTST (R121): c[d] = (g[a] AND g[b]) != 0. -/
def execCtst (cl : ClusterId) (r : RR) (s : State) : Result :=
  cndCmp cl r (fun a b => decide (a &&& b ≠ 0)) s

/-- CEQW (R104): 32-bit equality compare. -/
def execCeqw (cl : ClusterId) (r : RR) (s : State) : Result :=
  cndCmp cl r (fun a b => decide (a.setWidth 32 = b.setWidth 32)) s

/-- CLTW (R104): 32-bit signed less-than compare. -/
def execCltw (cl : ClusterId) (r : RR) (s : State) : Result :=
  cndCmp cl r (fun a b => (a.setWidth 32).slt (b.setWidth 32)) s

/-- CLTUW (R104): 32-bit unsigned less-than compare. -/
def execCltuw (cl : ClusterId) (r : RR) (s : State) : Result :=
  cndCmp cl r (fun a b => (a.setWidth 32).ult (b.setWidth 32)) s

/-- CAND (R121): c[d] = c[a] AND c[b]. -/
def execCand (cl : ClusterId) (r : RR) (s : State) : Result := cndLogic cl r (fun a b => a && b) s

/-- COR (R121): c[d] = c[a] OR c[b]. -/
def execCor (cl : ClusterId) (r : RR) (s : State) : Result := cndLogic cl r (fun a b => a || b) s

/-- CXOR (R121): c[d] = c[a] XOR c[b]. -/
def execCxor (cl : ClusterId) (r : RR) (s : State) : Result := cndLogic cl r (fun a b => xor a b) s

/-- CANDN (R121): c[d] = c[a] AND NOT c[b]. -/
def execCandn (cl : ClusterId) (r : RR) (s : State) : Result := cndLogic cl r (fun a b => a && !b) s

/-- CORN (R121): c[d] = c[a] OR NOT c[b]. -/
def execCorn (cl : ClusterId) (r : RR) (s : State) : Result := cndLogic cl r (fun a b => a || !b) s

/-- CNOT (R121): c[d] = NOT c[a]; its b field must be 0. -/
def execCnot (cl : ClusterId) (r : RR) (s : State) : Result :=
  .next (execRR cl r .cond .cond .zero
    (pureStep 1 (effC (condField r.d) fun c => !c.cb (condField r.a))) s)

/-- MFC (R104, R121): copies c7 to c0 into g[d]. -/
def execMfc (cl : ClusterId) (r : RR) (s : State) : Result :=
  .next (execRR cl r .greg .zero .zero (pureStep 1 (effG r.d fun c => c.c.setWidth 64)) s)

/-- MTC (R104, R121): writes c7 to c1 from g[a]. -/
def execMtc (cl : ClusterId) (r : RR) (s : State) : Result :=
  .next (execRR cl r .zero .greg .zero
    (pureStep 1 fun c => { core := (c.wrCs ((c.rd r.a).setWidth 8)).next }) s)

end Sys2Proof.Machine
end

