-- ==== Sys2Proof/Machine/Flags.lean ====
section
/-! DEFINITION. The floating-point flag word FPF (R66): five sticky bits. -/

namespace Sys2Proof.Machine

/-- The exceptions that one operation raises (R66). -/
structure FFlags where
  invalid   : Bool := false
  divZero   : Bool := false
  overflow  : Bool := false
  underflow : Bool := false
  inexact   : Bool := false
  deriving DecidableEq, Repr

/-- The places of the flags in FPF (R66). -/
def FFlags.toBits (f : FFlags) : BitVec 5 :=
  BitVec.ofNat 5 (16 * b2n f.invalid + 8 * b2n f.divZero + 4 * b2n f.overflow + 2 * b2n f.underflow +
    b2n f.inexact)

/-- FPF after an operation: the flags are sticky. -/
def fpfAfter (old : BitVec 5) (f : FFlags) : BitVec 5 := old ||| f.toBits

end Sys2Proof.Machine
end

