-- ==== Sys2Proof/Machine/Float.lean ====
section
/-! DEFINITION. Floating-point arithmetic of IEEE 754 for binary64 and binary32, rounded to
nearest with ties to even (R66, R123 to R125), computed exactly on integers and rounded once. -/

namespace Sys2Proof.Machine

/-- The precision of a format in bits. -/
def prec : FFmt → Nat
  | .s => 24
  | .d => 53

/-- The width of the exponent field. -/
def expBits : FFmt → Nat
  | .s => 8
  | .d => 11

/-- The exponent of the least normal number. -/
def eMin (f : FFmt) : Int := 2 - 2 ^ (expBits f - 1)

/-- The exponent of the least significant bit of a subnormal number. -/
def qMin (f : FFmt) : Int := eMin f - (prec f - 1 : Nat)

/-- The bits of positive infinity. -/
def infBits (f : FFmt) : Nat := (2 ^ expBits f - 1) * 2 ^ (prec f - 1)

/-- The place of the sign bit. -/
def signAt (f : FFmt) : Nat := 2 ^ (expBits f + prec f - 1)

/-- The canonical quiet NaN (R66). -/
def nanBits (f : FFmt) : Nat := infBits f + 2 ^ (prec f - 2)

/-- A floating-point datum: a NaN, an infinity, or `m * 2 ^ e` with a sign. -/
inductive FVal where
  | nan (signalling : Bool)
  | inf (neg : Bool)
  | fin (neg : Bool) (m : Nat) (e : Int)
  deriving DecidableEq, Repr

/-- The datum that the bits of a format hold. -/
def unpack (f : FFmt) (v : Nat) : FVal :=
  let u := v % (2 * signAt f)
  let neg := decide (signAt f ≤ u)
  let e := u / 2 ^ (prec f - 1) % 2 ^ expBits f
  let fr := u % 2 ^ (prec f - 1)
  if e = 2 ^ expBits f - 1 then
    if fr = 0 then .inf neg else .nan (decide (fr < 2 ^ (prec f - 2)))
  else if e = 0 then .fin neg fr (qMin f)
  else .fin neg (fr + 2 ^ (prec f - 1)) (qMin f + e - 1)

/-- `m / 2 ^ d` rounded to nearest, ties to even, and whether that is inexact. -/
def rne (m : Nat) (d : Int) : Nat × Bool :=
  if d ≤ 0 then (m * 2 ^ (-d).toNat, false)
  else
    let k := 2 ^ d.toNat
    let q := m / k
    let r := m % k
    (if k < 2 * r ∨ (2 * r = k ∧ q % 2 = 1) then q + 1 else q, decide (r ≠ 0))

/-- The bits of a signed zero. -/
def zeroBits (f : FFmt) (neg : Bool) : Nat := if neg then signAt f else 0

/-- Round `m * 2 ^ e` into a format (R66). -/
def roundFin (f : FFmt) (neg : Bool) (m : Nat) (e : Int) : Nat × FFlags :=
  if m = 0 then (zeroBits f neg, {})
  else
    let top : Int := (Nat.log2 m : Nat) + e
    let qn := top - (prec f - 1 : Nat)
    let q := max qn (qMin f)
    let (sig, inexact) := rne m (q - e)
    let mag := (q - qMin f).toNat * 2 ^ (prec f - 1) + sig
    let tinyBefore := decide (top < eMin f)
    let tinyAfter := tinyBefore &&
      decide (¬ ((rne m (qn - e)).1 = 2 ^ prec f ∧ top + 1 = eMin f))
    let tiny := if Config.tinyAfterRounding then tinyAfter else tinyBefore
    if infBits f ≤ mag then
      (zeroBits f neg + infBits f, { overflow := true, inexact := true })
    else (zeroBits f neg + mag, { underflow := tiny && inexact, inexact := inexact })

/-- A NaN result: canonical, with invalid where an operand was signalling (R66). -/
def nanResult (f : FFmt) (sig : Bool) : Nat × FFlags := (nanBits f, { invalid := sig })

/-- Whether a datum is a NaN. -/
def FVal.isNan : FVal → Bool
  | .nan _ => true
  | _ => false

/-- Whether a datum is a signalling NaN. -/
def FVal.isSig : FVal → Bool
  | .nan s => s
  | _ => false

/-- The sign of a datum other than a NaN. -/
def FVal.neg : FVal → Bool
  | .nan _ => false
  | .inf n => n
  | .fin n _ _ => n

/-- The sum of two finite data as an integer over the smaller exponent. -/
def finSum (n1 : Bool) (m1 : Nat) (e1 : Int) (n2 : Bool) (m2 : Nat) (e2 : Int) : Int × Int :=
  let e := min e1 e2
  let a : Int := m1 * 2 ^ (e1 - e).toNat
  let b : Int := m2 * 2 ^ (e2 - e).toNat
  ((if n1 then -a else a) + (if n2 then -b else b), e)

/-- Round a finite sum; an exact zero of opposite signs is +0. -/
def roundSum (f : FFmt) (n1 : Bool) (m1 : Nat) (e1 : Int) (n2 : Bool) (m2 : Nat) (e2 : Int) :
    Nat × FFlags :=
  let (s, e) := finSum n1 m1 e1 n2 m2 e2
  if s = 0 then (zeroBits f (n1 && n2), {}) else roundFin f (decide (s < 0)) s.natAbs e

/-- Addition of two data (R123). -/
def addVal (f : FFmt) (a b : FVal) : Nat × FFlags :=
  match a, b with
  | .nan s, b => nanResult f (s || b.isSig)
  | a, .nan s => nanResult f (s || a.isSig)
  | .inf n1, .inf n2 => if n1 = n2 then (zeroBits f n1 + infBits f, {}) else nanResult f true
  | .inf n, .fin _ _ _ => (zeroBits f n + infBits f, {})
  | .fin _ _ _, .inf n => (zeroBits f n + infBits f, {})
  | .fin n1 m1 e1, .fin n2 m2 e2 => roundSum f n1 m1 e1 n2 m2 e2

/-- The datum with its sign inverted. -/
def FVal.negate : FVal → FVal
  | .nan s => .nan s
  | .inf n => .inf (!n)
  | .fin n m e => .fin (!n) m e

/-- FADD. -/
def fAdd (f : FFmt) (a b : Nat) : Nat × FFlags := addVal f (unpack f a) (unpack f b)

/-- FSUB. -/
def fSub (f : FFmt) (a b : Nat) : Nat × FFlags := addVal f (unpack f a) (unpack f b).negate

/-- FMUL. -/
def fMul (f : FFmt) (a b : Nat) : Nat × FFlags :=
  match unpack f a, unpack f b with
  | .nan s, y => nanResult f (s || y.isSig)
  | x, .nan s => nanResult f (s || x.isSig)
  | .inf n1, .inf n2 => (zeroBits f (n1 != n2) + infBits f, {})
  | .inf n1, .fin n2 m _ => if m = 0 then nanResult f true else (zeroBits f (n1 != n2) + infBits f, {})
  | .fin n1 m _, .inf n2 => if m = 0 then nanResult f true else (zeroBits f (n1 != n2) + infBits f, {})
  | .fin n1 m1 e1, .fin n2 m2 e2 => roundFin f (n1 != n2) (m1 * m2) (e1 + e2)

/-- FMAC: `c + a * b` with one rounding (R105, R123). -/
def fMac (f : FFmt) (c a b : Nat) : Nat × FFlags :=
  let z := unpack f c
  match unpack f a, unpack f b with
  | .nan s, y => nanResult f (s || y.isSig || z.isSig)
  | x, .nan s => nanResult f (s || x.isSig || z.isSig)
  | .inf n1, .inf n2 => addVal f (.inf (n1 != n2)) z
  | .inf n1, .fin n2 m _ =>
    if m = 0 then nanResult f (if z.isNan then z.isSig || Config.fmaNanInvalid else true)
    else addVal f (.inf (n1 != n2)) z
  | .fin n1 m _, .inf n2 =>
    if m = 0 then nanResult f (if z.isNan then z.isSig || Config.fmaNanInvalid else true)
    else addVal f (.inf (n1 != n2)) z
  | .fin n1 m1 e1, .fin n2 m2 e2 => addVal f (.fin (n1 != n2) (m1 * m2) (e1 + e2)) z

/-- FDIV. The quotient is taken with two bits more than the precision and a sticky bit. -/
def fDiv (f : FFmt) (a b : Nat) : Nat × FFlags :=
  match unpack f a, unpack f b with
  | .nan s, y => nanResult f (s || y.isSig)
  | x, .nan s => nanResult f (s || x.isSig)
  | .inf _, .inf _ => nanResult f true
  | .inf n1, .fin n2 _ _ => (zeroBits f (n1 != n2) + infBits f, {})
  | .fin n1 _ _, .inf n2 => (zeroBits f (n1 != n2), {})
  | .fin n1 m1 e1, .fin n2 m2 e2 =>
    if m2 = 0 then
      if m1 = 0 then nanResult f true
      else (zeroBits f (n1 != n2) + infBits f, { divZero := true })
    else
      let k := 2 * prec f + 4
      let num := m1 * 2 ^ k
      let q := num / m2
      roundFin f (n1 != n2) (2 * q + (if num % m2 = 0 then 0 else 1)) (e1 - e2 - (k : Nat) - 1)

/-- The integer square root, by bisection on `n` bits from the top. -/
def isqrtGo (v : Nat) : Nat → Nat → Nat
  | 0, r => r
  | n + 1, r => if (r + 2 ^ n) * (r + 2 ^ n) ≤ v then isqrtGo v n (r + 2 ^ n) else isqrtGo v n r

/-- The integer square root of a number of fewer than 512 bits. -/
def isqrt (v : Nat) : Nat := isqrtGo v 256 0

/-- FSQRT. -/
def fSqrt (f : FFmt) (a : Nat) : Nat × FFlags :=
  match unpack f a with
  | .nan s => nanResult f s
  | .inf n => if n then nanResult f true else (infBits f, {})
  | .fin n m e =>
    if m = 0 then (zeroBits f n, {})
    else if n then nanResult f true
    else
      let odd := e % 2 ≠ 0
      let m' := if odd then 2 * m else m
      let e' := if odd then e - 1 else e
      let k := prec f + 4
      let v := m' * 2 ^ (2 * k)
      let r := isqrt v
      roundFin f false (2 * r + (if r * r = v then 0 else 1)) (e' / 2 - (k : Nat) - 1)

/-- Strict order of two data that are no NaNs, with -0 below +0 when `zeros` (R124). -/
def ltVal (zeros : Bool) (a b : FVal) : Bool :=
  match a, b with
  | .nan _, _ => false
  | _, .nan _ => false
  | .inf n1, .inf n2 => n1 && !n2
  | .inf n1, .fin _ _ _ => n1
  | .fin _ _ _, .inf n2 => !n2
  | .fin n1 m1 e1, .fin n2 m2 e2 =>
    if m1 = 0 ∧ m2 = 0 then zeros && n1 && !n2
    else decide ((finSum n1 m1 e1 (!n2) m2 e2).1 < 0)

/-- Equality of two data that are no NaNs. -/
def eqVal (a b : FVal) : Bool := !a.isNan && !b.isNan && !ltVal false a b && !ltVal false b a

/-- FMIN and FMAX (R124). -/
def fMinMax (f : FFmt) (isMax : Bool) (a b : Nat) : Nat × FFlags :=
  let x := unpack f a
  let y := unpack f b
  let fl : FFlags := { invalid := x.isSig || y.isSig }
  let lo (v : Nat) := v % (2 * signAt f)
  if x.isNan && y.isNan then (nanBits f, fl)
  else if x.isNan then (lo b, fl)
  else if y.isNan then (lo a, fl)
  else if ltVal true x y = isMax then (lo b, fl) else (lo a, fl)

/-- FABS, FNEG and FCPYS: the sign bit alone (R123). -/
def fAbs (f : FFmt) (a : Nat) : Nat := a % signAt f

/-- FNEG. -/
def fNeg (f : FFmt) (a : Nat) : Nat := (a + signAt f) % (2 * signAt f)

/-- FCPYS: the magnitude of `a` with the sign of `b`. -/
def fCpys (f : FFmt) (a b : Nat) : Nat := a % signAt f + b % (2 * signAt f) / signAt f * signAt f

/-- The comparisons (R123, R124): the condition and the flags. -/
def fCeq (f : FFmt) (a b : Nat) : Bool × FFlags :=
  let x := unpack f a; let y := unpack f b
  (eqVal x y, { invalid := x.isSig || y.isSig })

/-- FCLT. -/
def fClt (f : FFmt) (a b : Nat) : Bool × FFlags :=
  let x := unpack f a; let y := unpack f b
  (ltVal false x y, { invalid := x.isNan || y.isNan })

/-- FCLE. -/
def fCle (f : FFmt) (a b : Nat) : Bool × FFlags :=
  let x := unpack f a; let y := unpack f b
  (ltVal false x y || eqVal x y, { invalid := x.isNan || y.isNan })

/-- FCUN. -/
def fCun (f : FFmt) (a b : Nat) : Bool × FFlags :=
  let x := unpack f a; let y := unpack f b
  (x.isNan || y.isNan, { invalid := x.isSig || y.isSig })

/-- A datum rounded to an integer, ties to even. -/
def roundInt (n : Bool) (m : Nat) (e : Int) : Int :=
  let q : Int := ((rne m (-e)).1 : Nat)
  if n then -q else q

/-- FTOI and FTOU: to an integer between `lo` and `hi` (R125). -/
def fToInt (f : FFmt) (lo hi : Int) (a : Nat) : Int × FFlags :=
  match unpack f a with
  | .nan _ => (0, { invalid := true })
  | .inf n => (if n then lo else hi, { invalid := true })
  | .fin n m e =>
    let i := roundInt n m e
    if i < lo then (lo, { invalid := true })
    else if hi < i then (hi, { invalid := true })
    else (i, {})

/-- ITOF and UTOF: from an integer (R125). -/
def fOfInt (f : FFmt) (i : Int) : Nat × FFlags := roundFin f (decide (i < 0)) i.natAbs 0

/-- FCVT: from the format `g` to the format `f` (R105, R125). -/
def fCvt (f g : FFmt) (a : Nat) : Nat × FFlags :=
  match unpack g a with
  | .nan s => nanResult f s
  | .inf n => (zeroBits f n + infBits f, {})
  | .fin n m e => roundFin f n m e

end Sys2Proof.Machine
end

