-- ==== Sys2Proof/Machine/Fp.lean ====
section
/-! DEFINITION. The floating-point functions of the FPD and FPS opcodes (R105, R123 to R125). -/

namespace Sys2Proof.Machine

/-- A value of a format as a register holds it: binary32 in bits [31:0], the rest 0 (R105). -/
def fpWord (_f : FFmt) (v : Nat) : Word := BitVec.ofNat 64 v

/-- The cycle count of the format (R123). -/
def fpCost (f : FFmt) (d s : Nat) : Nat :=
  match f with
  | .d => d
  | .s => s

/-- An effect that writes a general register and the flags. -/
def effF (d : BitVec 5) (f : Core → Word × FFlags) (c : Core) : Eff :=
  let v := f c
  { core := { (c.wr d v.1).next with fpf := fpfAfter c.fpf v.2 }, val := v.1 }

/-- An effect that writes a condition bit and the flags. -/
def effFC (d : BitVec 3) (f : Core → Bool × FFlags) (c : Core) : Eff :=
  let v := f c
  { core := { (c.wrC d v.1).next with fpf := fpfAfter c.fpf v.2 } }

/-- A function of two operands in the format (R123). -/
def fp2 (cl : ClusterId) (f : FFmt) (r : RR) (cost : Nat) (op : Nat → Nat → Nat × FFlags) (s : State) : Result :=
  .next (execRR cl r .greg .greg .greg (pureStep cost (effF r.d fun c =>
    let v := op (c.rd r.a).toNat (c.rd r.b).toNat
    (fpWord f v.1, v.2))) s)

/-- A function of one operand, with b required to be 0 (R105). -/
def fp1 (cl : ClusterId) (f : FFmt) (r : RR) (cost : Nat) (op : Nat → Nat × FFlags) (s : State) : Result :=
  .next (execRR cl r .greg .greg .zero (pureStep cost (effF r.d fun c =>
    let v := op (c.rd r.a).toNat
    (fpWord f v.1, v.2))) s)

/-- A comparison into a condition bit (R105, R123). -/
def fpCmp (cl : ClusterId) (r : RR) (op : Nat → Nat → Bool × FFlags) (s : State) : Result :=
  .next (execRR cl r .cond .greg .greg
    (pureStep 2 (effFC (condField r.d) fun c => op (c.rd r.a).toNat (c.rd r.b).toNat)) s)

/-- A conversion to an integer between two bounds: the 64-bit result (R125). -/
def fpToInt (cl : ClusterId) (f : FFmt) (r : RR) (lo hi : Int) (s : State) : Result :=
  .next (execRR cl r .greg .greg .zero (pureStep 3 (effF r.d fun c =>
    let v := fToInt f lo hi (c.rd r.a).toNat
    (BitVec.ofInt 64 v.1, v.2))) s)

/-- FADD (R123): floating-point addition. -/
def execFadd (cl : ClusterId) (f : FFmt) (r : RR) (s : State) : Result :=
  fp2 cl f r (fpCost f 4 3) (fAdd f) s

/-- FSUB (R123): floating-point subtraction. -/
def execFsub (cl : ClusterId) (f : FFmt) (r : RR) (s : State) : Result :=
  fp2 cl f r (fpCost f 4 3) (fSub f) s

/-- FMUL (R123): floating-point multiplication. -/
def execFmul (cl : ClusterId) (f : FFmt) (r : RR) (s : State) : Result :=
  fp2 cl f r (fpCost f 4 3) (fMul f) s

/-- FDIV (R123): floating-point division. -/
def execFdiv (cl : ClusterId) (f : FFmt) (r : RR) (s : State) : Result :=
  fp2 cl f r (fpCost f 24 14) (fDiv f) s

/-- FMIN (R124): floating-point minimum. -/
def execFmin (cl : ClusterId) (f : FFmt) (r : RR) (s : State) : Result :=
  fp2 cl f r 1 (fMinMax f false) s

/-- FMAX (R124): floating-point maximum. -/
def execFmax (cl : ClusterId) (f : FFmt) (r : RR) (s : State) : Result :=
  fp2 cl f r 1 (fMinMax f true) s

/-- FCPYS (R123): magnitude of a with the sign of b. -/
def execFcpys (cl : ClusterId) (f : FFmt) (r : RR) (s : State) : Result :=
  fp2 cl f r 1 (fun a b => (fCpys f a b, {})) s

/-- FSQRT (R123): floating-point square root. -/
def execFsqrt (cl : ClusterId) (f : FFmt) (r : RR) (s : State) : Result :=
  fp1 cl f r (fpCost f 28 16) (fSqrt f) s

/-- FABS (R123): clears the sign bit. -/
def execFabs (cl : ClusterId) (f : FFmt) (r : RR) (s : State) : Result :=
  fp1 cl f r 1 (fun a => (fAbs f a, {})) s

/-- FNEG (R123): inverts the sign bit. -/
def execFneg (cl : ClusterId) (f : FFmt) (r : RR) (s : State) : Result :=
  fp1 cl f r 1 (fun a => (fNeg f a, {})) s

/-- ITOF (R125): converts a signed integer to floating point. -/
def execItof (cl : ClusterId) (f : FFmt) (r : RR) (s : State) : Result :=
  fp1 cl f r 3 (fun a => fOfInt f (signed 64 a)) s

/-- UTOF (R125): converts an unsigned integer to floating point. -/
def execUtof (cl : ClusterId) (f : FFmt) (r : RR) (s : State) : Result :=
  fp1 cl f r 3 (fun a => fOfInt f (a : Int)) s

/-- FCVT (R125): widens or narrows between binary32 and binary64. -/
def execFcvt (cl : ClusterId) (f : FFmt) (r : RR) (s : State) : Result :=
  fp1 cl f r 3 (fCvt f (match f with | .s => .d | .d => .s)) s

/-- FCEQ (R123): quiet equality compare into c[d]. -/
def execFceq (cl : ClusterId) (f : FFmt) (r : RR) (s : State) : Result :=
  fpCmp cl r (fCeq f) s

/-- FCLT (R123): signalling less-than compare. -/
def execFclt (cl : ClusterId) (f : FFmt) (r : RR) (s : State) : Result :=
  fpCmp cl r (fClt f) s

/-- FCLE (R123): signalling less-or-equal compare. -/
def execFcle (cl : ClusterId) (f : FFmt) (r : RR) (s : State) : Result :=
  fpCmp cl r (fCle f) s

/-- FCUN (R123): sets c[d] when either operand is a NaN. -/
def execFcun (cl : ClusterId) (f : FFmt) (r : RR) (s : State) : Result :=
  fpCmp cl r (fCun f) s

/-- FMAC (R105, R123): fused multiply-add into g[d], which is its addend. -/
def execFmac (cl : ClusterId) (f : FFmt) (r : RR) (s : State) : Result :=
  .next (execRR cl r .greg .greg .greg (pureStep (fpCost f 5 4) (effF r.d fun c =>
    let v := fMac f (c.rd r.d).toNat (c.rd r.a).toNat (c.rd r.b).toNat
    (fpWord f v.1, v.2))) s)

/-- FTOI (R125): converts to a signed 64-bit integer. -/
def execFtoi (cl : ClusterId) (f : FFmt) (r : RR) (s : State) : Result :=
  fpToInt cl f r (-2 ^ 63) (2 ^ 63 - 1) s

/-- FTOU (R125): converts to an unsigned 64-bit integer. -/
def execFtou (cl : ClusterId) (f : FFmt) (r : RR) (s : State) : Result :=
  fpToInt cl f r 0 (2 ^ 64 - 1) s

/-- FRFLG (R105): copies FPF into g[d]. -/
def execFrflg (cl : ClusterId) (r : RR) (s : State) : Result :=
  .next (execRR cl r .greg .zero .zero (pureStep 1 (effG r.d fun c => c.fpf.setWidth 64)) s)

/-- FCFLG (R105): clears FPF. -/
def execFcflg (cl : ClusterId) (r : RR) (s : State) : Result :=
  .next (execRR cl r .zero .zero .zero (pureStep 1 fun c => { core := { c.next with fpf := 0 } }) s)

end Sys2Proof.Machine
end

