-- ==== Sys2Proof/Machine/Image.lean ====
section
/-! DEFINITION. The image instructions of the IMG format and the IMGR opcode (R72 to R77, R106,
R107, R133). -/

namespace Sys2Proof.Machine

/-- What an image instruction does with a bit (R106, R107). -/
inductive BitOp where
  | load
  | loadN
  | store
  | storeN
  | set
  | clear
  deriving DecidableEq, Repr

/-- Whether the operation writes the image. -/
def BitOp.writes : BitOp → Bool
  | .load => false
  | .loadN => false
  | _ => true

/-- The bit that the operation writes for the condition bit, if it writes one (R106, R133). -/
def BitOp.value (op : BitOp) (c : Bool) : Option Bool :=
  match op with
  | .store => some c
  | .storeN => some (!c)
  | .set => if c then some true else none
  | .clear => if c then some false else none
  | _ => none

namespace Mach

/-- The checks of an image access of `w` bits in their order: mapped range, alignment, the
read-only input space, ownership of every byte written (R114). The exception to raise. -/
def imageCheck (m : Mach) (cl : Nat) (sp : Space) (i w : Nat) (writes : Bool) : Option Nat :=
  if !mapped sp i || !mapped sp (i + w - 1) && decide (i % w = 0) then some 6
  else if i % w ≠ 0 then some 5
  else if writes && decide (sp = .input) then some 7
  else if writes && decide (sp = .output) &&
      !(countFrom (i / 8) ((w + 7) / 8)).all (m.owns cl) then some 8
  else none

/-- Read the words that hold the bytes at some addresses, each word once: own bytes of an output come from the
back buffer and the others from the emitted one (R75, R374). -/
def imageWords (m : Mach) (cl : Nat) (addrs : List Nat) : Nat × Bool × Mach :=
  ((addrs.map (· / 8)).foldl (fun ws w => insertNew w ws) []).foldl (fun (c, u, m) w =>
    let (c', u', m) := m.eccRead (8 * w) 8 cl
    (c + c', u || u', m)) (0, false, m)

/-- Write image bytes of a space the cluster may write: marker bytes, or output bytes it owns in
the back output buffer (R75, R77). -/
def imageStore (m : Mach) (cl : Nat) (sp : Space) (b : Nat) (bs : List Byte) : Mach :=
  m.store (m.imageByte cl sp b) bs cl

end Mach

/-- One bit of a byte replaced. -/
def putBit (v : Byte) (k : Nat) (b : Bool) : Byte := BitVec.ofNat 8 (putBits v.toNat k k (b2n b))

/-- The own part of a bit access to an image (R106, R133): the index and the operation are voted;
the byte is read once; a load writes the condition bit, a store replaces the bit. A write with
c = 0 under set and clear makes every check and writes nothing. -/
def bitBody (cl : Nat) (sp : Space) (op : BitOp) (c : BitVec 3) (idx : Core → Word)
    (present : Core → Bool) (m : Mach) (t : Tri) (lead : Core) : StepOut :=
  let (acc, bad, m) := m.voted cl lead.pc.toNat t fun x => if present x then
    some ⟨idx x, if op.writes then BitVec.ofNat 64 (match op.value (x.cb c) with
      | none => 2 | some b => b2n b) else 0⟩ else none
  match acc with
  | none => { m := m, cost := 5, res := .fault }
  | some q =>
    let i := q.addr.toNat
    let exc (code : Nat) : StepOut := { m := m, cost := 5, res := if bad then .fault else .exc code }
    if 2 ^ 23 ≤ i then exc 6
    else match m.imageCheck cl sp i 1 op.writes with
    | some code => exc code
    | none =>
      let at_ := m.imageByte cl sp (i / 8)
      if op.writes then
        let m := if q.data = 2 then m else
          m.imageStore cl sp (i / 8) [putBit (m.mem.ld8 at_) (i % 8) (decide (q.data = 1))]
        { m := m, cost := 5, res := if bad then .fault else .ok fun x =>
          { core := x.next, val := BitVec.ofNat 64 (b2n ((op.value (x.cb c)).getD false))
            addr := ((idx x) >>> 3).setWidth 32 } }
      else if bad then { m := m, cost := 5, res := .fault }
      else
        let (corr, unc, m) := m.eccRead at_ 1 cl
        if unc then { m := m, corr := corr, cost := 5, res := .exc 15 }
        else
          let b := xor ((m.mem.ld8 at_).getLsbD (i % 8)) (decide (op = .loadN))
          { m := m, corr := corr, cost := 5, res := .ok fun x =>
            { core := (x.wrC c b).next, addr := ((idx x) >>> 3).setWidth 32 } }

/-- An IMG-format instruction (R106). -/
def imgBit (cl : ClusterId) (sp : Space) (op : BitOp) (c : BitVec 3) (idx : BitVec 23) (s : State) : Result :=
  .next (execInstr cl false false (bitBody cl sp op c (fun _ => idx.setWidth 64) (fun _ => true)) s)

/-- IBLD (R106): c = input bit. -/
def execIbld (cl : ClusterId) (c : BitVec 3) (idx : BitVec 23) (s : State) : Result := imgBit cl .input .load c idx s

/-- IBLDN (R106): c = NOT input bit. -/
def execIbldn (cl : ClusterId) (c : BitVec 3) (idx : BitVec 23) (s : State) : Result := imgBit cl .input .loadN c idx s

/-- OBLD (R75, R106): c = output bit. -/
def execObld (cl : ClusterId) (c : BitVec 3) (idx : BitVec 23) (s : State) : Result := imgBit cl .output .load c idx s

/-- OBLDN (R75, R106): c = NOT output bit. -/
def execObldn (cl : ClusterId) (c : BitVec 3) (idx : BitVec 23) (s : State) : Result := imgBit cl .output .loadN c idx s

/-- OBST (R75, R106): output bit = c. -/
def execObst (cl : ClusterId) (c : BitVec 3) (idx : BitVec 23) (s : State) : Result := imgBit cl .output .store c idx s

/-- OBSTN (R75, R106): output bit = NOT c. -/
def execObstn (cl : ClusterId) (c : BitVec 3) (idx : BitVec 23) (s : State) : Result := imgBit cl .output .storeN c idx s

/-- OBSET (R106, R133): if c = 1, output bit = 1. -/
def execObset (cl : ClusterId) (c : BitVec 3) (idx : BitVec 23) (s : State) : Result := imgBit cl .output .set c idx s

/-- OBCLR (R106, R133): if c = 1, output bit = 0. -/
def execObclr (cl : ClusterId) (c : BitVec 3) (idx : BitVec 23) (s : State) : Result := imgBit cl .output .clear c idx s

/-- MBLD (R77, R106): c = marker bit. -/
def execMbld (cl : ClusterId) (c : BitVec 3) (idx : BitVec 23) (s : State) : Result := imgBit cl .marker .load c idx s

/-- MBLDN (R77, R106): c = NOT marker bit. -/
def execMbldn (cl : ClusterId) (c : BitVec 3) (idx : BitVec 23) (s : State) : Result := imgBit cl .marker .loadN c idx s

/-- MBST (R77, R106): marker bit = c. -/
def execMbst (cl : ClusterId) (c : BitVec 3) (idx : BitVec 23) (s : State) : Result := imgBit cl .marker .store c idx s

/-- MBSTN (R77, R106): marker bit = NOT c. -/
def execMbstn (cl : ClusterId) (c : BitVec 3) (idx : BitVec 23) (s : State) : Result := imgBit cl .marker .storeN c idx s

/-- MBSET (R106, R133): if c = 1, marker bit = 1. -/
def execMbset (cl : ClusterId) (c : BitVec 3) (idx : BitVec 23) (s : State) : Result := imgBit cl .marker .set c idx s

/-- MBCLR (R106, R133): if c = 1, marker bit = 0. -/
def execMbclr (cl : ClusterId) (c : BitVec 3) (idx : BitVec 23) (s : State) : Result := imgBit cl .marker .clear c idx s

/-- The space that an IMGR function code selects; 0b11 is reserved (R107). -/
def spaceOf (sp : BitVec 2) : Space := if sp = 0 then .input else if sp = 1 then .output else .marker

/-- An IMGR instruction: reserved fields and space, the predicate of each core, and a part whose
access only the cores with a true predicate request (R107, R160). -/
def execImgr (cl : Nat) (space : BitVec 2) (bad : Bool) (d : FieldUse) (r : RR)
    (body : Mach → Tri → Core → StepOut) (s : State) : State :=
  execInstr cl (rrReserved d .greg .zero r || decide (space = 3) || bad) false (fun m t lead =>
    if (m.actives cl).any fun k => predicate (t.get k) r then
      let o := body m t lead
      match o.res with
      | .ok eff => { o with res := .ok fun c => if predicate c r then eff c else { core := c.next } }
      | _ => o
    else { m := m, cost := 1, res := .ok fun c => { core := c.next } }) s

/-- An IMGR bit access (R107). -/
def imgrBit (cl : ClusterId) (space : BitVec 2) (op : BitOp) (r : RR) (s : State) : Result :=
  .next (execImgr cl space false .cond r
    (bitBody cl (spaceOf space) op (condField r.d) (fun c => c.rd r.a) (fun c => predicate c r)) s)

/-- IMGR load (R107). -/
def execImgrLoad (cl : ClusterId) (space : BitVec 2) (r : RR) (s : State) : Result := imgrBit cl space .load r s

/-- IMGR load inverted (R107). -/
def execImgrLoadInverted (cl : ClusterId) (space : BitVec 2) (r : RR) (s : State) : Result := imgrBit cl space .loadN r s

/-- IMGR store (R107). -/
def execImgrStore (cl : ClusterId) (space : BitVec 2) (r : RR) (s : State) : Result := imgrBit cl space .store r s

/-- IMGR store inverted (R107). -/
def execImgrStoreInverted (cl : ClusterId) (space : BitVec 2) (r : RR) (s : State) : Result := imgrBit cl space .storeN r s

/-- IMGR set (R107). -/
def execImgrSet (cl : ClusterId) (space : BitVec 2) (r : RR) (s : State) : Result := imgrBit cl space .set r s

/-- IMGR clear (R107). -/
def execImgrClear (cl : ClusterId) (space : BitVec 2) (r : RR) (s : State) : Result := imgrBit cl space .clear r s

/-- The bytes of a word access (R107). -/
def widthBytes (w : BitVec 2) : Nat := 2 ^ w.toNat

/-- The cycles of a word access (R133). -/
def wordCost (w : BitVec 2) : Nat := if w = 3 then 6 else 5

/-- The own part of a word load from an image (R72, R107). -/
def wordLoadBody (cl : Nat) (sp : Space) (ext : Bool) (w : BitVec 2) (r : RR) (m : Mach) (t : Tri)
    (lead : Core) : StepOut :=
  let n := widthBytes w
  let cost := wordCost w
  let (acc, bad, m) := m.voted cl lead.pc.toNat t fun x =>
    if predicate x r then some ⟨x.rd r.a, 0⟩ else none
  match bad, acc with
  | false, some q =>
    let i := q.addr.toNat
    if 2 ^ 23 ≤ i then { m := m, cost := cost, res := .exc 6 }
    else match m.imageCheck cl sp i (8 * n) false with
    | some code => { m := m, cost := cost, res := .exc code }
    | none =>
      let addrs := (countFrom (i / 8) n).map (m.imageByte cl sp)
      let (corr, unc, m) := m.imageWords cl addrs
      if unc then { m := m, corr := corr, cost := cost, res := .exc 15 }
      else
        let v := leNat (addrs.map m.mem.ld8)
        let v : Word := if ext then sx n v else zx v
        { m := m, corr := corr, cost := cost, res := .ok fun x =>
          { core := (x.wr r.d v).next, val := v, addr := ((x.rd r.a) >>> 3).setWidth 32 } }
  | _, _ => { m := m, cost := cost, res := .fault }

/-- The own part of a word store to an image (R72, R75, R107). -/
def wordStoreBody (cl : Nat) (sp : Space) (w : BitVec 2) (r : RR) (m : Mach) (t : Tri)
    (lead : Core) : StepOut :=
  let n := widthBytes w
  let cost := wordCost w
  let (acc, bad, m) := m.voted cl lead.pc.toNat t fun x =>
    if predicate x r then some ⟨x.rd r.a, BitVec.ofNat 64 (lowBytes n (x.rd r.d))⟩ else none
  match acc with
  | none => { m := m, cost := cost, res := .fault }
  | some q =>
    let i := q.addr.toNat
    let exc (code : Nat) : StepOut := { m := m, cost := cost, res := if bad then .fault else .exc code }
    if 2 ^ 23 ≤ i then exc 6
    else match m.imageCheck cl sp i (8 * n) true with
    | some code => exc code
    | none =>
      { m := m.imageStore cl sp (i / 8) (leBytes n q.data.toNat), cost := cost
        res := if bad then .fault else .ok fun x =>
          { core := x.next, val := BitVec.ofNat 64 (lowBytes n (x.rd r.d))
            addr := ((x.rd r.a) >>> 3).setWidth 32 } }

/-- IMGR word load (R107, R133). -/
def execImgrWordLoad (cl : ClusterId) (space : BitVec 2) (sext : Bool) (width : BitVec 2) (r : RR) (s : State) :
    Result :=
  .next (execImgr cl space false .greg r (wordLoadBody cl (spaceOf space) sext width r) s)

/-- IMGR word store (R107, R133): sign extension must be 0. -/
def execImgrWordStore (cl : ClusterId) (space : BitVec 2) (sext : Bool) (width : BitVec 2) (r : RR) (s : State) :
    Result :=
  .next (execImgr cl space sext .greg r (wordStoreBody cl (spaceOf space) width r) s)

end Sys2Proof.Machine
end

