-- ==== Sys2Proof/Machine/Imm.lean ====
section
/-! DEFINITION. The immediate instructions of the RI format (R102, R121) and the branch `BC`
(R99, R100, R129). -/

namespace Sys2Proof.Machine

/-- An RI instruction that writes g[d] (R102). -/
def immG (cl : ClusterId) (r : RI) (f : Word → Word) (s : State) : Result :=
  .next (execInstr cl false false (pureStep 1 (effG r.d fun c => f (c.rd r.a))) s)

/-- An RI comparison: d names a condition bit (R95, R102). -/
def immC (cl : ClusterId) (r : RI) (f : Word → Bool) (s : State) : Result :=
  .next (execInstr cl (!condOk r.d) false (pureStep 1 (effC (condField r.d) fun c => f (c.rd r.a))) s)

/-- A shift by an immediate: W in bit 8, the kind in [7:6], the amount in [5:0] (R102). -/
def shiftImm (imm : BitVec 16) (a : Word) : Word :=
  let n := imm.toNat % 64
  let k := bits imm.toNat 7 6
  if imm.toNat.testBit 8 then
    let x : BitVec 32 := a.setWidth 32
    let n := n % 32
    (if k = 0 then x <<< n else if k = 1 then x >>> n else if k = 2 then x.sshiftRight n
      else x.rotateRight n).signExtend 64
  else if k = 0 then a <<< n else if k = 1 then a >>> n else if k = 2 then a.sshiftRight n
  else a.rotateRight n

/-- ADDI (R102): adds a sign-extended immediate. -/
def execAddi (cl : ClusterId) (r : RI) (s : State) : Result := immG cl r (fun a => a + sx16 r.imm) s

/-- ADDIW (R102): 32-bit add of an immediate, sign-extended. -/
def execAddiw (cl : ClusterId) (r : RI) (s : State) : Result := immG cl r (fun a => ((a + sx16 r.imm).setWidth 32).signExtend 64) s

/-- ANDI (R102): aNDs a sign-extended immediate. -/
def execAndi (cl : ClusterId) (r : RI) (s : State) : Result := immG cl r (fun a => a &&& sx16 r.imm) s

/-- ORI (R102): oRs a sign-extended immediate. -/
def execOri (cl : ClusterId) (r : RI) (s : State) : Result := immG cl r (fun a => a ||| sx16 r.imm) s

/-- XORI (R102): xORs a sign-extended immediate. -/
def execXori (cl : ClusterId) (r : RI) (s : State) : Result := immG cl r (fun a => a ^^^ sx16 r.imm) s

/-- SHIN (R102): shifts g[a] up a halfword and inserts imm16. -/
def execShin (cl : ClusterId) (r : RI) (s : State) : Result := immG cl r (fun a => (a <<< 16) ||| r.imm.setWidth 64) s

/-- SHINW (R102): builds a 32-bit value from g[a] and imm16, sign-extended. -/
def execShinw (cl : ClusterId) (r : RI) (s : State) : Result := immG cl r (fun a => ((a.setWidth 16 ++ r.imm : BitVec 32)).signExtend 64) s

/-- SHI (R102): shifts or rotates by an immediate amount; imm16 [15:9] must be 0. -/
def execShi (cl : ClusterId) (r : RI) (s : State) : Result :=
  .next (execInstr cl (decide (r.imm.toNat / 512 ≠ 0)) false
    (pureStep 1 (effG r.d fun c => shiftImm r.imm (c.rd r.a))) s)

/-- CEQI (R102): compares g[a] with an immediate for equality. -/
def execCeqi (cl : ClusterId) (r : RI) (s : State) : Result := immC cl r (fun a => decide (a = sx16 r.imm)) s

/-- CLTI (R102): signed less-than compare with an immediate. -/
def execClti (cl : ClusterId) (r : RI) (s : State) : Result := immC cl r (fun a => a.slt (sx16 r.imm)) s

/-- CLTUI (R102): unsigned less-than compare with an immediate. -/
def execCltui (cl : ClusterId) (r : RI) (s : State) : Result := immC cl r (fun a => a.ult (sx16 r.imm)) s

/-- The target of a branch (R100). -/
def branchTarget (c : Core) (disp : BitVec 22) : Int := (c.pc.toNat : Int) + 4 * disp.toInt

/-- BC (R99, R100, R129): branches PC-relative when c[c] equals sense. -/
def execBc (cl : ClusterId) (c : BitVec 3) (sense : Bool) (disp : BitVec 22) (s : State) : Result :=
  .next (execInstr cl (decide (c = 0) && !sense) false (fun m t lead =>
    let taken (x : Core) : Bool := x.cb c == sense
    let target := branchTarget lead disp
    if taken lead && !(decide (0 ≤ target) && decide (target < 0x01800000)) then
      { m := m, cost := 3, res := .exc 3 }
    else pureStep (if taken lead then 3 else 1) (fun x =>
      { core := if taken x then { x with pc := BitVec.ofInt 32 (branchTarget x disp) } else x.next }) m t lead) s)

end Sys2Proof.Machine
end

