-- ==== Sys2Proof/Machine/RegWrite.lean ====
section
/-! DEFINITION. Register accesses (R5 to R8, R13, R17, R19, R61, R381, R383, R520): who reaches a
register, which values are refused, what an ordinary write stores and what it starts; and the debug
accesses of class 9 (R391). -/

namespace Sys2Proof.Machine

/-- The index of an address in a run of registers. -/
def nthReg (base stride cnt a : Nat) : Option Nat :=
  if base ≤ a ∧ (a - base) % stride = 0 ∧ (a - base) / stride < cnt then some ((a - base) / stride) else none

/-- The address under which a register of the KLN window is kept: a common register of the half of
cluster 1 is that of cluster 0 (R16, R61, R213). -/
def canonReg (a : Nat) : Nat :=
  if 0x08008000 ≤ a ∧ a < 0x08010000 ∧ (regRow? a).isNone then a - 0x8000 else a

/-- The lower halves of 64-bit quantities (R6). -/
def loRegs : List (Nat × Nat × Nat) := [
  (KLN_TICKNO, 4, 1), (KLN_DBGDATA 0, 0x8000, 2), (KLN_PGMGEN, 4, 1), (KLN_CHGTICK, 4, 1),
  (0x08010018, 0x4000, 4), (GXP_CAPBASE 0, 0x10000, 4), (DLE_AXPOS 0, 32, 1024), (DLE_AXTIME 0, 32, 1024),
  (TMB_TIME, 4, 1), (TMB_ADDEND, 4, 1), (TMB_SET, 4, 1), (TMB_STEP, 4, 1), (TMB_TSTIME, 4, 1),
  (PTL_EVTTICK, 8, 2), (ACJ_NEXT, 4, 1), (ACJ_DP 0, 8, 2), (DDC_ECCADDR, 4, 1), (DDC_SCRUBPOS, 4, 1),
  (SVA_INJTIME 0, 8, 4)]

/-- The region registers of the MPU: class, region and offset in the region's 16 bytes (R393). -/
def mpuReg? (a : Nat) : Option (Nat × Nat × Nat) :=
  let o := a - MPU_RBASE 0 0
  if MPU_RBASE 0 0 ≤ a ∧ o / 0x200 < 10 ∧ o % 0x200 < 0x100 then some (o / 0x200, o % 0x200 / 16, o % 16) else none

/-- A register holds the lower half of a 64-bit quantity (R6). -/
def isLo (a : Nat) : Bool :=
  (loRegs.any fun e => (nthReg e.1 e.2.1 e.2.2 a).isSome) ||
  ((mpuReg? a).any fun e => decide (e.2.2 = 0)) ||
  (countFrom 0 10).any fun c => decide (a = MPU_VADDR c)

/-! ### Who reaches a register -/

/-- A master class has a path to a window of the peripheral space (R19, R381). -/
def reachWindow (cls win : Nat) : Bool :=
  match cls with
  | 2 => decide (win = 0x0802)
  | 3 => decide (0x0804 ≤ win) && decide (win ≤ 0x0807)
  | 4 => decide (win = 0x0808)
  | 5 => decide (win = 0x0809)
  | 6 => true
  | 7 => decide (win = 0x0819) || decide (win = 0x081A)
  | 8 => decide (win = 0x080F) || decide (win = 0x080D) || (decide (0x0811 ≤ win) && decide (win ≤ 0x0817))
  | 9 => true
  | _ => false

/-- The check of a register access (R383, R385): the default map of a privileged class is its path; the
host ports access as users. -/
def Mach.regCheck (m : Mach) (cls inst a kind : Nat) : Bool × Mach :=
  let priv := decide (cls ≠ 7)
  match m.regionOf cls a 16 with
  | some (n, r) => if r.allows kind priv then (true, m) else (false, m.mpuReport cls inst a kind priv n)
  | none => if priv then (true, m) else (false, m.mpuReport cls inst a kind priv 0x1F)

/-- Registers that only the Curator writes (R213, R306, R418, R472, R491). -/
def curatorOnly (a : Nat) : Bool :=
  decide (a / 0x10000 = 0x080E) || decide (a = KLN_PGMCTL) || decide (a = LIO_LED) ||
  (nthReg (RTC_BKP 0) 4 32 a).isSome

/-- BENCH fields may be written: in BENCH, or by the Curator during BOOT (R61). -/
def Mach.benchOpen (m : Mach) (w : Nat) : Bool := decide (m.mode = 3) || (decide (w = 6) && decide (m.mode = 1))

/-! ### Values that are refused whole -/

/-- The code BAD_CODE of a register refusal, if a condition holds (R422). -/
def badIf (b : Bool) : Option Nat := if b then some 0x0C01 else none

/-- The code REFUSED_ZERO of a field that is 0 (R13), or else BAD_CODE if a condition holds. -/
def zeroBad (field : Nat) (b : Bool) : Option Nat := if field = 0 then some 0x0C02 else badIf b

namespace Mach

/-- KLN window (R61, R86, R185, R213). -/
def klnBad (m : Mach) (a v : Nat) : Option Nat :=
  if a = KLN_RESERVE then (if windowCycles m.tick.len - 664 < bits v 19 0 then some 0x0C04 else none)
  else if a = KLN_PGMCTL then badIf (decide (bits v 5 4 = 3) || decide (3 < bits v 3 0))
  else match nthReg (KLN_TCFG 0) 16 16 a with
    | some n =>
      if 8 < bits v 5 2 then some 0x0C01
      else if v.testBit 0 ∧ m.rg (KLN_TBUD n) = 0 then some 0x0C02 else none
    | none => if (nthReg (KLN_TBUD 0) 16 16 a).isSome then zeroBad (bits v 19 0) false else none

/-- DLE window (R275). -/
def dleBad (a v : Nat) : Option Nat :=
  if a = DLE_SPLIT then badIf (decide (bits v 16 0 % 4096 ≠ 0) || decide (65536 < bits v 16 0))
  else if a = DLE_LEAD then zeroBad (bits v 3 0) (decide (bits v 3 0 = 1))
  else if a = DLE_HORIZON then zeroBad (bits v 10 0) (decide (2000 < bits v 10 0))
  else if a = DLE_VMIN then zeroBad (bits v 15 0) false
  else if (nthReg (DLE_AXCFG 0) 8 1024 a).isSome then zeroBad (bits v 31 16) (decide (4 < bits v 5 3))
  else if (nthReg (DLE_AXSCALE 0) 8 1024 a).isSome then zeroBad v false
  else none

/-- GXP windows (R248). -/
def gxpBad (a v : Nat) : Option Nat :=
  if (nthReg (GXP_WDOG 0) 0x10000 4 a).isSome then zeroBad (bits v 7 0) false
  else if (nthReg (GXP_ACTRES 0) 0x10000 4 a).isSome then badIf (decide (bits v 15 0 % 16 ≠ 0))
  else none

/-- The DDR regions of the checkpoint with one word replaced stay in DDR5 and within 2 GiB (R344). -/
def ddrBad (m : Mach) (a v : Nat) : Bool :=
  let val (x : Nat) : Nat := if x = a then v else m.rg x
  let rs := (countFrom 0 8).map fun n => (val (PTL_DDRBASE n), val (PTL_DDRLEN n))
  decide (524288 < (rs.map (·.2)).sum) ||
  (rs.any fun r => decide (r.2 ≠ 0) && (decide (r.1 < 0x400000) || decide (0x800000 < r.1 + r.2)))

/-- TMB, RTC, PTL and ACJ windows (R308, R309, R344, R367). -/
def pairBad (m : Mach) (a v : Nat) : Option Nat :=
  if a = TMB_PAIRLIM then zeroBad (bits v 15 0) false
  else if a = TMB_PTPCFG then badIf (decide (127 < bits v 23 16))
  else if a = TMB_GXSYNC then zeroBad (bits v 7 0) false
  else if a = RTC_TIME then badIf (!timeInRange v)
  else if a = RTC_DATE then badIf (!dateInRange v)
  else if a = PTL_CFG then zeroBad (bits v 23 16) false
  else if (nthReg (PTL_DDRBASE 0) 4 16 a).isSome then badIf (m.ddrBad a v)
  else if a = ACJ_LIMIT then zeroBad (bits v 12 0) (decide (4096 < bits v 12 0))
  else if a = ACJ_CFG then zeroBad (bits v 15 0) false
  else none

/-- LDG, ADM and SVA windows (R447 to R449). -/
def powerBad (a v : Nat) : Option Nat :=
  if a = LDG_HWM then zeroBad (bits v 15 0) (decide (32767 < bits v 15 0))
  else if a = LDG_RATE then zeroBad (bits v 15 0) false
  else if a = ADM_BUDGET then zeroBad (bits v 15 0) (decide (48000 < bits v 15 0))
  else if (nthReg (ADM_SLICE 1) 16 7 a).isSome then zeroBad (bits v 15 0) false
  else if a = SVA_SEQLEN then badIf (decide (24 < bits v 4 0))
  else if (nthReg (SVA_SEQ 0) 4 4 a).isSome then
    badIf ((countFrom 0 6).any fun i => decide (23 < bits v (5 * i + 4) (5 * i)))
  else if (nthReg (SVA_INJCTL 0) 16 4 a).isSome then
    badIf (decide (4 < bits v 12 10) || decide (bits v 5 4 = 3) || decide (6 < bits v 3 0))
  else if (nthReg (SVA_WCFG 0) 8 24 a).isSome then zeroBad (bits v 7 4) false
  else none

/-- CUR and UPD windows (R418, R419, R491). A locked PERIOD takes no value. -/
def curBad (m : Mach) (a v : Nat) : Option Nat :=
  if a = CUR_WDOG then (if m.bit CUR_WDOG 12 then none else zeroBad (bits v 11 0) (decide (bits v 11 0 < 10)))
  else if a = CUR_MODECTL then badIf (decide (4 < bits v 3 0))
  else if a = UPD_CTL then badIf (decide (6 < bits v 3 0))
  else if a = UPD_TRIAL then zeroBad (bits v 23 16 * bits v 15 0) false
  else none

/-- A bit timing word is refused: a zero, an SJW above TSEG2, or a bit time outside `[lo, hi]` periods of
the 500 MHz clock (R458, R473). -/
def timingBad (v lo hi : Nat) : Bool :=
  let t1 := bits v 31 24
  let t2 := bits v 23 17
  let sjw := bits v 16 10
  let brp := bits v 9 0
  let n := brp * (1 + t1 + t2)
  decide (t1 = 0) || decide (t2 = 0) || decide (sjw = 0) || decide (brp = 0) || decide (t2 < sjw) ||
  decide (n < lo) || decide (hi < n)

/-- The active local maps, with the register at `a` holding `v`, overlap the active Catalogue, one another
or the end of the process image (R451, R460). -/
def mapsBad (m : Mach) (a v : Nat) : Bool :=
  let maps := (m.wr a v).localMaps
  (maps.any fun x => decide ((if x.kind = 0 then 262144 else 24576) < x.base + x.cnt)) ||
  !noPair (fun x y => decide (x.space = y.space) && decide (x.kind = y.kind) && meets x.base x.cnt y.base y.cnt) maps ||
  !catClear m.mem catActive maps

/-- LIO, CFD and LBL windows (R472 to R474). -/
def localBad (m : Mach) (a v : Nat) : Option Nat :=
  if a = LIO_CTL then zeroBad (bits v 15 8) false
  else if (nthReg LIO_MAPDI 4 4 a).isSome then badIf (m.mapsBad a v)
  else if (nthReg (CFD_NBT 0) 0x10000 4 a).isSome then badIf (timingBad v 500 4000)
  else if (nthReg (CFD_DBT 0) 0x10000 4 a).isSome then badIf (timingBad v 100 1000)
  else if (nthReg (CFD_MAPRX 0) 0x10000 4 a).isSome ∨ (nthReg (CFD_MAPTX 0) 0x10000 4 a).isSome then
    badIf (decide (32 < bits v 21 16) || m.mapsBad a v)
  else if a = LBL_BIAS then
    badIf (decide (bits v 15 8 < 30) || decide (120 < bits v 15 8) || decide (bits v 7 0 < 130) || decide (160 < bits v 7 0))
  else if a = LBL_LUTSEL then badIf (decide (bits v 1 0 = 3))
  else none

/-- Why a value is refused whole, as the code of the record (R421, R422). -/
def valueBad (m : Mach) (a v : Nat) : Option Nat :=
  match a / 0x10000 with
  | 0x0800 => m.klnBad a v
  | 0x0801 => if a % 0x4000 = 0x20 then badIf (decide (12 < bits v 11 8)) else none
  | 0x0802 => dleBad a v
  | 0x0804 => gxpBad a v
  | 0x0805 => gxpBad a v
  | 0x0806 => gxpBad a v
  | 0x0807 => gxpBad a v
  | 0x0808 => m.pairBad a v
  | 0x0809 => m.pairBad a v
  | 0x080B => m.pairBad a v
  | 0x080C => m.pairBad a v
  | 0x080D => powerBad a v
  | 0x0810 => powerBad a v
  | 0x0811 => powerBad a v
  | 0x080E => m.curBad a v
  | 0x080F => m.curBad a v
  | 0x0819 => none
  | 0x081A => none
  | _ => m.localBad a v

/-! ### What a write stores -/

/-- The value that a write leaves in a register: RW bits take the written ones, BENCH bits only while they
may be written, and a 1 clears a W1C bit (R7, R61). -/
def stored (m : Mach) (r : RegRow) (a v : Nat) (open_ : Bool) : Nat :=
  let old := m.rg a
  let mask := if open_ then r.rw else r.rw - (r.rw &&& r.bench)
  (old - (old &&& mask)) + (v &&& mask) - (old &&& v &&& r.w1c)

/-- An ordinary write (R7, R13, R61): the refusal of the value, the record of BENCH fields that would
change outside BENCH, and the store. Answers whether the write was taken. -/
def plainWrite (m : Mach) (r : RegRow) (a v w : Nat) : Bool × Mach :=
  let open_ := m.benchOpen w
  let bad := if open_ ∨ r.bench = 0 then m.valueBad a v else none
  match bad with
  | some code => (false, m.refuse code w a v)
  | none =>
    let x := m.stored r a v open_
    let m := if !open_ ∧ (m.rg a ^^^ v) &&& r.bench ≠ 0 then m.refuse 0x0C00 w a v else m
    (true, m.wr a x)

/-- A write of the upper half with the lower half that waits (R6). -/
def pairWrite (m : Mach) (lo : Nat) (hi w : Nat) : Mach :=
  let held := tabGet (BitVec.ofNat 32 (m.rg lo)) m.loHeld lo
  let m := { m with loHeld := tabErase m.loHeld lo 1 }
  let put (m : Mach) (a v : Nat) : Mach :=
    match regRow? a with
    | some r => (m.plainWrite r a v w).2
    | none => m
  put (put m lo held.toNat) (lo + 4) hi

/-- A write to a staged region (R389, R390, R393): a Kiln class takes no session write outside BENCH, and
a locked region none. -/
def regionWrite (m : Mach) (c n o a v w : Nat) : Mach :=
  if c < 2 ∧ m.mode ≠ 3 ∧ w ≠ 6 then m.refuse 0x0C00 w a v
  else if m.locked c n then m
  else if o = 4 then (m.pairWrite (a - 4) v w).mpuShow c
  else if o = 8 then (match regRow? a with
    | some r => (m.plainWrite r a v w).2.mpuShow c
    | none => m)
  else m

/-- A write to the real-time clock (R301, R302, R304, R309). -/
def rtcWrite (m : Mach) (r : RegRow) (a v w : Nat) : Mach :=
  if a = RTC_SUB ∨ a = RTC_TIME ∨ a = RTC_DATE then
    if m.bit RTC_CTL 0 then (m.plainWrite r a v w).2 else m.refuse 0x0703 w a v
  else if a = RTC_ALMTIME then m.alarmWrite (.time (BitVec.ofNat 32 v)) w
  else if a = RTC_ALMDATE then m.alarmWrite (.date (BitVec.ofNat 32 v)) w
  else if a = RTC_CTL then
    let old := m.rg RTC_CTL
    let m := (m.plainWrite { r with rw := fm 2 2 } a v w).2
    let m := if v.testBit 1 = old.testBit 1 then m else m.alarmWrite (.almen (v.testBit 1)) w
    if v.testBit 0 then
      if old.testBit 0 then m else
        let (x, m) := m.free
        m.rtcHalt (x % 32768)
    else m.rtcRelease
  else if a = RTC_STAT then
    let m := (m.plainWrite r a v w).2
    if v.testBit 6 then m.rtcRelease else m
  else (m.plainWrite r a v w).2

/-- The key of the response table entry that LBL_LUTSEL selects (R468, R474). -/
def lutKey (m : Mach) : Nat :=
  256 * m.fld LBL_LUTSEL 1 0 + 32 * m.fld LBL_LUTSEL 6 4 + m.fld LBL_LUTSEL 12 8

/-- Show the selected entry in LBL_LUTDATA. -/
def lutShow (m : Mach) : Mach := m.wr LBL_LUTDATA (tabGet 0 m.label.lut m.lutKey)

/-- A write of LBL_LUTDATA (R474): in BENCH while PHASE = 0. -/
def lutWrite (m : Mach) (v w : Nat) : Mach :=
  if m.mode ≠ 3 ∨ m.fld LBL_STAT 2 0 ≠ 0 then m.refuse 0x0C03 w LBL_LUTDATA v
  else
    let x := v &&& (fm 15 14 + fm 7 0)
    ({ m with label := { m.label with lut := tabPut 0 m.label.lut m.lutKey x } }).lutShow

/-- A write of VOT_INJCTL is accepted (R178). -/
def injOpen (m : Mach) (w : Nat) : Bool :=
  (decide (m.mode = 3) && !m.bit KLN_SCHCTL 0) ||
  (decide (w = 6) && (decide (m.mode = 1) || (decide (m.mode = 5) && !m.firing)))

/-- What a plain store of a register changes beside it. -/
def afterWrite (m : Mach) (a v : Nat) : Mach :=
  match a / 0x10000 with
  | 0x080E => if a = CUR_PSSEL then m.psShow else m
  | 0x0810 => m.admEvaluate false
  | 0x0817 => if a = LBL_LUTSEL then m.lutShow else m
  | 0x0819 => m.hostShow
  | 0x081A => m.hostShow
  | 0x0816 => if a = LIO_FAULT then (countFrom 0 16).foldl (fun m n =>
      if v.testBit n then m.shortClear n else m) m else m
  | _ => match nthReg (CFD_CTL 0) 0x10000 4 a with
    | some p => m.canRole p (decide (m.mode = 6))
    | none => m

end Mach

/-! ### What a write starts -/

/-- Run a meaning whose answer is a next state. -/
def State.also (s : State) (f : State → Result) : State :=
  match f s with
  | .next t => t
  | _ => s

/-- Run a meaning if a bit is written as 1. -/
def State.alsoIf (s : State) (b : Bool) (f : State → Result) : State := if b then s.also f else s

/-- The writer as a master class. -/
def writerOf (w : Nat) : Writer := Fin.ofNat 10 w

/-- The commands of KLN_PGMCTL (R201, R213). -/
def State.pgmCmd (s : State) (cmd : Nat) : State :=
  s.mod fun m => match cmd with
    | 1 => m.restartReq (decide (m.mode ≠ 6)) 2
    | 2 => m.restartReq (decide (m.mode ≠ 6)) 3
    | 3 => m.cancelReq
    | _ => m

/-- The commands of CUR_MODECTL (R479, R491). -/
def State.modeCmd (s : State) (v : Nat) : State :=
  match bits v 3 0 with
  | 1 => s.also execStartWarm
  | 2 => s.also execStartCold
  | 3 => s.also (execHalt (v.testBit 4))
  | 4 => s.also execBench
  | _ => s

/-- The commands of UPD_CTL (R419); BEGIN takes its header from the session, so that it has its own row. -/
def State.updCmd (s : State) (v : Nat) : State :=
  match bits v 3 0 with
  | 2 => s.also execAbort
  | 3 => s.also (execActivate (if v.testBit 7 then 1 else 0))
  | 4 => s.also execConfirm
  | 5 => s.also execRecover
  | 6 => s.also execDisarm
  | _ => s

/-- The action bits of KLN_DBGCTL and KLN_CLCTL (R168, R180, R185), and a debugger write. -/
def State.clusterCmd (s : State) (cl a v : Nat) (w : Writer) : State :=
  let c : ClusterId := if cl = 0 then 0 else 1
  if a = KLN_CLCTL cl then s.alsoIf (v.testBit 2) (execRetry c w)
  else if a = KLN_DBGCTL cl then
    ((s.alsoIf (v.testBit 2) (execDebugHalt c)).alsoIf (v.testBit 3) (execDebugResume c w)).alsoIf
      (v.testBit 4) (execDebugStep c w)
  else if a = KLN_DBGPC cl then s.debugWrite cl (.pc (BitVec.ofNat 32 v)) w
  else if a = KLN_DBGCOND cl then s.debugWrite cl (.cond (BitVec.ofNat 32 v)) w
  else if a = KLN_DBGDATA cl + 4 then
    let lo := (tabGet (0 : Reg) s.m.loHeld (KLN_DBGDATA cl)).toNat
    let s := s.mod fun m => { m with loHeld := tabErase m.loHeld (KLN_DBGDATA cl) 1 }
    s.debugWrite cl (.data (BitVec.ofNat 64 (lo + 2 ^ 32 * v))) w
  else s

/-- The action bits of the other registers. -/
def State.blockCmd (s : State) (a v : Nat) (w : Writer) : State :=
  if a = TMB_CTL then (s.alsoIf (v.testBit 1) (execTimeSet false)).alsoIf (v.testBit 0) execTimeStep
  else if a = PTL_CTL then
    (((s.alsoIf (v.testBit 1) (execRsreq w)).alsoIf (v.testBit 2) (execClaim w)).alsoIf
      (v.testBit 3) (execSwap w)).alsoIf (v.testBit 4) (execRsabort w)
  else if a = LDG_CTL then s.alsoIf (v.testBit 0) execLedgerFlush
  else if a = DDC_SCRUB then s.alsoIf (v.testBit 0) (execFullScrub w)
  else if a = ADM_REQ then
    s.alsoIf (v.testBit 8) (execAdmRequest w (BitVec.ofNat 3 v) (BitVec.ofNat 2 (v / 16)))
  else if a = ADM_REL then
    s.alsoIf (v.testBit 8) (execAdmRelease w (BitVec.ofNat 3 v) (BitVec.ofNat 2 (v / 16)))
  else if a = LBL_CTL then
    (s.alsoIf (v.testBit 1) (execLabelRedraw w)).alsoIf (v.testBit 2) execLabelAbort
  else if a = DLE_CMPINJ then s.alsoIf (v.testBit 8) (execDleCmpinjGo w none)
  else if a = UPD_CTL then s.updCmd v
  else if a = CUR_MODECTL then s.modeCmd v
  else if a = CUR_KLNRST then s.also (execKilnClusterReset w (BitVec.ofNat 16 (v / 2 ^ 16)) (BitVec.ofNat 2 v))
  else if a = CUR_PSCTL then
    s.alsoIf (v.testBit 3) fun s =>
      let n := bits v 2 0
      let data := leNat ((countFrom 0 12).flatMap fun k => leBytes 4 (s.m.rg (CUR_PSIN k)))
      execPsExtend (BitVec.ofNat 3 v) (if n < 4 then .rom else if n = 7 then .session else .firmware)
        (BitVec.ofNat 384 data) s
  else if a = KLN_PGMCTL then s.pgmCmd (bits v 3 0)
  else if a = CUR_RST then s.alsoIf (v.testBit 0 && decide (v / 2 ^ 16 ≠ 0xC0DE)) fun s =>
    .next (s.mod fun m => m.refuse 0x0C01 w CUR_RST v)
  else if a = CUR_WDKICK then s.alsoIf (decide (v = 0xA55A)) fun s => .next (s.mod Mach.bkpTick)
  else s

/-- The action bits of registers that stand several times. -/
def State.portCmd (s : State) (a v : Nat) (w : Writer) : State :=
  match nthReg (GXP_CTL 0) 0x10000 4 a, nthReg (GXP_CAPCTL 0) 0x10000 4 a, nthReg (CFD_CTL 0) 0x10000 4 a with
  | some p, _, _ => s.alsoIf (v.testBit 3) (execEnumreq (Fin.ofNat 4 p) w)
  | _, some p, _ => s.alsoIf (v.testBit 1) (execCaptureGo (Fin.ofNat 4 p) w)
  | _, _, some p => s.alsoIf (v.testBit 7) (execCanRecover (Fin.ofNat 4 p))
  | _, _, _ =>
    match nthReg (VOT_INJCTL 0 0) 0x4000 4 a, nthReg (MPU_CCTL 0) 0x200 10 a with
    | some k, _ => s.alsoIf (v.testBit 1) (execInjectionGo (if k < 2 then 0 else 1) (if k % 2 = 0 then 0 else 1) w none)
    | _, some c => s.alsoIf (v.testBit 0) (execMpuApply (Fin.ofNat 10 c) w)
    | _, _ => s

/-- What a taken write starts: the commands that need no operand beside the value. -/
def State.writeStarts (s : State) (a v : Nat) (w : Writer) : State :=
  (((s.clusterCmd 0 a v w).clusterCmd 1 a v w).blockCmd a v w).portCmd a v w

/-! ### A register write -/

/-- A write to a register that its master reaches (R6, R7, R13, R61, R520). -/
def State.regPut (s : State) (a v : Nat) (w : Writer) : State :=
  match regRow? a with
  | none => s
  | some r =>
    if curatorOnly a ∧ w.val ≠ 6 then s
    else match mpuReg? a with
      | some (c, n, o) =>
        if o = 0 then
          s.mod fun m => { m with loHeld := assocPut m.loHeld a (BitVec.ofNat 32 v) }
        else s.mod fun m => m.regionWrite c n o a v w
      | none =>
        if isLo a then
          if r.rw = 0 ∧ (nthReg (KLN_DBGDATA 0) 0x8000 2 a).isNone then s
          else s.mod fun m => { m with loHeld := assocPut m.loHeld a (BitVec.ofNat 32 v) }
        else if a = TMB_ADDEND + 4 then s.also (execAddendWrite (BitVec.ofNat 32 v) w)
        else if isLo (a - 4) ∧ r.rw ≠ 0 then s.mod fun m => m.pairWrite (a - 4) v w
        else if a = KLN_SCHCTL then
          (s.also (execSchctlRun (v.testBit 0) w)).mod fun m => m.stepBit (v.testBit 1) w v
        else if a = KLN_TICKSEL then s.also (execTickLengthSelect (BitVec.ofNat 3 v) w)
        else if a / 0x10000 = 0x080C then s.mod fun m => m.rtcWrite r a v w
        else if a = LBL_LUTDATA then s.mod fun m => m.lutWrite v w
        else if (nthReg (VOT_INJCTL 0 0) 0x4000 4 a).isSome ∧ !s.m.injOpen w then
          s.mod fun m => m.refuse 0x0C00 w a v
        else
          let lock := decide (a = CUR_WDOG) && s.m.bit CUR_WDOG 12
          let (ok, m) := s.m.plainWrite (if lock then { r with rw := 0 } else r) a v w
          if ok then (({ s with m := m.afterWrite a v }).writeStarts a v w) else { s with m := m }

/-- A register write of any master; the boot ROM is there for the Curator alone, and takes no write (R5, R8, R17, R19, R381, R385, R391). -/
def State.regWrite (s : State) (a v size inst : Nat) (w : Writer) : State :=
  let err : State := s.mod fun m => m.emit .busError
  if a / 0x10000 = 0x0FFF ∧ w.val = 6 then s
  else if a / 0x10000 = 0x0FFF ∨ (windowSrc (a / 0x10000)).isNone ∨ !reachWindow w (a / 0x10000) then err
  else if size ≠ 4 ∨ a % 4 ≠ 0 then err
  else
    let (ok, m) := s.m.regCheck w inst a 1
    let s := { s with m := m }
    if ok then s.regPut (canonReg a) (v % 2 ^ 32) w else s.mod fun m => m.emit .busError

/-! ### Debug accesses -/

/-- The register that a debug read finds: live values of a cluster's core 0 (R185), or the register. -/
def State.regLive (s : State) (a : Nat) : Nat :=
  let core (cl : Nat) : Core := (s.tri cl).k0
  let data (cl : Nat) : Nat := ((core cl).rd (BitVec.ofNat 5 (s.m.fld (KLN_DBGSEL cl) 4 0))).toNat
  let one (cl : Nat) : Option Nat :=
    if a = KLN_DBGPC cl then some (core cl).pc.toNat
    else if a = KLN_DBGDATA cl then some (data cl % 2 ^ 32)
    else if a = KLN_DBGDATA cl + 4 then some (data cl / 2 ^ 32)
    else if a = KLN_DBGCOND cl then
      some ((core cl).c.toNat + (core cl).fpf.toNat * 2 ^ 8 + b2n (core cl).sys * 2 ^ 16)
    else none
  ((one 0).or (one 1)).getD (s.m.rg a)

/-- The bits of a register that read as they are: write-only bits are never stored. -/
def State.regRead (s : State) (a : Nat) : State :=
  if a = RTC_SUB ∨ a = RTC_TIME ∨ a = RTC_DATE then
    let (x, m) := s.m.free
    ({ s with m := m }).also (execRtcShadowRead
      (if a = RTC_SUB then .sub else if a = RTC_TIME then .time else .date) (BitVec.ofNat 15 x))
  else if a = TMB_TSINFO then s.also execTimestampPop
  else
    match assocGet s.m.hiShadow a with
    | some v => s.mod fun m => ({ m with hiShadow := assocDel m.hiShadow a }).emit (.data (leBytes 4 v.toNat))
    | none =>
      let v := s.regLive a
      let hi := BitVec.ofNat 32 (s.regLive (a + 4))
      s.mod fun m =>
        (if isLo a then { m with hiShadow := assocPut m.hiShadow (a + 4) hi } else m).emit (.data (leBytes 4 v))

/-- The journal counters at the start of journal SRAM, as the ACJ registers show them (R348). -/
def journalCounter (a : Nat) : Option Nat :=
  if 0x03800000 ≤ a ∧ a < 0x03801000 then some (ACJ_STAT + (a - 0x03800000)) else none

/-- A byte as class 9 reads it: a journal counter, the exchange area that a cluster's core 0 sees, or the
array (R19, R71, R348). -/
def Mach.debugByte (m : Mach) (inst a : Nat) : Byte :=
  match journalCounter a with
  | some r => BitVec.ofNat 8 (m.rg (r / 4 * 4) / 2 ^ (8 * (r % 4)))
  | none => m.mem.ld8 (if inst < 2 then readAddr inst a else a)

/-- The first address of each burst of `[a, a + n)` (R383). -/
def bursts (a n : Nat) : List Nat :=
  (a :: (countFrom (a / 256 + 1) ((a + n + 255) / 256 - a / 256 - 1)).map (256 * ·)).filter (· < a + n)

/-- A debug access that a locked region refuses (R391). -/
def Mach.debugRefuse (m : Mach) (a n : Nat) (write : Bool) : Mach :=
  let m := (m.incFld MPU_DBGREF 31 0).ledger 0x0A02 7 0 (a % 2 ^ 32) (a / 2 ^ 32)
  (if write then m else m.emit (.data (List.replicate n 0))).emit .busError

/-- A debug access to an array (R374, R381, R383, R385). -/
def Mach.debugArray (m : Mach) (inst a n : Nat) (data : Option (List Byte)) : Mach :=
  match data with
  | some bs =>
    let (ok, m) := m.masterWrite 9 inst a bs
    if ok then m else m.emit .busError
  | none =>
    let zero (m : Mach) : Mach := (m.emit (.data (List.replicate n 0))).emit .busError
    let (ok, m) := (bursts a n).foldl (fun (acc : Bool × Mach) x =>
      let (r, m) := acc.2.masterCheck 9 inst x 0
      (acc.1 && decide (r = .ok), m)) (true, m)
    if !ok then zero m
    else
      let (_, bad, m) := m.eccRead (if inst < 2 then readAddr inst a else a) n 9
      if bad then zero m else m.emit (.data ((countFrom a n).map (m.debugByte inst)))

/-- A class 9 read of a register (R5, R8, R17, R381). -/
def State.debugReg (s : State) (inst a n : Nat) : State :=
  let zero (s : State) : State := s.mod fun m => (m.emit (.data (List.replicate n 0))).emit .busError
  if a / 0x10000 = 0x0FFF ∨ (windowSrc (a / 0x10000)).isNone ∨ n ≠ 4 ∨ a % 4 ≠ 0 then zero s
  else
    let (ok, m) := s.m.regCheck 9 inst a 0
    let s := { s with m := m }
    if ok then s.regRead (canonReg a) else zero s

/-- A class 9 access (R381, R391): first the locked regions of every class, then the path. -/
def State.debugAccess (s : State) (inst a n : Nat) (data : Option (List Byte)) : State :=
  let len := match data with
    | some bs => bs.length
    | none => n
  if (bursts a len).any s.m.lockedAddr then s.mod fun m => m.debugRefuse a len data.isSome
  else if placeOf a = .periph then
    match data with
    | some bs => s.regWrite a (leNat bs) bs.length inst 9
    | none => s.debugReg inst a n
  else s.mod fun m => m.debugArray inst a n data

/-! ### The commands -/

/-- REGISTER_WRITE (R5 to R8, R13, R17, R61, R520). -/
def execRegisterWrite (a : BitVec 48) (v : BitVec 64) (size : BitVec 4) (w : Writer) (s : State) : Result :=
  .next (
    if s.m.dead && !(decide (w.val = 6) && s.m.sva.hold && s.m.held.isNone) then s
    else if w.val = 9 && s.m.lockedAddr a.toNat then s.mod fun m => m.debugRefuse a.toNat size.toNat true
    else s.regWrite a.toNat v.toNat size.toNat (if w.val = 9 then 2 else 0) w)

/-- DEBUG_MEMORY_ACCESS (R181, R381, R391): class 9 reads `n` bytes, or writes the given ones. -/
def execDebugMemoryAccess (inst : BitVec 4) (a : BitVec 48) (n : BitVec 8) (data : Option (List Byte))
    (s : State) : Result :=
  .next (if s.m.dead then s else s.debugAccess inst.toNat a.toNat n.toNat data)

end Sys2Proof.Machine
end

