-- ==== Sys2Proof/Machine/Station.lean ====
section
/-! DEFINITION. The entries of the rings (R216 to R218, R223, R224, R228, R229, R237 to R239, R243 to R245,
R266, R267, R295 to R297): what a station or a concentrator does with the telegrams that pass it. -/

namespace Sys2Proof.Machine

namespace Mach

/-- The key of an entry in the table of entries. -/
def stnKey (k : StnKey) : Nat := k.ring.val * 2 ^ 32 + k.path.toNat

/-- An entry; one that nothing has touched is unconfigured. -/
def stn (m : Mach) (k : StnKey) : Station := (assocGet m.stns (stnKey k)).getD {}

/-- Keep an entry. -/
def setStn (m : Mach) (k : StnKey) (x : Station) : Mach := { m with stns := assocPut m.stns (stnKey k) x }

end Mach

/-- The ring position of an entry, or of the direct entry above it (R233). -/
def keyPos (k : StnKey) : Nat := k.path.toNat % 256

/-- A direct entry. -/
def keyDirect (k : StnKey) : Bool := decide (k.path.toNat < 256)

namespace Mach

/-- The entries beneath a direct entry, with their keys. -/
def stnsUnder (m : Mach) (k : StnKey) : List (Nat × Station) :=
  m.stns.filter fun e => decide (e.1 / 2 ^ 32 = k.ring.val) && decide (e.1 % 256 = keyPos k) && decide (256 ≤ e.1 % 2 ^ 32)

/-- A frame leaves an entry by its west or its east port; a link that is down drops it (R216). -/
def entryOut (m : Mach) (k : StnKey) (west : Bool) (f : List Byte) : Mach :=
  let x := m.stn k
  if (if west then x.west else x.east) then m.emit (.entry k.ring k.path.toNat west f) else m

end Mach

/-- A telegram travels west at an entry (R216, R217): one of module B, or of an entry nearer to it. -/
def Tel.west (t : Tel) (pos : Nat) : Bool :=
  if t.flags.testBit 3 then decide (pos < t.seq) else t.flags.testBit 0

namespace Mach

/-- Repeat a telegram onward (R216); only a direct entry stands on the ring. -/
def pass (m : Mach) (k : StnKey) (t : Tel) (f : List Byte) : Mach :=
  if keyDirect k then m.entryOut k (t.west (keyPos k)) f else m

/-- A frame that an entry discards is counted and still repeated (R221). Its direction is that of its FLAGS
and SEQ bytes. -/
def discard (m : Mach) (k : StnKey) (f : List Byte) : Mach :=
  let x := m.stn k
  let m := m.setStn k { x with bad := x.bad + 1 }
  let t : Tel := ⟨0, fieldAt f 1 1, 0, 0, 0, fieldAt f 12 4, 0, 0, []⟩
  m.pass k t f

end Mach

/-! ### Configurations (R229, R233, R234) -/

namespace StnCfg

/-- A field of the entry's Catalogue entry. -/
def f (c : StnCfg) (o n : Nat) : Nat := fieldAt c.ent o n

/-- The number of digital output bytes. -/
def douts (c : StnCfg) : Nat := c.f 48 2 / 8

/-- The fallback of a slot (R234, R245): digital bytes under their MODE bits, then the analogue words. -/
def fallback (c : StnCfg) (outs : List Byte) : List Byte :=
  let d := c.douts
  let old (i : Nat) : Byte := outs.getD i 0
  let fb (i : Nat) : Byte := c.fb.getD i 0
  ((countFrom 0 d).map fun i => (fb i &&& fb (d + i)) ||| (~~~(fb i) &&& old i)) ++
  (countFrom 0 (c.f 52 2)).flatMap fun j =>
    if fieldAt c.fb (2 * d + 4 * j) 2 = 1 then (c.fb.drop (2 * d + 4 * j + 2)).take 2
    else [old (d + 2 * j), old (d + 2 * j + 1)]

/-- The low half of the generation, as GEN carries it. -/
def gen16 (c : StnCfg) : Nat := c.gen % 2 ^ 16

end StnCfg

namespace Station

/-- The configuration of a generation: active or pending (R238). -/
def cfgOf (x : Station) (gen : Nat) : Option StnCfg :=
  match x.cfg with
  | some c => if c.gen16 = gen then some c else x.pend.filter fun c => decide (c.gen16 = gen)
  | none => none

/-- A configuration becomes active (R229, R244): LASTSEQ is cleared. -/
def activate (x : Station) (c : StnCfg) : Station := { x with cfg := some c, lastSeq := none, joined := false }

/-- The pending configuration becomes active (R238); the entry has been in service. -/
def takePend (x : Station) : Station :=
  match x.pend with
  | some c => { x with cfg := some c, pend := none, sawPend := false }
  | none => x

/-- Remember a telegram that carries the pending generation (R238). -/
def saw (x : Station) (gen : Nat) : Station :=
  if x.pend.any fun c => decide (c.gen16 = gen) then { x with sawPend := true } else x

end Station

/-! ### Sampling and collectors (R40, R217, R218, R223, R224) -/

namespace Mach

/-- The status byte of a direct entry (R224). -/
def statusByte (m : Mach) (k : StnKey) (x : Station) : Byte :=
  let held := x.pend.isSome && (m.stnsUnder k).all fun e => e.2.pend.isSome
  BitVec.ofNat 8 (1 + 2 * b2n x.fbShown + 4 * b2n x.ovfShown + 8 * b2n held + 16 * b2n x.ioFault + 32 * b2n x.unsync)

/-- The bytes that an entry writes into its slot: the status area, then the data latched at the sample
instant (R223, R224). A concentrator's latched bytes begin with the presence bits of its leaves. -/
def slotBytes (m : Mach) (k : StnKey) (x : Station) (c : StnCfg) : List Byte :=
  let rest := if c.f 2 1 = 1 then x.latched else leBytes 3 0 ++ x.latched
  fixLen (c.f 20 2) (m.statusByte k x :: rest)

/-- The payload of a collector after a direct entry has inserted its slot (R223). -/
def inserted (m : Mach) (k : StnKey) (x : Station) (c : StnCfg) (t : Tel) : List Byte :=
  let ofs := c.f 16 4
  let len := c.f 20 2
  if x.joined ∧ x.sampleTick = t.tick ∧ 0 < len ∧ t.ofs ≤ ofs ∧ ofs + len ≤ t.ofs + t.payload.length then
    overlay t.payload (ofs - t.ofs) (m.slotBytes k x c)
  else t.payload

/-- A collector passes a direct entry (R216, R221, R223, R238). -/
def collectorPass (m : Mach) (k : StnKey) (f : List Byte) : Mach :=
  if keyDirect k = false then m else
  match Tel.ofBytes f with
  | none => m.discard k f
  | some t =>
    let x := m.stn k
    if t.type ≠ 1 ∨ x.cfg.isNone then m.pass k t f else
    let x := if x.pend.any (fun c => decide (c.gen16 = t.gen)) && !(x.cfg.any fun c => decide (c.gen16 = t.gen))
      then x.takePend else x
    match x.cfg with
    | none => m.pass k t f
    | some c =>
      if c.gen16 ≠ t.gen then m.discard k f
      else (m.setStn k x).pass k t ({ t with payload := m.inserted k x c t } : Tel).bytes

/-- The train that an entry originates westbound or eastbound (R217, R218, R219): it carries the origin's
own slot. The length of the payload is that of the ring record (log entry 33). -/
def entryTrains (m : Mach) (k : StnKey) (x : Station) (c : StnCfg) : List Tel :=
  let pay := List.replicate (m.rg (GXP_PAYIN k.ring)) (0 : Byte)
  let n := (pay.length + 1023) / 1024
  (countFrom 0 n).map fun i =>
    let t : Tel := {
      type := 1, flags := 8 + (if i + 1 = n then 4 else 0), ring := k.ring, index := i, tick := x.sampleTick
      seq := keyPos k, ofs := 1024 * i, gen := c.gen16, payload := (pay.drop (1024 * i)).take 1024 }
    { t with payload := m.inserted k x c t }

end Mach

/-- STATION_SAMPLE (R40, R217, R224, R237, R238, R266): an entry latches its data and its link states; a
concentrator's data are its slot from the presence bits on. -/
def execStationSample (k : StnKey) (west east io : Bool) (data : List Byte) (s : State) : Result :=
  .next (s.mod fun m =>
    let x := m.stn k
    let under := m.stnsUnder k
    let x := if x.sawPend ∧ (!west ∨ !east) then x.takePend else x
    let beneath := if keyDirect k then under else []
    let m := m.setStn k { x with
      joined := x.cfg.isSome
      west := west, east := east, ioFault := io, latched := data, sampleTick := m.tickNo
      fbShown := x.fallen || beneath.any fun e => e.2.fallen
      ovfShown := x.refused || beneath.any fun e => e.2.refused
      refused := false }
    let clear (y : Station) : Station := { y with refused := false }
    beneath.foldl (fun m e => { m with stns := assocPut m.stns e.1 (clear e.2) }) m)

/-- COLLECTOR_INSERT (R216, R221, R223, R238): a collector frame passes a direct entry. -/
def execCollectorInsert (k : StnKey) (f : List Byte) (s : State) : Result :=
  .next (s.mod fun m => m.collectorPass k f)

/-- COLLECTOR_ORIGINATE (R217, R218): a module port, or an entry whose link is down on the other side,
starts its collector train. -/
def execCollectorOriginate (o : Origin) (s : State) : Result :=
  .next (match o with
    | .port p => s.live fun m =>
      if m.gxServes p then m.gxOuts ((m.collectorTrain p).map fun t => (p.val, t.bytes)) else m
    | .entry k west => s.mod fun m =>
      let x := m.stn k
      match x.cfg with
      | none => m
      | some c =>
        if !keyDirect k ∨ (if west then x.east else x.west) then m
        else (m.entryTrains k x c).foldl (fun m t => m.entryOut k west t.bytes) m)

/-! ### Outputs (R238, R243 to R245) -/

/-- A(T) − now as a signed 32-bit difference (R243). -/
def applyLeft (c : StnCfg) (tick now : Nat) : Int :=
  signed 32 (((tick + 1) * c.tickNs + c.apply) % 2 ^ 32 + 2 ^ 32 - now)

namespace Mach

/-- An entry accepts or discards an output telegram that covers its slot (R243, R244). -/
def outputTake (x : Station) (c : StnCfg) (t : Tel) (now : Nat) : Station :=
  let ofs := c.f 24 4
  let len := c.f 22 2
  if !(decide (0 < len) && decide (t.ofs ≤ ofs) && decide (ofs + len ≤ t.ofs + t.payload.length)) then x
  else if applyLeft c t.tick now ≤ 0 then { x with late := x.late + 1 }
  else if x.lastSeq.any fun l => decide (signed 32 (t.seq + 2 ^ 32 - l) ≤ 0) then { x with dup := x.dup + 1 }
  else { x with
    lastSeq := some t.seq
    held := x.held ++ [(t.tick, t.gen, (t.payload.drop (ofs - t.ofs)).take len)] }

/-- An output telegram at an entry (R216, R221, R238, R244). -/
def outputRecv (m : Mach) (k : StnKey) (f : List Byte) (now : Nat) : Mach :=
  match Tel.ofBytes f with
  | none => m.discard k f
  | some t =>
    let x := m.stn k
    if t.type ≠ 2 ∨ x.cfg.isNone then m.pass k t f else
    match x.cfgOf t.gen with
    | none => m.discard k f
    | some c => (m.setStn k (outputTake (x.saw t.gen) c t now)).pass k t f

/-- The apply instant of a tick at an entry (R243, R245): outputs that it holds take effect, or the tick
counts as missed. -/
def applyTick (x : Station) (tick : Nat) : Station :=
  if x.cfg.isNone then x else
  let rest := x.held.filter fun e => decide (tick < e.1)
  match x.held.find? fun e => e.1 = tick with
  | some (_, _, bs) => { x with held := rest, outs := bs, missed := 0, fallen := false }
  | none => { x with held := rest, missed := x.missed + 1 }

end Mach

/-- STATION_OUTPUT_RECEIVE (R216, R221, R238, R243, R244): an output frame reaches an entry at a station
time. -/
def execStationOutputReceive (k : StnKey) (f : List Byte) (now : BitVec 32) (s : State) : Result :=
  .next (s.mod fun m => m.outputRecv k f now.toNat)

/-- STATION_APPLY (R243, R245): the apply instant of a tick at an entry. -/
def execStationApply (k : StnKey) (t : BitVec 64) (s : State) : Result :=
  .next (s.mod fun m => m.setStn k (Mach.applyTick (m.stn k) t.toNat))

/-- STATION_FALLBACK (R234, R245): the count of missed ticks has reached WDOG. -/
def execStationFallback (k : StnKey) (s : State) : Result :=
  .next (s.mod fun m =>
    let x := m.stn k
    match x.cfg with
    | none => m
    | some c =>
      if x.missed < c.wdog ∨ x.fallen then m
      else m.setStn k { x with fallen := true, outs := c.fallback x.outs })

/-! ### Timed actions (R244, R266, R267) -/

/-- A − B as a signed 32-bit difference. -/
def diff32 (a b : Nat) : Int := signed 32 (a % 2 ^ 32 + 2 ^ 32 - b % 2 ^ 32)

namespace Station

/-- A refusal (R266). -/
def refuse (x : Station) : Station := { x with refused := true, refusals := x.refusals + 1 }

/-- An accepted action entry (R266): AID, OUTPUT, FIRE, LEVEL, FLAGS, WIDTH. -/
def action (x : Station) (actq now : Nat) (e : List Byte) : Station :=
  let aid := fieldAt e 0 4
  let fire := fieldAt e 8 4
  let flags := fieldAt e 13 1
  let new : HeldAct := ⟨aid, fieldAt e 6 2, fire, fieldAt e 12 1, fieldAt e 14 2, x.order⟩
  let held := x.acts.any fun a => a.aid = aid
  if flags.testBit 1 then { x with acts := x.acts.filter fun a => a.aid ≠ aid }
  else if flags.testBit 0 && decide (diff32 fire now ≤ 0) then x.refuse
  else if flags.testBit 0 && held then
    let put (a : HeldAct) : HeldAct := if a.aid = aid then { new with order := a.order } else a
    { x with acts := x.acts.map put }
  else if held ∨ diff32 fire now ≤ 0 ∨ actq ≤ x.acts.length then x.refuse
  else { x with acts := x.acts ++ [new], order := x.order + 1 }

/-- One action entry of a telegram at the leaf that it addresses (R244, R266). -/
def entry (x : Station) (c : StnCfg) (now seq : Nat) (e : List Byte) : Station :=
  if fieldAt e 4 2 ≠ c.f 0 2 ∨ c.f 2 1 ≠ 0 then x else
  let id := (fieldAt e 0 4, seq)
  if x.ids.contains id then { x with dup := x.dup + 1 }
  else ({ x with ids := (id :: x.ids).take 256 }).action (c.f 42 1) now e

/-- An event on an output comes before a time, or at it with an earlier place in the order of acceptance. -/
def earlier (x : Station) (output at_ order : Nat) : Bool :=
  let before (a o : Nat) : Bool := decide (diff32 a at_ < 0) || (decide (a = at_) && decide (o < order))
  (x.acts.any fun a => decide (a.output = output) && before a.fire a.order) ||
  (x.pulses.any fun p => decide (p.output = output) && before p.at_ p.order)

/-- Set an action output. -/
def drive (x : Station) (output : Nat) (v : Bool) : Station := { x with actOuts := assocPut x.actOuts output v }

end Station

namespace Mach

/-- An action telegram at an entry (R216, R221, R238, R239, R266). -/
def actionRecv (m : Mach) (k : StnKey) (f : List Byte) (now : Nat) : Mach :=
  match Tel.ofBytes f with
  | none => m.discard k f
  | some t =>
    let x := m.stn k
    if t.type ≠ 3 ∨ x.cfg.isNone then m.pass k t f else
    match x.cfgOf t.gen with
    | none => m.discard k f
    | some c =>
      let x := (countFrom 0 (t.payload.length / 16)).foldl
        (fun (x : Station) i => x.entry c now t.seq ((t.payload.drop (16 * i)).take 16)) (x.saw t.gen)
      (m.setStn k x).pass k t f

end Mach

/-- STATION_ACTION_RECEIVE (R239, R244, R266): an action frame reaches an entry at a station time. -/
def execStationActionReceive (k : StnKey) (f : List Byte) (now : BitVec 32) (s : State) : Result :=
  .next (s.mod fun m => m.actionRecv k f now.toNat)

/-- STATION_ACTION_FIRE (R267): a held action's FIRE is reached and no earlier event of its output waits. -/
def execStationActionFire (k : StnKey) (aid now : BitVec 32) (s : State) : Result :=
  .next (s.mod fun m =>
    let x := m.stn k
    match x.acts.find? fun a => a.aid = aid.toNat with
    | none => m
    | some a =>
      if 0 < diff32 a.fire now.toNat ∨ x.earlier a.output a.fire a.order then m else
      let x := { x with
        acts := x.acts.filter (· ≠ a)
        pulses := if a.level = 2 then
            x.pulses ++ [(⟨a.output, (a.fire + 1000 * a.width) % 2 ^ 32, a.order⟩ : PulseEnd)]
          else x.pulses }
      m.setStn k (x.drive a.output (decide (a.level ≠ 0))))

/-- STATION_PULSE_END (R267): the end of a pulse is reached and no earlier event of its output waits. -/
def execStationPulseEnd (k : StnKey) (output : BitVec 16) (now : BitVec 32) (s : State) : Result :=
  .next (s.mod fun m =>
    let x := m.stn k
    match x.pulses.find? fun p => p.output = output.toNat ∧ diff32 p.at_ now.toNat ≤ 0 ∧ !x.earlier p.output p.at_ p.order with
    | none => m
    | some p => m.setStn k (({ x with pulses := x.pulses.filter (· ≠ p) }).drive p.output false))

/-! ### Configuration and enumeration (R228, R229, R238) -/

namespace Station

/-- A complete configuration (R229, R238): pending, or active at once; an identical second copy changes
nothing. -/
def configured (x : Station) (pend : Bool) (c : StnCfg) : Station :=
  let x := { x with part := none }
  if pend then { x with pend := some c }
  else if x.cfg = some c then x
  else { x.activate c with pend := none, sawPend := false }

/-- A configure telegram for this entry (R229): its parts are gathered in order. -/
def config (x : Station) (t : Tel) : Station :=
  let p := t.payload
  let pend := fieldAt p 13 1 = 1
  let fb := p.drop 88
  let head : StnCfg := ⟨fieldAt p 4 4, fieldAt p 8 4, fieldAt p 12 1, fieldAt p 16 4, (p.drop 24).take 64, []⟩
  let so : List Byte := match x.part with
    | some (q, c) => if t.index ≠ 0 ∧ q = pend ∧ { c with fb := [] } = head then c.fb else []
    | none => []
  if so.length ≠ t.ofs then x
  else
    let c := { head with fb := so ++ fb }
    if t.flags.testBit 2 then x.configured pend c else { x with part := some (pend, c) }

/-- STATE of an identity record (R228) for the GEN of an enumerate telegram. -/
def enumState (x : Station) (gen : Nat) : Nat :=
  match x.cfg with
  | none => 0
  | some c => if c.gen16 = gen then (if x.pend.isSome then 2 else 1) else 3

end Station

/-- The bytes of an identity record (R228). -/
def idBytes (r : IdRec) (state : Nat) : List Byte :=
  leBytes 4 r.path.toNat ++ leBytes 2 r.vendor.toNat ++ leBytes 2 r.product.toNat ++ leBytes 2 r.revision.toNat ++
  leBytes 1 r.kind.toNat ++ leBytes 1 state ++ leBytes 4 r.serial.toNat

namespace Mach

/-- The identity group of a direct entry (R228). -/
def idGroup (m : Mach) (k : StnKey) (gen : Nat) (recs : List IdRec) : List Byte :=
  recs.flatMap fun r => idBytes r ((m.stn { k with path := r.path }).enumState gen)

/-- An enumerate telegram passes a direct entry (R228). It is no telegram that R238 discards for its
generation, since STATE reports a stale one. -/
def enumPass (m : Mach) (k : StnKey) (f : List Byte) (recs : List IdRec) : Mach :=
  if keyDirect k = false then m else
  match Tel.ofBytes f with
  | none => m.discard k f
  | some t =>
    if t.type ≠ 5 ∨ t.payload.length < 4 then m.pass k t f else
    let hop := fieldAt t.payload 0 1
    let first := fieldAt t.payload 1 1
    let full := fieldAt t.payload 2 1
    let group := m.idGroup k t.gen recs
    let fits := decide (t.payload.length + group.length ≤ 1024)
    let full := if first ≤ hop ∧ !fits ∧ full = 0xFF then hop else full
    let pay := leBytes 1 (hop + 1) ++ leBytes 1 first ++ leBytes 1 full ++ leBytes 1 0 ++ t.payload.drop 4 ++
      (if first ≤ hop ∧ fits then group else [])
    m.pass k t ({ t with payload := pay } : Tel).bytes

/-- A configure telegram at an entry (R216, R229). -/
def configRecv (m : Mach) (k : StnKey) (f : List Byte) : Mach :=
  match Tel.ofBytes f with
  | none => m.discard k f
  | some t =>
    let m := if t.type = 6 ∧ 88 ≤ t.payload.length ∧ fieldAt t.payload 0 4 = k.path.toNat then
        m.setStn k ((m.stn k).config t) else m
    m.pass k t f

/-- A Sync at an entry (R295 to R297): it goes on with the residence time and the delay of its link, and
the entry synchronises to it, or to an echo when no primary Sync has come for 4 intervals. -/
def syncRecv (m : Mach) (k : StnKey) (f : List Byte) (residence delay : Nat) (within : Bool) : Mach :=
  match Tel.ofBytes f with
  | none => m.discard k f
  | some t =>
    if t.type ≠ 7 ∨ fieldAt t.payload 0 1 % 16 ≠ 0 then m.pass k t f else
    let x := m.stn k
    let echo := t.flags.testBit 1
    let x := if echo && !x.primQuiet then x
      else { x with unsync := !within, primQuiet := x.primQuiet && echo }
    let corr := (beNat ((t.payload.drop 8).take 8) + 65536 * (residence + delay)) % 2 ^ 64
    (m.setStn k x).pass k t ({ t with payload := overlay t.payload 8 (beBytes 8 corr) } : Tel).bytes

end Mach

/-- STATION_CONFIGURE (R229, R238, R244): a configure frame reaches an entry. -/
def execStationConfigure (k : StnKey) (f : List Byte) (s : State) : Result :=
  .next (s.mod fun m => m.configRecv k f)

/-- STATION_ENUMERATE (R228): an enumerate frame passes a direct entry, which answers with the identities of
its group. -/
def execStationEnumerate (k : StnKey) (f : List Byte) (recs : List IdRec) (s : State) : Result :=
  .next (s.mod fun m => m.enumPass k f recs)

/-- STATION_SYNC (R295 to R297): a Sync frame reaches an entry; the operands are its residence time and the
delay of the link it came by in ns, and whether the offset estimate then lies within 250 ns. -/
def execStationSync (k : StnKey) (f : List Byte) (residence delay : BitVec 32) (within : Bool) (s : State) : Result :=
  .next (s.mod fun m => m.syncRecv k f residence.toNat delay.toNat within)

/-- STATION_SYNC_TIMEOUT (R296, R297): an entry has taken no Sync for 4 Sync intervals. -/
def execStationSyncTimeout (k : StnKey) (s : State) : Result :=
  .next (s.mod fun m => m.setStn k { m.stn k with unsync := true, primQuiet := true })

end Sys2Proof.Machine
end

