-- ==== Sys2Proof/Machine/Sys.lean ====
section
/-! DEFINITION. The SYS-format instructions: calls (R79 to R83, R130), slices (R131), slice
information (R69, R109), accessions (R143 to R146), Deadline Engine requests (R147 to R153), the
fence and the breakpoint (R154, R155), and the reserved words (R111). -/

namespace Sys2Proof.Machine

/-! ### Calls -/

/-- The words of the call record (R82). -/
def callWord (c : Core) (i : Nat) : Nat :=
  match i with
  | 0 => c.pc.toNat + 4
  | 1 => (c.rd 30).toNat
  | 2 => c.unit.toNat + c.c.toNat / 2 * 2 * 2 ^ 16 + b2n c.sys * 2 ^ 24
  | _ => 0

/-- The own part of a call (R81): the unit table entry is read, the checks follow in their order,
the call record is written with system rights. -/
def ucallBody (cl : Nat) (f : BitVec 5) (unit : Core → Nat) (m : Mach) (t : Tri) (lead : Core) : StepOut :=
  let pc := lead.pc.toNat
  let (acc, bad, m) := m.voted cl pc t fun c =>
    if unit c < m.prog.units then some ⟨BitVec.ofNat 64 (m.unitAt (unit c)), 0⟩ else none
  match bad, acc with
  | true, _ => { m := m, cost := 12, res := .fault }
  | false, none => { m := m, cost := 12, res := .exc 14 }
  | false, some q =>
    let ua := q.addr.toNat
    let u := (ua - m.prog.unitBase) / 16
    let (corr, unc, m) := m.eccRead ua 16 cl
    let lead := m.lead cl t
    let entry := m.mem.ldN ua 4
    let fsize := m.mem.ldN (ua + 4) 4
    let sys := (m.mem.ldN (ua + 8) 1).testBit 0
    let gate := (m.mem.ldN (ua + 8) 1).testBit 1
    let frame := (lead.rd f).toNat
    let g29 := (lead.rd 29).toNat
    let floor := match (m.kiln cl).slice with
      | some sl => (m.taskEnt sl.task).floor
      | none => 0
    let exc (code : Nat) : StepOut := { m := m, corr := corr, cost := 12, res := .exc code }
    if unc then exc 15
    else if !inData entry || decide (entry % 4 ≠ 0) then exc 14
    else if decide (0 < fsize) && (decide (frame % 64 ≠ 0) || decide (0x017E0000 < frame + fsize)) then exc 14
    else if !lead.sys && sys && !gate then exc 10
    else if g29 < floor + 32 then exc 12
    else
      let (e, m) := m.blockCheck cl (g29 - 32) 32 1 true
      match e with
      | some code => { m := m, corr := corr, cost := 12, res := .exc code }
      | none =>
        let (ws, bad, m) := m.voteWords cl pc t 4 fun c i =>
          some ⟨c.rd 29 - 32 + BitVec.ofNat 64 (8 * i), BitVec.ofNat 64 (callWord c i)⟩
        let (e, m) := m.writeWords cl true ws
        { m := m, corr := corr, cost := 12, res :=
          if bad then .fault else match e with
          | some code => .exc code
          | none => .ok fun c =>
            let c1 := (c.wr 29 (c.rd 29 - 32)).wr 30 (c.rd f)
            { core := { c1 with pc := BitVec.ofNat 32 entry, sys := sys, unit := BitVec.ofNat 16 u }
              addr := (c.rd 29 - 32).setWidth 32 } }

/-- UCALL (R81, R109): calls the unit that the word names. -/
def execUcall (cl : ClusterId) (f : BitVec 5) (unit : BitVec 16) (s : State) : Result :=
  .next (execInstr cl false false (ucallBody cl f fun _ => unit.toNat) s)

/-- UCALLR (R81, R109): calls the unit in g[u]. -/
def execUcallr (cl : ClusterId) (f u : BitVec 5) (s : State) : Result :=
  .next (execInstr cl false false (ucallBody cl f fun c => (c.rd u).toNat) s)

/-- The own part of URET (R83): the record at g29 is read with system rights, checked, and
restored. -/
def uretBody (cl : Nat) (m : Mach) (t : Tri) (lead : Core) : StepOut :=
  let top := match (m.kiln cl).slice with
    | some sl => (m.taskEnt sl.task).top
    | none => 0
  let (acc, bad, m) := m.voted cl lead.pc.toNat t fun c =>
    if (c.rd 29).toNat < top then some ⟨c.rd 29, 0⟩ else none
  match bad, acc with
  | true, _ => { m := m, cost := 10, res := .fault }
  | false, none => { m := m, cost := 10, res := .exc 13 }
  | false, some q =>
    let a := q.addr.toNat
    let (e, m) := m.blockCheck cl a 32 0 true
    match e with
    | some code => { m := m, cost := 10, res := .exc code }
    | none =>
      let addrs := [a, a + 8, a + 16, a + 24]
      let (corr, unc, m) := m.readWords cl addrs
      if unc then { m := m, corr := corr, cost := 10, res := .exc 15 }
      else
        let w (i : Nat) : Nat := m.mem.ldN (readAddr cl (a + 8 * i)) 8
        match targetCheck (w 0) with
        | some code => { m := m, corr := corr, cost := 10, res := .exc code }
        | none => { m := m, corr := corr, cost := 10, res := .ok fun c =>
            let c1 := ((c.wr 30 (BitVec.ofNat 64 (w 1))).wr 29 (c.rd 29 + 32)).wrCs
              (BitVec.ofNat 8 (bits (w 2) 23 16))
            { core := { c1 with
                pc := BitVec.ofNat 32 (w 0)
                sys := bitOf (w 2) 24
                unit := BitVec.ofNat 16 (w 2) }
              addr := (c.rd 29).setWidth 32 } }

/-- URET (R83, R130): returns to the caller. -/
def execUret (cl : ClusterId) (s : State) : Result := .next (execInstr cl false false (uretBody cl) s)

/-- SLICE (R45, R131): ends the slice at any call depth. -/
def execSlice (cl : ClusterId) (s : State) : Result :=
  .next (execInstr cl false false (fun m _ _ => { m := m, cost := 2, res := .endSlice }) s)

/-- The items of SINF (R69, R109). -/
def sinfItem (m : Mach) (cl item : Nat) : Nat :=
  match item with
  | 0 => m.tickNo
  | 1 => m.tick.start
  | 2 => match (m.kiln cl).slice with
    | some sl => sl.task % 16 + sl.idx % 256 * 16 + cl * 2 ^ 12
    | none => 0
  | _ => m.tickNs

/-- SINF (R69, R109, R132): items 4 to 7 are reserved. -/
def execSinf (cl : ClusterId) (d : BitVec 5) (item : BitVec 3) (s : State) : Result :=
  .next (execInstr cl (decide (4 ≤ item.toNat)) false (fun m t lead =>
    pureStep 2 (effG d fun _ => BitVec.ofNat 64 (sinfItem m cl item.toNat)) m t lead) s)

/-! ### Accessions -/

/-- The effect of an instruction that writes a status to g[d] (R156); `addr` is the address of its
block or buffer. -/
def effStatus (d : BitVec 5) (status : Nat) (addr : Core → BitVec 32) (c : Core) : Eff :=
  { core := (c.wr d (BitVec.ofNat 64 status)).next, val := BitVec.ofNat 64 status, addr := addr c }

/-- The own part of ACQ (R143): the whole buffer is checked even when nothing remains. -/
def acqBody (cl : Nat) (d a : BitVec 5) (m : Mach) (t : Tri) (lead : Core) : StepOut :=
  let (acc, bad, m) := m.voted cl lead.pc.toNat t fun c => some ⟨c.rd a, 0⟩
  match bad, acc with
  | false, some q =>
    let b := q.addr.toNat
    let (e, m) := m.blockCheck cl b 288 1 (m.lead cl t).sys
    let eff (st : Nat) : StepRes := .ok (effStatus d st fun c => (c.rd a).setWidth 32)
    match e with
    | some code => { m := m, cost := 96, res := .exc code }
    | none =>
      match m.toFetch cl with
      | none => { m := m, cost := 96, res := eff 1 }
      | some n =>
        let bs := m.acqBytes n
        if m.deltaFull (m.newGranules b bs.length) then { m := m, cost := 96, res := .exc 2 }
        else { m := (m.kilnStore cl b bs).fetchAcc cl n, cost := 96, res := eff 0 }
  | _, _ => { m := m, cost := 96, res := .fault }

/-- ACQ (R143 to R145): fetches the next accession of the delivery set. -/
def execAcq (cl : ClusterId) (d a : BitVec 5) (s : State) : Result :=
  .next (execInstr cl false false (acqBody cl d a) s)

/-- The own part of ACMP (R146): number and code are voted. -/
def acmpBody (cl : Nat) (d a b : BitVec 5) (m : Mach) (t : Tri) (lead : Core) : StepOut :=
  let (acc, bad, m) := m.voted cl lead.pc.toNat t fun c => some ⟨c.rd a, (c.rd b) &&& 0xFFFFFFFF⟩
  match acc with
  | none => { m := m, cost := 16, res := .fault }
  | some q =>
    let n := q.addr.toNat
    let st := m.acmpStatus cl n
    let m := if st = 0 then m.modKiln cl fun k => { k with comps := k.comps ++ [(n % 65536, q.data.toNat)] } else m
    { m := m, cost := 16, res := if bad then .fault else .ok (effStatus d st fun _ => 0) }

/-- ACMP (R146): records a completion. -/
def execAcmp (cl : ClusterId) (d a b : BitVec 5) (s : State) : Result :=
  .next (execInstr cl false false (acmpBody cl d a b) s)

/-! ### Deadline Engine requests -/

/-- The little-endian field of `n` bytes at offset `o` of a block. -/
def fieldOf (bs : List Byte) (o n : Nat) : Nat := leNat ((bs.drop o).take n)

/-- A TACT block that breaks a rule of R149 (R153, order 1). -/
def tactBad (b : List Byte) : Bool :=
  let kind := fieldOf b 8 1
  decide (2 < kind) || decide (2 < fieldOf b 9 1) || decide (4095 < fieldOf b 4 2) ||
  decide (65535 < fieldOf b 12 4) || (decide (kind ≠ 1) && decide (fieldOf b 12 4 ≠ 0)) ||
  (decide (kind = 2) && decide (fieldOf b 16 8 ≠ 0)) ||
  decide (1 < fieldOf b 24 1) || decide (fieldOf b 25 7 ≠ 0)

/-- A TRKU block that breaks a rule of R150 (R153, order 1). -/
def trkuBad (b : List Byte) : Bool :=
  let op := fieldOf b 4 1
  decide (65535 < fieldOf b 0 4) || decide (2 < op) || decide (fieldOf b 5 1 ≠ 0) ||
  decide (1023 < fieldOf b 6 2) || decide (fieldOf b 28 4 ≠ 0) ||
  (decide (op = 2) && (decide (fieldOf b 6 2 ≠ 0) || decide (fieldOf b 8 8 ≠ 0) || decide (fieldOf b 16 8 ≠ 0)))

/-- A TRKQ request that breaks a rule of R151 (R153, order 1). -/
def trkqBad (b : List Byte) : Bool :=
  let kind := fieldOf b 4 1
  decide (2 < kind) || decide (fieldOf b 5 3 ≠ 0) || decide (fieldOf b 12 4 ≠ 0) ||
  (decide (kind = 0) && decide (65535 < fieldOf b 0 4))

/-- The status of a request that passed its checks, before it is queued or collected (R153). -/
def requestStatus (op : ReqOp) (b : List Byte) (queued : Nat) : Nat :=
  match op with
  | .tact =>
    if tactBad b then 5
    else if fieldOf b 9 1 = 2 ∧ fieldOf b 10 2 = 0 then 6
    else if 1024 ≤ queued then 2 else 0
  | .trku => if trkuBad b then 5 else if 1024 ≤ queued then 2 else 0
  | .trkq =>
    if trkqBad b then 5
    else if fieldOf b 4 1 = 2 then 0
    else if 1024 ≤ queued then 2 else 0

/-- The 48 bytes of a result area (R151). -/
def QueryResult.bytes (r : QueryResult) : List Byte :=
  leBytes 4 r.qtag ++ leBytes 1 r.kind ++ leBytes 1 r.outcome ++ leBytes 2 0 ++ leBytes 4 r.key ++
  leBytes 4 r.tag ++ leBytes 8 r.value ++ leBytes 8 r.speed ++ leBytes 8 r.time ++ leBytes 8 0

/-- The own part of TACT, TRKU and TRKQ (R147, R148, R152, R153): the block is checked and read
whole, then refused, queued, or answered with the next result. -/
def requestBody (cl : Nat) (op : ReqOp) (d a : BitVec 5) (m : Mach) (t : Tri) (lead : Core) : StepOut :=
  let cost := if op = .trkq then 24 else 20
  let size := if op = .trkq then 64 else 32
  let (acc, bad, m) := m.voted cl lead.pc.toNat t fun c => some ⟨c.rd a, 0⟩
  match bad, acc with
  | false, some q =>
    let b := q.addr.toNat
    let priv := (m.lead cl t).sys
    let (e, m) := m.blockCheck cl b size 0 priv
    match e with
    | some code => { m := m, cost := cost, res := .exc code }
    | none =>
      let addrs := (countFrom 0 (size / 8)).map fun i => b + 8 * i
      let (corr, unc, m) := m.readWords cl addrs
      let blk := addrs.flatMap fun x => m.mem.ldBytes (readAddr cl x) 8
      let collect := decide (op = .trkq) && decide (fieldOf blk 4 1 = 2)
      let eff (st : Nat) : StepRes := .ok (effStatus d st fun c => (c.rd a).setWidth 32)
      if unc then { m := m, corr := corr, cost := cost, res := .exc 15 }
      else
        let (e, m) := if collect then m.blockCheck cl (b + 16) 48 1 priv else (none, m)
        match e with
        | some code => { m := m, corr := corr, cost := cost, res := .exc code }
        | none =>
          let k := m.kiln cl
          let st := requestStatus op blk k.queue.length
          if st ≠ 0 then { m := m, corr := corr, cost := cost, res := eff st }
          else if !collect then
            { m := m.modKiln cl fun k => { k with queue := k.queue ++ [⟨op, blk⟩] }
              corr := corr, cost := cost, res := eff 0 }
          else match k.results with
            | [] => { m := m, corr := corr, cost := cost, res := eff 1 }
            | r :: rest =>
              if m.deltaFull (m.newGranules (b + 16) 48) then { m := m, corr := corr, cost := cost, res := .exc 2 }
              else
                { m := (m.kilnStore cl (b + 16) r.bytes).modKiln cl fun k => { k with results := rest }
                  corr := corr, cost := cost, res := eff 0 }
  | _, _ => { m := m, cost := cost, res := .fault }

/-- A Deadline Engine request. -/
def request (cl : ClusterId) (op : ReqOp) (d a : BitVec 5) (s : State) : Result :=
  .next (execInstr cl false false (requestBody cl op d a) s)

/-- TACT, KIND AT_TIME (R149): the block's KIND byte selects the form. -/
def execTactAtTime (cl : ClusterId) (d a : BitVec 5) (s : State) : Result := request cl .tact d a s

/-- TACT, KIND AT_POSITION (R149): the block's KIND byte selects the form. -/
def execTactAtPosition (cl : ClusterId) (d a : BitVec 5) (s : State) : Result := request cl .tact d a s

/-- TACT, KIND CANCEL (R149): the block's KIND byte selects the form. -/
def execTactCancel (cl : ClusterId) (d a : BitVec 5) (s : State) : Result := request cl .tact d a s

/-- TRKU, OP CREATE (R150): the block's OP byte selects the form. -/
def execTrkuCreate (cl : ClusterId) (d a : BitVec 5) (s : State) : Result := request cl .trku d a s

/-- TRKU, OP CORRECT (R150): the block's OP byte selects the form. -/
def execTrkuCorrect (cl : ClusterId) (d a : BitVec 5) (s : State) : Result := request cl .trku d a s

/-- TRKU, OP RELEASE (R150): the block's OP byte selects the form. -/
def execTrkuRelease (cl : ClusterId) (d a : BitVec 5) (s : State) : Result := request cl .trku d a s

/-- TRKQ, KIND track query (R151): the block's KIND byte selects the form. -/
def execTrkqTrackQuery (cl : ClusterId) (d a : BitVec 5) (s : State) : Result := request cl .trkq d a s

/-- TRKQ, KIND action query (R151): the block's KIND byte selects the form. -/
def execTrkqActionQuery (cl : ClusterId) (d a : BitVec 5) (s : State) : Result := request cl .trkq d a s

/-- TRKQ, KIND collect (R151): the block's KIND byte selects the form. -/
def execTrkqCollect (cl : ClusterId) (d a : BitVec 5) (s : State) : Result := request cl .trkq d a s

/-! ### Fence, breakpoint, reserved words -/

/-- MSYNC (R110, R154): system-only; every access of the model has completed before it. -/
def execMsync (cl : ClusterId) (s : State) : Result :=
  .next (execInstr cl false true (pureStep 48 fun c => { core := c.next }) s)

/-- BRK (R155, R180): stops the cluster in BENCH with a session attached and breakpoints enabled;
otherwise it has no effect beyond its cycles. -/
def execBrk (cl : ClusterId) (code : BitVec 16) (s : State) : Result :=
  .next (execInstr cl false false (fun m t lead =>
    let m := if decide (m.mode = 3) && m.bit (KLN_DBGCTL cl) 0 && m.bit (KLN_DBGCTL cl) 1 then
        (m.wr (KLN_DBGSTAT cl) (code.toNat * 2 ^ 16 + m.fld (KLN_DBGSTAT cl) 3 3 * 8 + 1)).modKiln cl
          fun k => { k with stepping := false }
      else m
    pureStep 2 (fun c => { core := c.next }) m t lead) s)

/-- An RR word whose shape gives the use of its three fields. -/
def rrShape (d a b : FieldUse) (w : Nat) : Bool :=
  (decide (bits w 10 8 = 0) && w.testBit 7) || d.bad (BitVec.ofNat 5 (bits w 25 21)) ||
  a.bad (BitVec.ofNat 5 (bits w 20 16)) || b.bad (BitVec.ofNat 5 (bits w 15 11))

/-- Whether an ALU, CND, FPD, FPS or IMGR word is reserved (R103 to R105, R107). -/
def rrWordReserved (op w : Nat) : Bool :=
  let f := bits w 6 0
  match op with
  | 1 =>
    if [0x0F, 0x1F].contains f || (decide (0x24 ≤ f) && decide (f ≤ 0x27)) ||
        (decide (0x2C ≤ f) && decide (f ≤ 0x2F)) || decide (0x36 ≤ f) && decide (f ≠ 0x38) then true
    else if f = 0x38 then rrShape .zero .greg .zero w
    else if 0x28 ≤ f then rrShape .greg .greg .zero w
    else rrShape .greg .greg .greg w
  | 2 =>
    if f ≤ 6 then rrShape .cond .greg .greg w
    else if 8 ≤ f ∧ f ≤ 12 then rrShape .cond .cond .cond w
    else if f = 13 then rrShape .cond .cond .zero w
    else if f = 16 then rrShape .greg .zero .zero w
    else if f = 17 then rrShape .zero .greg .zero w
    else true
  | 5 =>
    decide (bits f 6 5 = 3) ||
    (if f.testBit 4 then (f.testBit 3 && f.testBit 2) || rrShape .greg .greg .zero w
     else decide (5 < bits f 3 0) || rrShape .cond .greg .zero w)
  | _ =>
    if f = 4 ∨ f = 8 ∨ f = 9 ∨ (0x18 ≤ f ∧ f ≤ 0x1C) then rrShape .greg .greg .zero w
    else if f < 8 ∨ f = 10 then rrShape .greg .greg .greg w
    else if 0x10 ≤ f ∧ f ≤ 0x13 then rrShape .cond .greg .greg w
    else if f = 0x20 ∧ op = 3 then rrShape .greg .zero .zero w
    else if f = 0x21 ∧ op = 3 then rrShape .zero .zero .zero w
    else true

/-- Whether an instruction word is reserved (R111). -/
def wordReserved (w : Nat) : Bool :=
  let op := bits w 31 26
  if [0x00, 0x07, 0x1F, 0x27, 0x3D, 0x3E, 0x3F].contains op then true
  else if op ≤ 5 then rrWordReserved op w
  else match op with
    | 0x06 => decide (bits w 25 22 = 0)
    | 0x0D => decide (bits w 15 9 ≠ 0)
    | 0x10 => decide (bits w 25 24 ≠ 0)
    | 0x11 => decide (bits w 25 24 ≠ 0)
    | 0x12 => decide (bits w 25 24 ≠ 0)
    | 0x13 => decide (bits w 20 16 ≠ 0)
    | 0x14 => decide (bits w 15 0 ≠ 0)
    | 0x15 => decide (bits w 25 0 ≠ 0)
    | 0x16 => decide (bits w 25 0 ≠ 0)
    | 0x17 => decide (bits w 20 2 ≠ 0)
    | 0x24 => decide (bits w 22 21 = 3)
    | 0x25 => decide (bits w 22 21 = 3)
    | 0x36 => decide (bits w 15 0 ≠ 0)
    | 0x37 => decide (bits w 10 0 ≠ 0)
    | 0x38 => decide (bits w 15 0 ≠ 0)
    | 0x39 => decide (bits w 15 0 ≠ 0)
    | 0x3A => decide (bits w 15 0 ≠ 0)
    | 0x3B => decide (bits w 25 0 ≠ 0)
    | 0x3C => decide (bits w 25 16 ≠ 0)
    | _ => false

/-- A reserved word fetched for execution (R111): ILLEGAL. A word that is not reserved is another
row's instruction, and this command has no effect with it. -/
def execIllegalEncoding (cl : ClusterId) (w : BitVec 32) (s : State) : Result :=
  .next (if wordReserved w.toNat then
    execInstr cl true false (fun m _ _ => { m := m, cost := 1, res := .exc 9 }) s else s)

end Sys2Proof.Machine
end

