-- ==== Sys2Proof/Machine/Dispatch.lean ====
section
/-! DEFINITION. The meaning of each command: one arm for each constructor of `Instr`. -/

namespace Sys2Proof.Machine

/-- The effect of a command on everything but the queue of waiting commands. -/
def exec (i : Instr) (s : State) : Host.Outcome State Fault Refusal :=
  match i with
  | .powerOnReset env => Sys2Proof.Machine.execPowerOnReset env s
  | .backplaneReset => Sys2Proof.Machine.execBackplaneReset s
  | .watchdogExpiry env => Sys2Proof.Machine.execWatchdogExpiry env s
  | .wdkick key w env => Sys2Proof.Machine.execWdkick key w env s
  | .moduleSoftwareReset key go w env => Sys2Proof.Machine.execModuleSoftwareReset key go w env s
  | .kilnClusterReset w key sel => Sys2Proof.Machine.execKilnClusterReset w key sel s
  | .seedingComplete env => Sys2Proof.Machine.execSeedingComplete env s
  | .claimWaitExpiry => Sys2Proof.Machine.execClaimWaitExpiry s
  | .tickBoundary mis => Sys2Proof.Machine.execTickBoundary mis s
  | .rebuildResult cl r => Sys2Proof.Machine.execRebuildResult cl r s
  | .detectOnly cl => Sys2Proof.Machine.execDetectOnly cl s
  | .roleSamplePoint own part => Sys2Proof.Machine.execRoleSamplePoint own part s
  | .keeperRelease => Sys2Proof.Machine.execKeeperRelease s
  | .roleLost => Sys2Proof.Machine.execRoleLost s
  | .roleContention => Sys2Proof.Machine.execRoleContention s
  | .collectorReceive p f => Sys2Proof.Machine.execCollectorReceive p f s
  | .inputClose => Sys2Proof.Machine.execInputClose s
  | .inputMessage f ready ofs => Sys2Proof.Machine.execInputMessage f ready ofs s
  | .fillMessage f => Sys2Proof.Machine.execFillMessage f s
  | .fillDeadline => Sys2Proof.Machine.execFillDeadline s
  | .partnerLinkLost => Sys2Proof.Machine.execPartnerLinkLost s
  | .deltaMessage f => Sys2Proof.Machine.execDeltaMessage f s
  | .finalMessage f => Sys2Proof.Machine.execFinalMessage f s
  | .adoptionDeadline => Sys2Proof.Machine.execAdoptionDeadline s
  | .firingStart mis => Sys2Proof.Machine.execFiringStart mis s
  | .axisLost a => Sys2Proof.Machine.execAxisLost a s
  | .sliceBudget cl => Sys2Proof.Machine.execSliceBudget cl s
  | .windowClose cl => Sys2Proof.Machine.execWindowClose cl s
  | .signatureComparison cl x0 x1 x2 pairMis chainErr => Sys2Proof.Machine.execSignatureComparison cl x0 x1 x2 pairMis chainErr s
  | .actionEmit mis => Sys2Proof.Machine.execActionEmit mis s
  | .recordFree r => Sys2Proof.Machine.execRecordFree r s
  | .firingEnd => Sys2Proof.Machine.execFiringEnd s
  | .outputDeadline t => Sys2Proof.Machine.execOutputDeadline t s
  | .overrunLimit => Sys2Proof.Machine.execOverrunLimit s
  | .roleGateTest released => Sys2Proof.Machine.execRoleGateTest released s
  | .moduleApplyInstant => Sys2Proof.Machine.execModuleApplyInstant s
  | .lioFallback partnerReleased => Sys2Proof.Machine.execLioFallback partnerReleased s
  | .scheduleFire ch => Sys2Proof.Machine.execScheduleFire ch s
  | .pulseEnd ch => Sys2Proof.Machine.execPulseEnd ch s
  | .edgeAccept ch level raw => Sys2Proof.Machine.execEdgeAccept ch level raw s
  | .shortDetect ch => Sys2Proof.Machine.execShortDetect ch s
  | .openloadDetect ch => Sys2Proof.Machine.execOpenloadDetect ch s
  | .foreignDetect ch => Sys2Proof.Machine.execForeignDetect ch s
  | .shortClear ch => Sys2Proof.Machine.execShortClear ch s
  | .canFrameReceive p f => Sys2Proof.Machine.execCanFrameReceive p f s
  | .canFrameTransmitted p time => Sys2Proof.Machine.execCanFrameTransmitted p time s
  | .canTxError p error => Sys2Proof.Machine.execCanTxError p error s
  | .canBusoff p => Sys2Proof.Machine.execCanBusoff p s
  | .canRecover p => Sys2Proof.Machine.execCanRecover p s
  | .canRecovered p => Sys2Proof.Machine.execCanRecovered p s
  | .stationSample k west east io data => Sys2Proof.Machine.execStationSample k west east io data s
  | .collectorInsert k f => Sys2Proof.Machine.execCollectorInsert k f s
  | .collectorOriginate o => Sys2Proof.Machine.execCollectorOriginate o s
  | .stationOutputReceive k f now => Sys2Proof.Machine.execStationOutputReceive k f now s
  | .stationActionReceive k f now => Sys2Proof.Machine.execStationActionReceive k f now s
  | .stationApply k t => Sys2Proof.Machine.execStationApply k t s
  | .stationFallback k => Sys2Proof.Machine.execStationFallback k s
  | .stationActionFire k aid now => Sys2Proof.Machine.execStationActionFire k aid now s
  | .stationPulseEnd k output now => Sys2Proof.Machine.execStationPulseEnd k output now s
  | .stationConfigure k f => Sys2Proof.Machine.execStationConfigure k f s
  | .stationEnumerate k f recs => Sys2Proof.Machine.execStationEnumerate k f recs s
  | .stationSync k f residence delay within => Sys2Proof.Machine.execStationSync k f residence delay within s
  | .enumerateReceive p f => Sys2Proof.Machine.execEnumerateReceive p f s
  | .enumeratePeriodic p => Sys2Proof.Machine.execEnumeratePeriodic p s
  | .enumreq p w => Sys2Proof.Machine.execEnumreq p w s
  | .ringStateChange p st link => Sys2Proof.Machine.execRingStateChange p st link s
  | .captureGo p w => Sys2Proof.Machine.execCaptureGo p w s
  | .captureFull p => Sys2Proof.Machine.execCaptureFull p s
  | .gexiaSync p seqid origin corr => Sys2Proof.Machine.execGexiaSync p seqid origin corr s
  | .pdelayMeasure p delay => Sys2Proof.Machine.execPdelayMeasure p delay s
  | .ptpMessage port sent mtype seqid time => Sys2Proof.Machine.execPtpMessage port sent mtype seqid time s
  | .ptpLockChange lock time => Sys2Proof.Machine.execPtpLockChange lock time s
  | .ptpWaitExpiry => Sys2Proof.Machine.execPtpWaitExpiry s
  | .timeSet ptp => Sys2Proof.Machine.execTimeSet ptp s
  | .timeStep => Sys2Proof.Machine.execTimeStep s
  | .addendWrite hi w => Sys2Proof.Machine.execAddendWrite hi w s
  | .timestampPop => Sys2Proof.Machine.execTimestampPop s
  | .pairTimeLimit => Sys2Proof.Machine.execPairTimeLimit s
  | .timeokLimit => Sys2Proof.Machine.execTimeokLimit s
  | .ppsPulse => Sys2Proof.Machine.execPpsPulse s
  | .rtcSecond => Sys2Proof.Machine.execRtcSecond s
  | .rtcTrimWindow => Sys2Proof.Machine.execRtcTrimWindow s
  | .rtcHaltSet sub => Sys2Proof.Machine.execRtcHaltSet sub s
  | .rtcRelease => Sys2Proof.Machine.execRtcRelease s
  | .rtcShadowRead r sub => Sys2Proof.Machine.execRtcShadowRead r sub s
  | .shadowRelease => Sys2Proof.Machine.execShadowRelease s
  | .alarmRearm a w => Sys2Proof.Machine.execAlarmRearm a w s
  | .vlostClear => Sys2Proof.Machine.execVlostClear s
  | .backupSupplyLost => Sys2Proof.Machine.execBackupSupplyLost s
  | .actdigMessage f => Sys2Proof.Machine.execActdigMessage f s
  | .outdigMessage f => Sys2Proof.Machine.execOutdigMessage f s
  | .digestTimeout => Sys2Proof.Machine.execDigestTimeout s
  | .rejoinLimit => Sys2Proof.Machine.execRejoinLimit s
  | .noticeMessage f => Sys2Proof.Machine.execNoticeMessage f s
  | .commitMessage f => Sys2Proof.Machine.execCommitMessage f s
  | .confirmMessage f => Sys2Proof.Machine.execConfirmMessage f s
  | .orderMessage f => Sys2Proof.Machine.execOrderMessage f s
  | .orderackMessage f => Sys2Proof.Machine.execOrderackMessage f s
  | .imageMessage f => Sys2Proof.Machine.execImageMessage f s
  | .forceMessage f => Sys2Proof.Machine.execForceMessage f s
  | .sessionMessage f => Sys2Proof.Machine.execSessionMessage f s
  | .outblkMessage f => Sys2Proof.Machine.execOutblkMessage f s
  | .reqMessage f => Sys2Proof.Machine.execReqMessage f s
  | .reqAnswer f => Sys2Proof.Machine.execReqAnswer f s
  | .reqRetry => Sys2Proof.Machine.execReqRetry s
  | .pageMessage f => Sys2Proof.Machine.execPageMessage f s
  | .mirrorMessage f => Sys2Proof.Machine.execMirrorMessage f s
  | .resyncPassEnd => Sys2Proof.Machine.execResyncPassEnd s
  | .cutMessage f => Sys2Proof.Machine.execCutMessage f s
  | .lackMessage f => Sys2Proof.Machine.execLackMessage f s
  | .frameResendTimeout cls mseq => Sys2Proof.Machine.execFrameResendTimeout cls mseq s
  | .linkLane lane => Sys2Proof.Machine.execLinkLane lane s
  | .swap w => Sys2Proof.Machine.execSwap w s
  | .maintenanceSwap => Sys2Proof.Machine.execMaintenanceSwap s
  | .rsreq w => Sys2Proof.Machine.execRsreq w s
  | .claim w => Sys2Proof.Machine.execClaim w s
  | .rsabort w => Sys2Proof.Machine.execRsabort w s
  | .hostOrder p h => Sys2Proof.Machine.execHostOrder p h s
  | .orderAckDeadline => Sys2Proof.Machine.execOrderAckDeadline s
  | .hostCack p h => Sys2Proof.Machine.execHostCack p h s
  | .hostQuery p h => Sys2Proof.Machine.execHostQuery p h s
  | .completeRetry n => Sys2Proof.Machine.execCompleteRetry n s
  | .clientStateWrite k data key => Sys2Proof.Machine.execClientStateWrite k data key s
  | .imageLoad img cat => Sys2Proof.Machine.execImageLoad img cat s
  | .onlineChange img cat => Sys2Proof.Machine.execOnlineChange img cat s
  | .stagingComplete => Sys2Proof.Machine.execStagingComplete s
  | .onlineChangeSwitch => Sys2Proof.Machine.execOnlineChangeSwitch s
  | .warmRestart maint => Sys2Proof.Machine.execWarmRestart maint s
  | .coldRestart maint => Sys2Proof.Machine.execColdRestart maint s
  | .cancelChange => Sys2Proof.Machine.execCancelChange s
  | .restartSectionsWritten => Sys2Proof.Machine.execRestartSectionsWritten s
  | .restartFirstFiring => Sys2Proof.Machine.execRestartFirstFiring s
  | .forceWrite maint items => Sys2Proof.Machine.execForceWrite maint items s
  | .forceBatchApply => Sys2Proof.Machine.execForceBatchApply s
  | .schctlRun on w => Sys2Proof.Machine.execSchctlRun on w s
  | .schctlStep w => Sys2Proof.Machine.execSchctlStep w s
  | .tickLengthSelect len w => Sys2Proof.Machine.execTickLengthSelect len w s
  | .retry cl w => Sys2Proof.Machine.execRetry cl w s
  | .debugAttach cl on w => Sys2Proof.Machine.execDebugAttach cl on w s
  | .debugBrken cl on => Sys2Proof.Machine.execDebugBrken cl on s
  | .debugHalt cl => Sys2Proof.Machine.execDebugHalt cl s
  | .debugStep cl w => Sys2Proof.Machine.execDebugStep cl w s
  | .debugResume cl w => Sys2Proof.Machine.execDebugResume cl w s
  | .debugRegisterWrite cl t w => Sys2Proof.Machine.execDebugRegisterWrite cl t w s
  | .debugMemoryAccess inst a n data => Sys2Proof.Machine.execDebugMemoryAccess inst a n data s
  | .injectionGo cl v w observed => Sys2Proof.Machine.execInjectionGo cl v w observed s
  | .injectionTestComplete cl fail => Sys2Proof.Machine.execInjectionTestComplete cl fail s
  | .dleCmpinjGo w observed => Sys2Proof.Machine.execDleCmpinjGo w observed s
  | .mpuApply c w => Sys2Proof.Machine.execMpuApply c w s
  | .drainComplete c => Sys2Proof.Machine.execDrainComplete c s
  | .patrolScrub a => Sys2Proof.Machine.execPatrolScrub a s
  | .fullScrub w => Sys2Proof.Machine.execFullScrub w s
  | .fullScrubEnd => Sys2Proof.Machine.execFullScrubEnd s
  | .psExtend n src data => Sys2Proof.Machine.execPsExtend n src data s
  | .provenanceReport q => Sys2Proof.Machine.execProvenanceReport q s
  | .logPart q => Sys2Proof.Machine.execLogPart q s
  | .certificate q => Sys2Proof.Machine.execCertificate q s
  | .begin slot header => Sys2Proof.Machine.execBegin slot header s
  | .abort => Sys2Proof.Machine.execAbort s
  | .updateBodyComplete body => Sys2Proof.Machine.execUpdateBodyComplete body s
  | .activate slot => Sys2Proof.Machine.execActivate slot s
  | .confirm => Sys2Proof.Machine.execConfirm s
  | .recover => Sys2Proof.Machine.execRecover s
  | .disarm => Sys2Proof.Machine.execDisarm s
  | .trialAutoConfirm => Sys2Proof.Machine.execTrialAutoConfirm s
  | .trialExpiry => Sys2Proof.Machine.execTrialExpiry s
  | .recoveryDownload slot header body env => Sys2Proof.Machine.execRecoveryDownload slot header body env s
  | .configurationCommit c => Sys2Proof.Machine.execConfigurationCommit c s
  | .ledgerFlush => Sys2Proof.Machine.execLedgerFlush s
  | .ledgerHwmFlush => Sys2Proof.Machine.execLedgerHwmFlush s
  | .ledgerFlushComplete => Sys2Proof.Machine.execLedgerFlushComplete s
  | .rateWindowEnd => Sys2Proof.Machine.execRateWindowEnd s
  | .windowChange ch code => Sys2Proof.Machine.execWindowChange ch code s
  | .injectedSequence k codes running => Sys2Proof.Machine.execInjectedSequence k codes running s
  | .svaInjectGo k codes running w => Sys2Proof.Machine.execSvaInjectGo k codes running w s
  | .powerFailWarning => Sys2Proof.Machine.execPowerFailWarning s
  | .shutdownHoldEnd env => Sys2Proof.Machine.execShutdownHoldEnd env s
  | .supplyLost => Sys2Proof.Machine.execSupplyLost s
  | .holdokChange up => Sys2Proof.Machine.execHoldokChange up s
  | .admRequest w cls port => Sys2Proof.Machine.execAdmRequest w cls port s
  | .admRelease w cls port => Sys2Proof.Machine.execAdmRelease w cls port s
  | .admSliceEnd cls port => Sys2Proof.Machine.execAdmSliceEnd cls port s
  | .admOverload mw => Sys2Proof.Machine.execAdmOverload mw s
  | .admOverloadClear mw => Sys2Proof.Machine.execAdmOverloadClear mw s
  | .labelRedraw w => Sys2Proof.Machine.execLabelRedraw w s
  | .labelAbort => Sys2Proof.Machine.execLabelAbort s
  | .labelPictureWrite bs => Sys2Proof.Machine.execLabelPictureWrite bs s
  | .labelPassEnd => Sys2Proof.Machine.execLabelPassEnd s
  | .labelDeferResume => Sys2Proof.Machine.execLabelDeferResume s
  | .startWarm => Sys2Proof.Machine.execStartWarm s
  | .startCold => Sys2Proof.Machine.execStartCold s
  | .halt force => Sys2Proof.Machine.execHalt force s
  | .bench => Sys2Proof.Machine.execBench s
  | .leverOpen => Sys2Proof.Machine.execLeverOpen s
  | .presenceMated => Sys2Proof.Machine.execPresenceMated s
  | .withdrawal => Sys2Proof.Machine.execWithdrawal s
  | .registerWrite a v size w => Sys2Proof.Machine.execRegisterWrite a v size w s
  | .add cl r => Sys2Proof.Machine.execAdd cl r s
  | .sub cl r => Sys2Proof.Machine.execSub cl r s
  | .andR cl r => Sys2Proof.Machine.execAndR cl r s
  | .orR cl r => Sys2Proof.Machine.execOrR cl r s
  | .xorR cl r => Sys2Proof.Machine.execXorR cl r s
  | .andn cl r => Sys2Proof.Machine.execAndn cl r s
  | .orn cl r => Sys2Proof.Machine.execOrn cl r s
  | .xnor cl r => Sys2Proof.Machine.execXnor cl r s
  | .shl cl r => Sys2Proof.Machine.execShl cl r s
  | .shr cl r => Sys2Proof.Machine.execShr cl r s
  | .sar cl r => Sys2Proof.Machine.execSar cl r s
  | .ror cl r => Sys2Proof.Machine.execRor cl r s
  | .mul cl r => Sys2Proof.Machine.execMul cl r s
  | .mulh cl r => Sys2Proof.Machine.execMulh cl r s
  | .mulhu cl r => Sys2Proof.Machine.execMulhu cl r s
  | .div cl r => Sys2Proof.Machine.execDiv cl r s
  | .divu cl r => Sys2Proof.Machine.execDivu cl r s
  | .rem cl r => Sys2Proof.Machine.execRem cl r s
  | .remu cl r => Sys2Proof.Machine.execRemu cl r s
  | .min cl r => Sys2Proof.Machine.execMin cl r s
  | .max cl r => Sys2Proof.Machine.execMax cl r s
  | .minu cl r => Sys2Proof.Machine.execMinu cl r s
  | .maxu cl r => Sys2Proof.Machine.execMaxu cl r s
  | .addw cl r => Sys2Proof.Machine.execAddw cl r s
  | .subw cl r => Sys2Proof.Machine.execSubw cl r s
  | .shlw cl r => Sys2Proof.Machine.execShlw cl r s
  | .shrw cl r => Sys2Proof.Machine.execShrw cl r s
  | .sarw cl r => Sys2Proof.Machine.execSarw cl r s
  | .rorw cl r => Sys2Proof.Machine.execRorw cl r s
  | .mulw cl r => Sys2Proof.Machine.execMulw cl r s
  | .divw cl r => Sys2Proof.Machine.execDivw cl r s
  | .divuw cl r => Sys2Proof.Machine.execDivuw cl r s
  | .remw cl r => Sys2Proof.Machine.execRemw cl r s
  | .remuw cl r => Sys2Proof.Machine.execRemuw cl r s
  | .clz cl r => Sys2Proof.Machine.execClz cl r s
  | .ctz cl r => Sys2Proof.Machine.execCtz cl r s
  | .popc cl r => Sys2Proof.Machine.execPopc cl r s
  | .bswap cl r => Sys2Proof.Machine.execBswap cl r s
  | .sxb cl r => Sys2Proof.Machine.execSxb cl r s
  | .sxh cl r => Sys2Proof.Machine.execSxh cl r s
  | .sxw cl r => Sys2Proof.Machine.execSxw cl r s
  | .zxb cl r => Sys2Proof.Machine.execZxb cl r s
  | .zxh cl r => Sys2Proof.Machine.execZxh cl r s
  | .zxw cl r => Sys2Proof.Machine.execZxw cl r s
  | .jr cl r => Sys2Proof.Machine.execJr cl r s
  | .ceq cl r => Sys2Proof.Machine.execCeq cl r s
  | .clt cl r => Sys2Proof.Machine.execClt cl r s
  | .cltu cl r => Sys2Proof.Machine.execCltu cl r s
  | .ctst cl r => Sys2Proof.Machine.execCtst cl r s
  | .ceqw cl r => Sys2Proof.Machine.execCeqw cl r s
  | .cltw cl r => Sys2Proof.Machine.execCltw cl r s
  | .cltuw cl r => Sys2Proof.Machine.execCltuw cl r s
  | .cand cl r => Sys2Proof.Machine.execCand cl r s
  | .cor cl r => Sys2Proof.Machine.execCor cl r s
  | .cxor cl r => Sys2Proof.Machine.execCxor cl r s
  | .candn cl r => Sys2Proof.Machine.execCandn cl r s
  | .corn cl r => Sys2Proof.Machine.execCorn cl r s
  | .cnot cl r => Sys2Proof.Machine.execCnot cl r s
  | .mfc cl r => Sys2Proof.Machine.execMfc cl r s
  | .mtc cl r => Sys2Proof.Machine.execMtc cl r s
  | .fadd cl f r => Sys2Proof.Machine.execFadd cl f r s
  | .fsub cl f r => Sys2Proof.Machine.execFsub cl f r s
  | .fmul cl f r => Sys2Proof.Machine.execFmul cl f r s
  | .fdiv cl f r => Sys2Proof.Machine.execFdiv cl f r s
  | .fsqrt cl f r => Sys2Proof.Machine.execFsqrt cl f r s
  | .fmin cl f r => Sys2Proof.Machine.execFmin cl f r s
  | .fmax cl f r => Sys2Proof.Machine.execFmax cl f r s
  | .fmac cl f r => Sys2Proof.Machine.execFmac cl f r s
  | .fabs cl f r => Sys2Proof.Machine.execFabs cl f r s
  | .fneg cl f r => Sys2Proof.Machine.execFneg cl f r s
  | .fcpys cl f r => Sys2Proof.Machine.execFcpys cl f r s
  | .fceq cl f r => Sys2Proof.Machine.execFceq cl f r s
  | .fclt cl f r => Sys2Proof.Machine.execFclt cl f r s
  | .fcle cl f r => Sys2Proof.Machine.execFcle cl f r s
  | .fcun cl f r => Sys2Proof.Machine.execFcun cl f r s
  | .ftoi cl f r => Sys2Proof.Machine.execFtoi cl f r s
  | .ftou cl f r => Sys2Proof.Machine.execFtou cl f r s
  | .itof cl f r => Sys2Proof.Machine.execItof cl f r s
  | .utof cl f r => Sys2Proof.Machine.execUtof cl f r s
  | .fcvt cl f r => Sys2Proof.Machine.execFcvt cl f r s
  | .frflg cl r => Sys2Proof.Machine.execFrflg cl r s
  | .fcflg cl r => Sys2Proof.Machine.execFcflg cl r s
  | .addi cl r => Sys2Proof.Machine.execAddi cl r s
  | .addiw cl r => Sys2Proof.Machine.execAddiw cl r s
  | .andi cl r => Sys2Proof.Machine.execAndi cl r s
  | .ori cl r => Sys2Proof.Machine.execOri cl r s
  | .xori cl r => Sys2Proof.Machine.execXori cl r s
  | .shi cl r => Sys2Proof.Machine.execShi cl r s
  | .shin cl r => Sys2Proof.Machine.execShin cl r s
  | .shinw cl r => Sys2Proof.Machine.execShinw cl r s
  | .ceqi cl r => Sys2Proof.Machine.execCeqi cl r s
  | .clti cl r => Sys2Proof.Machine.execClti cl r s
  | .cltui cl r => Sys2Proof.Machine.execCltui cl r s
  | .bc cl c sense disp => Sys2Proof.Machine.execBc cl c sense disp s
  | .ldb cl r => Sys2Proof.Machine.execLdb cl r s
  | .ldbu cl r => Sys2Proof.Machine.execLdbu cl r s
  | .ldh cl r => Sys2Proof.Machine.execLdh cl r s
  | .ldhu cl r => Sys2Proof.Machine.execLdhu cl r s
  | .ldw cl r => Sys2Proof.Machine.execLdw cl r s
  | .ldwu cl r => Sys2Proof.Machine.execLdwu cl r s
  | .ldd cl r => Sys2Proof.Machine.execLdd cl r s
  | .stb cl r => Sys2Proof.Machine.execStb cl r s
  | .sth cl r => Sys2Proof.Machine.execSth cl r s
  | .stw cl r => Sys2Proof.Machine.execStw cl r s
  | .std cl r => Sys2Proof.Machine.execStd cl r s
  | .ibld cl c idx => Sys2Proof.Machine.execIbld cl c idx s
  | .ibldn cl c idx => Sys2Proof.Machine.execIbldn cl c idx s
  | .obld cl c idx => Sys2Proof.Machine.execObld cl c idx s
  | .obldn cl c idx => Sys2Proof.Machine.execObldn cl c idx s
  | .obst cl c idx => Sys2Proof.Machine.execObst cl c idx s
  | .obstn cl c idx => Sys2Proof.Machine.execObstn cl c idx s
  | .obset cl c idx => Sys2Proof.Machine.execObset cl c idx s
  | .obclr cl c idx => Sys2Proof.Machine.execObclr cl c idx s
  | .mbld cl c idx => Sys2Proof.Machine.execMbld cl c idx s
  | .mbldn cl c idx => Sys2Proof.Machine.execMbldn cl c idx s
  | .mbst cl c idx => Sys2Proof.Machine.execMbst cl c idx s
  | .mbstn cl c idx => Sys2Proof.Machine.execMbstn cl c idx s
  | .mbset cl c idx => Sys2Proof.Machine.execMbset cl c idx s
  | .mbclr cl c idx => Sys2Proof.Machine.execMbclr cl c idx s
  | .imgrLoad cl space r => Sys2Proof.Machine.execImgrLoad cl space r s
  | .imgrLoadInverted cl space r => Sys2Proof.Machine.execImgrLoadInverted cl space r s
  | .imgrStore cl space r => Sys2Proof.Machine.execImgrStore cl space r s
  | .imgrStoreInverted cl space r => Sys2Proof.Machine.execImgrStoreInverted cl space r s
  | .imgrSet cl space r => Sys2Proof.Machine.execImgrSet cl space r s
  | .imgrClear cl space r => Sys2Proof.Machine.execImgrClear cl space r s
  | .imgrWordLoad cl space sext width r => Sys2Proof.Machine.execImgrWordLoad cl space sext width r s
  | .imgrWordStore cl space sext width r => Sys2Proof.Machine.execImgrWordStore cl space sext width r s
  | .edgRise cl r => Sys2Proof.Machine.execEdgRise cl r s
  | .edgFall cl r => Sys2Proof.Machine.execEdgFall cl r s
  | .edgEither cl r => Sys2Proof.Machine.execEdgEither cl r s
  | .ton cl r => Sys2Proof.Machine.execTon cl r s
  | .tof cl r => Sys2Proof.Machine.execTof cl r s
  | .tp cl r => Sys2Proof.Machine.execTp cl r s
  | .ctu cl r => Sys2Proof.Machine.execCtu cl r s
  | .ctd cl r => Sys2Proof.Machine.execCtd cl r s
  | .crs cl r => Sys2Proof.Machine.execCrs cl r s
  | .cld cl r => Sys2Proof.Machine.execCld cl r s
  | .ucall cl f unit => Sys2Proof.Machine.execUcall cl f unit s
  | .ucallr cl f u => Sys2Proof.Machine.execUcallr cl f u s
  | .uret cl => Sys2Proof.Machine.execUret cl s
  | .slice cl => Sys2Proof.Machine.execSlice cl s
  | .sinf cl d item => Sys2Proof.Machine.execSinf cl d item s
  | .acq cl d a => Sys2Proof.Machine.execAcq cl d a s
  | .acmp cl d a b => Sys2Proof.Machine.execAcmp cl d a b s
  | .tactAtTime cl d a => Sys2Proof.Machine.execTactAtTime cl d a s
  | .tactAtPosition cl d a => Sys2Proof.Machine.execTactAtPosition cl d a s
  | .tactCancel cl d a => Sys2Proof.Machine.execTactCancel cl d a s
  | .trkuCreate cl d a => Sys2Proof.Machine.execTrkuCreate cl d a s
  | .trkuCorrect cl d a => Sys2Proof.Machine.execTrkuCorrect cl d a s
  | .trkuRelease cl d a => Sys2Proof.Machine.execTrkuRelease cl d a s
  | .trkqTrackQuery cl d a => Sys2Proof.Machine.execTrkqTrackQuery cl d a s
  | .trkqActionQuery cl d a => Sys2Proof.Machine.execTrkqActionQuery cl d a s
  | .trkqCollect cl d a => Sys2Proof.Machine.execTrkqCollect cl d a s
  | .msync cl => Sys2Proof.Machine.execMsync cl s
  | .brk cl code => Sys2Proof.Machine.execBrk cl code s
  | .illegalEncoding cl w => Sys2Proof.Machine.execIllegalEncoding cl w s
  | .resetNRise busGood env => Sys2Proof.Machine.execResetNRise busGood env s
  | .partnerLinkStart lane delay => Sys2Proof.Machine.execPartnerLinkStart lane delay s
  | .dleComparatorTestComplete fail => Sys2Proof.Machine.execDleComparatorTestComplete fail s
  | .stationSyncTimeout k => Sys2Proof.Machine.execStationSyncTimeout k s
  | .mirrorWriteComplete x => Sys2Proof.Machine.execMirrorWriteComplete x s
  | .programStoreWritten => Sys2Proof.Machine.execProgramStoreWritten s

end Sys2Proof.Machine
end

