-- ==== Sys2Proof/Safety.lean ====
section
/-! DEFINITION. The terms in which statements are made: what it is for a command to complete, when a cluster is
ready to execute an instruction, and what an instruction that retires leaves. -/

namespace Sys2Proof.Machine

/-- An outcome is a next state of which something holds. -/
def Completes (o : Host.Outcome State Fault Refusal) (P : State → Prop) : Prop := ∃ t, o = .next t ∧ P t

/-- Core `k` of cluster `cl`. -/
def State.core (s : State) (cl k : Nat) : Core := (s.tri cl).get k

/-- No word of `[a, a + n)` is corrected or uncorrectable (R374). -/
def Mach.clean (m : Mach) (a n : Nat) : Prop :=
  ∀ w, a / 8 ≤ w → w < (a + n + 7) / 8 → tabGet Ecc.good m.ecc w = .good

/-- Cluster `cl` is ready to execute an instruction with its running cores at `c`: a slice runs and has not used
its budget (R119), the debugger has neither stopped nor stepped the cluster (R180), the running cores agree (R158),
and the fetch at their pc is in range, permitted and free of ECC errors (R70, R114, R374). -/
structure Ready (cl : Nat) (s : State) (c : Core) : Prop where
  slice   : ∃ sl, (s.m.kiln cl).slice = some sl ∧ sl.count < sl.budget
  going   : s.m.bit (KLN_DBGSTAT cl) 0 = false
  single  : (s.m.kiln cl).stepping = false
  runs    : s.m.actives cl ≠ []
  agree   : ∀ k ∈ s.m.actives cl, s.core cl k = c
  range   : inData c.pc.toNat = true
  permit  : s.m.kilnDenied cl c.pc.toNat 2 c.sys = none
  intact  : s.m.clean c.pc.toNat 4

/-- Two cores agree in every register of R63, whatever their window signatures are. -/
structure Core.Alike (a b : Core) : Prop where
  gregs : a.g = b.g
  conds : a.c = b.c
  flags : a.fpf = b.fpf
  at_   : a.pc = b.pc
  right : a.sys = b.sys
  unit_ : a.unit = b.unit

/-- An instruction of cluster `cl` has retired after `cost` cycles: the running cores stand as `c'`, every other core
of the module and the queue as before, and the module as `m` but for the accounts of the running slice and the open
signature window of the cluster (R119, R163, R164). -/
structure Retired (cl : Nat) (s : State) (m : Mach) (c' : Core) (cost : Nat) (t : State) : Prop where
  cores : ∀ k < 3, if k ∈ s.m.actives cl then (t.core cl k).Alike c' else t.core cl k = s.core cl k
  other : ∀ k < 3, t.core (1 - cl) k = s.core (1 - cl) k
  queue : t.pending = s.pending
  rest  : ∃ sl win lastPc dueWin, t.m = m.setKiln cl { m.kiln cl with
    slice := sl, cyc := (m.kiln cl).cyc + cost, win := win, lastPc := lastPc, dueWin := dueWin }
  count : ∃ sl sl', (m.kiln cl).slice = some sl ∧ (t.m.kiln cl).slice = some sl' ∧
    sl' = { sl with count := sl.count + cost }

/-- `c'` is `c` with register `d` at `v` and nothing else changed but the pc and the flags; g0 stays as it is (R63). -/
structure PutsG (d : BitVec 5) (v : Word) (c c' : Core) : Prop where
  gregs : ∀ r, c'.rd r = if r = d ∧ d ≠ 0 then v else c.rd r
  conds : c'.c = c.c
  right : c'.sys = c.sys
  unit_ : c'.unit = c.unit

/-- `c'` is `c` with condition bit `d` at `v` and nothing else changed but the pc and the flags; c0 stays as it is
(R63). -/
structure PutsC (d : BitVec 3) (v : Bool) (c c' : Core) : Prop where
  gregs : ∀ r, c'.rd r = c.rd r
  conds : ∀ k, c'.cb k = if k = d ∧ d ≠ 0 then v else c.cb k
  right : c'.sys = c.sys
  unit_ : c'.unit = c.unit

/-- `c'` is `c` with register `d` at `v` and the pc at the next instruction. -/
structure WritesG (d : BitVec 5) (v : Word) (c c' : Core) : Prop extends PutsG d v c c' where
  flags : c'.fpf = c.fpf
  next  : c'.pc = c.pc + 4

/-- `c'` is `c` with condition bit `d` at `v` and the pc at the next instruction. -/
structure WritesC (d : BitVec 3) (v : Bool) (c c' : Core) : Prop extends PutsC d v c c' where
  flags : c'.fpf = c.fpf
  next  : c'.pc = c.pc + 4

/-- As `WritesG`, with the flags of a floating-point operation added to the sticky ones (R66). -/
structure WritesF (d : BitVec 5) (v : Word) (f : FFlags) (c c' : Core) : Prop extends PutsG d v c c' where
  flags : c'.fpf = c.fpf ||| f.toBits
  next  : c'.pc = c.pc + 4

/-- As `WritesC`, with the flags of a floating-point operation added to the sticky ones (R66). -/
structure WritesFC (d : BitVec 3) (v : Bool) (f : FFlags) (c c' : Core) : Prop extends PutsC d v c c' where
  flags : c'.fpf = c.fpf ||| f.toBits
  next  : c'.pc = c.pc + 4

/-- `c'` is `c` with only the pc elsewhere. -/
structure MovesPc (target : BitVec 32) (c c' : Core) : Prop where
  gregs : ∀ r, c'.rd r = c.rd r
  conds : c'.c = c.c
  flags : c'.fpf = c.fpf
  moved : c'.pc = target
  right : c'.sys = c.sys
  unit_ : c'.unit = c.unit

/-- An instruction of cluster `cl` has raised the exception `code` in its slice `sl` (R84 to R88): the task's fault
count and last code, and the end of the slice: none of its instructions runs any more, and the next due slice, if
any, has been dispatched. -/
structure Raised (cl : Nat) (s : State) (sl : Slice) (code : Nat) (t : State) : Prop where
  last  : t.m.fld (KLN_TFLT sl.task) 15 8 = code
  count : t.m.fld (KLN_TFLT sl.task) 31 16 = satInc (s.m.fld (KLN_TFLT sl.task) 31 16) 65535
  ended : (t.m.kiln cl).slice.map (fun x => (x.task, x.idx)) = (s.m.kiln cl).due.head?
  due   : (t.m.kiln cl).due = (s.m.kiln cl).due.tail
  other : ∀ k < 3, t.core (1 - cl) k = s.core (1 - cl) k
  queue : t.pending = s.pending

/-- The predicate of an RR word is not reserved and holds in `c` (R97). -/
def Fires (c : Core) (r : RR) : Prop := (r.pc ≠ 0 ∨ r.pn = false) ∧ xor (c.cb r.pc) r.pn = true

/-- The value of bits [31:0] as a signed number. -/
def low (a : Word) : Int := Int.bmod (a.toNat : Int) (2 ^ 32)

/-- The number that a finite datum stands for. -/
def FVal.rat : FVal → ℚ
  | .fin n m e => (if n then -1 else 1) * m * (2 : ℚ) ^ e
  | _ => 0

/-- The result `r` of an operation is the exact number `q` rounded to nearest, ties to even, with the flags that say
so (R66): either the nearest finite number of the format, or, beyond the largest one by half a unit or more,
overflow to the infinity of its sign. -/
def Rounded (f : FFmt) (q : ℚ) (r : Nat × FFlags) : Prop :=
  r.2.invalid = false ∧ r.2.divZero = false ∧
  if r.2.overflow then
    r.2.inexact = true ∧ r.1 = zeroBits f (decide (q < 0)) + infBits f ∧
      (2 ^ prec f - 1 / 2 : ℚ) * 2 ^ (-eMin f + 2 - prec f) ≤ |q|
  else ∃ n m e, unpack f r.1 = .fin n m e ∧ (r.2.inexact = true ↔ (FVal.fin n m e).rat ≠ q) ∧
    ∀ u n' m' e', unpack f u = .fin n' m' e' →
      |q - (FVal.fin n m e).rat| ≤ |q - (FVal.fin n' m' e').rat| ∧
      (|q - (FVal.fin n m e).rat| = |q - (FVal.fin n' m' e').rat| →
        (FVal.fin n' m' e').rat = (FVal.fin n m e).rat ∨ r.1 % 2 = 0)

/-- The module after a cluster has stored 8-byte words. -/
def Mach.storeWords (m : Mach) (cl : Nat) (ws : List (Nat × Nat)) : Mach :=
  ws.foldl (fun m w => m.kilnStore cl w.1 (leBytes 8 w.2)) m

/-- The state block or record of `n` words at `a` may be scanned by a cluster: it lies in the data space at a multiple
of 8, may be read and written, holds no ECC error, and fits the tick's retained delta (R70, R128, R135). -/
structure Scannable (cl : Nat) (m : Mach) (priv : Bool) (a n : Nat) : Prop where
  range  : blockInData a (8 * n) = true
  align  : a % 8 = 0
  read   : m.kilnDeniedBlock cl a (8 * n) 0 priv = none
  write  : ∀ i < n, m.kilnDenied cl (a + 8 * i) 1 priv = none
  intact : m.clean a (8 * n)
  room   : m.tick.delta.length + n ≤ 1024

/-- The 8-byte word `i` of a block at `a`. -/
def Mach.word (m : Mach) (a i : Nat) : Nat := m.mem.ldN (a + 8 * i) 8

/-- A scan of the block of words at `a` leaves the words `new`: those that differ are stored, and no other byte of
memory changes (R135). -/
structure Scanned (cl : Nat) (s : State) (a : Nat) (new : List Nat) (k : BitVec 3) (q : Bool) (c : Core) (cost : Nat)
    (t : State) : Prop where
  retired : ∃ c', WritesC k q c c' ∧ Retired cl s (s.m.storeWords cl
    (((List.range new.length).filter fun i => new.getD i 0 ≠ s.m.word a i).map fun i => (a + 8 * i, new.getD i 0)))
    c' cost t
  words   : ∀ i < new.length, t.m.word a i = new.getD i 0
  others  : ∀ x, x < a ∨ a + 8 * new.length ≤ x → t.m.mem.ld8 x = s.m.mem.ld8 x

/-- The registers that a Ledger record may change. -/
def ledgerRegs : List Nat := [LDG_HEAD, LDG_FLUSHED, LDG_LOSTCNT, LDG_SUPCNT, LDG_STAT]

/-- No register changes but those of a list, and those that a Ledger record changes. -/
def KeepsRegs (s t : State) (as : List Nat) : Prop := ∀ a, a ∉ as → a ∉ ledgerRegs → t.m.rg a = s.m.rg a

/-- The cores and the queue are as before. -/
def SameCores (s t : State) : Prop := t.c0 = s.c0 ∧ t.c1 = s.c1 ∧ t.pending = s.pending

/-- No register, byte of memory or core changes, and no entry of a ring but one (R216). -/
structure OnlyStation (k : StnKey) (s t : State) : Prop where
  regs   : t.m.regs = s.m.regs
  mem    : t.m.mem = s.m.mem
  cores  : SameCores s t
  others : ∀ key, key ≠ Mach.stnKey k → assocGet t.m.stns key = assocGet s.m.stns key

/-- A direct entry passes a telegram on in its direction of travel: its two links are up, and the frame leaves
(R216, R217). -/
def PassesOn (k : StnKey) (g : Tel) (f : List Byte) (s t : State) : Prop :=
  keyDirect k = true → (s.m.stn k).west = true → (s.m.stn k).east = true →
    t.m.out = s.m.out ++ [.entry k.ring k.path.toNat (g.west (keyPos k)) f]

/-- The wired registers of a core read as R63 says: g0 as 0, c0 as 1. -/
def Core.Hardwired (c : Core) : Prop := c.rd 0 = 0 ∧ c.cb 0 = true

/-- The wired registers of every core of the module read as R63 says. -/
def State.Hardwired (s : State) : Prop := ∀ (cl : ClusterId) (k : Fin 3), (s.core cl k).Hardwired

/-- The cluster that executes an instruction of a program; none for the other commands. -/
def clusterOf : Instr → Option ClusterId
  | .add cl _ | .sub cl _ | .andR cl _ | .orR cl _ | .xorR cl _ | .andn cl _ | .orn cl _ | .xnor cl _
  | .shl cl _ | .shr cl _ | .sar cl _ | .ror cl _ | .mul cl _ | .mulh cl _ | .mulhu cl _ | .div cl _
  | .divu cl _ | .rem cl _ | .remu cl _ | .min cl _ | .max cl _ | .minu cl _ | .maxu cl _ | .addw cl _
  | .subw cl _ | .shlw cl _ | .shrw cl _ | .sarw cl _ | .rorw cl _ | .mulw cl _ | .divw cl _ | .divuw cl _
  | .remw cl _ | .remuw cl _ | .clz cl _ | .ctz cl _ | .popc cl _ | .bswap cl _ | .sxb cl _ | .sxh cl _
  | .sxw cl _ | .zxb cl _ | .zxh cl _ | .zxw cl _ | .jr cl _ | .ceq cl _ | .clt cl _ | .cltu cl _
  | .ctst cl _ | .ceqw cl _ | .cltw cl _ | .cltuw cl _ | .cand cl _ | .cor cl _ | .cxor cl _ | .candn cl _
  | .corn cl _ | .cnot cl _ | .mfc cl _ | .mtc cl _ | .fadd cl _ _ | .fsub cl _ _ | .fmul cl _ _
  | .fdiv cl _ _ | .fsqrt cl _ _ | .fmin cl _ _ | .fmax cl _ _ | .fmac cl _ _ | .fabs cl _ _ | .fneg cl _ _
  | .fcpys cl _ _ | .fceq cl _ _ | .fclt cl _ _ | .fcle cl _ _ | .fcun cl _ _ | .ftoi cl _ _ | .ftou cl _ _
  | .itof cl _ _ | .utof cl _ _ | .fcvt cl _ _ | .frflg cl _ | .fcflg cl _ | .addi cl _ | .addiw cl _
  | .andi cl _ | .ori cl _ | .xori cl _ | .shi cl _ | .shin cl _ | .shinw cl _ | .ceqi cl _ | .clti cl _
  | .cltui cl _ | .bc cl _ _ _ | .ldb cl _ | .ldbu cl _ | .ldh cl _ | .ldhu cl _ | .ldw cl _ | .ldwu cl _
  | .ldd cl _ | .stb cl _ | .sth cl _ | .stw cl _ | .std cl _ | .ibld cl _ _ | .ibldn cl _ _ | .obld cl _ _
  | .obldn cl _ _ | .obst cl _ _ | .obstn cl _ _ | .obset cl _ _ | .obclr cl _ _ | .mbld cl _ _
  | .mbldn cl _ _ | .mbst cl _ _ | .mbstn cl _ _ | .mbset cl _ _ | .mbclr cl _ _ | .imgrLoad cl _ _
  | .imgrLoadInverted cl _ _ | .imgrStore cl _ _ | .imgrStoreInverted cl _ _ | .imgrSet cl _ _
  | .imgrClear cl _ _ | .imgrWordLoad cl _ _ _ _ | .imgrWordStore cl _ _ _ _ | .edgRise cl _
  | .edgFall cl _ | .edgEither cl _ | .ton cl _ | .tof cl _ | .tp cl _ | .ctu cl _ | .ctd cl _ | .crs cl _
  | .cld cl _ | .ucall cl _ _ | .ucallr cl _ _ | .uret cl | .slice cl | .sinf cl _ _ | .acq cl _ _
  | .acmp cl _ _ _ | .tactAtTime cl _ _ | .tactAtPosition cl _ _ | .tactCancel cl _ _ | .trkuCreate cl _ _
  | .trkuCorrect cl _ _ | .trkuRelease cl _ _ | .trkqTrackQuery cl _ _ | .trkqActionQuery cl _ _
  | .trkqCollect cl _ _ | .msync cl | .brk cl _ | .illegalEncoding cl _ => some cl
  | _ => none

/-- Every granule of the tick's retained delta lies in the data space (R128). -/
def DeltaInData (m : Mach) : Prop := ∀ e ∈ m.tick.delta, 8 * e.1 + 8 ≤ 0x01800000

/-- The memory that instructions of programs may change: the data space, the output buffers, the marker spaces, the two
rings of the Ledger, and the counts of offers of the journal's accessions (R70, R75, R77, R144, R240, R424). -/
def Reachable (m : Mach) (x : Nat) : Prop :=
  x < 0x01800000 ∨ 0x02140000 ≤ x ∧ x < 0x02180000 ∨ 0x02200000 ≤ x ∧ x < 0x02400000 ∨
    0x03A00000 ≤ x ∧ x < 0x03B00000 ∨ 0x10000000 ≤ x ∧ x < 0x11000000 ∨
    ∃ n, x = Mach.recordAt n + 3 ∨ x = Mach.cellAt (m.recCell n) + 27

end Sys2Proof.Machine
end

