-- ==== Sys2Proof/Certificates/Slice0/Obligations.lean ====
section
/-! DEFINITION. The statements for the provers. -/

open Sys2Proof Sys2Proof.Machine

/-! ### The queue -/

/-- A step takes the command at the front of the queue and runs it on the state with the queue's rest; on an empty
queue the block idles (DESIGN CHOICE, log entry 2). -/
def Obligations.StepRunsTheFrontCommand : Prop :=
  (∀ (c : Instr) (rest : List Instr) (s : State), s.pending = c :: rest → step s = exec c { s with pending := rest }) ∧
  ∀ s : State, s.pending = [] → step s = .next s

/-- Every command answers a next state, and leaves the queue as it was. -/
def Obligations.EveryCommandCompletesAndKeepsTheQueue : Prop :=
  ∀ (i : Instr) (s : State), Completes (exec i s) fun t => t.pending = s.pending

/-! ### Integer instructions (R96 to R103, R120, R121) -/

/-- ADD to MAXU and the 32-bit forms: the result in integer arithmetic, and the cycles. -/
def Obligations.TwoOperandIntegerResults : Prop :=
  ∀ (cl : ClusterId) (r : RR) (s : State) (c : Core), Ready cl s c → Fires c r →
    ∀ e ∈ ([
      (.add cl r, 1, fun a b => BitVec.ofNat 64 (a.toNat + b.toNat)),
      (.sub cl r, 1, fun a b => BitVec.ofInt 64 ((a.toNat : Int) - b.toNat)),
      (.andR cl r, 1, fun a b => a &&& b),
      (.orR cl r, 1, fun a b => a ||| b),
      (.xorR cl r, 1, fun a b => a ^^^ b),
      (.andn cl r, 1, fun a b => a &&& ~~~b),
      (.orn cl r, 1, fun a b => a ||| ~~~b),
      (.xnor cl r, 1, fun a b => ~~~(a ^^^ b)),
      (.shl cl r, 1, fun a b => BitVec.ofNat 64 (a.toNat * 2 ^ (b.toNat % 64))),
      (.shr cl r, 1, fun a b => BitVec.ofNat 64 (a.toNat / 2 ^ (b.toNat % 64))),
      (.sar cl r, 1, fun a b => BitVec.ofInt 64 (a.toInt / 2 ^ (b.toNat % 64))),
      (.ror cl r, 1, fun a b => BitVec.ofNat 64 (a.toNat / 2 ^ (b.toNat % 64) + a.toNat * 2 ^ (64 - b.toNat % 64))),
      (.mul cl r, 3, fun a b => BitVec.ofNat 64 (a.toNat * b.toNat)),
      (.mulh cl r, 5, fun a b => BitVec.ofInt 64 (a.toInt * b.toInt / 2 ^ 64)),
      (.mulhu cl r, 5, fun a b => BitVec.ofNat 64 (a.toNat * b.toNat / 2 ^ 64)),
      (.min cl r, 1, fun a b => if a.toInt ≤ b.toInt then a else b),
      (.max cl r, 1, fun a b => if a.toInt ≤ b.toInt then b else a),
      (.minu cl r, 1, fun a b => if a.toNat ≤ b.toNat then a else b),
      (.maxu cl r, 1, fun a b => if a.toNat ≤ b.toNat then b else a),
      (.addw cl r, 1, fun a b => BitVec.ofInt 64 (Int.bmod ((a.toNat : Int) + b.toNat) (2 ^ 32))),
      (.subw cl r, 1, fun a b => BitVec.ofInt 64 (Int.bmod ((a.toNat : Int) - b.toNat) (2 ^ 32))),
      (.shlw cl r, 1, fun a b => BitVec.ofInt 64 (Int.bmod ((a.toNat * 2 ^ (b.toNat % 32) : Nat) : Int) (2 ^ 32))),
      (.shrw cl r, 1, fun a b => BitVec.ofInt 64 (Int.bmod ((a.toNat % 2 ^ 32 / 2 ^ (b.toNat % 32) : Nat) : Int) (2 ^ 32))),
      (.sarw cl r, 1, fun a b => BitVec.ofInt 64 (Int.bmod (a.toNat : Int) (2 ^ 32) / 2 ^ (b.toNat % 32))),
      (.rorw cl r, 1, fun a b => BitVec.ofInt 64 (Int.bmod ((a.toNat % 2 ^ 32 / 2 ^ (b.toNat % 32) +
        a.toNat * 2 ^ (32 - b.toNat % 32) : Nat) : Int) (2 ^ 32))),
      (.mulw cl r, 3, fun a b => BitVec.ofInt 64 (Int.bmod ((a.toNat : Int) * b.toNat) (2 ^ 32)))] :
        List (Instr × Nat × (Word → Word → Word))),
    Completes (exec e.1 s) fun t => ∃ c', WritesG r.d (e.2.2 (c.rd r.a) (c.rd r.b)) c c' ∧ Retired cl s s.m c' e.2.1 t

/-- The functions of one register, whose b field is 0: counts, byte order and extensions. -/
def Obligations.OneOperandIntegerResults : Prop :=
  ∀ (cl : ClusterId) (r : RR) (s : State) (c : Core), Ready cl s c → Fires c r → r.b = 0 →
    ∀ e ∈ ([
      (.clz cl r, fun a => BitVec.ofNat 64 (64 - Nat.size a.toNat)),
      (.ctz cl r, fun a => if a = 0 then 64 else BitVec.ofNat 64 (padicValNat 2 a.toNat)),
      (.popc cl r, fun a => BitVec.ofNat 64 (Nat.digits 2 a.toNat).sum),
      (.bswap cl r, fun a => BitVec.ofNat 64 (((List.range 8).map fun i => a.toNat / 256 ^ i % 256 * 256 ^ (7 - i)).sum)),
      (.sxb cl r, fun a => BitVec.ofInt 64 (Int.bmod (a.toNat : Int) (2 ^ 8))),
      (.sxh cl r, fun a => BitVec.ofInt 64 (Int.bmod (a.toNat : Int) (2 ^ 16))),
      (.sxw cl r, fun a => BitVec.ofInt 64 (Int.bmod (a.toNat : Int) (2 ^ 32))),
      (.zxb cl r, fun a => BitVec.ofNat 64 (a.toNat % 2 ^ 8)),
      (.zxh cl r, fun a => BitVec.ofNat 64 (a.toNat % 2 ^ 16)),
      (.zxw cl r, fun a => BitVec.ofNat 64 (a.toNat % 2 ^ 32))] : List (Instr × (Word → Word))),
    Completes (exec e.1 s) fun t => ∃ c', WritesG r.d (e.2 (c.rd r.a)) c c' ∧ Retired cl s s.m c' 1 t

/-- Quotients and remainders with a divisor that is not 0, and DIV_ZERO with one that is (R65, R120). -/
def Obligations.DivisionResults : Prop :=
  ∀ (cl : ClusterId) (r : RR) (s : State) (c : Core), Ready cl s c → Fires c r →
    (∀ e ∈ ([
      (.div cl r, 34, fun b => b ≠ 0, fun a b => BitVec.ofInt 64 (Int.tdiv a.toInt b.toInt)),
      (.divu cl r, 34, fun b => b ≠ 0, fun a b => BitVec.ofNat 64 (a.toNat / b.toNat)),
      (.rem cl r, 34, fun b => b ≠ 0, fun a b => BitVec.ofInt 64 (Int.tmod a.toInt b.toInt)),
      (.remu cl r, 34, fun b => b ≠ 0, fun a b => BitVec.ofNat 64 (a.toNat % b.toNat)),
      (.divw cl r, 18, fun b => low b ≠ 0, fun a b => BitVec.ofInt 64 (Int.bmod (Int.tdiv (low a) (low b)) (2 ^ 32))),
      (.divuw cl r, 18, fun b => low b ≠ 0, fun a b =>
        BitVec.ofInt 64 (Int.bmod ((a.toNat % 2 ^ 32 / (b.toNat % 2 ^ 32) : Nat) : Int) (2 ^ 32))),
      (.remw cl r, 18, fun b => low b ≠ 0, fun a b => BitVec.ofInt 64 (Int.tmod (low a) (low b))),
      (.remuw cl r, 18, fun b => low b ≠ 0, fun a b =>
        BitVec.ofInt 64 (Int.bmod ((a.toNat % 2 ^ 32 % (b.toNat % 2 ^ 32) : Nat) : Int) (2 ^ 32)))] :
        List (Instr × Nat × (Word → Prop) × (Word → Word → Word))),
      e.2.2.1 (c.rd r.b) → Completes (exec e.1 s) fun t =>
        ∃ c', WritesG r.d (e.2.2.2 (c.rd r.a) (c.rd r.b)) c c' ∧ Retired cl s s.m c' e.2.1 t) ∧
    ∀ sl : Slice, (s.m.kiln cl).slice = some sl → sl.task < 16 →
      (c.rd r.b = 0 → ∀ i ∈ ([.div cl r, .divu cl r, .rem cl r, .remu cl r] : List Instr),
        Completes (exec i s) (Raised cl s sl 0x0B)) ∧
      (low (c.rd r.b) = 0 → ∀ i ∈ ([.divw cl r, .divuw cl r, .remw cl r, .remuw cl r] : List Instr),
        Completes (exec i s) (Raised cl s sl 0x0B))

/-- A predicate that fails passes over an RR instruction in one cycle and raises nothing (R97, R98). -/
def Obligations.FailedPredicatePassesOver : Prop :=
  ∀ (cl : ClusterId) (f : FFmt) (r : RR) (s : State) (c : Core), Ready cl s c → xor (c.cb r.pc) r.pn = false →
    (r.pc ≠ 0 ∨ r.pn = false) →
    (∀ i ∈ ([.add cl r, .sub cl r, .andR cl r, .orR cl r, .xorR cl r, .andn cl r, .orn cl r, .xnor cl r, .shl cl r,
        .shr cl r, .sar cl r, .ror cl r, .mul cl r, .mulh cl r, .mulhu cl r, .div cl r, .divu cl r, .rem cl r,
        .remu cl r, .min cl r, .max cl r, .minu cl r, .maxu cl r, .addw cl r, .subw cl r, .shlw cl r, .shrw cl r,
        .sarw cl r, .rorw cl r, .mulw cl r, .divw cl r, .divuw cl r, .remw cl r, .remuw cl r, .fadd cl f r,
        .fsub cl f r, .fmul cl f r, .fdiv cl f r, .fmin cl f r, .fmax cl f r, .fmac cl f r, .fcpys cl f r] : List Instr),
      Completes (exec i s) fun t => ∃ c', MovesPc (c.pc + 4) c c' ∧ Retired cl s s.m c' 1 t) ∧
    (r.d.toNat < 8 → ∀ i ∈ ([.ceq cl r, .clt cl r, .cltu cl r, .ctst cl r, .ceqw cl r, .cltw cl r, .cltuw cl r,
        .fceq cl f r, .fclt cl f r, .fcle cl f r, .fcun cl f r] : List Instr),
      Completes (exec i s) fun t => ∃ c', MovesPc (c.pc + 4) c c' ∧ Retired cl s s.m c' 1 t)

/-- Reserved fields of an RR word raise ILLEGAL: PC 0 with PN 1, and a condition field of 8 or more (R95, R97,
R111). -/
def Obligations.ReservedFieldsRaiseIllegal : Prop :=
  ∀ (cl : ClusterId) (r : RR) (s : State) (c : Core) (sl : Slice), Ready cl s c →
    (s.m.kiln cl).slice = some sl → sl.task < 16 →
    (r.pc = 0 → r.pn = true → ∀ i ∈ ([.add cl r, .mul cl r, .div cl r, .jr cl r, .ceq cl r, .cand cl r, .mfc cl r,
        .fadd cl .d r, .fclt cl .s r, .frflg cl r] : List Instr), Completes (exec i s) (Raised cl s sl 0x09)) ∧
    (8 ≤ r.d.toNat → ∀ i ∈ ([.ceq cl r, .clt cl r, .cltu cl r, .ctst cl r, .ceqw cl r, .cltw cl r, .cltuw cl r,
        .cand cl r, .cor cl r, .cxor cl r, .candn cl r, .corn cl r, .cnot cl r] : List Instr),
      Completes (exec i s) (Raised cl s sl 0x09)) ∧
    (r.b ≠ 0 → ∀ i ∈ ([.clz cl r, .ctz cl r, .popc cl r, .bswap cl r, .sxb cl r, .zxw cl r, .cnot cl r, .fsqrt cl .d r,
        .ftoi cl .s r] : List Instr), Completes (exec i s) (Raised cl s sl 0x09)) ∧
    (∀ w : BitVec 32, wordReserved w.toNat = true → Completes (exec (.illegalEncoding cl w) s) (Raised cl s sl 0x09))

/-- Comparisons and logic of condition bits; MFC and MTC move all eight of them, and c0 stays 1 under MTC (R104,
R121). -/
def Obligations.ConditionResults : Prop :=
  ∀ (cl : ClusterId) (r : RR) (s : State) (c : Core), Ready cl s c → Fires c r →
    (r.d.toNat < 8 → (∀ e ∈ ([
      (.ceq cl r, fun a b => decide (a = b)),
      (.clt cl r, fun a b => decide (a.toInt < b.toInt)),
      (.cltu cl r, fun a b => decide (a.toNat < b.toNat)),
      (.ctst cl r, fun a b => decide (a &&& b ≠ 0)),
      (.ceqw cl r, fun a b => decide (low a = low b)),
      (.cltw cl r, fun a b => decide (low a < low b)),
      (.cltuw cl r, fun a b => decide (a.toNat % 2 ^ 32 < b.toNat % 2 ^ 32))] : List (Instr × (Word → Word → Bool))),
      Completes (exec e.1 s) fun t =>
        ∃ c', WritesC (r.d.setWidth 3) (e.2 (c.rd r.a) (c.rd r.b)) c c' ∧ Retired cl s s.m c' 1 t) ∧
    (r.a.toNat < 8 → r.b.toNat < 8 → ∀ e ∈ ([
      (.cand cl r, fun a b => a && b),
      (.cor cl r, fun a b => a || b),
      (.cxor cl r, fun a b => a != b),
      (.candn cl r, fun a b => a && !b),
      (.corn cl r, fun a b => a || !b)] : List (Instr × (Bool → Bool → Bool))),
      Completes (exec e.1 s) fun t => ∃ c', WritesC (r.d.setWidth 3)
        (e.2 (c.cb (r.a.setWidth 3)) (c.cb (r.b.setWidth 3))) c c' ∧ Retired cl s s.m c' 1 t) ∧
    (r.a.toNat < 8 → r.b = 0 → Completes (exec (.cnot cl r) s) fun t =>
      ∃ c', WritesC (r.d.setWidth 3) (!c.cb (r.a.setWidth 3)) c c' ∧ Retired cl s s.m c' 1 t)) ∧
    (r.b = 0 → r.a = 0 → Completes (exec (.mfc cl r) s) fun t =>
      ∃ c', WritesG r.d (c.c.setWidth 64) c c' ∧ Retired cl s s.m c' 1 t) ∧
    (r.b = 0 → r.d = 0 → Completes (exec (.mtc cl r) s) fun t => ∃ c',
      MovesPc (c.pc + 4) { c with c := (c.rd r.a).setWidth 8 ||| 1 } c' ∧ Retired cl s s.m c' 1 t)

/-! ### Immediates, jumps and branches (R99 to R102, R121, R129) -/

/-- The immediate instructions; SHI shifts or rotates by its amount, in 64 or 32 bits (R102, R121). -/
def Obligations.ImmediateResults : Prop :=
  (∀ (cl : ClusterId) (r : RI) (s : State) (c : Core), Ready cl s c →
     (∀ e ∈ ([
       (.addi cl r, fun a => BitVec.ofInt 64 (a.toInt + r.imm.toInt)),
       (.addiw cl r, fun a => BitVec.ofInt 64 (Int.bmod (a.toInt + r.imm.toInt) (2 ^ 32))),
       (.andi cl r, fun a => a &&& BitVec.ofInt 64 r.imm.toInt),
       (.ori cl r, fun a => a ||| BitVec.ofInt 64 r.imm.toInt),
       (.xori cl r, fun a => a ^^^ BitVec.ofInt 64 r.imm.toInt),
       (.shin cl r, fun a => BitVec.ofNat 64 (a.toNat * 2 ^ 16 + r.imm.toNat)),
       (.shinw cl r, fun a => BitVec.ofInt 64 (Int.bmod ((a.toNat * 2 ^ 16 + r.imm.toNat : Nat) : Int) (2 ^ 32)))] :
         List (Instr × (Word → Word))),
       Completes (exec e.1 s) fun t => ∃ c', WritesG r.d (e.2 (c.rd r.a)) c c' ∧ Retired cl s s.m c' 1 t) ∧
     (r.d.toNat < 8 → ∀ e ∈ ([
       (.ceqi cl r, fun a => decide (a.toInt = r.imm.toInt)),
       (.clti cl r, fun a => decide (a.toInt < r.imm.toInt)),
       (.cltui cl r, fun a => decide (a.toNat < (BitVec.ofInt 64 r.imm.toInt).toNat))] : List (Instr × (Word → Bool))),
       Completes (exec e.1 s) fun t =>
         ∃ c', WritesC (r.d.setWidth 3) (e.2 (c.rd r.a)) c c' ∧ Retired cl s s.m c' 1 t)) ∧
  (∀ (cl : ClusterId) (r : RI) (s : State) (c : Core), Ready cl s c → r.imm.toNat < 512 →
     let n := r.imm.toNat % 64
     let k := r.imm.toNat / 64 % 4
     let a := c.rd r.a
     let v : Word :=
       if r.imm.toNat < 256 then
         if k = 0 then BitVec.ofNat 64 (a.toNat * 2 ^ n)
         else if k = 1 then BitVec.ofNat 64 (a.toNat / 2 ^ n)
         else if k = 2 then BitVec.ofInt 64 (a.toInt / 2 ^ n)
         else BitVec.ofNat 64 (a.toNat / 2 ^ n + a.toNat * 2 ^ (64 - n))
       else
         let n := n % 32
         let x := a.toNat % 2 ^ 32
         if k = 0 then BitVec.ofInt 64 (Int.bmod ((x * 2 ^ n : Nat) : Int) (2 ^ 32))
         else if k = 1 then BitVec.ofInt 64 (Int.bmod ((x / 2 ^ n : Nat) : Int) (2 ^ 32))
         else if k = 2 then BitVec.ofInt 64 (low a / 2 ^ n)
         else BitVec.ofInt 64 (Int.bmod ((x / 2 ^ n + x * 2 ^ (32 - n) : Nat) : Int) (2 ^ 32))
     Completes (exec (.shi cl r) s) fun t => ∃ c', WritesG r.d v c c' ∧ Retired cl s s.m c' 1 t)

/-- JR and BC: where the pc goes, and the cycles; JR is subject to its predicate; a target outside the data space, or for JR
inside a front copy or no multiple of 4, raises its exception, and BC with c0 and sense 0 raises ILLEGAL (R99 to R101,
R120, R129). -/
def Obligations.JumpsAndBranches : Prop :=
  ∀ (cl : ClusterId) (s : State) (c : Core) (sl : Slice), Ready cl s c → (s.m.kiln cl).slice = some sl → sl.task < 16 →
    (∀ r : RR, (r.pc ≠ 0 ∨ r.pn = false) → r.d = 0 → r.b = 0 →
      (xor (c.cb r.pc) r.pn = false → Completes (exec (.jr cl r) s) fun t =>
        ∃ c', MovesPc (c.pc + 4) c c' ∧ Retired cl s s.m c' 1 t) ∧
      (xor (c.cb r.pc) r.pn = true →
        (inData (c.rd r.a).toNat = true → (c.rd r.a).toNat % 4 = 0 → Completes (exec (.jr cl r) s) fun t =>
          ∃ c', MovesPc ((c.rd r.a).setWidth 32) c c' ∧ Retired cl s s.m c' 3 t) ∧
        (inData (c.rd r.a).toNat = false → Completes (exec (.jr cl r) s) (Raised cl s sl 0x03)) ∧
        (inData (c.rd r.a).toNat = true → (c.rd r.a).toNat % 4 ≠ 0 →
          Completes (exec (.jr cl r) s) (Raised cl s sl 0x05)))) ∧
    (∀ (k : BitVec 3) (sense : Bool) (disp : BitVec 22),
      let target := (c.pc.toNat : Int) + 4 * disp.toInt
      (k = 0 → sense = false → Completes (exec (.bc cl k sense disp) s) (Raised cl s sl 0x09)) ∧
      ((k ≠ 0 ∨ sense = true) →
        (c.cb k = sense → 0 ≤ target → target < 0x01800000 → Completes (exec (.bc cl k sense disp) s) fun t =>
          ∃ c', MovesPc (BitVec.ofInt 32 target) c c' ∧ Retired cl s s.m c' 3 t) ∧
        (c.cb k = sense → target < 0 ∨ 0x01800000 ≤ target →
          Completes (exec (.bc cl k sense disp) s) (Raised cl s sl 0x03)) ∧
        (c.cb k ≠ sense → Completes (exec (.bc cl k sense disp) s) fun t =>
          ∃ c', MovesPc (c.pc + 4) c c' ∧ Retired cl s s.m c' 1 t)))


/-! ### Floating point (R66, R105, R123 to R125) -/

/-- The sum, difference, product and quotient of finite numbers are the exact ones rounded once to nearest, ties to
even (R66). -/
def Obligations.ArithmeticRoundsToNearest : Prop :=
  ∀ (f : FFmt) (a b : Nat) (n1 n2 : Bool) (m1 m2 : Nat) (e1 e2 : Int),
    unpack f a = .fin n1 m1 e1 → unpack f b = .fin n2 m2 e2 →
    let x := (FVal.fin n1 m1 e1).rat
    let y := (FVal.fin n2 m2 e2).rat
    Rounded f (x + y) (fAdd f a b) ∧ Rounded f (x - y) (fSub f a b) ∧ Rounded f (x * y) (fMul f a b) ∧
    (y ≠ 0 → Rounded f (x / y) (fDiv f a b))

/-- The floating-point functions: the result in g[d] in the format, the sticky flags, and the cycles;
FRFLG reads the sticky flags and FCFLG clears them (R105, R123, R125). -/
def Obligations.FloatingPointResults : Prop :=
  ∀ (cl : ClusterId) (f : FFmt) (r : RR) (s : State) (c : Core), Ready cl s c → Fires c r →
    (∀ e ∈ ([
      (.fadd cl f r, fpCost f 4 3, fun _ a b => fAdd f a b),
      (.fsub cl f r, fpCost f 4 3, fun _ a b => fSub f a b),
      (.fmul cl f r, fpCost f 4 3, fun _ a b => fMul f a b),
      (.fdiv cl f r, fpCost f 24 14, fun _ a b => fDiv f a b),
      (.fmac cl f r, fpCost f 5 4, fun d a b => fMac f d a b),
      (.fmin cl f r, 1, fun _ a b => fMinMax f false a b),
      (.fmax cl f r, 1, fun _ a b => fMinMax f true a b),
      (.fcpys cl f r, 1, fun _ a b => (a % signAt f + (b / signAt f % 2) * signAt f, {}))] :
        List (Instr × Nat × (Nat → Nat → Nat → Nat × FFlags))),
      Completes (exec e.1 s) fun t =>
        let v := e.2.2 (c.rd r.d).toNat (c.rd r.a).toNat (c.rd r.b).toNat
        ∃ c', WritesF r.d (BitVec.ofNat 64 v.1) v.2 c c' ∧ Retired cl s s.m c' e.2.1 t) ∧
    (r.b = 0 → ∀ e ∈ ([
      (.fsqrt cl f r, fpCost f 28 16, fun a => fSqrt f a),
      (.fabs cl f r, 1, fun a => (a % signAt f, {})),
      (.fneg cl f r, 1, fun a => (a % signAt f + (1 - a / signAt f % 2) * signAt f, {})),
      (.itof cl f r, 3, fun a => fOfInt f (Int.bmod a (2 ^ 64))),
      (.utof cl f r, 3, fun a => fOfInt f a),
      (.fcvt cl f r, 3, fun a => fCvt f (if f = .s then .d else .s) a)] : List (Instr × Nat × (Nat → Nat × FFlags))),
      Completes (exec e.1 s) fun t =>
        let v := e.2.2 (c.rd r.a).toNat
        ∃ c', WritesF r.d (BitVec.ofNat 64 v.1) v.2 c c' ∧ Retired cl s s.m c' e.2.1 t) ∧
    (r.b = 0 → ∀ e ∈ ([(.ftoi cl f r, -2 ^ 63, 2 ^ 63 - 1), (.ftou cl f r, 0, 2 ^ 64 - 1)] : List (Instr × Int × Int)),
      Completes (exec e.1 s) fun t =>
        let v := fToInt f e.2.1 e.2.2 (c.rd r.a).toNat
        ∃ c', WritesF r.d (BitVec.ofInt 64 v.1) v.2 c c' ∧ Retired cl s s.m c' 3 t) ∧
    (r.a = 0 → r.b = 0 → Completes (exec (.frflg cl r) s) fun t =>
      ∃ c', WritesG r.d (c.fpf.setWidth 64) c c' ∧ Retired cl s s.m c' 1 t) ∧
    (r.a = 0 → r.b = 0 → r.d = 0 → Completes (exec (.fcflg cl r) s) fun t =>
      ∃ c', MovesPc (c.pc + 4) { c with fpf := 0 } c' ∧ Retired cl s s.m c' 1 t)

/-- The conversions: an integer rounds as an exact number does, a number beyond the bounds gives the bound with
invalid, a NaN gives 0 with invalid (R125). -/
def Obligations.ConversionsFollowR125 : Prop :=
  ∀ (f : FFmt) (a : Nat) (lo hi i : Int), lo ≤ 0 → 0 < hi →
    Rounded f i (fOfInt f i) ∧
    ((unpack f a).isNan = true → fToInt f lo hi a = (0, { invalid := true })) ∧
    (∀ n, unpack f a = .inf n → fToInt f lo hi a = (if n then lo else hi, { invalid := true })) ∧
    (∀ n m e, unpack f a = .fin n m e → ∃ i : Int,
      |(i : ℚ) - (FVal.fin n m e).rat| ≤ 1 / 2 ∧ (|(i : ℚ) - (FVal.fin n m e).rat| = 1 / 2 → i % 2 = 0) ∧
      fToInt f lo hi a =
        if i < lo then (lo, { invalid := true }) else if hi < i then (hi, { invalid := true }) else (i, {}))

/-- Minimum and maximum: the other operand of a NaN, the canonical NaN of two, -0 below +0. Comparisons write a
condition bit: the order of numbers, 0 with a NaN but for FCUN; invalid for a NaN in FCLT and FCLE, for a signalling NaN
in the others (R123, R124). -/
def Obligations.FloatingPointComparisons : Prop :=
  ∀ (cl : ClusterId) (f : FFmt) (r : RR) (s : State) (c : Core), Ready cl s c → Fires c r →
    let x := unpack f (c.rd r.a).toNat
    let y := unpack f (c.rd r.b).toNat
    (r.d.toNat < 8 → ∀ e ∈ ([
      (.fceq cl f r, fun p q => decide (p = q), false, x.isSig || y.isSig),
      (.fclt cl f r, fun p q => decide (p < q), false, x.isNan || y.isNan),
      (.fcle cl f r, fun p q => decide (p ≤ q), false, x.isNan || y.isNan),
      (.fcun cl f r, fun _ _ => false, true, x.isSig || y.isSig)] : List (Instr × (ℚ → ℚ → Bool) × Bool × Bool)),
      Completes (exec e.1 s) fun t => ∃ v c',
        WritesFC (r.d.setWidth 3) v { invalid := e.2.2.2 } c c' ∧ Retired cl s s.m c' 2 t ∧
        (x.isNan = true ∨ y.isNan = true → v = e.2.2.1) ∧
        (∀ n1 m1 e1 n2 m2 e2, x = .fin n1 m1 e1 → y = .fin n2 m2 e2 → v = e.2.1 x.rat y.rat) ∧
        (∀ n, x = .inf n → ∀ n2 m2 e2, y = .fin n2 m2 e2 → v = e.2.1 (if n then -1 else 1) 0) ∧
        (∀ n, y = .inf n → ∀ n1 m1 e1, x = .fin n1 m1 e1 → v = e.2.1 0 (if n then -1 else 1)) ∧
        (∀ n n', x = .inf n → y = .inf n' → v = e.2.1 (if n then -1 else 1) (if n' then -1 else 1))) ∧
    (∀ e ∈ ([(.fmin cl f r, false), (.fmax cl f r, true)] : List (Instr × Bool)),
      let lo (v : Word) : Word := BitVec.ofNat 64 (v.toNat % (2 * signAt f))
      Completes (exec e.1 s) fun t => ∃ v c',
        WritesF r.d v { invalid := x.isSig || y.isSig } c c' ∧ Retired cl s s.m c' 1 t ∧
        (x.isNan = true → y.isNan = true → v = BitVec.ofNat 64 (if f = .d then 0x7FF8000000000000 else 0x7FC00000)) ∧
        (x.isNan = true → y.isNan = false → v = lo (c.rd r.b)) ∧ (x.isNan = false → y.isNan = true → v = lo (c.rd r.a)) ∧
        (∀ n n' i j, x = .fin n 0 i → y = .fin n' 0 j →
          v = BitVec.ofNat 64 (if e.2 then (if n && n' then signAt f else 0) else if n || n' then signAt f else 0)) ∧
        (∀ n1 m1 e1 n2 m2 e2, x = .fin n1 m1 e1 → y = .fin n2 m2 e2 → x.rat < y.rat →
          v = lo (if e.2 then c.rd r.b else c.rd r.a)) ∧
        (∀ n1 m1 e1 n2 m2 e2, x = .fin n1 m1 e1 → y = .fin n2 m2 e2 → y.rat < x.rat →
          v = lo (if e.2 then c.rd r.a else c.rd r.b)))

/-! ### Loads and stores (R70, R71, R126 to R128) -/

/-- Loads: the little-endian bytes at the effective address, extended; the other cluster's exchange range comes from
the front copy (R71). -/
def Obligations.LoadResults : Prop :=
  ∀ (cl : ClusterId) (r : MemForm) (s : State) (c : Core), Ready cl s c →
    let a := (c.rd r.base + r.off.signExtend 64).toNat
    ∀ e ∈ ([
      (.ldb cl r, 1, true), (.ldbu cl r, 1, false), (.ldh cl r, 2, true), (.ldhu cl r, 2, false),
      (.ldw cl r, 4, true), (.ldwu cl r, 4, false), (.ldd cl r, 8, false)] : List (Instr × Nat × Bool)),
      inData a = true → a % e.2.1 = 0 → s.m.kilnDenied cl a 0 c.sys = none → s.m.clean (readAddr cl a) e.2.1 →
      Completes (exec e.1 s) fun t => ∃ c',
        let v := ((List.range e.2.1).map fun i => (s.m.mem.ld8 (readAddr cl a + i)).toNat * 256 ^ i).sum
        WritesG r.r (if e.2.2 then BitVec.ofInt 64 (Int.bmod v (256 ^ e.2.1)) else BitVec.ofNat 64 v) c c' ∧
        Retired cl s s.m c' 4 t

/-- Stores: the low bytes of the register at the effective address, and no other byte of memory changes (R126 to
R128). -/
def Obligations.StoreResults : Prop :=
  ∀ (cl : ClusterId) (r : MemForm) (s : State) (c : Core), Ready cl s c →
    let a := (c.rd r.base + r.off.signExtend 64).toNat
    ∀ e ∈ ([(.stb cl r, 1), (.sth cl r, 2), (.stw cl r, 4), (.std cl r, 8)] : List (Instr × Nat)),
      inData a = true → a % e.2 = 0 → s.m.kilnDenied cl a 1 c.sys = none →
      s.m.deltaFull (s.m.newGranules a e.2) = false →
      Completes (exec e.1 s) fun t => ∃ c', MovesPc (c.pc + 4) c c' ∧
        Retired cl s (s.m.kilnStore cl a (leBytes e.2 ((c.rd r.r).toNat % 256 ^ e.2))) c' 3 t ∧
        ∀ x, t.m.mem.ld8 x =
          if a ≤ x ∧ x < a + e.2 then BitVec.ofNat 8 ((c.rd r.r).toNat / 256 ^ (x - a)) else s.m.mem.ld8 x

/-- The first failing check of a data access raises its exception: MEM_RANGE, MISALIGN, MPU_FAULT (R70, R114). -/
def Obligations.DataAccessExceptions : Prop :=
  ∀ (cl : ClusterId) (r : MemForm) (s : State) (c : Core) (sl : Slice), Ready cl s c →
    (s.m.kiln cl).slice = some sl → sl.task < 16 →
    let a := (c.rd r.base + r.off.signExtend 64).toNat
    ∀ e ∈ ([
      (.ldb cl r, 1, 0), (.ldbu cl r, 1, 0), (.ldh cl r, 2, 0), (.ldhu cl r, 2, 0), (.ldw cl r, 4, 0), (.ldwu cl r, 4, 0),
      (.ldd cl r, 8, 0), (.stb cl r, 1, 1), (.sth cl r, 2, 1), (.stw cl r, 4, 1), (.std cl r, 8, 1)] :
        List (Instr × Nat × Nat)),
      (inData a = false → Completes (exec e.1 s) (Raised cl s sl 0x03)) ∧
      (inData a = true → a % e.2.1 ≠ 0 → Completes (exec e.1 s) (Raised cl s sl 0x05)) ∧
      (∀ k, inData a = true → a % e.2.1 = 0 → s.m.kilnDenied cl a e.2.2 c.sys = some k →
        Completes (exec e.1 s) (Raised cl s sl 0x04))

/-! ### Image instructions (R72 to R77, R106, R107, R133) -/

/-- Image bit loads copy the bit, or its inverse, to the condition bit; bit stores replace one bit of an output byte that
the cluster owns, or of a marker byte, and set and clear write only with the condition bit at 1 (R72 to R77, R106,
R107). -/
def Obligations.ImageBits : Prop :=
  (∀ (cl : ClusterId) (s : State) (c : Core), Ready cl s c →
     (∀ (k : BitVec 3) (i : BitVec 23), ∀ e ∈ ([
       (.ibld cl k i, .input, false), (.ibldn cl k i, .input, true), (.obld cl k i, .output, false),
       (.obldn cl k i, .output, true), (.mbld cl k i, .marker, false), (.mbldn cl k i, .marker, true)] :
         List (Instr × Space × Bool)),
       mapped e.2.1 i.toNat = true → s.m.clean (s.m.imageByte cl e.2.1 (i.toNat / 8)) 1 →
       Completes (exec e.1 s) fun t => ∃ c',
         WritesC k (xor ((s.m.mem.ld8 (s.m.imageByte cl e.2.1 (i.toNat / 8))).getLsbD (i.toNat % 8)) e.2.2) c c' ∧
         Retired cl s s.m c' 5 t) ∧
     (∀ (r : RR) (sp : BitVec 2), Fires c r → r.b = 0 → r.d.toNat < 8 → sp ≠ 3 → ∀ e ∈ ([
       (.imgrLoad cl sp r, false), (.imgrLoadInverted cl sp r, true)] : List (Instr × Bool)),
       let i := (c.rd r.a).toNat
       i < 2 ^ 23 → mapped (spaceOf sp) i = true → s.m.clean (s.m.imageByte cl (spaceOf sp) (i / 8)) 1 →
       Completes (exec e.1 s) fun t => ∃ c',
         WritesC (r.d.setWidth 3) (xor ((s.m.mem.ld8 (s.m.imageByte cl (spaceOf sp) (i / 8))).getLsbD (i % 8)) e.2)
           c c' ∧ Retired cl s s.m c' 5 t)) ∧
  (∀ (cl : ClusterId) (s : State) (c : Core), Ready cl s c →
     (∀ (k : BitVec 3) (i : BitVec 23), ∀ e ∈ ([
       (.obst cl k i, .output, some (c.cb k)), (.obstn cl k i, .output, some (!c.cb k)),
       (.obset cl k i, .output, if c.cb k then some true else none),
       (.obclr cl k i, .output, if c.cb k then some false else none),
       (.mbst cl k i, .marker, some (c.cb k)), (.mbstn cl k i, .marker, some (!c.cb k)),
       (.mbset cl k i, .marker, if c.cb k then some true else none),
       (.mbclr cl k i, .marker, if c.cb k then some false else none)] : List (Instr × Space × Option Bool)),
       mapped e.2.1 i.toNat = true → (e.2.1 = .output → s.m.owns cl (i.toNat / 8) = true) →
       Completes (exec e.1 s) fun t => ∃ c' m, MovesPc (c.pc + 4) c c' ∧ Retired cl s m c' 5 t ∧
         (s.m.clean (s.m.imageByte cl e.2.1 (i.toNat / 8)) 1 → m = { s.m with mem := m.mem, ecc := m.ecc }) ∧
         ∀ x k, (t.m.mem.ld8 x).getLsbD k =
           match e.2.2 with
           | some v => if x = s.m.imageByte cl e.2.1 (i.toNat / 8) ∧ k = i.toNat % 8 then v
             else (s.m.mem.ld8 x).getLsbD k
           | none => (s.m.mem.ld8 x).getLsbD k) ∧
     (∀ (r : RR) (sp : BitVec 2), Fires c r → r.b = 0 → r.d.toNat < 8 → (sp = 1 ∨ sp = 2) →
       let k : BitVec 3 := r.d.setWidth 3
       let i := (c.rd r.a).toNat
       i < 2 ^ 23 → mapped (spaceOf sp) i = true → (sp = 1 → s.m.owns cl (i / 8) = true) →
       ∀ e ∈ ([
         (.imgrStore cl sp r, some (c.cb k)), (.imgrStoreInverted cl sp r, some (!c.cb k)),
         (.imgrSet cl sp r, if c.cb k then some true else none),
         (.imgrClear cl sp r, if c.cb k then some false else none)] : List (Instr × Option Bool)),
       Completes (exec e.1 s) fun t => ∃ c' m, MovesPc (c.pc + 4) c c' ∧ Retired cl s m c' 5 t ∧
         (s.m.clean (s.m.imageByte cl (spaceOf sp) (i / 8)) 1 → m = { s.m with mem := m.mem, ecc := m.ecc }) ∧
         ∀ x k, (t.m.mem.ld8 x).getLsbD k =
           match e.2 with
           | some v => if x = s.m.imageByte cl (spaceOf sp) (i / 8) ∧ k = i % 8 then v
             else (s.m.mem.ld8 x).getLsbD k
           | none => (s.m.mem.ld8 x).getLsbD k))

/-- Image word accesses of 8, 16, 32 and 64 bits, little-endian from an aligned index (R72, R107). -/
def Obligations.ImageWords : Prop :=
  ∀ (cl : ClusterId) (s : State) (c : Core) (r : RR) (sp w : BitVec 2), Ready cl s c → Fires c r → r.b = 0 → sp ≠ 3 →
    let n := 2 ^ w.toNat
    let i := (c.rd r.a).toNat
    let addr (j : Nat) := s.m.imageByte cl (spaceOf sp) (i / 8 + j)
    i % (8 * n) = 0 → i + 8 * n ≤ 2 ^ 23 → mapped (spaceOf sp) (i + 8 * n - 1) = true →
    (∀ ext : Bool, (∀ j < n, s.m.clean (addr j) 1) →
      Completes (exec (.imgrWordLoad cl sp ext w r) s) fun t => ∃ c',
        let v := ((List.range n).map fun j => (s.m.mem.ld8 (addr j)).toNat * 256 ^ j).sum
        WritesG r.d (if ext then BitVec.ofInt 64 (Int.bmod v (256 ^ n)) else BitVec.ofNat 64 v) c c' ∧
        Retired cl s s.m c' (if w = 3 then 6 else 5) t) ∧
    (sp ≠ 0 → (sp = 1 → ∀ j < n, s.m.owns cl (i / 8 + j) = true) →
      Completes (exec (.imgrWordStore cl sp false w r) s) fun t => ∃ c' m, MovesPc (c.pc + 4) c c' ∧
        Retired cl s m c' (if w = 3 then 6 else 5) t ∧ (s.m.clean (addr 0) n → m = { s.m with mem := m.mem, ecc := m.ecc }) ∧
        ∀ x, t.m.mem.ld8 x = if addr 0 ≤ x ∧ x < addr 0 + n then
          BitVec.ofNat 8 ((c.rd r.d).toNat / 256 ^ (x - addr 0)) else s.m.mem.ld8 x)

/-- Image accesses that fail a check: IMAGE_RANGE, IMAGE_WRITE to the input space, IMAGE_OWNER, and MISALIGN of a
word (R72, R73, R75, R77, R114). -/
def Obligations.ImageExceptions : Prop :=
  ∀ (cl : ClusterId) (s : State) (c : Core) (sl : Slice), Ready cl s c → (s.m.kiln cl).slice = some sl → sl.task < 16 →
    (∀ (k : BitVec 3) (i : BitVec 23),
      (mapped .input i.toNat = false → ∀ e ∈ ([.ibld cl k i, .ibldn cl k i] : List Instr),
        Completes (exec e s) (Raised cl s sl 0x06)) ∧
      (mapped .output i.toNat = false → ∀ e ∈ ([.obld cl k i, .obldn cl k i, .obst cl k i, .obstn cl k i, .obset cl k i,
        .obclr cl k i] : List Instr), Completes (exec e s) (Raised cl s sl 0x06)) ∧
      (mapped .output i.toNat = true → s.m.owns cl (i.toNat / 8) = false →
        ∀ e ∈ ([.obst cl k i, .obstn cl k i, .obset cl k i, .obclr cl k i] : List Instr),
          Completes (exec e s) (Raised cl s sl 0x08))) ∧
    (∀ (r : RR) (sp w : BitVec 2) (ext : Bool), Fires c r → r.b = 0 → sp ≠ 3 →
      let i := (c.rd r.a).toNat
      (mapped (spaceOf sp) i = false →
        (r.d.toNat < 8 → ∀ e ∈ ([.imgrLoad cl sp r, .imgrLoadInverted cl sp r, .imgrStore cl sp r,
          .imgrStoreInverted cl sp r, .imgrSet cl sp r, .imgrClear cl sp r] : List Instr),
          Completes (exec e s) (Raised cl s sl 0x06)) ∧
        Completes (exec (.imgrWordLoad cl sp ext w r) s) (Raised cl s sl 0x06) ∧
        Completes (exec (.imgrWordStore cl sp false w r) s) (Raised cl s sl 0x06)) ∧
      (mapped (spaceOf sp) i = true → i % (8 * 2 ^ w.toNat) ≠ 0 →
        Completes (exec (.imgrWordLoad cl sp ext w r) s) (Raised cl s sl 0x05) ∧
        Completes (exec (.imgrWordStore cl sp false w r) s) (Raised cl s sl 0x05)) ∧
      (sp = 0 ∧ mapped .input i = true ∨ sp = 1 ∧ mapped .output i = true ∧ s.m.owns cl (i / 8) = false →
        let code := if sp = 0 then 0x07 else 0x08
        (r.d.toNat < 8 → ∀ e ∈ ([.imgrStore cl sp r, .imgrStoreInverted cl sp r, .imgrSet cl sp r, .imgrClear cl sp r] :
          List Instr), Completes (exec e s) (Raised cl s sl code)) ∧
        (i % (8 * 2 ^ w.toNat) = 0 → Completes (exec (.imgrWordStore cl sp false w r) s) (Raised cl s sl code))))


/-! ### State blocks (R108, R134 to R142) -/

/-- State blocks: edges with the output bit and PREV; on-delay, off-delay and pulse timers with ET, LAST and the flags Q,
IN and RUN; counters with the count, its bounds, Q, and IN in the counting kinds (R137, R138, R141). -/
def Obligations.BlockScans : Prop :=
  (∀ (cl : ClusterId) (r : BlockForm) (s : State) (c : Core), Ready cl s c →
     let a := (c.rd r.base + r.off.signExtend 64).toNat
     Scannable cl s.m c.sys a 1 →
     let inp := c.cb r.c
     let w := s.m.word a 0
     let prev := decide (w % 2 = 1)
     ∀ e ∈ ([(.edgRise cl r, inp && !prev), (.edgFall cl r, prev && !inp), (.edgEither cl r, inp != prev)] :
         List (Instr × Bool)),
       Completes (exec e.1 s) (Scanned cl s a [w / 2 * 2 + b2n inp] r.c e.2 c 6)) ∧
  (∀ (cl : ClusterId) (r : BlockForm) (s : State) (c : Core), Ready cl s c →
     let a := (c.rd r.base + r.off.signExtend 64).toNat
     Scannable cl s.m c.sys a 4 →
     let inp := c.cb r.c
     let now := s.m.tick.start
     let pt := s.m.word a 0
     let et := s.m.word a 1
     let fl := s.m.word a 3
     let last := decide (fl / 2 % 2 = 1)
     let run := decide (fl / 4 % 2 = 1)
     let grown := min pt (et + (((now : Int) - s.m.word a 2).emod (2 ^ 64)).toNat)
     let onEt := if !inp || !last then 0 else if run then grown else et
     let offEt := if inp || last then 0 else if run then grown else et
     let start := inp && !last && !run
     let pulseEt := if start then 0 else if run then grown else et
     ∀ e ∈ ([
       (.ton cl r, onEt, inp && (!last || run), inp && decide (pt ≤ onEt)),
       (.tof cl r, offEt, !inp && (last || run) && decide (offEt < pt), inp || decide (offEt < pt)),
       (.tp cl r, pulseEt, (start || run) && decide (pulseEt < pt), (start || run) && decide (pulseEt < pt))] :
         List (Instr × Nat × Bool × Bool)),
       Completes (exec e.1 s) (Scanned cl s a
         [pt, e.2.1, now % 2 ^ 64, fl / 8 * 8 + b2n e.2.2.2 + 2 * b2n inp + 4 * b2n e.2.2.1] r.c e.2.2.2 c 14)) ∧
  (∀ (cl : ClusterId) (r : BlockForm) (s : State) (c : Core), Ready cl s c →
     let a := (c.rd r.base + r.off.signExtend 64).toNat
     Scannable cl s.m c.sys a 3 →
     let inp := c.cb r.c
     let fl := s.m.word a 2
     let edge := inp && decide (fl % 2 = 0)
     let pv : Int := Int.bmod (s.m.word a 0) (2 ^ 64)
     let cv : Int := Int.bmod (s.m.word a 1) (2 ^ 64)
     let up := if edge ∧ cv ≠ 2 ^ 63 - 1 then cv + 1 else cv
     let down := if edge ∧ cv ≠ -2 ^ 63 then cv - 1 else cv
     let cleared := if inp then 0 else cv
     let loaded := if inp then pv else cv
     ∀ e ∈ ([
       (.ctu cl r, up, decide (pv ≤ up), inp), (.ctd cl r, down, decide (down ≤ 0), inp),
       (.crs cl r, cleared, decide (pv ≤ cleared), decide (fl % 2 = 1)),
       (.cld cl r, loaded, decide (loaded ≤ 0), decide (fl % 2 = 1))] : List (Instr × Int × Bool × Bool)),
       Completes (exec e.1 s) (Scanned cl s a
         [s.m.word a 0, (e.2.1.emod (2 ^ 64)).toNat, fl / 4 * 4 + b2n e.2.2.2 + 2 * b2n e.2.2.1] r.c e.2.2.1 c 10))

/-! ### Calls, slices and the system instructions -/

/-- UCALL and UCALLR write the call record below g29 and continue at the unit's entry with its privilege, the frame
register in g30; URET restores g30, c1 to c7 and the privilege from the record at g29, drops the record and continues
at the return address (R81 to R83, R109, R130). -/
def Obligations.UnitCallsAndReturn : Prop :=
  (∀ (cl : ClusterId) (f g : BitVec 5) (s : State) (c : Core) (sl : Slice) (u : Nat), Ready cl s c →
     (s.m.kiln cl).slice = some sl → u < s.m.prog.units → u < 65536 →
     let ua := s.m.prog.unitBase + 16 * u
     let entry := s.m.mem.ldN ua 4
     let size := s.m.mem.ldN (ua + 4) 4
     let flags := (s.m.mem.ld8 (ua + 8)).toNat
     let system := decide (flags % 2 = 1)
     let g29 := (c.rd 29).toNat
     let frame := (c.rd f).toNat
     ua + 16 ≤ 0x01800000 → s.m.clean ua 16 → inData entry = true → entry % 4 = 0 →
     (size = 0 ∨ frame % 64 = 0 ∧ frame + size ≤ 0x017E0000) →
     (c.sys = true ∨ system = false ∨ flags / 2 % 2 = 1) →
     (s.m.taskEnt sl.task).floor + 32 ≤ g29 → blockInData (g29 - 32) 32 = true → g29 % 8 = 0 →
     s.m.kilnDeniedBlock cl (g29 - 32) 32 1 true = none → s.m.tick.delta.length + 4 ≤ 1024 →
     (∀ i < 4, s.m.kilnDenied cl (g29 - 32 + 8 * i) 1 true = none) →
     let made (i : Instr) := Completes (exec i s) fun t => ∃ c',
       (∀ r, c'.rd r = if r = 29 then c.rd 29 - 32 else if r = 30 then c.rd f else c.rd r) ∧
       c'.c = c.c ∧ c'.fpf = c.fpf ∧ c'.pc = BitVec.ofNat 32 entry ∧ c'.sys = system ∧ c'.unit = BitVec.ofNat 16 u ∧
       Retired cl s (s.m.storeWords cl [(g29 - 32, c.pc.toNat + 4), (g29 - 24, (c.rd 30).toNat),
         (g29 - 16, c.unit.toNat + c.c.toNat / 2 * 2 * 2 ^ 16 + b2n c.sys * 2 ^ 24), (g29 - 8, 0)]) c' 12 t ∧
       ∀ x, x < g29 - 32 ∨ g29 ≤ x → t.m.mem.ld8 x = s.m.mem.ld8 x
     made (.ucall cl f (BitVec.ofNat 16 u)) ∧ ((c.rd g).toNat = u → made (.ucallr cl f g))) ∧
  (∀ (cl : ClusterId) (s : State) (c : Core) (sl : Slice), Ready cl s c → (s.m.kiln cl).slice = some sl →
     let g29 := (c.rd 29).toNat
     let w (i : Nat) : Nat := s.m.mem.ldN (readAddr cl (g29 + 8 * i)) 8
     g29 < (s.m.taskEnt sl.task).top → blockInData g29 32 = true → g29 % 8 = 0 →
     s.m.kilnDeniedBlock cl g29 32 0 true = none → (∀ i < 4, s.m.clean (readAddr cl (g29 + 8 * i)) 8) →
     inData (w 0) = true → w 0 % 4 = 0 →
     Completes (exec (.uret cl) s) fun t => ∃ c',
       (∀ r, c'.rd r = if r = 29 then c.rd 29 + 32 else if r = 30 then BitVec.ofNat 64 (w 1) else c.rd r) ∧
       c'.c = BitVec.ofNat 8 (w 2 / 2 ^ 16) ||| 1 ∧ c'.fpf = c.fpf ∧ c'.pc = BitVec.ofNat 32 (w 0) ∧
       c'.sys = decide (w 2 / 2 ^ 24 % 2 = 1) ∧ c'.unit = BitVec.ofNat 16 (w 2) ∧ Retired cl s s.m c' 10 t)

/-- Calls and returns that fail a check raise UNIT_BAD, PRIVILEGE, STACK_LIMIT or RET_EMPTY (R81, R83, R110). -/
def Obligations.CallExceptions : Prop :=
  ∀ (cl : ClusterId) (f u : BitVec 5) (s : State) (c : Core) (sl : Slice), Ready cl s c →
    (s.m.kiln cl).slice = some sl → sl.task < 16 →
    (s.m.prog.units ≤ (c.rd u).toNat → Completes (exec (.ucallr cl f u) s) (Raised cl s sl 0x0E)) ∧
    (∀ n : BitVec 16, s.m.prog.units ≤ n.toNat → Completes (exec (.ucall cl f n) s) (Raised cl s sl 0x0E)) ∧
    ((s.m.taskEnt sl.task).top ≤ (c.rd 29).toNat → Completes (exec (.uret cl) s) (Raised cl s sl 0x0D)) ∧
    (∀ n : BitVec 16, n.toNat < s.m.prog.units →
      let ua := s.m.prog.unitBase + 16 * n.toNat
      let entry := s.m.mem.ldN ua 4
      let size := s.m.mem.ldN (ua + 4) 4
      let flags := (s.m.mem.ld8 (ua + 8)).toNat
      let frame := (c.rd f).toNat
      let badFrame := decide (0 < size) && (decide (frame % 64 ≠ 0) || decide (0x017E0000 < frame + size))
      let refused := !c.sys && decide (flags % 2 = 1) && decide (flags / 2 % 2 = 0)
      ua + 16 ≤ 0x01800000 → s.m.clean ua 16 →
      (inData entry = false ∨ entry % 4 ≠ 0 ∨ badFrame = true →
        Completes (exec (.ucall cl f n) s) (Raised cl s sl 0x0E)) ∧
      (inData entry = true → entry % 4 = 0 → badFrame = false → refused = true →
        Completes (exec (.ucall cl f n) s) (Raised cl s sl 0x0A)) ∧
      (inData entry = true → entry % 4 = 0 → badFrame = false → refused = false →
        (c.rd 29).toNat < (s.m.taskEnt sl.task).floor + 32 →
        Completes (exec (.ucall cl f n) s) (Raised cl s sl 0x0C))) ∧
    (c.sys = false → Completes (exec (.msync cl) s) (Raised cl s sl 0x0A))

/-- SLICE ends the slice, and the next due slice, if any, is dispatched: every running core then holds what R67
gives (R45, R51, R131). -/
def Obligations.SliceEndsAndNextIsDispatched : Prop :=
  ∀ (cl : ClusterId) (s : State) (c : Core), Ready cl s c →
    Completes (exec (.slice cl) s) fun t =>
      (t.m.kiln cl).slice.map (fun x => (x.task, x.idx)) = (s.m.kiln cl).due.head? ∧
      (t.m.kiln cl).due = (s.m.kiln cl).due.tail ∧
      (t.m.kiln cl).cyc = (s.m.kiln cl).cyc + 2 + (if (s.m.kiln cl).due = [] then 0 else 64) ∧
      t.m.mem = s.m.mem ∧ t.pending = s.pending ∧ (∀ k < 3, t.core (1 - cl) k = s.core (1 - cl) k) ∧
      ∀ task idx rest, (s.m.kiln cl).due = (task, idx) :: rest →
        let e := s.m.taskEnt task
        let ua := s.m.prog.unitBase + 16 * e.root
        ∀ k ∈ s.m.actives cl,
          (∀ r, (t.core cl k).rd r = if r = 29 then BitVec.ofNat 64 e.top else if r = 30 then BitVec.ofNat 64 e.frame else 0) ∧
          (∀ b : BitVec 3, b ≠ 0 → (t.core cl k).cb b = false) ∧ (t.core cl k).fpf = 0 ∧
          (t.core cl k).pc = BitVec.ofNat 32 (s.m.mem.ldN ua 4) ∧
          (t.core cl k).sys = decide ((s.m.mem.ld8 (ua + 8)).toNat % 2 = 1)

/-- SINF, MSYNC and BRK (R109, R132, R154, R155). -/
def Obligations.SystemInstructions : Prop :=
  ∀ (cl : ClusterId) (s : State) (c : Core) (sl : Slice), Ready cl s c → (s.m.kiln cl).slice = some sl →
    (∀ (d : BitVec 5), ∀ e ∈ ([(0, s.m.tickNo), (1, s.m.tick.start),
        (2, sl.task % 16 + sl.idx % 256 * 2 ^ 4 + cl * 2 ^ 12), (3, s.m.tickNs)] : List (BitVec 3 × Nat)),
      Completes (exec (.sinf cl d e.1) s) fun t => ∃ c',
        WritesG d (BitVec.ofNat 64 e.2) c c' ∧ Retired cl s s.m c' 2 t) ∧
    (c.sys = true → Completes (exec (.msync cl) s) fun t => ∃ c', MovesPc (c.pc + 4) c c' ∧ Retired cl s s.m c' 48 t) ∧
    (∀ code : BitVec 16,
      let stops := s.m.mode = 3 ∧ s.m.bit (KLN_DBGCTL cl) 0 = true ∧ s.m.bit (KLN_DBGCTL cl) 1 = true
      (¬stops → Completes (exec (.brk cl code) s) fun t => ∃ c', MovesPc (c.pc + 4) c c' ∧ Retired cl s s.m c' 2 t) ∧
      (stops → Completes (exec (.brk cl code) s) fun t => ∃ c', MovesPc (c.pc + 4) c c' ∧
        Retired cl s (s.m.wr (KLN_DBGSTAT cl) (code.toNat * 2 ^ 16 + s.m.fld (KLN_DBGSTAT cl) 3 3 * 8 + 1)) c' 2 t ∧
        t.m.bit (KLN_DBGSTAT cl) 0 = true ∧ t.m.fld (KLN_DBGSTAT cl) 31 16 = code.toNat))

/-! ### Accessions and Deadline Engine requests -/

/-- ACQ: NONE when nothing remains to fetch; else the accession goes to the buffer and counts as fetched; COMMIT_FULL
without room in the retained delta (R143, R144). -/
def Obligations.AcquireResults : Prop :=
  ∀ (cl : ClusterId) (d a : BitVec 5) (s : State) (c : Core) (sl : Slice), Ready cl s c →
    (s.m.kiln cl).slice = some sl → sl.task < 16 →
    let b := (c.rd a).toNat
    blockInData b 288 = true → b % 8 = 0 → s.m.kilnDeniedBlock cl b 288 1 c.sys = none →
    (s.m.toFetch cl = none → Completes (exec (.acq cl d a) s) fun t =>
      ∃ c', WritesG d 1 c c' ∧ Retired cl s s.m c' 96 t) ∧
    ∀ n, s.m.toFetch cl = some n →
      let bs := s.m.acqBytes n
      (s.m.deltaFull (s.m.newGranules b bs.length) = false → Completes (exec (.acq cl d a) s) fun t => ∃ c',
        WritesG d 0 c c' ∧ Retired cl s ((s.m.kilnStore cl b bs).fetchAcc cl n) c' 96 t ∧
        (t.m.kiln cl).fetched = (s.m.kiln cl).fetched ++ [n] ∧ t.m.mem.ldBytes b bs.length = bs) ∧
      (s.m.deltaFull (s.m.newGranules b bs.length) = true →
        Completes (exec (.acq cl d a) s) fun t => Raised cl s sl 0x02 t ∧
          t.m.mem.ldBytes b 288 = s.m.mem.ldBytes b 288 ∧ (t.m.kiln cl).fetched = (s.m.kiln cl).fetched)

/-- ACMP: OK records the completion, DONE, UNKNOWN and FULL record nothing (R146). -/
def Obligations.CompletionResults : Prop :=
  ∀ (cl : ClusterId) (d a b : BitVec 5) (s : State) (c : Core), Ready cl s c →
    let n := (c.rd a).toNat
    let k := s.m.kiln cl
    let mine := s.m.accLive n = true ∧ s.m.routeOf (s.m.recClass n) = cl
    let done := s.m.recState n = 4 ∨ s.m.recState n = 5 ∨ ∃ code, (n % 65536, code) ∈ k.comps
    let known := n ∈ k.fetched ∨ s.m.recState n = 3
    let answers (st : Word) (m : Mach) := Completes (exec (.acmp cl d a b) s) fun t =>
      ∃ c', WritesG d st c c' ∧ Retired cl s m c' 16 t
    (mine → ¬done → known → k.comps.length < 4096 → answers 0 (s.m.setKiln cl
      { k with comps := k.comps ++ [(n % 65536, (c.rd b).toNat % 2 ^ 32)] })) ∧
    (mine → ¬done → known → 4096 ≤ k.comps.length → answers 2 s.m) ∧
    (¬mine ∨ ¬done ∧ ¬known → answers 3 s.m) ∧
    (mine → done → answers 4 s.m)

/-- TACT, TRKU and TRKQ: a request that passes its checks is queued with OK; one that breaks a rule answers BAD_REQ,
REFUSED_ZERO or FULL and is not queued; TRKQ with KIND 2 writes the next result of the firing to its area and takes it
from the set, or answers NONE (R147, R148, R152, R153). -/
def Obligations.DeadlineRequests : Prop :=
  (∀ (cl : ClusterId) (d a : BitVec 5) (s : State) (c : Core), Ready cl s c →
     let b := (c.rd a).toNat
     let q := (s.m.kiln cl).queue
     ∀ e ∈ ([
       (.tactAtTime cl d a, .tact, 32, 20), (.tactAtPosition cl d a, .tact, 32, 20), (.tactCancel cl d a, .tact, 32, 20),
       (.trkuCreate cl d a, .trku, 32, 20), (.trkuCorrect cl d a, .trku, 32, 20), (.trkuRelease cl d a, .trku, 32, 20),
       (.trkqTrackQuery cl d a, .trkq, 64, 24), (.trkqActionQuery cl d a, .trkq, 64, 24)] :
         List (Instr × ReqOp × Nat × Nat)),
       let blk := (List.range (e.2.2.1 / 8)).flatMap fun i => s.m.mem.ldBytes (readAddr cl (b + 8 * i)) 8
       let bad := match e.2.1 with
         | .tact => tactBad blk
         | .trku => trkuBad blk
         | .trkq => trkqBad blk
       let zero := decide (e.2.1 = .tact) && decide (fieldOf blk 9 1 = 2) && decide (fieldOf blk 10 2 = 0)
       let st := if bad then 5 else if zero then 6 else if 1024 ≤ q.length then 2 else 0
       blockInData b e.2.2.1 = true → b % 8 = 0 → s.m.kilnDeniedBlock cl b e.2.2.1 0 c.sys = none →
       (∀ i < e.2.2.1 / 8, s.m.clean (readAddr cl (b + 8 * i)) 8) → ¬(e.2.1 = .trkq ∧ fieldOf blk 4 1 = 2) →
       Completes (exec e.1 s) fun t => ∃ c', WritesG d (BitVec.ofNat 64 st) c c' ∧ Retired cl s
         (if st = 0 then s.m.setKiln cl { s.m.kiln cl with queue := q ++ [⟨e.2.1, blk⟩] } else s.m) c' e.2.2.2 t) ∧
  (∀ (cl : ClusterId) (d a : BitVec 5) (s : State) (c : Core), Ready cl s c →
     let b := (c.rd a).toNat
     let blk := (List.range 8).flatMap fun i => s.m.mem.ldBytes (readAddr cl (b + 8 * i)) 8
     blockInData b 64 = true → b % 8 = 0 → s.m.kilnDeniedBlock cl b 64 0 c.sys = none →
     (∀ i < 8, s.m.clean (readAddr cl (b + 8 * i)) 8) → fieldOf blk 4 1 = 2 → trkqBad blk = false →
     s.m.kilnDeniedBlock cl (b + 16) 48 1 c.sys = none →
     ((s.m.kiln cl).results = [] → Completes (exec (.trkqCollect cl d a) s) fun t =>
       ∃ c', WritesG d 1 c c' ∧ Retired cl s s.m c' 24 t) ∧
     ∀ r rest, (s.m.kiln cl).results = r :: rest → s.m.deltaFull (s.m.newGranules (b + 16) 48) = false →
       Completes (exec (.trkqCollect cl d a) s) fun t => ∃ c' m, WritesG d 0 c c' ∧ Retired cl s m c' 24 t ∧
         m = (s.m.kilnStore cl (b + 16) r.bytes).modKiln cl (fun k => { k with results := rest }) ∧
         (t.m.kiln cl).results = rest ∧ t.m.mem.ldBytes (b + 16) 48 = r.bytes)


/-! ### Plant time and the real-time clock (R277 to R309) -/

/-- The commands of plant time: a set, a step, a rate, the timestamp FIFO, PTP and the pulse of the second. -/
def Obligations.PlantTimeCommands : Prop :=
  ∀ s : State, s.m.dead = false →
    (∀ ptp : Bool, ¬(4 ≤ s.m.mode ∧ s.m.timeValid = true) → Completes (exec (.timeSet ptp) s) fun t =>
      t.m.tick.now = s.m.rg64 TMB_SET ∧ t.m.tick.frac = 0 ∧ t.m.timeValid = true ∧
      t.m.fld TMB_STAT 3 1 = (if ptp then 2 else 4) ∧ t.m.rg64 TMB_TIME = s.m.rg64 TMB_SET ∧
      KeepsRegs s t [KLN_SCHSTAT, TMB_STAT, TMB_TIME, TMB_TIME + 4] ∧ SameCores s t) ∧
    (∀ ptp : Bool, 4 ≤ s.m.mode → s.m.timeValid = true →
      Completes (exec (.timeSet ptp) s) fun t => t = { s with m := s.m.emit (.status "TIME_LOCKED") }) ∧
    (let v := s.m.rg64 TMB_STEP
      let d := Int.bmod v (2 ^ 64)
      let limit := if s.m.mode = 6 then min (s.m.rg TMB_JUMPMAX) 5000 else s.m.rg TMB_JUMPMAX
      v ≠ 0 → s.m.mode ≠ 4 → s.m.mode ≠ 5 → s.m.tmb.step = none → Completes (exec .timeStep s) fun t =>
        SameCores s t ∧
        if limit < d.natAbs then t.m.bit TMB_STAT 6 = true ∧ t.m.tick = s.m.tick ∧ KeepsRegs s t [TMB_STAT]
        else if s.m.mode = 6 then
          t.m.tmb.step = some d ∧ t.m.bit TMB_STAT 5 = true ∧ t.m.tick = s.m.tick ∧ KeepsRegs s t [TMB_STAT]
        else (t.m.tick.now : Int) = (s.m.tick.now + d).emod (2 ^ 64) ∧ t.m.rg64 TMB_TIME = t.m.tick.now ∧
          KeepsRegs s t [TMB_TIME, TMB_TIME + 4]) ∧
    (∀ (hi : BitVec 32) (w : Writer),
      let lo := (tabGet (BitVec.ofNat 32 (s.m.rg TMB_ADDEND)) s.m.loHeld TMB_ADDEND).toNat
      let v := lo + 2 ^ 32 * (hi.toNat % 8)
      Completes (exec (.addendWrite hi w) s) fun t => SameCores s t ∧ t.m.tick = s.m.tick ∧
        if 0x3FFCB923B ≤ v ∧ v ≤ 0x400346DC5 then t.m.rg64 TMB_ADDEND = v ∧ KeepsRegs s t [TMB_ADDEND, TMB_ADDEND + 4]
        else KeepsRegs s t []) ∧
    (∀ e rest, s.m.tmb.fifo = e :: rest → e.time < 2 ^ 64 → rest.length < 64 →
      e.seqid < 2 ^ 16 → e.mtype < 16 → e.port < 8 → Completes (exec .timestampPop s) fun t =>
        t.m.tmb.fifo = rest ∧ t.m.rg64 TMB_TSTIME = e.time ∧ t.m.fld TMB_TSINFO 31 16 = e.seqid ∧
        t.m.fld TMB_TSINFO 15 12 = e.mtype ∧ t.m.bit TMB_TSINFO 11 = e.sent ∧ t.m.fld TMB_TSINFO 10 8 = e.port ∧
        t.m.bit TMB_TSINFO 0 = true ∧ t.m.fld TMB_TSSTAT 6 0 = rest.length ∧
        KeepsRegs s t [TMB_TSSTAT, TMB_TSINFO, TMB_TSTIME, TMB_TSTIME + 4] ∧ SameCores s t) ∧
    (∀ (p : Fin 2) (sent : Bool) (mtype : BitVec 4) (seqid : BitVec 16) (time : BitVec 64),
      s.m.ptpPort p = true → (sent = true → s.m.ptpMaySend mtype.toNat = true) → mtype.toNat ≤ 3 →
      s.m.tmb.fifo.length < 64 → Completes (exec (.ptpMessage p sent mtype seqid time) s) fun t =>
        t.m.tmb.fifo = s.m.tmb.fifo ++ [⟨p, sent, mtype.toNat, seqid.toNat,
          (((time.toNat : Int) + (if sent then (s.m.fld (TMB_LAT p) 31 16 : Int) else -(s.m.fld (TMB_LAT p) 15 0 : Int))).emod
            (2 ^ 64)).toNat⟩] ∧ KeepsRegs s t [TMB_TSSTAT] ∧ SameCores s t) ∧
    (∀ (lock : Bool) (time : BitVec 64), Completes (exec (.ptpLockChange lock time) s) fun t =>
      t.m.bit TMB_STAT 4 = lock ∧ KeepsRegs s t [TMB_STAT, TMB_TIME, TMB_TIME + 4] ∧ SameCores s t ∧
      if lock = true ∧ s.m.tmb.wait = true then t.m.tick.now = time.toNat ∧ t.m.timeValid = true ∧ t.m.tmb.wait = false
      else t.m.tick = s.m.tick ∧ t.m.tmb = s.m.tmb) ∧
    (s.m.tmb.wait = true → Completes (exec .ptpWaitExpiry s) fun t =>
      t.m.tmb.wait = false ∧ t.m.tick = s.m.tick ∧ KeepsRegs s t [] ∧ SameCores s t) ∧
    (s.m.timeValid = true → Completes (exec .ppsPulse s) fun t => t = { s with m := s.m.emit .pps })

/-- The commands of the real-time clock: its seconds, HALT, shadows, alarm and backup domain. -/
def Obligations.RealTimeClockCommands : Prop :=
  ∀ s : State,
    (∀ tm d, s.m.bit RTC_CTL 0 = false → nextSecond (s.m.rg RTC_TIME) (s.m.rg RTC_DATE) = some (tm, d) →
      Completes (exec .rtcSecond s) fun t => t.m.rg RTC_TIME = tm ∧ t.m.rg RTC_DATE = d ∧ t.m.rg RTC_SUB = 0 ∧
        (s.m.bit RTC_CTL 1 = true → s.m.bit RTC_STAT 4 = false → t.m.alarmMatches = true → t.m.bit RTC_STAT 2 = true) ∧
        KeepsRegs s t [RTC_TIME, RTC_DATE, RTC_SUB, RTC_STAT, RTC_CTL] ∧ SameCores s t) ∧
    (Completes (exec .rtcTrimWindow s) fun t =>
      t = { s with m := { s.m with rtc := { s.m.rtc with trim := s.m.rg RTC_TRIM } } }) ∧
    (Completes (exec .shadowRelease s) fun t =>
      t.m.rtc.shadow = none ∧ t.m.bit RTC_STAT 1 = false ∧ KeepsRegs s t [RTC_STAT] ∧ SameCores s t) ∧
    (Completes (exec .backupSupplyLost s) fun t =>
      t.m.bit RTC_STAT 6 = true ∧ t.m.rg RTC_CTL = (regReset RTC_CTL).toNat ∧
      t.m.rg RTC_ALMTIME = (regReset RTC_ALMTIME).toNat ∧ t.m.rg RTC_TRIM = (regReset RTC_TRIM).toNat ∧
      (∀ a, a < 0x080C0000 ∨ 0x080D0000 ≤ a → t.m.rg a = s.m.rg a) ∧ SameCores s t) ∧
    (s.m.dead = false →
      (∀ sub : BitVec 15, s.m.bit RTC_CTL 0 = false → Completes (exec (.rtcHaltSet sub) s) fun t =>
        t.m.rg RTC_SUB = sub.toNat ∧ t.m.bit RTC_CTL 0 = true ∧ t.m.bit RTC_STAT 0 = true ∧
        KeepsRegs s t [RTC_SUB, RTC_CTL, RTC_STAT] ∧ SameCores s t) ∧
      (s.m.bit RTC_CTL 0 = true → Completes (exec .rtcRelease s) fun t => SameCores s t ∧
        KeepsRegs s t [RTC_CTL, RTC_STAT] ∧
        if dateExists (s.m.rg RTC_DATE) then t.m.bit RTC_CTL 0 = false ∧ t.m.bit RTC_STAT 0 = false ∧
          (s.m.rtcSeconds < s.m.rtc.haltSec → t.m.bit RTC_STAT 4 = true)
        else t.m.bit RTC_CTL 0 = true ∧ t.m.bit RTC_STAT 5 = true) ∧
      (∀ (r : RtcReg) (sub : BitVec 15),
        let live := (if s.m.bit RTC_CTL 0 then s.m.rg RTC_SUB else sub.toNat, s.m.rg RTC_TIME, s.m.rg RTC_DATE)
        let v := if s.m.shadowOn then s.m.rtc.shadow.getD live else live
        Completes (exec (.rtcShadowRead r sub) s) fun t =>
          t.m.out = s.m.out ++ [.data (leBytes 4 (match r with | .sub => v.1 | .time => v.2.1 | .date => v.2.2))] ∧
          t.m.rtc.shadow = (if r = .date then none else if s.m.shadowOn then some v else s.m.rtc.shadow) ∧
          KeepsRegs s t [RTC_STAT] ∧ SameCores s t) ∧
      (∀ (a : AlarmWrite) (w : Writer), Completes (exec (.alarmRearm a w) s) fun t => SameCores s t ∧
        KeepsRegs s t [RTC_ALMTIME, RTC_ALMDATE, RTC_CTL, RTC_STAT] ∧
        match a with
        | .time v => Mach.timeInRange v.toNat = true →
          t.m.bit RTC_STAT 4 = false ∧ ∀ k ∈ [(31, 29), (20, 16), (13, 8), (5, 0)],
            t.m.fld RTC_ALMTIME k.1 k.2 = bits v.toNat k.1 k.2
        | .date v => Mach.dateInRange v.toNat = true →
          t.m.bit RTC_STAT 4 = false ∧ ∀ k ∈ [(31, 29), (23, 16), (11, 8), (4, 0)],
            t.m.fld RTC_ALMDATE k.1 k.2 = bits v.toNat k.1 k.2
        | .almen on => t.m.bit RTC_CTL 1 = on ∧ t.m.bit RTC_STAT 4 = false) ∧
      (Completes (exec .vlostClear s) fun t =>
        t.m.bit RTC_STAT 6 = false ∧ KeepsRegs s t [RTC_CTL, RTC_STAT] ∧ SameCores s t))

/-! ### Local channels and CAN FD (R450 to R464) -/

/-- The commands of the local channels. -/
def Obligations.LocalChannelCommands : Prop :=
  ∀ (ch : Fin 16) (s : State), s.m.dead = false →
    (∀ (level : Bool) (raw : BitVec 64), s.m.bit LIO_LEVEL ch ≠ level →
      Completes (exec (.edgeAccept ch level raw) s) fun t =>
        t.m.bit LIO_LEVEL ch = level ∧
        tabGet 0 t.m.lio.edges ch = raw.toNat % 2 ^ 32 + (tabGet 0 s.m.lio.edges ch / 2 ^ 32 % 256 + 1) % 256 * 2 ^ 32 +
          b2n level * 2 ^ 40 ∧ KeepsRegs s t [LIO_LEVEL] ∧ SameCores s t) ∧
    (∀ r : Sched, assocGet s.m.lio.sched ch = some r → Completes (exec (.scheduleFire ch) s) fun t =>
      assocGet t.m.lio.sched ch = none ∧ t.m.lio.shadow.getLsbD ch = decide (r.level ≠ 0) ∧
      assocGet t.m.lio.pulse ch = (if r.level = 2 then some ((r.fire + 1000 * r.width) % 2 ^ 32) else none) ∧
      (s.m.driving = true → assocGet s.m.lio.shorted ch = none → t.m.bit LIO_DRIVE ch = decide (r.level ≠ 0)) ∧
      KeepsRegs s t [LIO_DRIVE] ∧ SameCores s t) ∧
    (assocGet s.m.lio.pulse ch ≠ none → Completes (exec (.pulseEnd ch) s) fun t =>
      assocGet t.m.lio.pulse ch = none ∧ t.m.lio.shadow.getLsbD ch = false ∧
      (s.m.driving = true → assocGet s.m.lio.shorted ch = none → t.m.bit LIO_DRIVE ch = false) ∧
      KeepsRegs s t [LIO_DRIVE] ∧ SameCores s t) ∧
    (s.m.driving = true → s.m.bit LIO_DRIVE ch = true → Completes (exec (.shortDetect ch) s) fun t =>
      t.m.bit LIO_DRIVE ch = false ∧ t.m.bit LIO_FAULT ch = true ∧
      assocGet t.m.lio.shorted ch = some s.m.tick.now ∧ KeepsRegs s t [LIO_DRIVE, LIO_FAULT] ∧ SameCores s t) ∧
    (s.m.driving = true → s.m.bit LIO_DRIVE ch = true → s.m.bit (LIO_CHCFG ch) 6 = true →
      Completes (exec (.openloadDetect ch) s) fun t =>
        t.m.bit LIO_FAULT (ch + 16) = true ∧ KeepsRegs s t [LIO_FAULT] ∧ SameCores s t) ∧
    (s.m.driving = true → s.m.bit LIO_DRIVE ch = false → 2 ≤ s.m.chMode ch →
      Completes (exec (.foreignDetect ch) s) fun t =>
        t.m.bit LIO_FOREIGN ch = true ∧ KeepsRegs s t [LIO_FOREIGN] ∧ SameCores s t) ∧
    (Completes (exec (.shortClear ch) s) fun t =>
      t.m.bit LIO_FAULT ch = false ∧ assocGet t.m.lio.shorted ch = none ∧ KeepsRegs s t [LIO_FAULT] ∧ SameCores s t) ∧
    (∀ released : Bool, s.m.bit LIO_CTL 0 = true → s.m.lio.fellBack = false → s.m.fld LIO_CTL 15 8 ≤ s.m.lio.missed →
      s.m.driving = true → Completes (exec (.lioFallback released) s) fun t =>
        t.m.lio.fellBack = true ∧ KeepsRegs s t [LIO_DRIVE] ∧ SameCores s t ∧
        (s.m.chMode ch = 2 → s.m.bit (LIO_CHCFG ch) 3 = true →
          t.m.lio.shadow.getLsbD ch = s.m.bit (LIO_CHCFG ch) 4))

/-- The commands of a CAN FD port. -/
def Obligations.CanPortCommands : Prop :=
  ∀ (p : PortId) (s : State), s.m.dead = false →
    (∀ f : List Byte, s.m.bit (CFD_CTL p) 0 = true → s.m.canPasses p f = true →
      ((leNat (f.take 4)).testBit 30 = true → s.m.bit (CFD_CTL p) 2 = true) →
      Completes (exec (.canFrameReceive p f) s) fun t => SameCores s t ∧
        KeepsRegs s t [CFD_QSTAT p, CFD_CNT p] ∧
        if (s.m.can p).rx.length < 256 then (t.m.can p).rx = (s.m.can p).rx ++ [f] ∧ (t.m.can p).tx = (s.m.can p).tx
        else (t.m.can p).rx = (s.m.can p).rx ∧ (t.m.can p).lost = satInc (s.m.can p).lost 65535 ∧
          t.m.fld (CFD_CNT p) 31 16 = satInc (s.m.fld (CFD_CNT p) 31 16) 65535) ∧
    (∀ f rest (time : BitVec 32), (s.m.can p).tx = f :: rest → s.m.bit (CFD_CTL p) 6 = false →
      Completes (exec (.canFrameTransmitted p time) s) fun t =>
        (t.m.can p).tx = rest ∧ (t.m.can p).rx = (s.m.can p).rx ∧
        t.m.fld (CFD_STAT p) 23 16 = s.m.fld (CFD_STAT p) 23 16 - 1 ∧
        t.m.out = s.m.out ++ rest.head?.toList.map (.can p) ∧
        KeepsRegs s t [CFD_QSTAT p, CFD_STAT p] ∧ SameCores s t) ∧
    (∀ f rest (error : Bool), (s.m.can p).tx = f :: rest → Completes (exec (.canTxError p error) s) fun t =>
      (error = true → t.m.fld (CFD_STAT p) 23 16 = min (s.m.fld (CFD_STAT p) 23 16 + 8) 255) ∧
      KeepsRegs s t [CFD_QSTAT p, CFD_STAT p, CFD_CNT p] ∧ SameCores s t ∧
      if s.m.bit (CFD_CTL p) 4 then (t.m.can p).tx = rest ∧
        t.m.fld (CFD_CNT p) 15 0 = min (s.m.fld (CFD_CNT p) 15 0 + 1) 65535
      else (t.m.can p).tx = f :: rest ∧ t.m.out = s.m.out ++ [.can p f]) ∧
    (s.m.bit (CFD_CTL p) 1 = false → s.m.fld (CFD_STAT p) 1 0 ≠ 2 → Completes (exec (.canBusoff p) s) fun t =>
      (t.m.can p).tx = [] ∧ t.m.fld (CFD_STAT p) 1 0 = 2 ∧
      t.m.fld (CFD_CNT p) 15 0 = min (s.m.fld (CFD_CNT p) 15 0 + (s.m.can p).tx.length) 65535 ∧
      (s.m.bit (CFD_CTL p) 5 = true → t.m.bit (CFD_STAT p) 3 = true) ∧
      KeepsRegs s t [CFD_QSTAT p, CFD_STAT p, CFD_CNT p] ∧ SameCores s t) ∧
    (s.m.fld (CFD_STAT p) 1 0 = 2 → Completes (exec (.canRecover p) s) fun t =>
      t.m.bit (CFD_STAT p) 3 = true ∧ KeepsRegs s t [CFD_STAT p] ∧ SameCores s t) ∧
    (s.m.bit (CFD_STAT p) 3 = true → Completes (exec (.canRecovered p) s) fun t =>
      t.m.rg (CFD_STAT p) = 0 ∧ KeepsRegs s t [CFD_STAT p] ∧ SameCores s t)

/-! ### Resets, modes and the role (R310 to R333, R475 to R485, R511, R512) -/

/-- The resets put every core at its reset state; with RESET_N low the module is held, and else boots; the end of BOOT
is BENCH or the claim stage (R397, R478, R481, R483, R485). -/
def Obligations.ResetCommands : Prop :=
  ∀ (e : BootEnv) (s : State),
    let atReset (t : State) : Prop := t.c0 = Tri.reset ∧ t.c1 = Tri.reset ∧ t.pending = s.pending
    (s.m.mated = true → Completes (exec (.powerOnReset e) s) fun t =>
      atReset t ∧ (s.m.resetN = false → t.m.held = some 0)) ∧
    (s.m.dead = false → Completes (exec .backplaneReset s) fun t =>
      atReset t ∧ t.m.resetN = false ∧ t.m.held = some (if s.m.pfw then 0 else 1)) ∧
    (∀ c, s.m.held = some c → c ≠ 0 → ∀ good : Bool, Completes (exec (.resetNRise good e) s) atReset) ∧
    (s.m.dead = false → s.m.bit CUR_WDOG 13 = true → Completes (exec (.watchdogExpiry e) s) atReset ∧
      ∀ key : BitVec 32, key ≠ 0xA55A → Completes (exec (.wdkick key 6 e) s) atReset) ∧
    (s.m.dead = false → Completes (exec (.wdkick 0xA55A 6 e) s) fun t =>
      t.m.rg64 (RTC_BKP 5) = s.m.rg64 KLN_TICKNO ∧ KeepsRegs s t [RTC_BKP 5, RTC_BKP 6] ∧ SameCores s t) ∧
    (s.m.dead = false → Completes (exec (.moduleSoftwareReset 0xC0DE true 6 e) s) atReset) ∧
    (s.m.mated = true → s.m.mode ≠ 0 → s.m.sva.hold = true → Completes (exec (.shutdownHoldEnd e) s) atReset) ∧
    (∀ cl : ClusterId, s.m.fld (KLN_CLSTAT cl) 2 0 = 4 → Completes (exec (.kilnClusterReset 6 0x4B4C (if cl = 0 then 1 else 2)) s)
      fun t => t.tri cl = Tri.reset ∧ t.tri (1 - cl) = s.tri (1 - cl) ∧ (t.m.kiln cl).slice = none ∧
        (t.m.kiln cl).testing = true ∧ t.m.fld (KLN_CLSTAT cl) 2 0 = 0 ∧ t.pending = s.pending) ∧
    (s.m.dead = false → s.m.mode = 1 → s.m.fld CUR_BOOTSTAT 19 16 = 5 → s.m.bit DDC_STAT 0 = false →
      Completes (exec (.seedingComplete e) s) fun t => SameCores s t ∧ (t.m.mode = 3 ∨ t.m.pair.claim = 1)) ∧
    (Completes (exec .presenceMated s) fun t => t = { s with m := { s.m with mated := true } }) ∧
    (s.m.dead = false → Completes (exec .withdrawal s) fun t =>
      t.m.mated = false ∧ t.m.sva.hold = true ∧ t.m.pair.driver = false ∧ SameCores s t) ∧
    (s.m.mode ≠ 0 → Completes (exec .supplyLost s) fun t =>
      t.m.mode = 0 ∧ t.m.held = none ∧ t.m.pair.driver = false ∧ SameCores s t)

/-- The mode commands: START, HALT, BENCH and the lever are refused or wait for the boundary with the status of R479
(R479, R511). -/
def Obligations.ModeCommands : Prop :=
  ∀ s : State, s.m.dead = false →
    let answers (i : Instr) (code : Nat) (name : String) (want : Option Nat) := Completes (exec i s) fun t =>
      t.m.fld CUR_MODECTL 15 8 = code ∧ t.m.out = s.m.out ++ [.status name] ∧ t.m.wantMode = want ∧
      KeepsRegs s t [CUR_MODECTL] ∧ SameCores s t
    (∀ e ∈ ([(.startWarm, 1), (.startCold, 2)] : List (Instr × Nat)),
      (s.m.mode ≠ 3 → answers e.1 2 "WRONG_MODE" s.m.wantMode) ∧
      (s.m.mode = 3 → s.m.prog.gen = 0 → answers e.1 4 "NO_PROGRAM" s.m.wantMode) ∧
      (s.m.mode = 3 → s.m.prog.gen ≠ 0 → s.m.bit PTL_STAT 9 = true → answers e.1 5 "PARTNER_PRIMARY" s.m.wantMode) ∧
      (s.m.mode = 3 → s.m.prog.gen ≠ 0 → s.m.bit PTL_STAT 9 = false → s.m.bit (KLN_DBGSTAT 0) 0 = false →
        s.m.bit (KLN_DBGSTAT 1) 0 = false → s.m.pgm.change = none → s.m.chgState = 0 → s.m.entryOk = true →
        s.m.pair.partial_ = false → answers e.1 0 "OK" (some 6) ∧
          Completes (exec e.1 s) fun t => t.m.wantStart = e.2)) ∧
    (∀ force : Bool,
      (s.m.mode = 5 ∨ s.m.mode = 6 ∧ force = true → answers (.halt force) 0 "OK" (some 7)) ∧
      (s.m.mode ≠ 5 → s.m.mode ≠ 6 → answers (.halt force) 2 "WRONG_MODE" s.m.wantMode) ∧
      (s.m.mode = 6 → s.m.solo = true → force = false → answers (.halt force) 3 "NOT_READY" s.m.wantMode)) ∧
    (s.m.mode = 7 → answers .bench 0 "OK" (some 3)) ∧ (s.m.mode ≠ 7 → answers .bench 2 "WRONG_MODE" s.m.wantMode) ∧
    (s.m.mode = 5 → Completes (exec .leverOpen s) fun t => t = { s with m := { s.m with wantMode := some 7 } }) ∧
    (s.m.mode = 6 → s.m.solo = false → s.m.pair.partDiv = false → Completes (exec .leverOpen s) fun t =>
      t = { s with m := { s.m with pair := { s.m.pair with handOver := 1 } } }) ∧
    (s.m.mode = 6 → s.m.solo = true → Completes (exec .leverOpen s) fun t =>
      t.m.wantMode = s.m.wantMode ∧ KeepsRegs s t [] ∧ SameCores s t)

/-- The role line and what ends service in a standby: sample, keeper, loss, contention, gate test, claim, swap and the
limits (R289, R310 to R313, R328 to R333, R341, R342). -/
def Obligations.RoleCommands : Prop :=
  ∀ (w : Writer) (s : State), s.m.dead = false →
    let lost (t : State) : Prop := t.m.wantMode = some 7 ∧ t.m.pair.driver = false ∧ t.m.fld PTL_STAT 8 7 = 0 ∧ SameCores s t
    (∀ part : Bool, Completes (exec (.roleSamplePoint true part) s) fun t =>
      t.m.bit PTL_STAT 8 = true ∧ t.m.bit PTL_STAT 9 = part ∧ KeepsRegs s t [PTL_STAT] ∧ SameCores s t) ∧
    (s.m.mode = 6 → s.m.pair.driver = true →
      (∀ part : Bool, Completes (exec (.roleSamplePoint false part) s) lost) ∧ Completes (exec .roleLost s) lost) ∧
    (Completes (exec .keeperRelease s) fun t =>
      t.m.fld PTL_STAT 8 7 = 0 ∧ KeepsRegs s t [PTL_STAT] ∧ SameCores s t) ∧
    (s.m.mode = 6 → s.m.bit CUR_PAIR 1 = true → Completes (exec .roleContention s) fun t =>
      t.m.fld PTL_STAT 8 7 = 0 ∧ t.m.bit PTL_STAT 9 = true ∧ KeepsRegs s t [PTL_STAT] ∧ SameCores s t) ∧
    (∀ released : Bool, s.m.mode = 5 → s.m.bit PTL_STAT 9 = true → Completes (exec (.roleGateTest released) s) fun t =>
      t.m.pair.gateOk = released ∧ KeepsRegs s t [] ∧ SameCores s t) ∧
    (s.m.claiming = true → s.m.bit PTL_STAT 9 = false → Completes (exec .claimWaitExpiry s) fun t =>
      KeepsRegs s t [] ∧ SameCores s t ∧
      if s.m.pair.lastRole = 6 ∧ s.m.pair.partial_ = false then t.m.pair.claim = 2 else t.m.pair.claim = 4 ∧ t.m.wantMode = some 7) ∧
    (s.m.mode = 7 → s.m.pair.partial_ = false → s.m.pair.claim = 4 → s.m.bit PTL_STAT 9 = false →
      Completes (exec (.claim w) s) fun t =>
        t.m.pair.claim = 2 ∧ t.m.out = s.m.out ++ [.status "OK"] ∧ KeepsRegs s t [] ∧ SameCores s t) ∧
    (s.m.swapRefuse = 0 → Completes (exec (.swap w) s) fun t =>
      (s.m.swapTick, 1) ∈ t.m.pair.events ∧ t.m.out = s.m.out ++ [.status "OK"] ∧ SameCores s t) ∧
    (s.m.mode = 6 → s.m.swapDue = true → s.m.tick.phase = 0 → s.m.pair.driver = false →
      Completes (exec .maintenanceSwap s) fun t => t.m.mode = 5 ∧ SameCores s t) ∧
    (s.m.mode = 5 → s.m.pair.diverged = false → 2 ≤ s.m.pair.silent → s.m.bit PTL_STAT 9 = true →
      Completes (exec .partnerLinkLost s) fun t => t.m.wantMode = some 4 ∧ t.m.pair.diverged = true ∧
        t.m.bit PTL_STAT 6 = false ∧ KeepsRegs s t [PTL_STAT] ∧ SameCores s t) ∧
    (s.m.mode = 5 → 4 ≤ s.m.tmb.exceeds → Completes (exec .pairTimeLimit s) fun t =>
      t.m.bit TMB_STAT 7 = true ∧ KeepsRegs s t [TMB_STAT] ∧ SameCores s t) ∧
    (s.m.mode = 5 → 1024 ≤ s.m.tmb.bad → s.m.wantMode = none → Completes (exec .timeokLimit s) fun t =>
      t = { s with m := { s.m with wantMode := some 4 } }) ∧
    (s.m.mode = 5 → s.m.pair.diverged = true → s.m.wantMode = some 4 →
      s.m.fld PTL_CFG 15 12 < s.m.pair.divTimes.length → Completes (exec .rejoinLimit s) fun t =>
        t.m.wantMode = some 7 ∧ KeepsRegs s t [] ∧ SameCores s t)

/-! ### The tick (R21 to R23, R36 to R62) -/

/-- The phases of a tick: what each of its instants does to the tick's own state. -/
def Obligations.TickPhaseCommands : Prop :=
  ∀ s : State, s.m.dead = false →
    (∀ mis : Bool, s.m.mode = 2 ∨ s.m.mode = 1 ∧ s.m.pair.claim = 0 → Completes (exec (.tickBoundary mis) s) fun t =>
      let now := (s.m.tick.now / s.m.tickNs + 1) * s.m.tickNs
      t.m.tick.now = now ∧ t.m.tick.start = now ∧ t.m.rg64 TMB_TIME = now % 2 ^ 64 ∧
      t.m.rg64 KLN_TICKNO = now / t.m.tickNs % 2 ^ 64 ∧ SameCores s t) ∧
    (3 ≤ s.m.mode → s.m.tick.phase = 0 → Completes (exec .inputClose s) fun t => t.m.tick.phase = 1 ∧ SameCores s t) ∧
    (s.m.tick.phase = 1 → s.m.pair.filled = false → s.m.tick.adopted = false → Completes (exec .fillDeadline s) fun t =>
      t.m.pair.filled = true ∧ t.m.tick.phase = 1 ∧ SameCores s t ∧
      (s.m.mode = 5 → s.m.pair.heard = false → t.m.pair.silent = s.m.pair.silent + 1 ∧ t.m.rg TMB_PAIROFS = 0)) ∧
    (s.m.tick.phase = 1 → s.m.tick.adopted = false → Completes (exec .adoptionDeadline s) fun t =>
      t.m.tick.adopted = true ∧ t.m.tick.inBuf = 1 - s.m.tick.inBuf ∧ SameCores s t) ∧
    (∀ mis : Option (BitVec 16), s.m.tick.phase = 1 → s.m.tick.adopted = true →
      Completes (exec (.firingStart mis) s) fun t => t.m.tick.phase = 2 ∧ t.pending = s.pending) ∧
    (∀ mis : Option (BitVec 16), s.m.tick.phase = 2 → s.m.emitsActs = true → s.m.pair.diverged = false →
      (∀ d, s.m.pair.ownAct = some d → d.tick ≠ s.m.tickNo) → Completes (exec (.actionEmit mis) s) fun t =>
        (∃ d, t.m.pair.ownAct = some d ∧ d.tick = s.m.tickNo) ∧ SameCores s t) ∧
    (s.m.tick.phase = 2 → s.m.tick.fires = true → s.m.tick.ended = false → s.m.tick.stopped = false →
      Mach.idleKiln s.m.k0 = true → Mach.idleKiln s.m.k1 = true → Completes (exec .firingEnd s) fun t =>
        t.m.tick.ended = true ∧ t.m.tick.outBuf = 1 - s.m.tick.outBuf ∧ SameCores s t ∧
        (s.m.mode = 3 → ∀ cl : ClusterId, t.m.rg (KLN_FIRECYC cl) = (s.m.kiln cl).cyc % 2 ^ 20)) ∧
    (∀ x : SelfTest, s.m.tick.phase = 2 → Completes (exec (.outputDeadline x) s) fun t =>
      t.m.tick.phase = 3 ∧ t.pending = s.pending ∧
      (s.m.tick.fires = true → s.m.tick.ended = false → s.m.tick.stopped = false →
        t.m.tick.overrun = true ∧ t.m.tick.ended = true)) ∧
    (s.m.fld KLN_OVRCNT 1 0 = 3 → s.m.tick.ovrLimit = false → Completes (exec .overrunLimit s) fun t =>
      t.m.tick.ovrLimit = true ∧ KeepsRegs s t [KLN_SCHCTL, KLN_SCHSTAT] ∧ SameCores s t ∧
      (s.m.mode = 3 → t.m.bit KLN_SCHCTL 0 = false ∧ t.m.bit KLN_SCHSTAT 8 = true)) ∧
    (3 ≤ s.m.mode → s.m.bit LIO_CTL 0 = true → Completes (exec .moduleApplyInstant s) fun t => SameCores s t ∧
      t.m.lio.missed = if s.m.tick.prevEmit then 0 else s.m.lio.missed + 1) ∧
    (∀ r : Fin 65536, s.m.firstAct ≤ r → s.m.recF r 0 1 = 3 → s.m.recF r 48 8 ≤ s.m.tickNo →
      Completes (exec (.recordFree r) s) fun t =>
        t.m.recF r 0 1 = 0 ∧ KeepsRegs s t [DLE_TRKCNT, DLE_ACTCNT] ∧ SameCores s t) ∧
    (∀ a : Fin 1024, s.m.dleRuns = true → s.m.fld (DLE_AXCFG a) 13 6 < (s.m.axis a).miss →
      Completes (exec (.axisLost a) s) fun t => (t.m.axis a).state = 5 ∧ SameCores s t) ∧
    (∀ (cl : ClusterId) (sl : Slice), (s.m.kiln cl).slice = some sl → sl.task < 16 → sl.budget ≤ sl.count →
      (s.m.bit (KLN_TCFG sl.task) 6 = false → Completes (exec (.sliceBudget cl) s) (Raised cl s sl 0x01)) ∧
      (s.m.bit (KLN_TCFG sl.task) 6 = true → sl.runOn = false → Completes (exec (.sliceBudget cl) s) fun t =>
        (t.m.kiln cl).slice = some { sl with runOn := true } ∧ t.m.bit KLN_OVRSTAT 3 = true ∧ SameCores s t))

/-! ### Register writes and the debugger (R6 to R8, R13, R61, R179 to R185, R381, R391, R422) -/

/-- A register write: BusError where no register can answer it; otherwise what its field takes in BENCH, and nothing
where BENCH is missing or the value is refused (R7, R8, R61, R381, R422). -/
def Obligations.RegisterWrites : Prop :=
  ∀ (a : BitVec 48) (v : BitVec 64) (size : BitVec 4) (w : Writer) (s : State), s.m.dead = false →
    (w ≠ 9 ∨ s.m.lockedAddr a.toNat = false) →
    (a.toNat / 2 ^ 16 ≠ 0x0FFF → (size ≠ 4 ∨ a.toNat % 4 ≠ 0 ∨ windowSrc (a.toNat / 2 ^ 16) = none ∨
        reachWindow w (a.toNat / 2 ^ 16) = false) →
      Completes (exec (.registerWrite a v size w) s) fun t => t = { s with m := s.m.emit .busError }) ∧
    (size = 4 → w = 9 → s.m.regionOf 9 a.toNat 16 = none →
      (a.toNat = TMB_JUMPMAX → Completes (exec (.registerWrite a v size w) s) fun t => SameCores s t ∧
        if s.m.mode = 3 then t.m.fld TMB_JUMPMAX 30 0 = v.toNat % 2 ^ 31 ∧ KeepsRegs s t [TMB_JUMPMAX]
        else KeepsRegs s t []) ∧
      (a.toNat = LDG_RATE → Completes (exec (.registerWrite a v size w) s) fun t => SameCores s t ∧
        if v.toNat % 2 ^ 16 = 0 then KeepsRegs s t []
        else t.m.fld LDG_RATE 15 0 = v.toNat % 2 ^ 16 ∧ KeepsRegs s t [LDG_RATE]) ∧
      (a.toNat = CUR_WDOG → Completes (exec (.registerWrite a v size w) s) fun t => t = s))

/-- The debugger: attach, breakpoints, halt, step, resume, and writes of the registers of a stopped cluster, which
reach all its cores (R179 to R182, R185). -/
def Obligations.DebuggerCommands : Prop :=
  ∀ (cl : ClusterId) (w : Writer) (s : State), s.m.dead = false →
    (∀ on : Bool, Completes (exec (.debugAttach cl on w) s) fun t => SameCores s t ∧
      if s.m.mode = 3 then t.m.bit (KLN_DBGCTL cl) 0 = on ∧ KeepsRegs s t [KLN_DBGCTL cl] else KeepsRegs s t []) ∧
    (∀ on : Bool, Completes (exec (.debugBrken cl on) s) fun t => SameCores s t ∧
      t.m.bit (KLN_DBGCTL cl) 1 = on ∧ KeepsRegs s t [KLN_DBGCTL cl]) ∧
    (s.m.bit (KLN_DBGCTL cl) 0 = true → s.m.bit (KLN_DBGSTAT cl) 0 = false → Completes (exec (.debugHalt cl) s) fun t =>
      SameCores s t ∧
      if (s.m.kiln cl).slice = none then (t.m.kiln cl).haltReq = true ∧ KeepsRegs s t []
      else t.m.bit (KLN_DBGSTAT cl) 0 = true ∧ t.m.fld (KLN_DBGSTAT cl) 2 1 = 1 ∧ KeepsRegs s t [KLN_DBGSTAT cl]) ∧
    (s.m.bit (KLN_DBGSTAT cl) 0 = true →
      (Completes (exec (.debugStep cl w) s) fun t =>
        (t.m.kiln cl).stepping = true ∧ KeepsRegs s t [] ∧ SameCores s t) ∧
      ((∀ j ∈ s.m.actives cl, ∀ k ∈ s.m.actives cl, s.core cl j = s.core cl k) →
        Completes (exec (.debugResume cl w) s) fun t => t.m.bit (KLN_DBGSTAT cl) 0 = false ∧
          (t.m.kiln cl).stepping = false ∧ KeepsRegs s t [KLN_DBGSTAT cl] ∧ SameCores s t) ∧
      (∀ v : Word, Completes (exec (.debugRegisterWrite cl (.data v) w) s) fun t => t.m = s.m ∧
        (∀ k < 3, t.core (1 - cl) k = s.core (1 - cl) k) ∧ ∀ k < 3, ∀ r, (t.core cl k).rd r =
          if r = BitVec.ofNat 5 (s.m.fld (KLN_DBGSEL cl) 4 0) ∧ r ≠ 0 then v else (s.core cl k).rd r) ∧
      (∀ v : BitVec 32, v.toNat < 0x01800000 → v.toNat % 4 = 0 →
        Completes (exec (.debugRegisterWrite cl (.pc v) w) s) fun t => t.m = s.m ∧
          (∀ k < 3, t.core (1 - cl) k = s.core (1 - cl) k) ∧ ∀ k < 3, t.core cl k = { s.core cl k with pc := v }) ∧
      (∀ v : BitVec 32, Completes (exec (.debugRegisterWrite cl (.cond v) w) s) fun t => t.m = s.m ∧
        ∀ k < 3, (t.core cl k).c = v.setWidth 8 ||| 1 ∧ (t.core cl k).fpf = (v >>> 8).setWidth 5)) ∧
    (∀ (a : BitVec 48) (bs : List Byte), a.toNat + 8 ≤ 0x01800000 → a.toNat % 8 = 0 → bs.length = 8 →
      (s.m.lockedAddr a.toNat = false → s.m.regionOf 9 a.toNat 16 = none →
        (s.m.clean a.toNat 8 → Completes (exec (.debugMemoryAccess 2 a 8 none) s) fun t =>
          t = { s with m := s.m.emit (.data (s.m.mem.ldBytes a.toNat 8)) }) ∧
        (Completes (exec (.debugMemoryAccess 2 a 8 (some bs)) s) fun t => t.m.mem.ldBytes a.toNat 8 = bs ∧
          (∀ x, x < a.toNat ∨ a.toNat + 8 ≤ x → t.m.mem.ld8 x = s.m.mem.ld8 x) ∧ KeepsRegs s t [] ∧ SameCores s t)) ∧
      (s.m.lockedAddr a.toNat = true → Completes (exec (.debugMemoryAccess 2 a 8 (some bs)) s) fun t =>
        t.m.out = s.m.out ++ [.busError] ∧ t.m.rg MPU_DBGREF = satInc (s.m.rg MPU_DBGREF) (2 ^ 32 - 1) ∧
        (∀ x < 0x01800000, t.m.mem.ld8 x = s.m.mem.ld8 x) ∧ KeepsRegs s t [MPU_DBGREF] ∧ SameCores s t))

/-! ### Signature windows, rebuild and the tests of voters and engine (R163 to R168, R174 to R178, R273, R274) -/

/-- A window closes and is compared: agreement changes nothing, one differing core is fenced, and anything else is a
cluster fault; rebuild, detect-only and retry (R164 to R168, R185). -/
def Obligations.WindowsAndRebuild : Prop :=
  (∀ (cl : ClusterId) (s : State), s.m.dead = false →
     (∀ w rest, (s.m.kiln cl).cmpWin = none → (s.m.kiln cl).dueWin = w :: rest →
       Completes (exec (.windowClose cl) s) fun t => (t.m.kiln cl).cmpWin = some w ∧ (t.m.kiln cl).dueWin = rest ∧
         SameCores s t ∧ ∀ v < 2, t.m.rg (VOT_SIG cl v 0) = w.s0.toNat ∧ t.m.rg (VOT_SIG cl v 1) = w.s1.toNat ∧
           t.m.rg (VOT_SIG cl v 2) = w.s2.toNat) ∧
     ∀ (w : Window) (x : Fin 3 → BitVec 32) (pairMis chainErr : Bool), (s.m.kiln cl).cmpWin = some w →
       let sig : Fin 3 → BitVec 32 := ![w.s0 ^^^ x 0, w.s1 ^^^ x 1, w.s2 ^^^ x 2]
       Completes (exec (.signatureComparison cl (x 0) (x 1) (x 2) pairMis chainErr) s) fun t =>
         (t.m.kiln cl).cmpWin = none ∧ SameCores s t ∧
         (∀ v < 2, t.m.rg (VOT_WINCNT cl v) = (s.m.rg (VOT_WINCNT cl v) + 1) % 2 ^ 32) ∧
         (pairMis = true ∨ chainErr = true → t.m.fld (KLN_CLSTAT cl) 2 0 = 4) ∧
         (pairMis = false → chainErr = false → s.m.actives cl = [0, 1, 2] →
           (sig 0 = sig 1 → sig 1 = sig 2 → t.m.rg (KLN_CLSTAT cl) = s.m.rg (KLN_CLSTAT cl)) ∧
           (∀ k : Fin 3, sig (k + 1) = sig (k + 2) → sig k ≠ sig (k + 1) →
             t.m.bit (KLN_CLSTAT cl) (5 + k.val) = false ∧ t.m.fld (KLN_CLSTAT cl) 4 3 = k.val ∧
             t.m.fld (KLN_CLSTAT cl) 2 0 = 2) ∧
           (sig 0 ≠ sig 1 → sig 1 ≠ sig 2 → sig 0 ≠ sig 2 → t.m.fld (KLN_CLSTAT cl) 2 0 = 4))) ∧
  (∀ (cl : ClusterId) (w : Writer) (s : State), s.m.dead = false →
     ((s.m.kiln cl).rebuilding = true →
       (∀ j < 3, s.m.fld (KLN_CLSTAT cl) 4 3 = j → Completes (exec (.rebuildResult cl .pass) s) fun t =>
         let h := s.core cl ((s.m.actives cl).headD 0)
         t.core cl j = { s.core cl j with sys := h.sys, unit := h.unit, sig := h.sig } ∧
         (∀ k < 3, k ≠ j → t.core cl k = s.core cl k) ∧ (∀ k < 3, t.core (1 - cl) k = s.core (1 - cl) k) ∧
         t.m.bit (KLN_CLSTAT cl) (5 + j) = true ∧ t.m.fld (KLN_CLSTAT cl) 4 3 = 3 ∧
         t.m.fld (KLN_CLSTAT cl) 2 0 = 1 ∧ (t.m.kiln cl).rebuilding = false ∧ t.pending = s.pending ∧
         KeepsRegs s t [KLN_CLSTAT cl]) ∧
       (Completes (exec (.rebuildResult cl .coreDiffers) s) fun t =>
         t.m.fld (KLN_RBSTAT cl) 17 16 = min 2 (s.m.fld (KLN_RBSTAT cl) 17 16 + 1) ∧
         (t.m.kiln cl).rebuilding = false ∧ SameCores s t ∧ KeepsRegs s t [KLN_RBSTAT cl]) ∧
       (Completes (exec (.rebuildResult cl .healthyDiffer) s) fun t =>
         t.m.fld (KLN_CLSTAT cl) 2 0 = 4 ∧ SameCores s t)) ∧
     (s.m.fld (KLN_RBSTAT cl) 17 16 = 2 → s.m.fld (KLN_CLSTAT cl) 2 0 = 2 → Completes (exec (.detectOnly cl) s) fun t =>
       t.m.fld (KLN_CLSTAT cl) 2 0 = 3 ∧ SameCores s t ∧ KeepsRegs s t [KLN_CLSTAT cl]) ∧
     (s.m.mode = 3 → s.m.fld (KLN_CLSTAT cl) 4 3 ≠ 3 → Completes (exec (.retry cl w) s) fun t =>
       t.m.fld (KLN_RBSTAT cl) 17 16 = 0 ∧ t.m.fld (KLN_CLSTAT cl) 2 0 = 2 ∧ (t.m.kiln cl).retry = true ∧
       SameCores s t ∧ KeepsRegs s t [KLN_RBSTAT cl, KLN_CLSTAT cl]) ∧
     (s.m.mode ≠ 3 → Completes (exec (.retry cl w) s) fun t => SameCores s t ∧ KeepsRegs s t []))

/-- Injections into a voter or the engine's comparator show the expected pattern and are refused outside BENCH with
RUN 0 to all but the Curator; the tests after a reset pass or fail (R174 to R178, R273, R274). -/
def Obligations.InjectionTests : Prop :=
  ∀ (cl : ClusterId) (v : Fin 2) (w : Writer) (s : State), s.m.dead = false →
    let point := s.m.fld (VOT_INJCTL cl v) 11 8
    let quiet := s.m.mode = 3 ∧ s.m.bit KLN_SCHCTL 0 = false
    (quiet → s.m.bit (VOT_INJCTL cl v) 0 = true → point ≤ 10 →
      injMask point (s.m.fld (VOT_INJCTL cl v) 5 4) (s.m.rg (VOT_INJMASK cl v)) ≠ 0 →
      Completes (exec (.injectionGo cl v w none) s) fun t =>
        t.m.rg (VOT_INJRES cl v) = injExpected point + 3 ∧
        KeepsRegs s t [VOT_INJRES cl v, VOT_STAT cl v, VOT_DISCNT cl v] ∧ SameCores s t) ∧
    (quiet → s.m.rg DLE_CMPMASK ≠ 0 → Completes (exec (.dleCmpinjGo w none) s) fun t =>
      t.m.bit DLE_STAT 2 = true ∧ t.m.fld DLE_CMPINJ 10 9 = 3 ∧ t.m.fld DLE_CMPINJ 2 0 = s.m.fld DLE_CMPINJ 2 0 ∧
      KeepsRegs s t [DLE_STAT, DLE_CMPINJ] ∧ SameCores s t) ∧
    (¬quiet → w ≠ 6 → ∀ i ∈ ([.injectionGo cl v w none, .dleCmpinjGo w none] : List Instr),
      Completes (exec i s) fun t => KeepsRegs s t [] ∧ SameCores s t) ∧
    ((s.m.kiln cl).testing = true →
      (Completes (exec (.injectionTestComplete cl none) s) fun t =>
        t.m.fld (KLN_CLSTAT cl) 2 0 = 1 ∧ t.m.fld (KLN_CLSTAT cl) 4 3 = 3 ∧ t.m.fld (KLN_CLSTAT cl) 7 5 = 7 ∧
        t.m.bit (KLN_CLSTAT cl) 8 = true ∧ (t.m.kiln cl).testing = false ∧
        KeepsRegs s t [KLN_CLSTAT cl] ∧ SameCores s t) ∧
      ∀ f : InjFail, Completes (exec (.injectionTestComplete cl (some f)) s) fun t =>
        t.m.fld (KLN_CLSTAT cl) 2 0 = 4 ∧ t.m.bit (KLN_CLSTAT cl) 8 = false ∧ (t.m.kiln cl).testing = false ∧
        KeepsRegs s t [KLN_CLSTAT cl] ∧ SameCores s t) ∧
    (s.m.dle.testing = true →
      (Completes (exec (.dleComparatorTestComplete none) s) fun t =>
        t.m.bit DLE_STAT 0 = true ∧ t.m.bit DLE_STAT 1 = false ∧ t.m.bit DLE_STAT 2 = false ∧
        t.m.bit DLE_STAT 3 = true ∧ t.m.dle.testing = false ∧ KeepsRegs s t [DLE_STAT] ∧ SameCores s t) ∧
      ∀ f, Completes (exec (.dleComparatorTestComplete (some f)) s) fun t =>
        t.m.bit DLE_STAT 3 = false ∧ t.m.dle.testing = false ∧ KeepsRegs s t [DLE_STAT] ∧ SameCores s t)


/-! ### Gexia rings (R214 to R249, R266, R267, R295 to R297) -/

/-- A module's ring ports: what a frame received does, the telegrams that leave, captures and link states, and a capture
without room, which wraps to its base or stops (R221, R225, R228, R237, R238, R241, R248, R295). -/
def Obligations.RingPortCommands : Prop :=
  (∀ (p : PortId) (w : Writer) (s : State), s.m.dead = false → s.m.bit (GXP_CAPSTAT p) 0 = false →
     let on := s.m.bit (GXP_CTL p) 0 = true
     (∀ (f : List Byte) (g : Tel), on → Tel.ofBytes f = some g →
       (g.type = 1 → g.gen = s.m.gxGen → (g.tick = s.m.tickNo ∧ s.m.tick.phase = 0) →
         Completes (exec (.collectorReceive p f) s) fun t =>
           t.m.bit (GXP_STAT p) 6 = g.flags.testBit 3 ∧ t.m.rg (GXP_RXCNT p) = s.m.rg (GXP_RXCNT p) ∧ SameCores s t) ∧
       (g.type = 1 → g.gen = s.m.gxGen → ¬(g.tick = s.m.tickNo ∧ s.m.tick.phase = 0) →
         Completes (exec (.collectorReceive p f) s) fun t =>
           t.m.bit KLN_OVRSTAT 2 = true ∧ t.m.fld (GXP_RXCNT p) 31 16 = satInc (s.m.fld (GXP_RXCNT p) 31 16) 65535 ∧
           KeepsRegs s t [KLN_OVRSTAT, GXP_RXCNT p] ∧ SameCores s t) ∧
       (g.type ≠ 1 ∨ g.gen ≠ s.m.gxGen → Completes (exec (.collectorReceive p f) s) fun t =>
         t = { s with m := s.m.incFld (GXP_RXCNT p) 15 0 }) ∧
       (g.type = 5 → 4 ≤ g.payload.length → Completes (exec (.enumerateReceive p f) s) fun t => SameCores s t ∧
         let full := fieldAt g.payload 2 1
         if full = 0xFF then assocGet t.m.gx.enumFirst p = some 0
         else assocGet t.m.gx.enumFirst p = some full ∧ p.val ∈ t.m.gx.enumNext)) ∧
     (∀ f : List Byte, on → Tel.ofBytes f = none →
       ∀ i ∈ ([.collectorReceive p f, .enumerateReceive p f] : List Instr), Completes (exec i s) fun t =>
         t = { s with m := s.m.incFld (GXP_RXCNT p) 15 0 }) ∧
     (s.m.gxServes p = true →
       (p.val ∈ s.m.gx.enums → Completes (exec (.enumeratePeriodic p) s) fun t =>
         t.m.out = s.m.out ++ [.gexia p (s.m.enumTel p).bytes] ∧ p.val ∉ t.m.gx.enums ∧
         KeepsRegs s t [] ∧ SameCores s t) ∧
       (Completes (exec (.collectorOriginate (.port p)) s) fun t =>
         t.m.out = s.m.out ++ (s.m.collectorTrain p).map (fun g => .gexia p g.bytes) ∧
         KeepsRegs s t [] ∧ SameCores s t) ∧
       ∀ (seqid : BitVec 16) (origin : BitVec 80) (corr : BitVec 64), s.m.fld TMB_GXSYNC 7 0 ≠ 0 →
         s.m.tickNo % s.m.fld TMB_GXSYNC 7 0 = 0 → Completes (exec (.gexiaSync p seqid origin corr) s) fun t =>
           t.m.out = s.m.out ++ [.gexia p ({
             type := 7, flags := s.m.gxFlags + 4, ring := p, tick := s.m.tickNo, gen := s.m.gxGen
             payload := if s.m.mode = 6 then
                 Mach.syncBytes p (s.m.fld TMB_PTPCFG 23 16) 0 seqid.toNat (Mach.ptpStamp s.m.tick.now)
               else Mach.syncBytes p (s.m.fld TMB_PTPCFG 23 16) corr.toNat seqid.toNat origin.toNat } : Tel).bytes] ∧
           KeepsRegs s t [] ∧ SameCores s t) ∧
     (Completes (exec (.enumreq p w) s) fun t => p.val ∈ t.m.gx.enumNext ∧ KeepsRegs s t [] ∧ SameCores s t) ∧
     (∀ (st : BitVec 2) (link : Bool), Completes (exec (.ringStateChange p st link) s) fun t =>
       t.m.bit (GXP_STAT p) 7 = link ∧ t.m.fld (GXP_STAT p) 5 4 = st.toNat ∧ t.m.fld (GXP_STAT p) 15 8 =
         (if s.m.fld (GXP_STAT p) 5 4 = st.toNat then s.m.fld (GXP_STAT p) 15 8
           else satInc (s.m.fld (GXP_STAT p) 15 8) 255) ∧
       KeepsRegs s t [GXP_STAT p] ∧ SameCores s t) ∧
     (s.m.rg (GXP_CAPLEN p) ≠ 0 → Completes (exec (.captureGo p w) s) fun t => t.m.bit (GXP_CAPSTAT p) 0 = true ∧
       assocGet t.m.gx.capture p = some (s.m.rg64 (GXP_CAPBASE p)) ∧ KeepsRegs s t [GXP_CAPSTAT p] ∧ SameCores s t) ∧
     (s.m.rg (GXP_CAPLEN p) = 0 → Completes (exec (.captureGo p w) s) fun t => KeepsRegs s t [] ∧ SameCores s t) ∧
     (s.m.gxDrives p = true → ∀ delay : BitVec 32, Completes (exec (.pdelayMeasure p delay) s) fun t =>
       assocGet t.m.gx.pdelay p = some delay.toNat ∧ KeepsRegs s t [] ∧ SameCores s t)) ∧
  (∀ (p : PortId) (s : State), s.m.dead = false → s.m.bit (GXP_CAPSTAT p) 0 = true → s.m.captureRoom p < 80 →
     Completes (exec (.captureFull p) s) fun t => SameCores s t ∧
       if s.m.bit (GXP_CAPCTL p) 0 = true then
         assocGet t.m.gx.capture p = some (s.m.rg64 (GXP_CAPBASE p)) ∧ KeepsRegs s t []
       else t.m.bit (GXP_CAPSTAT p) 0 = false ∧ KeepsRegs s t [GXP_CAPSTAT p])

/-- The telegrams at an entry of a ring: what it takes from each, and that it passes each on (R216 to R218, R223,
R228, R229, R243, R244, R266, R296, R297). -/
def Obligations.StationTelegrams : Prop :=
  ∀ (k : StnKey) (f : List Byte) (g : Tel) (s : State), Tel.ofBytes f = some g →
    let x := s.m.stn k
    let pay := g.payload
    (∀ c, g.type = 1 → x.cfg = some c → x.pend = none → g.gen = c.gen16 → x.joined = true → x.sampleTick = g.tick →
      keyDirect k = true → 0 < c.f 20 2 → g.ofs ≤ c.f 16 4 → c.f 16 4 + c.f 20 2 ≤ g.ofs + pay.length →
      Completes (exec (.collectorInsert k f) s) fun t => OnlyStation k s t ∧
        PassesOn k g ({ g with payload := overlay pay (c.f 16 4 - g.ofs) (s.m.slotBytes k x c) } : Tel).bytes s t) ∧
    (∀ (c : StnCfg) (now : BitVec 32), g.type = 2 → x.cfgOf g.gen = some c → 0 < c.f 22 2 → g.ofs ≤ c.f 24 4 →
      c.f 24 4 + c.f 22 2 ≤ g.ofs + pay.length →
      Completes (exec (.stationOutputReceive k f now) s) fun t => OnlyStation k s t ∧ PassesOn k g f s t ∧
        let y := t.m.stn k
        let late := applyLeft c g.tick now.toNat ≤ 0
        let again := ∃ l, x.lastSeq = some l ∧ signed 32 (g.seq + 2 ^ 32 - l) ≤ 0
        (late → y.late = x.late + 1 ∧ y.held = x.held) ∧
        (¬late → again → y.dup = x.dup + 1 ∧ y.held = x.held ∧ y.lastSeq = x.lastSeq) ∧
        (¬late → ¬again → y.lastSeq = some g.seq ∧
          y.held = x.held ++ [(g.tick, g.gen, (pay.drop (c.f 24 4 - g.ofs)).take (c.f 22 2))])) ∧
    (∀ (c : StnCfg) (now : BitVec 32), g.type = 3 → x.cfgOf g.gen = some c → pay.length = 16 →
      fieldAt pay 4 2 = c.f 0 2 → c.f 2 1 = 0 → (fieldAt pay 0 4, g.seq) ∉ x.ids → fieldAt pay 13 1 = 0 →
      (∀ a ∈ x.acts, a.aid ≠ fieldAt pay 0 4) →
      Completes (exec (.stationActionReceive k f now) s) fun t => OnlyStation k s t ∧ PassesOn k g f s t ∧
        let y := t.m.stn k
        if 0 < diff32 (fieldAt pay 8 4) now.toNat ∧ x.acts.length < c.f 42 1 then
          y.acts = x.acts ++ [⟨fieldAt pay 0 4, fieldAt pay 6 2, fieldAt pay 8 4, fieldAt pay 12 1, fieldAt pay 14 2,
            x.order⟩] ∧ y.refused = x.refused
        else y.acts = x.acts ∧ y.refused = true ∧ y.refusals = x.refusals + 1) ∧
    (g.type = 6 → 88 ≤ pay.length → fieldAt pay 0 4 = k.path.toNat → fieldAt pay 13 1 = 0 → g.ofs = 0 →
      g.flags.testBit 2 = true → x.part = none → x.cfg = none →
      Completes (exec (.stationConfigure k f) s) fun t => OnlyStation k s t ∧ PassesOn k g f s t ∧
        (t.m.stn k).cfg = some ⟨fieldAt pay 4 4, fieldAt pay 8 4, fieldAt pay 12 1, fieldAt pay 16 4,
          (pay.drop 24).take 64, pay.drop 88⟩ ∧ (t.m.stn k).lastSeq = none ∧ (t.m.stn k).joined = false) ∧
    (∀ recs : List IdRec, g.type = 5 → 4 ≤ pay.length → keyDirect k = true →
      let hop := fieldAt pay 0 1
      let first := fieldAt pay 1 1
      let group := s.m.idGroup k g.gen recs
      Completes (exec (.stationEnumerate k f recs) s) fun t => OnlyStation k s t ∧
        (first ≤ hop → pay.length + group.length ≤ 1024 → PassesOn k g ({ g with
          payload := leBytes 1 (hop + 1) ++ leBytes 1 first ++ leBytes 1 (fieldAt pay 2 1) ++ leBytes 1 0 ++
            pay.drop 4 ++ group } : Tel).bytes s t)) ∧
    (∀ (residence delay : BitVec 32) (within : Bool), g.type = 7 → fieldAt pay 0 1 % 16 = 0 →
      g.flags.testBit 1 = false → Completes (exec (.stationSync k f residence delay within) s) fun t =>
        OnlyStation k s t ∧ (t.m.stn k).unsync = !within ∧ (t.m.stn k).primQuiet = false ∧
        PassesOn k g ({ g with payload := overlay pay 8 (beBytes 8
          ((beNat ((pay.drop 8).take 8) + 65536 * (residence.toNat + delay.toNat)) % 2 ^ 64)) } : Tel).bytes s t)

/-- What an entry does at its own instants: sample, apply, fallback, action and pulse end, loss of Sync, and a train
of its own where the ring is cut (R40, R217, R243, R245, R267, R297). -/
def Obligations.StationInstants : Prop :=
  ∀ (k : StnKey) (s : State),
    let x := s.m.stn k
    (∀ (io : Bool) (data : List Byte), Completes (exec (.stationSample k true true io data) s) fun t =>
      let y := t.m.stn k
      y.latched = data ∧ y.sampleTick = s.m.tickNo ∧ y.west = true ∧ y.east = true ∧ y.ioFault = io ∧
      y.refused = false ∧ y.cfg = x.cfg ∧ t.m.regs = s.m.regs ∧ t.m.mem = s.m.mem ∧ SameCores s t) ∧
    (∀ tick : BitVec 64, x.cfg ≠ none → Completes (exec (.stationApply k tick) s) fun t => OnlyStation k s t ∧
      let y := t.m.stn k
      match x.held.find? (fun e => e.1 = tick.toNat) with
      | some e => y.outs = e.2.2 ∧ y.missed = 0 ∧ y.fallen = false
      | none => y.outs = x.outs ∧ y.missed = x.missed + 1 ∧ y.fallen = x.fallen) ∧
    (∀ c, x.cfg = some c → c.wdog ≤ x.missed → x.fallen = false → Completes (exec (.stationFallback k) s) fun t =>
      OnlyStation k s t ∧ (t.m.stn k).fallen = true ∧ ∀ i < c.douts, ∀ b < 8,
        ((t.m.stn k).outs.getD i 0).getLsbD b = if (c.fb.getD i 0).getLsbD b = true
          then (c.fb.getD (c.douts + i) 0).getLsbD b else (x.outs.getD i 0).getLsbD b) ∧
    (∀ (aid now : BitVec 32) (a : HeldAct), x.acts.find? (fun a => a.aid = aid.toNat) = some a →
      diff32 a.fire now.toNat ≤ 0 → x.earlier a.output a.fire a.order = false →
      Completes (exec (.stationActionFire k aid now) s) fun t => OnlyStation k s t ∧
        let y := t.m.stn k
        assocGet y.actOuts a.output = some (decide (a.level ≠ 0)) ∧ a ∉ y.acts ∧
        y.pulses = if a.level = 2 then
          x.pulses ++ [⟨a.output, (a.fire + 1000 * a.width) % 2 ^ 32, a.order⟩] else x.pulses) ∧
    (∀ (output : BitVec 16) (now : BitVec 32) (q : PulseEnd), x.pulses = [q] → q.output = output.toNat →
      diff32 q.at_ now.toNat ≤ 0 → x.earlier q.output q.at_ q.order = false →
      Completes (exec (.stationPulseEnd k output now) s) fun t => OnlyStation k s t ∧
        assocGet (t.m.stn k).actOuts output.toNat = some false ∧ (t.m.stn k).pulses = []) ∧
    (Completes (exec (.stationSyncTimeout k) s) fun t => OnlyStation k s t ∧
      (t.m.stn k).unsync = true ∧ (t.m.stn k).primQuiet = true) ∧
    (∀ (c : StnCfg) (west : Bool), x.cfg = some c → keyDirect k = true → x.west = west → x.east = !west →
      Completes (exec (.collectorOriginate (.entry k west)) s) fun t => OnlyStation k s t ∧
        t.m.out = s.m.out ++ (s.m.entryTrains k x c).map fun g => .entry k.ring k.path.toNat west g.bytes)


/-! ### The partner (R316 to R340, R347, R352, R355) -/

/-- The exchange of a tick: INPUT, FILL, DELTA and FINAL, the digests, and notices (R318, R319, R321 to R327). -/
def Obligations.PartnerExchange : Prop :=
  ∀ (f : List Byte) (cls mseq tick : Nat) (p : List Byte) (s : State), s.m.dead = false → s.m.linkUp = true →
    let open_ := tick = s.m.tickNo ∧ s.m.tick.phase = 1
    (∀ (ready : Bool) (ofs : BitVec 32), frameOf 0x01 f = some (cls, mseq, tick, p) → p.length = 1296 → open_ →
      s.m.reconciles = true → s.m.pair.filled = false → s.m.pair.heard = false →
      Completes (exec (.inputMessage f ready ofs) s) fun t => t.m.pair.partIn = p ∧ t.m.pair.heard = true ∧
        t.m.pair.silent = 0 ∧ t.m.rg PTL_PHEALTH = fieldAt p 52 4 ∧ t.m.bit PTL_STAT 10 = true ∧
        t.m.rg TMB_PAIROFS = ofs.toNat ∧ SameCores s t ∧
        (s.m.mode = 6 → KeepsRegs s t [PTL_PHEALTH, PTL_STAT, TMB_PAIROFS])) ∧
    (frameOf 0x02 f = some (cls, mseq, tick, p) → open_ → s.m.mode = 6 → s.m.pair.filled = false →
      s.m.pair.heard = true → Completes (exec (.fillMessage f) s) fun t => t.m.pair.filled = true ∧ SameCores s t) ∧
    (frameOf 0x03 f = some (cls, mseq, tick, p) → open_ → s.m.mode = 5 → s.m.tick.adopted = false →
      s.m.pair.heard = true →
      let k := fieldAt p 0 2
      let a := s.m.blockAt k
      k ≤ 88 → p.length = 8 + Mach.blockLen k → Completes (exec (.deltaMessage f) s) fun t =>
        t.m.mem.ldBytes a (Mach.blockLen k) = p.drop 8 ∧
        (∀ x, x < a ∨ a + Mach.blockLen k ≤ x → t.m.mem.ld8 x = s.m.mem.ld8 x) ∧
        t.m.fld PTL_ADOPT 15 8 = min 255 (s.m.pair.deltas + 1) ∧ KeepsRegs s t [PTL_ADOPT] ∧ SameCores s t) ∧
    (frameOf 0x04 f = some (cls, mseq, tick, p) → open_ → s.m.mode = 5 → s.m.tick.adopted = false →
      s.m.pair.heard = true → p.length = 16 → Completes (exec (.finalMessage f) s) fun t =>
        t.m.pair.finalDig = some (fieldAt p 8 8) ∧ KeepsRegs s t [] ∧ SameCores s t) ∧
    (frameOf 0x05 f = some (cls, mseq, tick, p) → p.length = 16 → Completes (exec (.actdigMessage f) s) fun t =>
      let d : Digest := ⟨tick, fieldAt p 0 8, fieldAt p 8 1, (fieldAt p 9 1).testBit 0⟩
      t.m.pair.partAct = some d ∧ SameCores s t ∧
      ∀ o, s.m.mode = 5 → s.m.pair.diverged = false → s.m.pair.ownAct = some o → o.tick = tick → o.kind = 0 →
        d.kind = 0 → d.self = false →
        (d.value = o.value → t.m.pair.diverged = false ∧ (s.m.pair.waitAct = true →
          t.m.pair.waitAct = false ∧ t.m.pair.heldAct = [])) ∧
        (d.value ≠ o.value → t.m.pair.diverged = true ∧ t.m.wantMode = some 4 ∧ t.m.bit PTL_STAT 11 = true)) ∧
    (frameOf 0x06 f = some (cls, mseq, tick, p) → p.length = 16 → Completes (exec (.outdigMessage f) s) fun t =>
      let d : Digest := ⟨tick, fieldAt p 0 8, fieldAt p 8 1, (fieldAt p 9 1).testBit 0⟩
      t.m.pair.partOut = some d ∧ SameCores s t ∧
      ∀ o, s.m.mode = 5 → s.m.pair.diverged = false → s.m.pair.ownOut = some o → o.tick = tick → o.kind = 0 →
        d.kind = 0 → d.self = false →
        (d.value = o.value → t.m.pair.diverged = false ∧ (s.m.pair.waitOut = true →
          t.m.pair.waitOut = false ∧ t.m.pair.heldOut = [] ∧ t.m.tick.emitted = true)) ∧
        (d.value ≠ o.value → t.m.pair.diverged = true ∧ t.m.wantMode = some 4 ∧ t.m.bit PTL_STAT 11 = true)) ∧
    (s.m.mode = 5 → s.m.pair.waitAct = true ∨ s.m.pair.waitOut = true → Completes (exec .digestTimeout s) fun t =>
      t.m.pair.waitAct = false ∧ t.m.pair.waitOut = false ∧ t.m.bit PTL_STAT 13 = true ∧ SameCores s t) ∧
    (frameOf 0x07 f = some (cls, mseq, tick, p) → p.length = 8 → s.m.mode = 6 → fieldAt p 0 1 ∈ [1, 2, 3] →
      Completes (exec (.noticeMessage f) s) fun t => t.m.pair.partDiv = true ∧ (∀ e ∈ t.m.pair.events, e.2 ≠ 1) ∧
        KeepsRegs s t [] ∧ SameCores s t)

/-- The journal between the modules: the commit record and its confirmation, ORDER and its acknowledgment, and what
the mirror then holds (R319, R327, R345, R347, R351, R352, R355). -/
def Obligations.ReplicatedJournal : Prop :=
  ∀ (f : List Byte) (cls mseq tick : Nat) (p : List Byte) (s : State), s.m.dead = false → s.m.linkUp = true →
    (frameOf 0x10 f = some (cls, mseq, tick, p) → s.m.mode = 5 → s.m.pair.diverged = false → fieldAt p 0 4 = 0 →
      64 ≤ (p.drop 8).length → fieldAt p 4 4 = (p.drop 8).length →
      (tick = s.m.tickNo → s.m.tick.fires = true → s.m.tick.ended = false →
        Completes (exec (.commitMessage f) s) fun t => assocGet t.m.pair.rx Mach.earlyCommit =
          some ⟨tick, (p.drop 8).length, p.drop 8⟩ ∧ KeepsRegs s t [] ∧ SameCores s t) ∧
      (∀ c, tick = s.m.tickNo → s.m.tick.ended = true → s.m.jrn.commit = some c → c.tick = tick →
        s.m.pair.skipCommit = false → fieldAt (p.drop 8) 60 4 ≠ fieldAt c.header 60 4 →
        Completes (exec (.commitMessage f) s) fun t => t.m.pair.diverged = true ∧ t.m.wantMode = some 4 ∧
          t.m.bit PTL_STAT 11 = true ∧ SameCores s t)) ∧
    (∀ c, frameOf 0x11 f = some (cls, mseq, tick, p) → p.length = 8 → s.m.mode = 6 → s.m.tick.phase ≠ 3 →
      s.m.jrn.commit = some c → c.tick = tick → s.m.solo = false →
      (fieldAt p 0 1 = 1 → fieldAt p 4 4 = fieldAt c.header 60 4 → c.ownMirror = false → c.partMirror = false →
        Completes (exec (.confirmMessage f) s) fun t => t.m.jrn.commit = some { c with partner := true } ∧
          KeepsRegs s t [] ∧ SameCores s t) ∧
      (fieldAt p 0 1 = 3 → s.m.partMode = 5 → s.m.pair.partDiv = false → Completes (exec (.confirmMessage f) s) fun t =>
        t.m.pair.partDiv = true ∧ t.m.jrn.commit = some c ∧ KeepsRegs s t [] ∧ SameCores s t)) ∧
    (frameOf 0x20 f = some (cls, mseq, tick, p) → s.m.mode = 5 →
      let b := p.drop 8
      let n := fieldAt b 20 8
      let len := fieldAt b 14 2
      fieldAt b 0 1 = 1 → b.length = 52 + len → len ≤ 256 → fieldAt b 12 2 < 3184 →
      (s.m.accLive n = false ∨ s.m.recState n = 0) → fieldAt p 0 8 < n → s.m.jrn.pend = [] →
      Completes (exec (.orderMessage f) s) fun t =>
        t.m.mem.ldBytes (Mach.recordAt n) 16 = (b.drop 4).take 16 ∧
        t.m.mem.ldBytes (Mach.cellAt (fieldAt b 12 2)) (32 + len) = b.drop 20 ∧
        t.m.jrn.cmtno = max s.m.jrn.cmtno (fieldAt p 0 8) ∧ t.m.jrn.pend.map (·.n) = [n] ∧ SameCores s t) ∧
    (∀ o, frameOf 0x21 f = some (cls, mseq, tick, p) → s.m.actsPrimary = true → p.length = 8 → s.m.jrn.pend = [o] →
      o.mseq = fieldAt p 0 4 → o.ownMirror = true → Completes (exec (.orderackMessage f) s) fun t =>
        t.m.jrn.pend = [] ∧ t.m.jrn.cmtno = max s.m.jrn.cmtno o.n ∧ t.m.recState o.n = 2 ∧ SameCores s t) ∧
    (∀ o, s.m.mode = 6 → s.m.jrn.pend = [o] → o.ownMirror = false → s.m.recCell o.n < 3184 → s.m.recLen o.n ≤ 256 →
      o.n < 2 ^ 64 → Completes (exec (.mirrorWriteComplete (.order (BitVec.ofNat 64 o.n))) s) fun t =>
        t.m.mem.ldBytes (Mach.mirrorOf (Mach.recordAt o.n)) 16 = s.m.mem.ldBytes (Mach.recordAt o.n) 16 ∧
        t.m.mem.ldBytes (Mach.mirrorOf (Mach.cellAt (s.m.recCell o.n))) (32 + s.m.recLen o.n) =
          s.m.mem.ldBytes (Mach.cellAt (s.m.recCell o.n)) (32 + s.m.recLen o.n) ∧ SameCores s t) ∧
    (∀ (c : Commit) (n : BitVec 64), s.m.jrn.commit = some c → c.tick = n.toNat → c.ownMirror = false → c.partner = false →
      s.m.mode = 6 → s.m.solo = false → Completes (exec (.mirrorWriteComplete (.commit n)) s) fun t =>
        t.m.mem.ldBytes (Mach.mirrorHeaderAt c.tick) c.header.length = c.header ∧
        t.m.jrn.commit = some { c with ownMirror := true } ∧ SameCores s t)

/-- What a standby, or a module in RESYNC, keeps of its primary's changes, and the link's own frames and lanes (R316,
R318, R319, R336). -/
def Obligations.ReplicatedChanges : Prop :=
  ∀ (f : List Byte) (cls mseq tick : Nat) (p : List Byte) (s : State), s.m.dead = false →
    (s.m.linkUp = true →
      (frameOf 0x30 f = some (cls, mseq, tick, p) → 16 ≤ p.length → s.m.mode = 5 → fieldAt p 8 1 = 1 →
        fieldAt p 0 4 = 0 → fieldAt p 4 4 = (p.drop 16).length → Completes (exec (.imageMessage f) s) fun t =>
          t.m.waitingCat = p.drop 16 ∧ KeepsRegs s t [] ∧ SameCores s t) ∧
      (frameOf 0x31 f = some (cls, mseq, tick, p) → s.m.mode = 5 → fieldAt p 4 2 = 1 → p.length = 24 →
        (fieldAt p 6 1).testBit 0 = false → Completes (exec (.forceMessage f) s) fun t =>
          t.m.pgm.frcRx = s.m.pgm.frcRx ++ [Mach.fitemOf (p.drop 8)] ∧ KeepsRegs s t [] ∧ SameCores s t) ∧
      (frameOf 0x32 f = some (cls, mseq, tick, p) → s.m.mode = 5 → fieldAt p 0 2 = 1 → p.length = 60 →
        fieldAt p 8 4 = 0 → fieldAt p 12 4 = 44 → Completes (exec (.sessionMessage f) s) fun t =>
          let k := fieldAt p 4 4 % 256
          assocGet t.m.jrn.keys k = some (p.drop 28) ∧
          t.m.mem.ldBytes (Mach.cliAt k) 12 = (p.drop 16).take 12 ∧ SameCores s t) ∧
      (frameOf 0x33 f = some (cls, mseq, tick, p) → s.m.mode = 4 → s.m.pair.accepted = true → p.length = 1032 →
        fieldAt p 0 2 ≤ 79 → s.m.mpu = [] → s.m.tick.outBuf ≤ 1 → Completes (exec (.outblkMessage f) s) fun t =>
          let a := Mach.outBase s.m.tick.outBuf + 1024 * fieldAt p 0 2
          t.m.mem.ldBytes a 1024 = p.drop 8 ∧ (∀ x, x < a ∨ a + 1024 ≤ x → t.m.mem.ld8 x = s.m.mem.ld8 x) ∧
          KeepsRegs s t [] ∧ SameCores s t) ∧
      (frameOf 0x7F f = some (cls, mseq, tick, p) → p.length = 4 → Completes (exec (.lackMessage f) s) fun t =>
        t.m.pair.sent = s.m.pair.sent.filter (fun x => ¬(x.cls = cls ∧ x.mseq = leNat p)) ∧
        KeepsRegs s t [] ∧ SameCores s t) ∧
      ∀ (k : Fin 5) (q : BitVec 32) (x : SentFrame),
        s.m.pair.sent.find? (fun x => x.cls = k.val ∧ x.mseq = q.toNat) = some x →
        Completes (exec (.frameResendTimeout k q) s) fun t => KeepsRegs s t [] ∧ SameCores s t ∧
          if x.again < 3 then t.m.out = s.m.out ++ [.link x.bytes] else t.m.linkUp = false ∧ t.m.pair.sent = []) ∧
    (∀ lane : Fin 2, s.m.fld PTL_STAT 5 4 = 3 → s.m.pair.serveCut = none → Completes (exec (.linkLane lane) s) fun t =>
      t.m.bit PTL_STAT (4 + lane.val) = false ∧ t.m.bit PTL_STAT (5 - lane.val) = true ∧
      KeepsRegs s t [PTL_STAT] ∧ SameCores s t) ∧
    (∀ (lane : Fin 2) (delay : BitVec 16), s.m.bit PTL_CTL 0 = true →
      Completes (exec (.partnerLinkStart lane delay) s) fun t => t.m.bit PTL_STAT (4 + lane.val) = true ∧
        t.m.rg PTL_DELAY = delay.toNat ∧ t.m.linkUp = true ∧ SameCores s t ∧
        (s.m.linkUp = true → KeepsRegs s t [PTL_STAT, PTL_DELAY]))

/-- Rejoining: the request and its answer, pages, MIRROR records, the end of a pass, the cut, and the commands that
begin and end it (R319, R320, R335 to R340). -/
def Obligations.RejoinCommands : Prop :=
  ∀ (f : List Byte) (cls mseq tick : Nat) (p : List Byte) (w : Writer) (s : State), s.m.dead = false →
    (s.m.linkUp = true →
      (frameOf 0x40 f = some (cls, mseq, tick, p) → p.length = 40 →
        (fieldAt p 2 1 = 0 → s.m.mode = 6 → Completes (exec (.reqMessage f) s) fun t => SameCores s t ∧
          if s.m.reqRefuse (reqOf p) = 0 then t.m.pair.serving = true ∧ t.m.pair.pass = 0
          else t.m.pair.serving = s.m.pair.serving ∧ KeepsRegs s t []) ∧
        (fieldAt p 2 1 = 1 → s.m.mode = 4 → s.m.pair.accepted = false → Completes (exec (.reqAnswer f) s) fun t =>
          SameCores s t ∧
          if fieldAt p 3 1 = 0 then t.m.pair.accepted = true ∧ t.m.pair.pageWritten = false
          else t.m.fld PTL_RSSTAT 31 24 = fieldAt p 3 1 ∧ t.m.pair.accepted = false ∧ KeepsRegs s t [PTL_RSSTAT])) ∧
      (s.m.mode = 4 → s.m.pair.accepted = false → Completes (exec .reqRetry s) fun t =>
        (∃ b, t.m.out = s.m.out ++ [.link b] ∧ b.head? = some 0x40) ∧ t.m.fld PTL_RSSTAT 2 0 = 1 ∧
        KeepsRegs s t [PTL_RSSTAT] ∧ SameCores s t) ∧
      (s.m.mode = 4 → s.m.pair.accepted = true →
        (frameOf 0x42 f = some (cls, mseq, tick, p) → p.length = 4104 →
          let a := fieldAt p 0 6
          a % 4096 = 0 → a < 0x01800000 → s.m.mpu = [] → Completes (exec (.pageMessage f) s) fun t =>
            t.m.mem.ldBytes a 4096 = p.drop 8 ∧ (∀ x, x < a ∨ a + 4096 ≤ x → t.m.mem.ld8 x = s.m.mem.ld8 x) ∧
            t.m.pair.pageWritten = true ∧ t.m.fld PTL_RSSTAT 15 8 = fieldAt p 6 1 ∧
            KeepsRegs s t [PTL_RSSTAT] ∧ SameCores s t) ∧
        (frameOf 0x41 f = some (cls, mseq, tick, p) → p.length = 12 →
          let o := fieldAt p 0 4
          o < 0x400000 → o % 8 = 0 → s.m.mpu = [] → Completes (exec (.mirrorMessage f) s) fun t =>
            t.m.mem.ldBytes (0x03000000 + o) 8 = p.drop 4 ∧
            (∀ x, x < 0x03000000 + o ∨ 0x03000008 + o ≤ x → t.m.mem.ld8 x = s.m.mem.ld8 x) ∧
            KeepsRegs s t [] ∧ SameCores s t) ∧
        (frameOf 0x43 f = some (cls, mseq, tick, p) → p.length = 4104 → fieldAt p 0 8 = s.m.tickNo + 1 →
          crc32c ((p.drop 8).take 4092) = fieldAt p 4100 4 → Completes (exec (.cutMessage f) s) fun t =>
            t.m.pair.cutAt = some (fieldAt p 0 8) ∧ t.m.pair.cutOk = true ∧ t.m.fld PTL_RSSTAT 2 0 = 4 ∧ SameCores s t))) ∧
    (s.m.mode = 6 → s.m.pair.serving = true → s.m.pair.pass ≠ 0 → s.m.pair.serveCut = none →
      Completes (exec .resyncPassEnd s) fun t => SameCores s t ∧
        if s.m.cutFits = true then t.m.pair.serveCut = some (s.m.tickNo + 2) ∧ t.m.fld PTL_RSSTAT 2 0 = 4
        else t.m.pair.serveCut = none ∧ t.m.pair.pass = s.m.pair.pass + 1) ∧
    (s.m.mode = 7 → Completes (exec (.rsreq w) s) fun t => KeepsRegs s t [] ∧ SameCores s t ∧
      if s.m.pair.partial_ = true then t.m.out = s.m.out ++ [.status "NOT_READY"] ∧ t.m.wantMode = s.m.wantMode
      else t.m.out = s.m.out ++ [.status "OK"] ∧ t.m.wantMode = some 4) ∧
    (s.m.mode = 4 → s.m.wantMode ≠ some 7 → Completes (exec (.rsabort w) s) fun t => t.m.wantMode = some 7 ∧
      t.m.pair.accepted = false ∧ t.m.pair.partial_ = (s.m.pair.partial_ || s.m.pair.pageWritten) ∧
      t.m.fld PTL_RSSTAT 2 0 = 0 ∧ t.m.bit PTL_STAT 6 = false ∧ SameCores s t)

/-! ### The host, programs and forces (R191 to R213, R345 to R364) -/

/-- The accession protocol at a primary: an ORDER is numbered and kept or refused with the first status that applies,
and leaves its source in the client state (that a refused one does is the model's reading, log entry 145); CACK frees the record, QUERY answers its state, and unanswered orders and completions are told (R347, R350, R357 to
R364). -/
def Obligations.HostCommands : Prop :=
  ∀ (p : Fin 2) (h : HostMsg) (q : AccMsg) (s : State), s.m.dead = false →
    let sent (t : State) (type status : Byte) := ∃ b, t.m.out = s.m.out ++ [.host h.addr h.port.toNat b] ∧
      b.getD 3 0 = type ∧ b.getD 16 0 = status
    (s.m.actsPrimary = true → s.m.bit (HST_CTL p) 0 = true → h.maint = false → accParse h.data = some (some q) →
      s.m.macOk q = true →
      (q.type = 1 →
        let refused (status : Byte) := Completes (exec (.hostOrder p h) s) fun t => sent t 3 status ∧
          t.m.mem = s.m.mem ∧ KeepsRegs s t [HST_RXCNT p, HST_TXCNT p, ACJ_REFCNT] ∧ SameCores s t
        (s.m.clientOf q.client = none → refused 2) ∧
        ∀ k, s.m.clientOf q.client = some k →
          let last := s.m.cliF k 12 4
          let n := s.m.nextAcc
          let source := fixLen 16 h.addr ++ leBytes 2 h.port.toNat
          let refusedOf (status : Byte) := Completes (exec (.hostOrder p h) s) fun t => SameCores s t ∧
            (∃ b, t.m.out.getLast? = some (.host h.addr h.port.toNat b) ∧ b.getD 3 0 = 3 ∧ b.getD 16 0 = status) ∧
            t.m.nextAcc = n ∧ t.m.jrn.pend = s.m.jrn.pend ∧ t.m.mem.ldBytes (Mach.cliAt k + 20) 18 = source ∧
            (s.m.mem.ldBytes (Mach.cliAt k + 20) 18 = source → sent t 3 status ∧ t.m.mem = s.m.mem ∧
              KeepsRegs s t [HST_RXCNT p, HST_TXCNT p, ACJ_REFCNT])
          if q.cseq = 0 ∨ 256 < fieldAt q.body 2 2 then refusedOf 3
          else if signed 32 (q.cseq + 2 ^ 32 - last) ≤ 0 then True
          else if q.cseq ≠ Mach.nextCseq last then refusedOf 4
          else if s.m.prog.gen = 0 then refusedOf 5
          else if s.m.cliF k 16 2 = s.m.cliF k 6 2 then refusedOf 6
          else if s.m.recState n ≠ 0 ∨ s.m.freeCell = none then refusedOf 7
          else Completes (exec (.hostOrder p h) s) fun t => t.m.nextAcc = (n + 1) % 2 ^ 64 ∧ t.m.recState n = 1 ∧
            t.m.jrn.pend.map (·.n) = s.m.jrn.pend.map (·.n) ++ [n] ∧ SameCores s t) ∧
      (∀ k, q.type = 5 → s.m.clientOf q.client = some k →
        let n := fieldAt q.body 0 8
        s.m.accLive n = true → 4 ≤ s.m.recState n → s.m.mem.ldN (Mach.recordAt n + 1) 1 = k →
        Completes (exec (.hostCack p h) s) fun t => t.m.recState n = 0 ∧ n ∉ t.m.jrn.due ∧ SameCores s t) ∧
      (∀ k i, q.type = 6 → s.m.clientOf q.client = some k → s.m.recOfCseq k q.cseq = some i →
        Completes (exec (.hostQuery p h) s) fun t => SameCores s t ∧
          ∃ b, t.m.out.getLast? = some (.host h.addr h.port.toNat b) ∧ b.getD 3 0 = 7 ∧
            b.getD 16 0 = BitVec.ofNat 8 (s.m.recState i))) ∧
    (∀ o, s.m.actsPrimary = true → s.m.jrn.pend = [o] → s.m.ordered o = false → o.tick < s.m.tickNo → o.told = false →
      Completes (exec .orderAckDeadline s) fun t => t.m.jrn.pend = [{ o with told := true }] ∧ SameCores s t ∧
        ∃ b, t.m.out = s.m.out ++ [.host o.addr o.port b] ∧ b.getD 3 0 = 3 ∧ b.getD 16 0 = 9) ∧
    (∀ n : BitVec 64, s.m.actsPrimary = true → s.m.accLive n.toNat = true → 4 ≤ s.m.recState n.toNat →
      Completes (exec (.completeRetry n) s) fun t => SameCores s t ∧
        (∃ addr port b, t.m.out = s.m.out ++ [.host addr port b] ∧ b.getD 3 0 = 4) ∧
        KeepsRegs s t [HST_TXCNT s.m.outPort]) ∧
    (∀ (k : BitVec 8) (data key : List Byte), 3 ≤ s.m.mode → s.m.mode ≠ 6 →
      (s.m.trialPending = true → Completes (exec (.clientStateWrite k data key) s) fun t =>
        t = { s with m := s.m.emit (.status "TRIAL_PENDING") }) ∧
      (s.m.trialPending = false → data.length = 12 → key.length = 32 → fieldAt data 6 2 ≠ 0 → fieldAt data 5 1 = 0 →
        fieldAt data 4 1 < 4 → Completes (exec (.clientStateWrite k data key) s) fun t =>
          t.m.mem.ldBytes (Mach.cliAt k.toNat) 12 = data ∧ assocGet t.m.jrn.keys k.toNat = some key ∧
          t.m.out = s.m.out ++ [.status "OK"] ∧ SameCores s t))

/-- Images, online change and restarts in BENCH: each command takes effect or is refused with the status of its first
failing condition, and each instant does its part (R191 to R208, R213). -/
def Obligations.ProgramCommands : Prop :=
  ∀ (img : List Byte) (s : State), s.m.dead = false →
    let done (t : State) (code : Nat) := t.m.out = s.m.out ++ [.status (pgmName code)] ∧ SameCores s t
    let new := progOf img (s.m.pgm.gens + 1)
    (s.m.mode ≠ 3 → Completes (exec (.imageLoad img []) s) fun t => done t 9 ∧ KeepsRegs s t [KLN_PGMSTAT]) ∧
    (s.m.mode = 3 → s.m.pgmBusy = true → Completes (exec (.imageLoad img []) s) fun t =>
      done t 1 ∧ KeepsRegs s t [KLN_PGMSTAT]) ∧
    (s.m.mode = 3 → s.m.pgmBusy = false → imgCheck img = 0 →
      (s.m.progCheck img new catActive none = 0 → Completes (exec (.imageLoad img []) s) fun t => done t 0 ∧
        t.m.pgm.change = some ⟨new, [], true, [], [], true, false, false⟩ ∧ t.m.prog = s.m.prog) ∧
      (s.m.prog.gen ≠ 0 → s.m.pair.serving = false → s.m.progCheck img new catActive (some s.m.prog) = 0 →
        Completes (exec (.onlineChange img []) s) fun t => t.m.rg KLN_CHGSTAT = 3 ∧ t.m.prog = s.m.prog ∧
          t.m.pgm.change.map (·.prog) = some new ∧ t.m.fld KLN_PGMSTAT 7 3 = 0 ∧ SameCores s t)) ∧
    (∀ c, s.m.pgm.change = some c → c.staged = false → c.load = false →
      s.m.adm.granted.any (fun g => g.who = .staging) = true → Completes (exec .stagingComplete s) fun t =>
        t.m.pgm.change.map (fun x => (x.prog, x.staged)) = some (c.prog, true) ∧ SameCores s t) ∧
    (∀ c, s.m.pgm.change = some c → c.stored = false → c.load = true →
      s.m.adm.granted.any (fun g => g.who = .copy) = true → Completes (exec .programStoreWritten s) fun t =>
        t.m.pgm.change = some { c with stored := true } ∧ t.m.pgm.want = some 1 ∧ SameCores s t) ∧
    (∀ c, s.m.pgm.change = some c → s.m.chgState = 5 → s.m.rg64 KLN_CHGTICK = s.m.tickNo → s.m.tick.phase = 0 →
      Completes (exec .onlineChangeSwitch s) fun t => t.m.prog = c.prog ∧ t.m.pgm.change = none ∧
        t.m.pgm.bank = 1 - s.m.pgm.bank ∧ t.m.fld KLN_PGMSTAT 1 0 = 3 ∧ t.m.chgState = 0 ∧ SameCores s t) ∧
    (s.m.mode = 3 → s.m.prog.gen ≠ 0 → s.m.chgState ≠ 5 → s.m.restarting = false → s.m.pgm.change = none →
      (Completes (exec (.coldRestart true) s) fun t =>
        t.m.pgm.want = some 3 ∧ done t 0 ∧ KeepsRegs s t [KLN_PGMSTAT]) ∧
      (Completes (exec (.warmRestart true) s) fun t => KeepsRegs s t [KLN_PGMSTAT] ∧
        if (s.m.headOf s.m.pgm.bank).gen = s.m.prog.gen then t.m.pgm.want = some 2 ∧ done t 0
        else t.m.pgm.want = s.m.pgm.want ∧ done t 15)) ∧
    (s.m.mode ≠ 6 → Completes (exec .cancelChange s) fun t =>
      if s.m.chgState = 5 then t.m.pgm.change = s.m.pgm.change ∧ done t 1
      else done t 0 ∧ (s.m.chgState ≠ 0 → t.m.pgm.change = none ∧ t.m.chgState = 0)) ∧
    (∀ r, s.m.pgm.restart = some r →
      (r.written = false → Completes (exec .restartSectionsWritten s) fun t =>
        t.m.pgm.restart = some { r with written := true } ∧ t.m.fld KLN_OVRCNT 1 0 = 0 ∧ SameCores s t) ∧
      (∀ n, r.at_ = some n → n ≤ s.m.tickNo → s.m.tickNo % s.m.prog.rmax = 0 → s.m.tick.phase = 0 →
        Completes (exec .restartFirstFiring s) fun t => t.m.pgm.restart = none ∧ t.m.bit KLN_PGMSTAT 2 = false ∧
          t.m.fld KLN_PGMSTAT 1 0 = (if r.kind = 2 then 1 else 2) ∧ t.m.mem.ldBytes s.m.prog.start 32 =
            leBytes 8 r.kind ++ leBytes 8 s.m.tickNo ++ leBytes 8 s.m.pgm.restarts ++ leBytes 8 s.m.prog.gen ∧
          KeepsRegs s t [KLN_PGMSTAT] ∧ SameCores s t))

/-- Force batches, the scheduler's commands and the tick length (R36, R61, R209 to R211). -/
def Obligations.ForcesAndScheduler : Prop :=
  ∀ (w : Writer) (items : List ForceItem) (s : State), s.m.dead = false →
    let l := items.map ForceItem.item
    (s.m.mode = 3 → items ≠ [] →
      (∀ k code, s.m.forceFail 0 l = some (k, code) → Completes (exec (.forceWrite true items) s) fun t =>
        t.m.out = s.m.out ++ [.data (leBytes 4 k), .status (pgmName code)] ∧ t.m.pgm.batches = s.m.pgm.batches ∧
        KeepsRegs s t [KLN_PGMSTAT] ∧ SameCores s t) ∧
      (s.m.forceFail 0 l = none → s.m.pgm.batches = [] →
        (Mach.forceBatch (s.m.forces, s.m.pgm.frcGen) l).1.length ≤ 8192 →
        Completes (exec (.forceWrite true items) s) fun t => t.m.pgm.batches = [(s.m.tickNo + 1, l)] ∧
          t.m.out = s.m.out ++ [.status "OK"] ∧ t.m.forces = s.m.forces ∧ KeepsRegs s t [KLN_PGMSTAT] ∧ SameCores s t)) ∧
    (∀ tick, s.m.tick.phase = 0 → s.m.pgm.batches = [(tick, l)] → tick ≤ s.m.tickNo →
      Completes (exec .forceBatchApply s) fun t => t.m.pgm.batches = [] ∧ SameCores s t ∧
        (t.m.forces, t.m.pgm.frcGen) = if Mach.forceKeys (l.foldl (Mach.forceItem ((s.m.pgm.frcGen + 1) % 2 ^ 32)) s.m.forces) =
            Mach.forceKeys s.m.forces then (s.m.forces, s.m.pgm.frcGen)
          else (l.foldl (Mach.forceItem ((s.m.pgm.frcGen + 1) % 2 ^ 32)) s.m.forces, s.m.pgm.frcGen + 1)) ∧
    (∀ on : Bool, Completes (exec (.schctlRun on w) s) fun t => t.m.bit KLN_SCHCTL 0 = on ∧
      (on = true → t.m.bit KLN_SCHSTAT 8 = false) ∧ KeepsRegs s t [KLN_SCHCTL, KLN_SCHSTAT] ∧ SameCores s t) ∧
    (s.m.mode = 3 → s.m.bit KLN_SCHCTL 0 = false → Completes (exec (.schctlStep w) s) fun t =>
      t.m.bit KLN_SCHCTL 1 = true ∧ KeepsRegs s t [KLN_SCHCTL] ∧ SameCores s t) ∧
    (∀ len : BitVec 3, Completes (exec (.tickLengthSelect len w) s) fun t => SameCores s t ∧
      if s.m.mode = 3 ∧ len.toNat ≤ 4 then t.m.fld KLN_TICKSEL 2 0 = len.toNat ∧ KeepsRegs s t [KLN_TICKSEL]
      else KeepsRegs s t [])

/-! ### Protection, measurement and update (R377, R378, R387 to R391, R399 to R414) -/

/-- Region sets and scrubbing (R374, R377, R378, R387 to R390, R393). -/
def Obligations.ProtectionCommands : Prop :=
  ∀ (c : Fin 10) (w : Writer) (s : State), s.m.dead = false →
    (s.m.bit (MPU_CSTAT c) 2 = false → (∀ n < 16, Mach.badRegion (s.m.staged c n) = false) →
      (2 ≤ c.val → Completes (exec (.mpuApply c w) s) fun t =>
        (∀ n < 16, t.m.active c n = if s.m.locked c n = true then s.m.active c n else s.m.staged c n) ∧
        t.m.bit (MPU_CSTAT c) 2 = true ∧ KeepsRegs s t [MPU_CSTAT c] ∧ SameCores s t) ∧
      (c.val < 2 → s.m.mode = 3 → Completes (exec (.mpuApply c w) s) fun t => t.m.mpu = s.m.mpu ∧
        c.val ∈ t.m.mpuWait ∧ t.m.bit (MPU_CSTAT c) 2 = true ∧ KeepsRegs s t [MPU_CSTAT c] ∧ SameCores s t)) ∧
    (s.m.bit (MPU_CSTAT c) 2 = true → 2 ≤ c.val →
      (Completes (exec (.mpuApply c w) s) fun t => t.m.mpu = s.m.mpu ∧ KeepsRegs s t [] ∧ SameCores s t) ∧
      Completes (exec (.drainComplete c) s) fun t =>
        t.m.bit (MPU_CSTAT c) 2 = false ∧ KeepsRegs s t [MPU_CSTAT c] ∧ SameCores s t) ∧
    (∀ (a : BitVec 48) (n : Nat), a.toNat % 8 = 0 → Mach.arrayOf a.toNat = some n → n ≠ 6 → s.m.fld DDC_PATROL 15 0 ≠ 0 →
      (tabGet Ecc.good s.m.ecc (a.toNat / 8) = .good → Completes (exec (.patrolScrub a) s) fun t => t = s) ∧
      (tabGet Ecc.good s.m.ecc (a.toNat / 8) = .single → Completes (exec (.patrolScrub a) s) fun t => t.m.mem = s.m.mem ∧
        tabGet Ecc.good t.m.ecc (a.toNat / 8) = .good ∧
        t.m.fld (DDC_ECCCNT n) 15 0 = satInc (s.m.fld (DDC_ECCCNT n) 15 0) 65535 ∧
        KeepsRegs s t [DDC_ECCCNT n] ∧ SameCores s t)) ∧
    (s.m.bit DDC_STAT 2 = false → s.m.pfw = false →
      ((s.m.adm.waiting ++ s.m.adm.granted).all fun q => q.cls ≠ 7) = true → Completes (exec (.fullScrub w) s) fun t =>
        t.m.rg64 DDC_SCRUBPOS = 0x400000000 ∧ (∃ q ∈ t.m.adm.waiting ++ t.m.adm.granted, q.who = .scrub) ∧
        SameCores s t) ∧
    (s.m.bit DDC_STAT 2 = true →
      (Completes (exec (.fullScrub w) s) fun t => KeepsRegs s t [] ∧ SameCores s t) ∧
      Completes (exec .fullScrubEnd s) fun t => t.m.bit DDC_STAT 2 = false ∧ t.m.rg64 DDC_SCRUBPOS = 0 ∧ SameCores s t)

/-- Provenance: a slot extends to the SHA-384 digest of its value and the measurement for whoever may, and a
well-formed request gets one answer while the rate allows (R399 to R403). -/
def Obligations.ProvenanceCommands : Prop :=
  ∀ s : State, s.m.dead = false →
    (∀ (n : BitVec 3) (src : PsSource) (data : BitVec 384), s.m.upd.ps.length = 8 →
      Completes (exec (.psExtend n src data) s) fun t => SameCores s t ∧
        let may := match src with
          | .rom => n.toNat < 4 ∧ s.m.mode = 1
          | .firmware => 4 ≤ n.toNat ∧ n.toNat < 7
          | .session => n = 7
        (may → t.m.psOf n.toNat = sha384 (s.m.psOf n.toNat ++ leBytes 48 data.toNat) ∧ t.m.out = s.m.out ++ [.status "OK"]) ∧
        (¬may → t.m.upd = s.m.upd ∧ t.m.out = s.m.out ++ [.status "PS_DENIED"])) ∧
    (∀ q : PvReq, 3 ≤ s.m.mode → s.m.bit CUR_PVCFG 0 = true → q.pair = false →
      (if s.m.tick.now / 1000000000 = s.m.upd.pvSec then s.m.upd.pvCnt else 0) < s.m.fld CUR_PVCFG 15 8 →
      ∀ e ∈ ([(.provenanceReport q, 1, 40), (.logPart q, 2, 8), (.certificate q, 3, 8)] : List (Instr × Nat × Nat)),
        Completes (exec e.1 s) fun t => KeepsRegs s t [] ∧ SameCores s t ∧
          if q.data.length = e.2.2 ∧ fieldAt q.data 0 2 = 0x5650 ∧ fieldAt q.data 2 1 = 1 ∧ fieldAt q.data 3 1 = e.2.1 ∧
              fieldAt q.data 6 2 = 0 then
            ∃ b, t.m.out = s.m.out ++ [.host q.addr q.port.toNat b] ∧ b.take 3 = q.data.take 3 ∧
              fieldAt b 3 1 = e.2.1 + 0x80 ∧ (b.drop 4).take 4 = (q.data.drop 4).take 4
          else t = s)

/-- The update commands of a session and the life of a trial (R405 to R414). -/
def Obligations.UpdateCommands : Prop :=
  ∀ (slot : Fin 2) (h body : List Byte) (e : BootEnv) (s : State), s.m.dead = false →
    let done (t : State) (code : Nat) := t.m.out = s.m.out ++ [.status (Mach.updName code)] ∧
      t.m.fld UPD_STAT 31 24 = code ∧ SameCores s t
    (3 ≤ s.m.mode →
      (s.m.upd.xfer = none → slot.val ≠ s.m.upd.booted → s.m.trialPending = false →
        (Mach.headerCheck h (some (s.m.fld UPD_CFG 31 24)) = 0 → Completes (exec (.begin slot h) s) fun t => done t 0 ∧
          t.m.upd.xfer = some (slot.val, h) ∧ (t.m.slotOf slot).state = 1) ∧
        (∀ c, Mach.headerCheck h (some (s.m.fld UPD_CFG 31 24)) = c → c ≠ 0 → Completes (exec (.begin slot h) s) fun t =>
          done t c ∧ t.m.upd = s.m.upd)) ∧
      (Completes (exec .abort s) fun t => done t 0 ∧ t.m.upd.xfer = none ∧ t.m.upd.bcr = s.m.upd.bcr) ∧
      (slot.val ≠ s.m.upd.booted → s.m.trialPending = false → Completes (exec (.activate slot) s) fun t =>
        if (s.m.slotOf slot).state = 2 ∨ (s.m.slotOf slot).state = 3 then
          done t 0 ∧ t.m.upd.bcr.trialState = 1 ∧ t.m.upd.bcr.trialSlot = slot.val
        else done t 12 ∧ t.m.upd = s.m.upd) ∧
      (Completes (exec .confirm s) fun t =>
        (s.m.upd.bcr.trialState ≠ 2 → done t 10 ∧ t.m.upd = s.m.upd) ∧
        (s.m.upd.bcr.trialState = 2 → s.m.trialExpired = true → done t 11 ∧ t.m.upd = s.m.upd) ∧
        (s.m.upd.bcr.trialState = 2 → s.m.trialExpired = false → s.m.trialReady = true → done t 0 ∧
          t.m.upd.bcr.trialState = 0 ∧ t.m.upd.bcr.active = s.m.upd.bcr.trialSlot)) ∧
      (Completes (exec .recover s) fun t => done t 0 ∧ t.m.upd.bcr.recover = true) ∧
      (Completes (exec .disarm s) fun t => done t 0 ∧
        t.m.upd.bcr.trialState = if s.m.upd.bcr.trialState = 1 then 0 else s.m.upd.bcr.trialState) ∧
      (∀ c : CfgCommit, s.m.mode ≠ 6 → s.m.trialPending = false → Completes (exec (.configurationCommit c) s) fun t =>
        t.m.out = s.m.out ++ [.status "OK"] ∧ SameCores s t ∧
        t.m.fld UPD_CFG 23 0 = c.gen.toNat % 2 ^ 24 ∧ (t.m.cfgOf s.m.upd.bcr.active).valid = true ∧
        (t.m.cfgOf s.m.upd.bcr.active).regs = c.regs.map fun r => (r.1.toNat, r.2.toNat))) ∧
    (s.m.upd.xfer = some (slot.val, h) → s.m.adm.granted.any (fun g => g.who = .nor) = true →
      Completes (exec (.updateBodyComplete body) s) fun t => t.m.upd.xfer = none ∧
        if sha384 body = (h.drop 40).take 48 ∧ body.length + 512 = fieldAt h 24 4 then
          done t 0 ∧ t.m.slotOf slot = ⟨2, fieldAt h 16 4⟩
        else done t 7 ∧ (t.m.slotOf slot).state = 4) ∧
    (s.m.upd.bcr.trialState = 2 → s.m.trialExpired = false →
      (s.m.bit UPD_TRIAL 24 = true → s.m.trialReady = true → Completes (exec .trialAutoConfirm s) fun t =>
        t.m.upd.bcr.trialState = 0 ∧ t.m.upd.bcr.active = s.m.upd.bcr.trialSlot ∧ SameCores s t) ∧
      Completes (exec .trialExpiry s) fun t => t.m.trialExpired = true ∧ t.m.upd = s.m.upd ∧
        t.m.rg UPD_TRIALLEFT = 0 ∧ KeepsRegs s t [UPD_STAT, UPD_TRIALLEFT] ∧ SameCores s t) ∧
    (s.m.mode = 2 →
      (∀ c, Mach.headerCheck h s.m.fmtInUse = c → c ≠ 0 → Completes (exec (.recoveryDownload slot h body e) s) fun t =>
        done t c ∧ t.m.upd = s.m.upd) ∧
      (Mach.headerCheck h s.m.fmtInUse = 0 → sha384 body = (h.drop 40).take 48 → body.length + 512 = fieldAt h 24 4 →
        Completes (exec (.recoveryDownload slot h body e) s) fun t =>
          t.c0 = Tri.reset ∧ t.c1 = Tri.reset ∧ t.pending = s.pending))

/-! ### Records, supply, admission and the label (R425 to R449, R465 to R469) -/

/-- The Ledger's flushes and rate window, the supply's conversions and the power-fail warning (R425, R429, R431 to
R439). -/
def Obligations.LedgerAndSupply : Prop :=
  ∀ (w : Writer) (s : State), s.m.dead = false →
    (s.m.bit LDG_STAT 1 = false → s.m.bit LDG_STAT 2 = false → s.m.pfw = false →
      ((s.m.adm.waiting ++ s.m.adm.granted).all fun q => q.cls ≠ 2) = true →
      let starts (i : Instr) := Completes (exec i s) fun t =>
        (t.m.bit LDG_STAT 1 = true ∨ t.m.bit LDG_STAT 2 = true) ∧ SameCores s t
      starts .ledgerFlush ∧ (s.m.rg LDG_HWM ≤ s.m.ledgerUnfl → starts .ledgerHwmFlush)) ∧
    (s.m.ledgerUnfl < s.m.rg LDG_HWM → Completes (exec .ledgerHwmFlush s) fun t => t = s) ∧
    (s.m.bit LDG_STAT 1 = true → s.m.adm.waiting = [] → Completes (exec .ledgerFlushComplete s) fun t =>
      t.m.bit LDG_STAT 1 = false ∧ t.m.rg LDG_FLUSHED = s.m.rg LDG_HEAD ∧ t.m.rg LDG_HEAD = s.m.rg LDG_HEAD ∧
      SameCores s t) ∧
    (Completes (exec .rateWindowEnd s) fun t => t.m.ldg.written = [] ∧ t.m.ldg.supp = [] ∧
      t.m.rg LDG_HEAD = (s.m.rg LDG_HEAD + s.m.ldg.supp.length) % 2 ^ 32 ∧ KeepsRegs s t [] ∧ SameCores s t) ∧
    (∀ (ch : Fin 24) (code : BitVec 12), 1 ≤ s.m.fld (SVA_WCFG ch) 7 4 → Completes (exec (.windowChange ch code) s) fun t =>
      t.m.fld (SVA_RES ch) 11 0 = code.toNat ∧ SameCores s t ∧
      (s.m.bit (SVA_WCFG ch) 0 = true → ch.val ≠ 14 → tabGet 0 s.m.sva.runs ch = 0 →
        t.m.svaOut ch = (decide (code.toNat < s.m.fld (SVA_WIN ch) 11 0) ||
          decide (s.m.fld (SVA_WIN ch) 27 16 < code.toNat)))) ∧
    (∀ (k : Fin 4) (codes : Codes),
      let trig := s.m.fld (SVA_INJCTL k) 3 0
      let runs (i : Instr) := Completes (exec i s) fun t => t.m.bit (SVA_INJCTL k) 15 = true ∧
        t.m.rg64 (SVA_INJTIME k) = s.m.tick.now % 2 ^ 64 ∧ t.m.fld (SVA_INJRESA k) 11 0 = codes.r0.toNat ∧ SameCores s t
      (s.m.fld (SVA_INJCTL k) 12 10 ≠ 0 →
        (1 ≤ trig → trig ≤ 5 → runs (.injectedSequence k codes false)) ∧
        (trig = 6 → runs (.svaInjectGo k codes false w) ∧ Completes (exec (.svaInjectGo k codes true w) s) fun t =>
          t.m.bit (SVA_INJCTL k) 14 = true ∧ KeepsRegs s t [SVA_INJCTL k] ∧ SameCores s t)) ∧
      (s.m.fld (SVA_INJCTL k) 12 10 = 0 → Completes (exec (.svaInjectGo k codes false w) s) fun t =>
        KeepsRegs s t [] ∧ SameCores s t)) ∧
    (s.m.pfw = false → Completes (exec .powerFailWarning s) fun t => t.m.pfw = true ∧ t.m.adm.waiting = [] ∧
      t.m.adm.granted = [] ∧ SameCores s t ∧ t.m.sva.hold = decide (s.m.mode < 3)) ∧
    (∀ up : Bool, Completes (exec (.holdokChange up) s) fun t =>
      t.m.bit SVA_STAT 1 = up ∧ (up = true → t.m.sva.holdLow = false) ∧ SameCores s t)

/-- Power admission and the front label (R440 to R446, R449, R465 to R469, R474). -/
def Obligations.AdmissionAndLabel : Prop :=
  ∀ (w : Writer) (s : State), s.m.dead = false →
    (∀ (cls : BitVec 3) (port : BitVec 2),
      let at_ := if cls = 3 then port.toNat else 0
      (cls = 0 → ∀ i ∈ ([.admRequest w cls port, .admRelease w cls port] : List Instr), Completes (exec i s) fun t =>
        t.m.fld ADM_REQSTAT 7 0 = 2 ∧ KeepsRegs s t [ADM_REQ, ADM_REL, ADM_REQSTAT] ∧ SameCores s t) ∧
      (cls ≠ 0 → s.m.pfw = false → Completes (exec (.admRequest w cls port) s) fun t => SameCores s t ∧
        if (s.m.adm.waiting ++ s.m.adm.granted).any (fun q => q.cls = cls.toNat ∧ q.port = at_) = true then
          t.m.fld ADM_REQSTAT 7 0 = 1 ∧ t.m.adm = s.m.adm
        else t.m.fld ADM_REQSTAT 7 0 = 0 ∧
          ∃ q ∈ t.m.adm.waiting ++ t.m.adm.granted, q.cls = cls.toNat ∧ q.port = at_ ∧ q.who = .session) ∧
      (cls ≠ 0 → s.m.adm.waiting = [] → Completes (exec (.admRelease w cls port) s) fun t => SameCores s t ∧
        t.m.adm.granted = s.m.adm.granted.filter fun g => ¬(g.cls = cls.toNat ∧ g.port = at_)) ∧
      (∀ g, s.m.adm.granted.find? (fun g => g.cls = cls.toNat ∧ g.port = at_) = some g →
        (g.who = .label → Completes (exec (.admSliceEnd cls port) s) fun t =>
          t.m.label.slice = true ∧ t.m.adm = s.m.adm ∧ KeepsRegs s t [] ∧ SameCores s t) ∧
        (g.who = .session → s.m.bit ADM_CTL 0 = true → Completes (exec (.admSliceEnd cls port) s) fun t =>
          t.m.adm.waiting = s.m.adm.waiting ++ [{ g with since := s.m.tick.now }] ∧
          t.m.adm.granted = s.m.adm.granted.filter (· ≠ g) ∧ SameCores s t))) ∧
    (∀ mw : BitVec 17,
      (s.m.rg ADM_BUDGET < mw.toNat → s.m.bit ADM_STAT 2 = false → Completes (exec (.admOverload mw) s) fun t =>
        t.m.rg ADM_MEAS = mw.toNat ∧ t.m.bit ADM_STAT 2 = true ∧ SameCores s t) ∧
      (mw.toNat < s.m.rg ADM_BUDGET → Completes (exec (.admOverloadClear mw) s) fun t =>
        t.m.rg ADM_MEAS = mw.toNat ∧ t.m.bit ADM_STAT 2 = false ∧ SameCores s t)) ∧
    (s.m.labelBusy = false → s.m.bit LBL_CTL 0 = true → s.m.pfw = false →
      ((s.m.adm.waiting ++ s.m.adm.granted).all fun q => q.cls ≠ 6) = true →
      Completes (exec (.labelRedraw w) s) fun t => t.m.labelBusy = true ∧ SameCores s t) ∧
    (s.m.labelBusy = true →
      (Completes (exec (.labelRedraw w) s) fun t => KeepsRegs s t [] ∧ SameCores s t) ∧
      (∀ bs, Completes (exec (.labelPictureWrite bs) s) fun t => t = { s with m := s.m.emit (.status "BUSY") }) ∧
      Completes (exec .labelAbort s) fun t => t.m.labelBusy = false ∧ t.m.fld LBL_STAT 3 3 = 0 ∧ SameCores s t) ∧
    (∀ bs : List Byte, s.m.labelBusy = false → s.m.label.picture = none → bs.length = 9472 →
      (∀ b ∈ bs, ∀ k < 4, b.toNat / 4 ^ k % 4 ≠ 3) → s.m.pfw = false → s.m.bit ADM_CTL 0 = true →
      ((s.m.adm.waiting ++ s.m.adm.granted).all fun q => q.cls ≠ 2) = true →
      Completes (exec (.labelPictureWrite bs) s) fun t =>
        t.m.label.picture = some bs ∧ t.m.out = s.m.out ++ [.status "OK"] ∧ SameCores s t) ∧
    (s.m.fld LBL_STAT 2 0 = 3 → Completes (exec .labelPassEnd s) fun t =>
      t.m.fld LBL_STAT 2 0 = 0 ∧ t.m.rg LBL_ROW = 23 ∧ SameCores s t) ∧
    (∀ p b, s.m.fld LBL_STAT 2 0 = p → p = 1 ∨ p = 2 → s.m.label.slice = false → s.m.labelBand = some b →
      Completes (exec .labelPassEnd s) fun t => t.m.fld LBL_STAT 2 0 = p + 1 ∧ t.m.bit LBL_STAT 3 = true ∧
        t.m.rg LBL_ROW = (if p = 2 then 295 else 23) ∧ KeepsRegs s t [LBL_STAT, LBL_ROW] ∧ SameCores s t) ∧
    (∀ b, s.m.bit LBL_STAT 4 = true → s.m.labelBand = some b → s.m.label.next ≤ 3 →
      Completes (exec .labelDeferResume s) fun t => t.m.fld LBL_STAT 2 0 = s.m.label.next ∧ t.m.bit LBL_STAT 4 = false ∧
        t.m.bit LBL_STAT 3 = true ∧ t.m.fld LBL_STAT 10 8 = b % 8 ∧ KeepsRegs s t [LBL_STAT] ∧ SameCores s t)

/-! ### The whole machine -/

/-- After reset the module is in BOOT with nothing listed in memory, nothing waiting, the registers listed at their reset values
and the wired registers of the cores as R63 says. -/
def Obligations.ResetState : Prop :=
  State.reset.pending = [] ∧ State.reset.m.mode = 1 ∧ State.reset.m.mem.wf = true ∧
  (∀ x, State.reset.m.mem.ld8 x = Memory.unlisted) ∧ State.reset.Hardwired ∧
  (∀ cl : ClusterId, (State.reset.m.kiln cl).slice = none ∧ State.reset.m.rg (KLN_DIVLAST cl) = 0) ∧
  DeltaInData State.reset.m ∧ State.reset.m.rg64 TMB_ADDEND = 2 ^ 34 ∧ State.reset.m.rg TMB_JUMPMAX = 1000 ∧
  State.reset.m.rg TMB_PAIRLIM = 2000 ∧ State.reset.m.rg TMB_GXSYNC = 8 ∧ State.reset.m.rg64 TMB_TIME = 0 ∧
  State.reset.m.rg DLE_SPLIT = 32768 ∧ State.reset.m.rg DLE_LEAD = 2 ∧ State.reset.m.rg DLE_HORIZON = 2000 ∧
  State.reset.m.rg DLE_KEEP = 16 ∧ State.reset.m.rg ACJ_LIMIT = 512 ∧ State.reset.m.rg ACJ_CFG = 20 ∧
  (∀ p : PortId, State.reset.m.rg (GXP_ACTRES p) = 1024 ∧ State.reset.m.rg (GXP_WDOG p) = 3 ∧
    State.reset.m.rg (CFD_QSTAT p) = 0)

/-- Every step keeps g0 at 0 and c0 at 1 in every core (R63). -/
def Obligations.EveryStepKeepsTheWiredRegisters : Prop :=
  ∀ s : State, s.Hardwired → Completes (step s) State.Hardwired

/-- An instruction touches the cores of its own cluster only, and neither the mode nor plant time nor the phase of the
tick (R34, R158). -/
def Obligations.InstructionsKeepToTheirCluster : Prop :=
  ∀ (i : Instr) (cl : ClusterId) (s : State), clusterOf i = some cl → Completes (exec i s) fun t =>
    (∀ k < 3, t.core (1 - cl) k = s.core (1 - cl) k) ∧ t.m.mode = s.m.mode ∧ t.m.tick.now = s.m.tick.now ∧
    t.m.tick.phase = s.m.tick.phase

/-- An instruction keeps the canonical form of memory and the delta in the data space, and changes no byte beyond the
data space, the output buffers, the marker spaces, the rings of the Ledger and the journal's counts of offers (R70, R75,
R77, R128, R144, R424). -/
def Obligations.InstructionsAreConfined : Prop :=
  ∀ (i : Instr) (cl : ClusterId) (s : State), clusterOf i = some cl → s.m.mem.wf = true → DeltaInData s.m →
    Completes (exec i s) fun t => t.m.mem.wf = true ∧ DeltaInData t.m ∧
      ∀ x, ¬Reachable s.m x → t.m.mem.ld8 x = s.m.mem.ld8 x
end

