-- ==== Sys2Proof/Laws/Tab.lean ====
section
/-! SUPPORT. Sparse tables and memory: what a read finds after a write, and that every operation keeps the
canonical form. -/

namespace Sys2Proof.Machine

/-! ### Reads after writes -/

theorem tabGet_assocPut {α : Type} (d : α) (t : Tab α) (a b : Nat) (v : α) :
    tabGet d (assocPut t a v) b = if b = a then v else tabGet d t b := by
  induction t with
  | nil => by_cases h : b = a <;> simp [assocPut, tabGet, h]
  | cons e t ih =>
    obtain ⟨k, w⟩ := e
    unfold assocPut
    split_ifs with h1 h2 h3 h4 <;> simp_all [tabGet]

theorem tabGet_assocDel {α : Type} (d : α) (t : Tab α) (a b : Nat) :
    tabGet d (assocDel t a) b = if b = a then d else tabGet d t b := by
  induction t with
  | nil => simp [assocDel, tabGet]
  | cons e t ih =>
    obtain ⟨k, w⟩ := e
    have hc : assocDel ((k, w) :: t) a = if k = a then assocDel t a else (k, w) :: assocDel t a := by
      by_cases hk : k = a <;> simp [assocDel, hk]
    rw [hc]
    by_cases hk : k = a
    · subst hk; rw [if_pos rfl, ih]; by_cases hb : b = k <;> simp [tabGet, hb]
    · rw [if_neg hk]
      by_cases hb : b = k
      · subst hb; simp [tabGet, hk]
      · simp [tabGet, hb, ih]

/-- A table after a write reads the value at its key and what it read before elsewhere. -/
theorem tabGet_tabPut {α : Type} [DecidableEq α] (d : α) (t : Tab α) (a b : Nat) (v : α) :
    tabGet d (tabPut d t a v) b = if b = a then v else tabGet d t b := by
  unfold tabPut
  split_ifs with h1 h2 h2
  · rw [tabGet_assocDel, if_pos h2, h1]
  · rw [tabGet_assocDel, if_neg h2]
  · rw [tabGet_assocPut, if_pos h2]
  · rw [tabGet_assocPut, if_neg h2]

/-- A read with the default of its own key, after a write under another key's default. -/
theorem tabGet_tabPut_other {α : Type} [DecidableEq α] (d e : α) (t : Tab α) (a b : Nat) (v : α) (h : b ≠ a) :
    tabGet d (tabPut e t a v) b = tabGet d t b := by
  unfold tabPut
  split_ifs
  · rw [tabGet_assocDel, if_neg h]
  · rw [tabGet_assocPut, if_neg h]

/-- A table without the keys of a range reads the default in it. -/
theorem tabGet_tabErase {α : Type} (d : α) (t : Tab α) (lo n b : Nat) :
    tabGet d (tabErase t lo n) b = if lo ≤ b ∧ b < lo + n then d else tabGet d t b := by
  induction t with
  | nil => simp [tabErase, tabGet]
  | cons e t ih =>
    obtain ⟨k, w⟩ := e
    have hc : tabErase ((k, w) :: t) lo n = if lo ≤ k ∧ k < lo + n then tabErase t lo n else (k, w) :: tabErase t lo n := by
      by_cases hk : lo ≤ k ∧ k < lo + n
      · have : ¬ (k < lo ∨ lo + n ≤ k) := by omega
        simp [tabErase, hk, this]
      · have : k < lo ∨ lo + n ≤ k := by omega
        simp only [tabErase, List.filter_cons, if_neg hk]
        rw [if_pos (by simpa using this)]
    rw [hc]
    split_ifs with hk hb hb
    · rw [ih, if_pos hb]
    · rw [ih, if_neg hb]
      have : b ≠ k := by rintro rfl; exact hb hk
      simp [tabGet, this]
    · have : b ≠ k := by rintro rfl; exact hk hb
      simp [tabGet, this, ih, hb]
    · by_cases h : b = k <;> simp [tabGet, h, ih, hb]

/-! ### The canonical form -/

theorem tabFrom_mono {α : Type} {t : Tab α} {n k : Nat} (h : tabFrom n t = true) (hk : k ≤ n) : tabFrom k t = true := by
  induction t with
  | nil => rfl
  | cons e t ih => obtain ⟨j, w⟩ := e; simp [tabFrom] at *; exact ⟨by omega, ih h.2⟩

theorem tabFrom_filter {α : Type} {t : Tab α} {n : Nat} (p : Nat × α → Bool) (h : tabFrom n t = true) :
    tabFrom n (t.filter p) = true := by
  induction t with
  | nil => rfl
  | cons e t ih =>
    obtain ⟨j, w⟩ := e
    simp [tabFrom] at h
    simp only [List.filter_cons]
    split
    · simp [tabFrom, h.1, ih h.2]
    · exact ih h.2

/-- Leaving entries out keeps the canonical form. -/
theorem tabWf_filter {α : Type} [DecidableEq α] {d : α} {t : Tab α} (p : Nat × α → Bool) (h : tabWf d t = true) :
    tabWf d (t.filter p) = true := by
  induction t with
  | nil => rfl
  | cons e t ih =>
    obtain ⟨j, w⟩ := e
    simp [tabWf] at h
    obtain ⟨⟨h01, h02⟩, h03⟩ := h
    simp only [List.filter_cons]
    split
    · simp [tabWf, h01, tabFrom_filter p h02, ih h03]
    · exact ih h03

theorem tabFrom_assocPut {α : Type} {t : Tab α} {n a : Nat} {v : α} (h : tabFrom n t = true) (ha : n ≤ a) :
    tabFrom n (assocPut t a v) = true := by
  induction t with
  | nil => simp [assocPut, tabFrom, ha]
  | cons e t ih =>
    obtain ⟨k, w⟩ := e
    simp [tabFrom] at h
    unfold assocPut
    split_ifs
    · simp [tabFrom, ha, h.2]
    · simp [tabFrom, ha, h.1, h.2]
    · simp [tabFrom, h.1, ih h.2]

theorem tabWf_assocPut {α : Type} [DecidableEq α] {d : α} {t : Tab α} {a : Nat} {v : α} (h : tabWf d t = true)
    (hv : v ≠ d) : tabWf d (assocPut t a v) = true := by
  induction t with
  | nil => simp [assocPut, tabWf, tabFrom, hv]
  | cons e t ih =>
    obtain ⟨k, w⟩ := e
    simp [tabWf] at h
    obtain ⟨⟨h01, h02⟩, h03⟩ := h
    unfold assocPut
    split_ifs with h1 h2
    · subst h1; simp [tabWf, hv, h02, h03]
    · simp [tabWf, hv, h01, h02, h03, tabFrom, show a + 1 ≤ k by omega, tabFrom_mono h02 (show a + 1 ≤ k + 1 by omega)]
    · simp [tabWf, h01, ih h03, tabFrom_assocPut h02 (show k + 1 ≤ a by omega)]

/-- A write keeps the canonical form. -/
theorem tabWf_tabPut {α : Type} [DecidableEq α] {d : α} {t : Tab α} (a : Nat) (v : α) (h : tabWf d t = true) :
    tabWf d (tabPut d t a v) = true := by
  unfold tabPut
  split_ifs with hv
  · exact tabWf_filter _ h
  · exact tabWf_assocPut h hv

theorem tabWf_tabErase {α : Type} [DecidableEq α] {d : α} {t : Tab α} (lo n : Nat) (h : tabWf d t = true) :
    tabWf d (tabErase t lo n) = true := tabWf_filter _ h

theorem tabWf_tabCopy {α : Type} [DecidableEq α] {d : α} {t : Tab α} (src dst n : Nat) (h : tabWf d t = true) :
    tabWf d (tabCopy d t src dst n) = true := by
  unfold tabCopy
  generalize tabRange t src n = l
  have h0 : tabWf d (tabErase t dst n) = true := tabWf_tabErase dst n h
  generalize tabErase t dst n = acc at h0
  induction l generalizing acc with
  | nil => exact h0
  | cons e l ih => exact ih _ (tabWf_tabPut _ _ h0)

/-! ### Memory -/

/-- A byte after a write of one byte. -/
theorem Memory.ld8_st8 (m : Memory) (a b : Nat) (v : Byte) :
    (m.st8 a v).ld8 b = if b = a then v else m.ld8 b := tabGet_tabPut _ _ _ _ _

theorem Memory.wf_st8 {m : Memory} (a : Nat) (v : Byte) (h : m.wf = true) : (m.st8 a v).wf = true := tabWf_tabPut a v h

/-- A byte after a write of a byte list. -/
theorem Memory.ld8_stBytes (bs : List Byte) (m : Memory) (a b : Nat) :
    (m.stBytes a bs).ld8 b = if a ≤ b ∧ b < a + bs.length then bs.getD (b - a) 0 else m.ld8 b := by
  induction bs generalizing m a with
  | nil => simp [Memory.stBytes, show ¬ (a ≤ b ∧ b < a) by omega]
  | cons x bs ih =>
    rw [Memory.stBytes, ih, Memory.ld8_st8]
    by_cases h : b = a
    · subst h; simp [show ¬ (b + 1 ≤ b) by omega]
    · by_cases h1 : a + 1 ≤ b ∧ b < a + 1 + bs.length
      · rw [if_pos h1, if_pos (by simp; omega)]
        rw [show b - a = (b - (a + 1)) + 1 by omega, List.getD_cons_succ]
      · rw [if_neg h1, if_neg h, if_neg (by simp; omega)]

/-- A byte outside the stored bytes reads as before. -/
theorem Memory.ld8_stBytes_other (bs : List Byte) (m : Memory) (a b : Nat) (h : b < a ∨ a + bs.length ≤ b) :
    (m.stBytes a bs).ld8 b = m.ld8 b := by
  rw [Memory.ld8_stBytes, if_neg (by omega)]

theorem Memory.wf_stBytes (bs : List Byte) {m : Memory} (a : Nat) (h : m.wf = true) : (m.stBytes a bs).wf = true := by
  induction bs generalizing m a with
  | nil => exact h
  | cons x bs ih => exact ih _ (Memory.wf_st8 a x h)

theorem Memory.wf_stN {m : Memory} (a n v : Nat) (h : m.wf = true) : (m.stN a n v).wf = true :=
  Memory.wf_stBytes _ _ h

theorem Memory.wf_zero {m : Memory} (a n : Nat) (h : m.wf = true) : (m.zero a n).wf = true := tabWf_tabErase a n h

theorem Memory.wf_copy {m : Memory} (src dst n : Nat) (h : m.wf = true) : (m.copy src dst n).wf = true :=
  tabWf_tabCopy src dst n h

/-- A byte after zero has been written over a range. -/
theorem Memory.ld8_zero (m : Memory) (a n b : Nat) :
    (m.zero a n).ld8 b = if a ≤ b ∧ b < a + n then 0 else m.ld8 b := tabGet_tabErase _ _ _ _ _

/-- A byte list reads the bytes one by one. -/
theorem Memory.ldBytes_length (m : Memory) (a n : Nat) : (m.ldBytes a n).length = n := by
  induction n generalizing a with
  | zero => rfl
  | succ n ih => simp [Memory.ldBytes, ih]

theorem Memory.ldBytes_congr {m m' : Memory} {a n : Nat} (h : ∀ i < n, m'.ld8 (a + i) = m.ld8 (a + i)) :
    m'.ldBytes a n = m.ldBytes a n := by
  induction n generalizing a with
  | zero => rfl
  | succ n ih =>
    simp only [Memory.ldBytes]
    rw [show m'.ld8 a = m.ld8 a by simpa using h 0 (by omega)]
    rw [ih (fun i hi => by simpa [Nat.add_assoc, Nat.add_comm 1] using h (i + 1) (by omega))]

/-- Reading back the bytes that were written. -/
theorem Memory.ldBytes_stBytes (bs : List Byte) (m : Memory) (a : Nat) : (m.stBytes a bs).ldBytes a bs.length = bs := by
  induction bs generalizing m a with
  | nil => rfl
  | cons x bs ih =>
    simp only [Memory.ldBytes, List.length_cons, Memory.stBytes]
    rw [ih, Memory.ld8_stBytes_other _ _ _ _ (by omega), Memory.ld8_st8, if_pos rfl]

/-- Reading bytes apart from those that were written. -/
theorem Memory.ldBytes_stBytes_other (bs : List Byte) (m : Memory) (a b n : Nat) (h : b + n ≤ a ∨ a + bs.length ≤ b) :
    (m.stBytes a bs).ldBytes b n = m.ldBytes b n :=
  Memory.ldBytes_congr fun i hi => Memory.ld8_stBytes_other bs m a (b + i) (by omega)

/-- The number of a byte list is below its range. -/
theorem leNat_lt (bs : List Byte) : leNat bs < 2 ^ (8 * bs.length) := by
  induction bs with
  | nil => simp [leNat]
  | cons b bs ih =>
    have := b.isLt
    simp only [leNat, List.length_cons, show 8 * (bs.length + 1) = 8 * bs.length + 8 by ring, pow_add]
    omega

theorem leBytes_length (n v : Nat) : (leBytes n v).length = n := by
  induction n generalizing v with
  | zero => rfl
  | succ n ih => simp [leBytes, ih]

/-- The number of the bytes of a number is the number, cut to their count. -/
theorem leNat_leBytes (n v : Nat) : leNat (leBytes n v) = v % 2 ^ (8 * n) := by
  induction n generalizing v with
  | zero => simp [leBytes, leNat, Nat.mod_one]
  | succ n ih =>
    simp only [leBytes, leNat, ih, BitVec.toNat_ofNat]
    rw [show 8 * (n + 1) = 8 + 8 * n by ring, pow_add, Nat.mod_mul]
    norm_num

theorem Memory.ldN_stN (m : Memory) (a n v : Nat) : (m.stN a n v).ldN a n = v % 2 ^ (8 * n) := by
  have h := Memory.ldBytes_stBytes (leBytes n v) m a
  rw [leBytes_length] at h
  rw [Memory.ldN, Memory.stN, h, leNat_leBytes]

end Sys2Proof.Machine
end

