-- ==== Sys2Proof/Laws/State.lean ====
section
/-! SUPPORT. What the named updates of the state leave: one lemma for each field of each update, true by
computation, so that no later proof unfolds a record update. -/

namespace Sys2Proof.Machine

/-! ### The state -/

@[simp] theorem State.mod_pending (s : State) (f : Mach → Mach) : (s.mod f).pending = s.pending := rfl
@[simp] theorem State.mod_c0 (s : State) (f : Mach → Mach) : (s.mod f).c0 = s.c0 := rfl
@[simp] theorem State.mod_c1 (s : State) (f : Mach → Mach) : (s.mod f).c1 = s.c1 := rfl
@[simp] theorem State.mod_m (s : State) (f : Mach → Mach) : (s.mod f).m = f s.m := rfl
@[simp] theorem State.mod_tri (s : State) (f : Mach → Mach) (cl : Nat) : (s.mod f).tri cl = s.tri cl := rfl
@[simp] theorem State.setTri_pending (s : State) (cl : Nat) (t : Tri) : (s.setTri cl t).pending = s.pending := by
  unfold State.setTri; split <;> rfl
@[simp] theorem State.setTri_m (s : State) (cl : Nat) (t : Tri) : (s.setTri cl t).m = s.m := by
  unfold State.setTri; split <;> rfl
@[simp] theorem State.live_pending (s : State) (f : Mach → Mach) : (s.live f).pending = s.pending := by
  unfold State.live; split <;> rfl
@[simp] theorem State.access_pending (s : State) (w : Nat) (f : Mach → Mach) : (s.access w f).pending = s.pending := by
  unfold State.access; split <;> rfl
@[simp] theorem State.live_c0 (s : State) (f : Mach → Mach) : (s.live f).c0 = s.c0 := by
  unfold State.live; split <;> rfl
@[simp] theorem State.access_c0 (s : State) (w : Nat) (f : Mach → Mach) : (s.access w f).c0 = s.c0 := by
  unfold State.access; split <;> rfl
@[simp] theorem State.live_c1 (s : State) (f : Mach → Mach) : (s.live f).c1 = s.c1 := by
  unfold State.live; split <;> rfl
@[simp] theorem State.access_c1 (s : State) (w : Nat) (f : Mach → Mach) : (s.access w f).c1 = s.c1 := by
  unfold State.access; split <;> rfl

/-- On a module that serves, a live event acts. -/
theorem State.live_of (s : State) (f : Mach → Mach) (h : s.m.dead = false) : s.live f = s.mod f := by
  simp [State.live, h]

/-- On a module that serves, an access acts. -/
theorem State.access_of (s : State) (w : Nat) (f : Mach → Mach) (h : s.m.dead = false) : s.access w f = s.mod f := by
  simp [State.access, h]

namespace Mach

/-! ### `wr` -/

@[simp] theorem wr_mem (m : Mach) (a v : Nat) : (m.wr a v).mem = m.mem := rfl
@[simp] theorem wr_ecc (m : Mach) (a v : Nat) : (m.wr a v).ecc = m.ecc := rfl
@[simp] theorem wr_loHeld (m : Mach) (a v : Nat) : (m.wr a v).loHeld = m.loHeld := rfl
@[simp] theorem wr_hiShadow (m : Mach) (a v : Nat) : (m.wr a v).hiShadow = m.hiShadow := rfl
@[simp] theorem wr_k0 (m : Mach) (a v : Nat) : (m.wr a v).k0 = m.k0 := rfl
@[simp] theorem wr_k1 (m : Mach) (a v : Nat) : (m.wr a v).k1 = m.k1 := rfl
@[simp] theorem wr_prog (m : Mach) (a v : Nat) : (m.wr a v).prog = m.prog := rfl
@[simp] theorem wr_mpu (m : Mach) (a v : Nat) : (m.wr a v).mpu = m.mpu := rfl
@[simp] theorem wr_tick (m : Mach) (a v : Nat) : (m.wr a v).tick = m.tick := rfl
@[simp] theorem wr_ldg (m : Mach) (a v : Nat) : (m.wr a v).ldg = m.ldg := rfl
@[simp] theorem wr_out (m : Mach) (a v : Nat) : (m.wr a v).out = m.out := rfl
@[simp] theorem wr_jrn (m : Mach) (a v : Nat) : (m.wr a v).jrn = m.jrn := rfl
@[simp] theorem wr_mpuNext (m : Mach) (a v : Nat) : (m.wr a v).mpuNext = m.mpuNext := rfl
@[simp] theorem wr_mpuWait (m : Mach) (a v : Nat) : (m.wr a v).mpuWait = m.mpuWait := rfl
@[simp] theorem wr_adm (m : Mach) (a v : Nat) : (m.wr a v).adm = m.adm := rfl
@[simp] theorem wr_sva (m : Mach) (a v : Nat) : (m.wr a v).sva = m.sva := rfl
@[simp] theorem wr_forces (m : Mach) (a v : Nat) : (m.wr a v).forces = m.forces := rfl
@[simp] theorem wr_forcesOut (m : Mach) (a v : Nat) : (m.wr a v).forcesOut = m.forcesOut := rfl
@[simp] theorem wr_lio (m : Mach) (a v : Nat) : (m.wr a v).lio = m.lio := rfl
@[simp] theorem wr_can0 (m : Mach) (a v : Nat) : (m.wr a v).can0 = m.can0 := rfl
@[simp] theorem wr_can1 (m : Mach) (a v : Nat) : (m.wr a v).can1 = m.can1 := rfl
@[simp] theorem wr_can2 (m : Mach) (a v : Nat) : (m.wr a v).can2 = m.can2 := rfl
@[simp] theorem wr_can3 (m : Mach) (a v : Nat) : (m.wr a v).can3 = m.can3 := rfl
@[simp] theorem wr_label (m : Mach) (a v : Nat) : (m.wr a v).label = m.label := rfl
@[simp] theorem wr_wantMode (m : Mach) (a v : Nat) : (m.wr a v).wantMode = m.wantMode := rfl
@[simp] theorem wr_wantStart (m : Mach) (a v : Nat) : (m.wr a v).wantStart = m.wantStart := rfl
@[simp] theorem wr_notReady (m : Mach) (a v : Nat) : (m.wr a v).notReady = m.notReady := rfl
@[simp] theorem wr_resetN (m : Mach) (a v : Nat) : (m.wr a v).resetN = m.resetN := rfl
@[simp] theorem wr_held (m : Mach) (a v : Nat) : (m.wr a v).held = m.held := rfl
@[simp] theorem wr_mated (m : Mach) (a v : Nat) : (m.wr a v).mated = m.mated := rfl
@[simp] theorem wr_tmb (m : Mach) (a v : Nat) : (m.wr a v).tmb = m.tmb := rfl
@[simp] theorem wr_rtc (m : Mach) (a v : Nat) : (m.wr a v).rtc = m.rtc := rfl
@[simp] theorem wr_dle (m : Mach) (a v : Nat) : (m.wr a v).dle = m.dle := rfl
@[simp] theorem wr_upd (m : Mach) (a v : Nat) : (m.wr a v).upd = m.upd := rfl
@[simp] theorem wr_pair (m : Mach) (a v : Nat) : (m.wr a v).pair = m.pair := rfl
@[simp] theorem wr_gx (m : Mach) (a v : Nat) : (m.wr a v).gx = m.gx := rfl
@[simp] theorem wr_stns (m : Mach) (a v : Nat) : (m.wr a v).stns = m.stns := rfl
@[simp] theorem wr_pgm (m : Mach) (a v : Nat) : (m.wr a v).pgm = m.pgm := rfl
@[simp] theorem wr_freeCtr (m : Mach) (a v : Nat) : (m.wr a v).freeCtr = m.freeCtr := rfl

/-! ### `setFld` -/

@[simp] theorem setFld_mem (m : Mach) (a hi lo v : Nat) : (m.setFld a hi lo v).mem = m.mem := rfl
@[simp] theorem setFld_ecc (m : Mach) (a hi lo v : Nat) : (m.setFld a hi lo v).ecc = m.ecc := rfl
@[simp] theorem setFld_loHeld (m : Mach) (a hi lo v : Nat) : (m.setFld a hi lo v).loHeld = m.loHeld := rfl
@[simp] theorem setFld_hiShadow (m : Mach) (a hi lo v : Nat) : (m.setFld a hi lo v).hiShadow = m.hiShadow := rfl
@[simp] theorem setFld_k0 (m : Mach) (a hi lo v : Nat) : (m.setFld a hi lo v).k0 = m.k0 := rfl
@[simp] theorem setFld_k1 (m : Mach) (a hi lo v : Nat) : (m.setFld a hi lo v).k1 = m.k1 := rfl
@[simp] theorem setFld_prog (m : Mach) (a hi lo v : Nat) : (m.setFld a hi lo v).prog = m.prog := rfl
@[simp] theorem setFld_mpu (m : Mach) (a hi lo v : Nat) : (m.setFld a hi lo v).mpu = m.mpu := rfl
@[simp] theorem setFld_tick (m : Mach) (a hi lo v : Nat) : (m.setFld a hi lo v).tick = m.tick := rfl
@[simp] theorem setFld_ldg (m : Mach) (a hi lo v : Nat) : (m.setFld a hi lo v).ldg = m.ldg := rfl
@[simp] theorem setFld_out (m : Mach) (a hi lo v : Nat) : (m.setFld a hi lo v).out = m.out := rfl
@[simp] theorem setFld_jrn (m : Mach) (a hi lo v : Nat) : (m.setFld a hi lo v).jrn = m.jrn := rfl
@[simp] theorem setFld_mpuNext (m : Mach) (a hi lo v : Nat) : (m.setFld a hi lo v).mpuNext = m.mpuNext := rfl
@[simp] theorem setFld_mpuWait (m : Mach) (a hi lo v : Nat) : (m.setFld a hi lo v).mpuWait = m.mpuWait := rfl
@[simp] theorem setFld_adm (m : Mach) (a hi lo v : Nat) : (m.setFld a hi lo v).adm = m.adm := rfl
@[simp] theorem setFld_sva (m : Mach) (a hi lo v : Nat) : (m.setFld a hi lo v).sva = m.sva := rfl
@[simp] theorem setFld_forces (m : Mach) (a hi lo v : Nat) : (m.setFld a hi lo v).forces = m.forces := rfl
@[simp] theorem setFld_forcesOut (m : Mach) (a hi lo v : Nat) : (m.setFld a hi lo v).forcesOut = m.forcesOut := rfl
@[simp] theorem setFld_lio (m : Mach) (a hi lo v : Nat) : (m.setFld a hi lo v).lio = m.lio := rfl
@[simp] theorem setFld_can0 (m : Mach) (a hi lo v : Nat) : (m.setFld a hi lo v).can0 = m.can0 := rfl
@[simp] theorem setFld_can1 (m : Mach) (a hi lo v : Nat) : (m.setFld a hi lo v).can1 = m.can1 := rfl
@[simp] theorem setFld_can2 (m : Mach) (a hi lo v : Nat) : (m.setFld a hi lo v).can2 = m.can2 := rfl
@[simp] theorem setFld_can3 (m : Mach) (a hi lo v : Nat) : (m.setFld a hi lo v).can3 = m.can3 := rfl
@[simp] theorem setFld_label (m : Mach) (a hi lo v : Nat) : (m.setFld a hi lo v).label = m.label := rfl
@[simp] theorem setFld_wantMode (m : Mach) (a hi lo v : Nat) : (m.setFld a hi lo v).wantMode = m.wantMode := rfl
@[simp] theorem setFld_wantStart (m : Mach) (a hi lo v : Nat) : (m.setFld a hi lo v).wantStart = m.wantStart := rfl
@[simp] theorem setFld_notReady (m : Mach) (a hi lo v : Nat) : (m.setFld a hi lo v).notReady = m.notReady := rfl
@[simp] theorem setFld_resetN (m : Mach) (a hi lo v : Nat) : (m.setFld a hi lo v).resetN = m.resetN := rfl
@[simp] theorem setFld_held (m : Mach) (a hi lo v : Nat) : (m.setFld a hi lo v).held = m.held := rfl
@[simp] theorem setFld_mated (m : Mach) (a hi lo v : Nat) : (m.setFld a hi lo v).mated = m.mated := rfl
@[simp] theorem setFld_tmb (m : Mach) (a hi lo v : Nat) : (m.setFld a hi lo v).tmb = m.tmb := rfl
@[simp] theorem setFld_rtc (m : Mach) (a hi lo v : Nat) : (m.setFld a hi lo v).rtc = m.rtc := rfl
@[simp] theorem setFld_dle (m : Mach) (a hi lo v : Nat) : (m.setFld a hi lo v).dle = m.dle := rfl
@[simp] theorem setFld_upd (m : Mach) (a hi lo v : Nat) : (m.setFld a hi lo v).upd = m.upd := rfl
@[simp] theorem setFld_pair (m : Mach) (a hi lo v : Nat) : (m.setFld a hi lo v).pair = m.pair := rfl
@[simp] theorem setFld_gx (m : Mach) (a hi lo v : Nat) : (m.setFld a hi lo v).gx = m.gx := rfl
@[simp] theorem setFld_stns (m : Mach) (a hi lo v : Nat) : (m.setFld a hi lo v).stns = m.stns := rfl
@[simp] theorem setFld_pgm (m : Mach) (a hi lo v : Nat) : (m.setFld a hi lo v).pgm = m.pgm := rfl
@[simp] theorem setFld_freeCtr (m : Mach) (a hi lo v : Nat) : (m.setFld a hi lo v).freeCtr = m.freeCtr := rfl

/-! ### `setBit` -/

@[simp] theorem setBit_mem (m : Mach) (a k : Nat) (v : Bool) : (m.setBit a k v).mem = m.mem := rfl
@[simp] theorem setBit_ecc (m : Mach) (a k : Nat) (v : Bool) : (m.setBit a k v).ecc = m.ecc := rfl
@[simp] theorem setBit_loHeld (m : Mach) (a k : Nat) (v : Bool) : (m.setBit a k v).loHeld = m.loHeld := rfl
@[simp] theorem setBit_hiShadow (m : Mach) (a k : Nat) (v : Bool) : (m.setBit a k v).hiShadow = m.hiShadow := rfl
@[simp] theorem setBit_k0 (m : Mach) (a k : Nat) (v : Bool) : (m.setBit a k v).k0 = m.k0 := rfl
@[simp] theorem setBit_k1 (m : Mach) (a k : Nat) (v : Bool) : (m.setBit a k v).k1 = m.k1 := rfl
@[simp] theorem setBit_prog (m : Mach) (a k : Nat) (v : Bool) : (m.setBit a k v).prog = m.prog := rfl
@[simp] theorem setBit_mpu (m : Mach) (a k : Nat) (v : Bool) : (m.setBit a k v).mpu = m.mpu := rfl
@[simp] theorem setBit_tick (m : Mach) (a k : Nat) (v : Bool) : (m.setBit a k v).tick = m.tick := rfl
@[simp] theorem setBit_ldg (m : Mach) (a k : Nat) (v : Bool) : (m.setBit a k v).ldg = m.ldg := rfl
@[simp] theorem setBit_out (m : Mach) (a k : Nat) (v : Bool) : (m.setBit a k v).out = m.out := rfl
@[simp] theorem setBit_jrn (m : Mach) (a k : Nat) (v : Bool) : (m.setBit a k v).jrn = m.jrn := rfl
@[simp] theorem setBit_mpuNext (m : Mach) (a k : Nat) (v : Bool) : (m.setBit a k v).mpuNext = m.mpuNext := rfl
@[simp] theorem setBit_mpuWait (m : Mach) (a k : Nat) (v : Bool) : (m.setBit a k v).mpuWait = m.mpuWait := rfl
@[simp] theorem setBit_adm (m : Mach) (a k : Nat) (v : Bool) : (m.setBit a k v).adm = m.adm := rfl
@[simp] theorem setBit_sva (m : Mach) (a k : Nat) (v : Bool) : (m.setBit a k v).sva = m.sva := rfl
@[simp] theorem setBit_forces (m : Mach) (a k : Nat) (v : Bool) : (m.setBit a k v).forces = m.forces := rfl
@[simp] theorem setBit_forcesOut (m : Mach) (a k : Nat) (v : Bool) : (m.setBit a k v).forcesOut = m.forcesOut := rfl
@[simp] theorem setBit_lio (m : Mach) (a k : Nat) (v : Bool) : (m.setBit a k v).lio = m.lio := rfl
@[simp] theorem setBit_can0 (m : Mach) (a k : Nat) (v : Bool) : (m.setBit a k v).can0 = m.can0 := rfl
@[simp] theorem setBit_can1 (m : Mach) (a k : Nat) (v : Bool) : (m.setBit a k v).can1 = m.can1 := rfl
@[simp] theorem setBit_can2 (m : Mach) (a k : Nat) (v : Bool) : (m.setBit a k v).can2 = m.can2 := rfl
@[simp] theorem setBit_can3 (m : Mach) (a k : Nat) (v : Bool) : (m.setBit a k v).can3 = m.can3 := rfl
@[simp] theorem setBit_label (m : Mach) (a k : Nat) (v : Bool) : (m.setBit a k v).label = m.label := rfl
@[simp] theorem setBit_wantMode (m : Mach) (a k : Nat) (v : Bool) : (m.setBit a k v).wantMode = m.wantMode := rfl
@[simp] theorem setBit_wantStart (m : Mach) (a k : Nat) (v : Bool) : (m.setBit a k v).wantStart = m.wantStart := rfl
@[simp] theorem setBit_notReady (m : Mach) (a k : Nat) (v : Bool) : (m.setBit a k v).notReady = m.notReady := rfl
@[simp] theorem setBit_resetN (m : Mach) (a k : Nat) (v : Bool) : (m.setBit a k v).resetN = m.resetN := rfl
@[simp] theorem setBit_held (m : Mach) (a k : Nat) (v : Bool) : (m.setBit a k v).held = m.held := rfl
@[simp] theorem setBit_mated (m : Mach) (a k : Nat) (v : Bool) : (m.setBit a k v).mated = m.mated := rfl
@[simp] theorem setBit_tmb (m : Mach) (a k : Nat) (v : Bool) : (m.setBit a k v).tmb = m.tmb := rfl
@[simp] theorem setBit_rtc (m : Mach) (a k : Nat) (v : Bool) : (m.setBit a k v).rtc = m.rtc := rfl
@[simp] theorem setBit_dle (m : Mach) (a k : Nat) (v : Bool) : (m.setBit a k v).dle = m.dle := rfl
@[simp] theorem setBit_upd (m : Mach) (a k : Nat) (v : Bool) : (m.setBit a k v).upd = m.upd := rfl
@[simp] theorem setBit_pair (m : Mach) (a k : Nat) (v : Bool) : (m.setBit a k v).pair = m.pair := rfl
@[simp] theorem setBit_gx (m : Mach) (a k : Nat) (v : Bool) : (m.setBit a k v).gx = m.gx := rfl
@[simp] theorem setBit_stns (m : Mach) (a k : Nat) (v : Bool) : (m.setBit a k v).stns = m.stns := rfl
@[simp] theorem setBit_pgm (m : Mach) (a k : Nat) (v : Bool) : (m.setBit a k v).pgm = m.pgm := rfl
@[simp] theorem setBit_freeCtr (m : Mach) (a k : Nat) (v : Bool) : (m.setBit a k v).freeCtr = m.freeCtr := rfl

/-! ### `wr64` -/

@[simp] theorem wr64_mem (m : Mach) (a v : Nat) : (m.wr64 a v).mem = m.mem := rfl
@[simp] theorem wr64_ecc (m : Mach) (a v : Nat) : (m.wr64 a v).ecc = m.ecc := rfl
@[simp] theorem wr64_loHeld (m : Mach) (a v : Nat) : (m.wr64 a v).loHeld = m.loHeld := rfl
@[simp] theorem wr64_hiShadow (m : Mach) (a v : Nat) : (m.wr64 a v).hiShadow = m.hiShadow := rfl
@[simp] theorem wr64_k0 (m : Mach) (a v : Nat) : (m.wr64 a v).k0 = m.k0 := rfl
@[simp] theorem wr64_k1 (m : Mach) (a v : Nat) : (m.wr64 a v).k1 = m.k1 := rfl
@[simp] theorem wr64_prog (m : Mach) (a v : Nat) : (m.wr64 a v).prog = m.prog := rfl
@[simp] theorem wr64_mpu (m : Mach) (a v : Nat) : (m.wr64 a v).mpu = m.mpu := rfl
@[simp] theorem wr64_tick (m : Mach) (a v : Nat) : (m.wr64 a v).tick = m.tick := rfl
@[simp] theorem wr64_ldg (m : Mach) (a v : Nat) : (m.wr64 a v).ldg = m.ldg := rfl
@[simp] theorem wr64_out (m : Mach) (a v : Nat) : (m.wr64 a v).out = m.out := rfl
@[simp] theorem wr64_jrn (m : Mach) (a v : Nat) : (m.wr64 a v).jrn = m.jrn := rfl
@[simp] theorem wr64_mpuNext (m : Mach) (a v : Nat) : (m.wr64 a v).mpuNext = m.mpuNext := rfl
@[simp] theorem wr64_mpuWait (m : Mach) (a v : Nat) : (m.wr64 a v).mpuWait = m.mpuWait := rfl
@[simp] theorem wr64_adm (m : Mach) (a v : Nat) : (m.wr64 a v).adm = m.adm := rfl
@[simp] theorem wr64_sva (m : Mach) (a v : Nat) : (m.wr64 a v).sva = m.sva := rfl
@[simp] theorem wr64_forces (m : Mach) (a v : Nat) : (m.wr64 a v).forces = m.forces := rfl
@[simp] theorem wr64_forcesOut (m : Mach) (a v : Nat) : (m.wr64 a v).forcesOut = m.forcesOut := rfl
@[simp] theorem wr64_lio (m : Mach) (a v : Nat) : (m.wr64 a v).lio = m.lio := rfl
@[simp] theorem wr64_can0 (m : Mach) (a v : Nat) : (m.wr64 a v).can0 = m.can0 := rfl
@[simp] theorem wr64_can1 (m : Mach) (a v : Nat) : (m.wr64 a v).can1 = m.can1 := rfl
@[simp] theorem wr64_can2 (m : Mach) (a v : Nat) : (m.wr64 a v).can2 = m.can2 := rfl
@[simp] theorem wr64_can3 (m : Mach) (a v : Nat) : (m.wr64 a v).can3 = m.can3 := rfl
@[simp] theorem wr64_label (m : Mach) (a v : Nat) : (m.wr64 a v).label = m.label := rfl
@[simp] theorem wr64_wantMode (m : Mach) (a v : Nat) : (m.wr64 a v).wantMode = m.wantMode := rfl
@[simp] theorem wr64_wantStart (m : Mach) (a v : Nat) : (m.wr64 a v).wantStart = m.wantStart := rfl
@[simp] theorem wr64_notReady (m : Mach) (a v : Nat) : (m.wr64 a v).notReady = m.notReady := rfl
@[simp] theorem wr64_resetN (m : Mach) (a v : Nat) : (m.wr64 a v).resetN = m.resetN := rfl
@[simp] theorem wr64_held (m : Mach) (a v : Nat) : (m.wr64 a v).held = m.held := rfl
@[simp] theorem wr64_mated (m : Mach) (a v : Nat) : (m.wr64 a v).mated = m.mated := rfl
@[simp] theorem wr64_tmb (m : Mach) (a v : Nat) : (m.wr64 a v).tmb = m.tmb := rfl
@[simp] theorem wr64_rtc (m : Mach) (a v : Nat) : (m.wr64 a v).rtc = m.rtc := rfl
@[simp] theorem wr64_dle (m : Mach) (a v : Nat) : (m.wr64 a v).dle = m.dle := rfl
@[simp] theorem wr64_upd (m : Mach) (a v : Nat) : (m.wr64 a v).upd = m.upd := rfl
@[simp] theorem wr64_pair (m : Mach) (a v : Nat) : (m.wr64 a v).pair = m.pair := rfl
@[simp] theorem wr64_gx (m : Mach) (a v : Nat) : (m.wr64 a v).gx = m.gx := rfl
@[simp] theorem wr64_stns (m : Mach) (a v : Nat) : (m.wr64 a v).stns = m.stns := rfl
@[simp] theorem wr64_pgm (m : Mach) (a v : Nat) : (m.wr64 a v).pgm = m.pgm := rfl
@[simp] theorem wr64_freeCtr (m : Mach) (a v : Nat) : (m.wr64 a v).freeCtr = m.freeCtr := rfl

/-! ### `incFld` -/

@[simp] theorem incFld_mem (m : Mach) (a hi lo : Nat) : (m.incFld a hi lo).mem = m.mem := rfl
@[simp] theorem incFld_ecc (m : Mach) (a hi lo : Nat) : (m.incFld a hi lo).ecc = m.ecc := rfl
@[simp] theorem incFld_loHeld (m : Mach) (a hi lo : Nat) : (m.incFld a hi lo).loHeld = m.loHeld := rfl
@[simp] theorem incFld_hiShadow (m : Mach) (a hi lo : Nat) : (m.incFld a hi lo).hiShadow = m.hiShadow := rfl
@[simp] theorem incFld_k0 (m : Mach) (a hi lo : Nat) : (m.incFld a hi lo).k0 = m.k0 := rfl
@[simp] theorem incFld_k1 (m : Mach) (a hi lo : Nat) : (m.incFld a hi lo).k1 = m.k1 := rfl
@[simp] theorem incFld_prog (m : Mach) (a hi lo : Nat) : (m.incFld a hi lo).prog = m.prog := rfl
@[simp] theorem incFld_mpu (m : Mach) (a hi lo : Nat) : (m.incFld a hi lo).mpu = m.mpu := rfl
@[simp] theorem incFld_tick (m : Mach) (a hi lo : Nat) : (m.incFld a hi lo).tick = m.tick := rfl
@[simp] theorem incFld_ldg (m : Mach) (a hi lo : Nat) : (m.incFld a hi lo).ldg = m.ldg := rfl
@[simp] theorem incFld_out (m : Mach) (a hi lo : Nat) : (m.incFld a hi lo).out = m.out := rfl
@[simp] theorem incFld_jrn (m : Mach) (a hi lo : Nat) : (m.incFld a hi lo).jrn = m.jrn := rfl
@[simp] theorem incFld_mpuNext (m : Mach) (a hi lo : Nat) : (m.incFld a hi lo).mpuNext = m.mpuNext := rfl
@[simp] theorem incFld_mpuWait (m : Mach) (a hi lo : Nat) : (m.incFld a hi lo).mpuWait = m.mpuWait := rfl
@[simp] theorem incFld_adm (m : Mach) (a hi lo : Nat) : (m.incFld a hi lo).adm = m.adm := rfl
@[simp] theorem incFld_sva (m : Mach) (a hi lo : Nat) : (m.incFld a hi lo).sva = m.sva := rfl
@[simp] theorem incFld_forces (m : Mach) (a hi lo : Nat) : (m.incFld a hi lo).forces = m.forces := rfl
@[simp] theorem incFld_forcesOut (m : Mach) (a hi lo : Nat) : (m.incFld a hi lo).forcesOut = m.forcesOut := rfl
@[simp] theorem incFld_lio (m : Mach) (a hi lo : Nat) : (m.incFld a hi lo).lio = m.lio := rfl
@[simp] theorem incFld_can0 (m : Mach) (a hi lo : Nat) : (m.incFld a hi lo).can0 = m.can0 := rfl
@[simp] theorem incFld_can1 (m : Mach) (a hi lo : Nat) : (m.incFld a hi lo).can1 = m.can1 := rfl
@[simp] theorem incFld_can2 (m : Mach) (a hi lo : Nat) : (m.incFld a hi lo).can2 = m.can2 := rfl
@[simp] theorem incFld_can3 (m : Mach) (a hi lo : Nat) : (m.incFld a hi lo).can3 = m.can3 := rfl
@[simp] theorem incFld_label (m : Mach) (a hi lo : Nat) : (m.incFld a hi lo).label = m.label := rfl
@[simp] theorem incFld_wantMode (m : Mach) (a hi lo : Nat) : (m.incFld a hi lo).wantMode = m.wantMode := rfl
@[simp] theorem incFld_wantStart (m : Mach) (a hi lo : Nat) : (m.incFld a hi lo).wantStart = m.wantStart := rfl
@[simp] theorem incFld_notReady (m : Mach) (a hi lo : Nat) : (m.incFld a hi lo).notReady = m.notReady := rfl
@[simp] theorem incFld_resetN (m : Mach) (a hi lo : Nat) : (m.incFld a hi lo).resetN = m.resetN := rfl
@[simp] theorem incFld_held (m : Mach) (a hi lo : Nat) : (m.incFld a hi lo).held = m.held := rfl
@[simp] theorem incFld_mated (m : Mach) (a hi lo : Nat) : (m.incFld a hi lo).mated = m.mated := rfl
@[simp] theorem incFld_tmb (m : Mach) (a hi lo : Nat) : (m.incFld a hi lo).tmb = m.tmb := rfl
@[simp] theorem incFld_rtc (m : Mach) (a hi lo : Nat) : (m.incFld a hi lo).rtc = m.rtc := rfl
@[simp] theorem incFld_dle (m : Mach) (a hi lo : Nat) : (m.incFld a hi lo).dle = m.dle := rfl
@[simp] theorem incFld_upd (m : Mach) (a hi lo : Nat) : (m.incFld a hi lo).upd = m.upd := rfl
@[simp] theorem incFld_pair (m : Mach) (a hi lo : Nat) : (m.incFld a hi lo).pair = m.pair := rfl
@[simp] theorem incFld_gx (m : Mach) (a hi lo : Nat) : (m.incFld a hi lo).gx = m.gx := rfl
@[simp] theorem incFld_stns (m : Mach) (a hi lo : Nat) : (m.incFld a hi lo).stns = m.stns := rfl
@[simp] theorem incFld_pgm (m : Mach) (a hi lo : Nat) : (m.incFld a hi lo).pgm = m.pgm := rfl
@[simp] theorem incFld_freeCtr (m : Mach) (a hi lo : Nat) : (m.incFld a hi lo).freeCtr = m.freeCtr := rfl

/-! ### `addFld` -/

@[simp] theorem addFld_mem (m : Mach) (a hi lo n : Nat) : (m.addFld a hi lo n).mem = m.mem := rfl
@[simp] theorem addFld_ecc (m : Mach) (a hi lo n : Nat) : (m.addFld a hi lo n).ecc = m.ecc := rfl
@[simp] theorem addFld_loHeld (m : Mach) (a hi lo n : Nat) : (m.addFld a hi lo n).loHeld = m.loHeld := rfl
@[simp] theorem addFld_hiShadow (m : Mach) (a hi lo n : Nat) : (m.addFld a hi lo n).hiShadow = m.hiShadow := rfl
@[simp] theorem addFld_k0 (m : Mach) (a hi lo n : Nat) : (m.addFld a hi lo n).k0 = m.k0 := rfl
@[simp] theorem addFld_k1 (m : Mach) (a hi lo n : Nat) : (m.addFld a hi lo n).k1 = m.k1 := rfl
@[simp] theorem addFld_prog (m : Mach) (a hi lo n : Nat) : (m.addFld a hi lo n).prog = m.prog := rfl
@[simp] theorem addFld_mpu (m : Mach) (a hi lo n : Nat) : (m.addFld a hi lo n).mpu = m.mpu := rfl
@[simp] theorem addFld_tick (m : Mach) (a hi lo n : Nat) : (m.addFld a hi lo n).tick = m.tick := rfl
@[simp] theorem addFld_ldg (m : Mach) (a hi lo n : Nat) : (m.addFld a hi lo n).ldg = m.ldg := rfl
@[simp] theorem addFld_out (m : Mach) (a hi lo n : Nat) : (m.addFld a hi lo n).out = m.out := rfl
@[simp] theorem addFld_jrn (m : Mach) (a hi lo n : Nat) : (m.addFld a hi lo n).jrn = m.jrn := rfl
@[simp] theorem addFld_mpuNext (m : Mach) (a hi lo n : Nat) : (m.addFld a hi lo n).mpuNext = m.mpuNext := rfl
@[simp] theorem addFld_mpuWait (m : Mach) (a hi lo n : Nat) : (m.addFld a hi lo n).mpuWait = m.mpuWait := rfl
@[simp] theorem addFld_adm (m : Mach) (a hi lo n : Nat) : (m.addFld a hi lo n).adm = m.adm := rfl
@[simp] theorem addFld_sva (m : Mach) (a hi lo n : Nat) : (m.addFld a hi lo n).sva = m.sva := rfl
@[simp] theorem addFld_forces (m : Mach) (a hi lo n : Nat) : (m.addFld a hi lo n).forces = m.forces := rfl
@[simp] theorem addFld_forcesOut (m : Mach) (a hi lo n : Nat) : (m.addFld a hi lo n).forcesOut = m.forcesOut := rfl
@[simp] theorem addFld_lio (m : Mach) (a hi lo n : Nat) : (m.addFld a hi lo n).lio = m.lio := rfl
@[simp] theorem addFld_can0 (m : Mach) (a hi lo n : Nat) : (m.addFld a hi lo n).can0 = m.can0 := rfl
@[simp] theorem addFld_can1 (m : Mach) (a hi lo n : Nat) : (m.addFld a hi lo n).can1 = m.can1 := rfl
@[simp] theorem addFld_can2 (m : Mach) (a hi lo n : Nat) : (m.addFld a hi lo n).can2 = m.can2 := rfl
@[simp] theorem addFld_can3 (m : Mach) (a hi lo n : Nat) : (m.addFld a hi lo n).can3 = m.can3 := rfl
@[simp] theorem addFld_label (m : Mach) (a hi lo n : Nat) : (m.addFld a hi lo n).label = m.label := rfl
@[simp] theorem addFld_wantMode (m : Mach) (a hi lo n : Nat) : (m.addFld a hi lo n).wantMode = m.wantMode := rfl
@[simp] theorem addFld_wantStart (m : Mach) (a hi lo n : Nat) : (m.addFld a hi lo n).wantStart = m.wantStart := rfl
@[simp] theorem addFld_notReady (m : Mach) (a hi lo n : Nat) : (m.addFld a hi lo n).notReady = m.notReady := rfl
@[simp] theorem addFld_resetN (m : Mach) (a hi lo n : Nat) : (m.addFld a hi lo n).resetN = m.resetN := rfl
@[simp] theorem addFld_held (m : Mach) (a hi lo n : Nat) : (m.addFld a hi lo n).held = m.held := rfl
@[simp] theorem addFld_mated (m : Mach) (a hi lo n : Nat) : (m.addFld a hi lo n).mated = m.mated := rfl
@[simp] theorem addFld_tmb (m : Mach) (a hi lo n : Nat) : (m.addFld a hi lo n).tmb = m.tmb := rfl
@[simp] theorem addFld_rtc (m : Mach) (a hi lo n : Nat) : (m.addFld a hi lo n).rtc = m.rtc := rfl
@[simp] theorem addFld_dle (m : Mach) (a hi lo n : Nat) : (m.addFld a hi lo n).dle = m.dle := rfl
@[simp] theorem addFld_upd (m : Mach) (a hi lo n : Nat) : (m.addFld a hi lo n).upd = m.upd := rfl
@[simp] theorem addFld_pair (m : Mach) (a hi lo n : Nat) : (m.addFld a hi lo n).pair = m.pair := rfl
@[simp] theorem addFld_gx (m : Mach) (a hi lo n : Nat) : (m.addFld a hi lo n).gx = m.gx := rfl
@[simp] theorem addFld_stns (m : Mach) (a hi lo n : Nat) : (m.addFld a hi lo n).stns = m.stns := rfl
@[simp] theorem addFld_pgm (m : Mach) (a hi lo n : Nat) : (m.addFld a hi lo n).pgm = m.pgm := rfl
@[simp] theorem addFld_freeCtr (m : Mach) (a hi lo n : Nat) : (m.addFld a hi lo n).freeCtr = m.freeCtr := rfl

/-! ### `emit` -/

@[simp] theorem emit_mem (m : Mach) (o : Out) : (m.emit o).mem = m.mem := rfl
@[simp] theorem emit_ecc (m : Mach) (o : Out) : (m.emit o).ecc = m.ecc := rfl
@[simp] theorem emit_regs (m : Mach) (o : Out) : (m.emit o).regs = m.regs := rfl
@[simp] theorem emit_loHeld (m : Mach) (o : Out) : (m.emit o).loHeld = m.loHeld := rfl
@[simp] theorem emit_hiShadow (m : Mach) (o : Out) : (m.emit o).hiShadow = m.hiShadow := rfl
@[simp] theorem emit_k0 (m : Mach) (o : Out) : (m.emit o).k0 = m.k0 := rfl
@[simp] theorem emit_k1 (m : Mach) (o : Out) : (m.emit o).k1 = m.k1 := rfl
@[simp] theorem emit_prog (m : Mach) (o : Out) : (m.emit o).prog = m.prog := rfl
@[simp] theorem emit_mpu (m : Mach) (o : Out) : (m.emit o).mpu = m.mpu := rfl
@[simp] theorem emit_tick (m : Mach) (o : Out) : (m.emit o).tick = m.tick := rfl
@[simp] theorem emit_ldg (m : Mach) (o : Out) : (m.emit o).ldg = m.ldg := rfl
@[simp] theorem emit_jrn (m : Mach) (o : Out) : (m.emit o).jrn = m.jrn := rfl
@[simp] theorem emit_mpuNext (m : Mach) (o : Out) : (m.emit o).mpuNext = m.mpuNext := rfl
@[simp] theorem emit_mpuWait (m : Mach) (o : Out) : (m.emit o).mpuWait = m.mpuWait := rfl
@[simp] theorem emit_adm (m : Mach) (o : Out) : (m.emit o).adm = m.adm := rfl
@[simp] theorem emit_sva (m : Mach) (o : Out) : (m.emit o).sva = m.sva := rfl
@[simp] theorem emit_forces (m : Mach) (o : Out) : (m.emit o).forces = m.forces := rfl
@[simp] theorem emit_forcesOut (m : Mach) (o : Out) : (m.emit o).forcesOut = m.forcesOut := rfl
@[simp] theorem emit_lio (m : Mach) (o : Out) : (m.emit o).lio = m.lio := rfl
@[simp] theorem emit_can0 (m : Mach) (o : Out) : (m.emit o).can0 = m.can0 := rfl
@[simp] theorem emit_can1 (m : Mach) (o : Out) : (m.emit o).can1 = m.can1 := rfl
@[simp] theorem emit_can2 (m : Mach) (o : Out) : (m.emit o).can2 = m.can2 := rfl
@[simp] theorem emit_can3 (m : Mach) (o : Out) : (m.emit o).can3 = m.can3 := rfl
@[simp] theorem emit_label (m : Mach) (o : Out) : (m.emit o).label = m.label := rfl
@[simp] theorem emit_wantMode (m : Mach) (o : Out) : (m.emit o).wantMode = m.wantMode := rfl
@[simp] theorem emit_wantStart (m : Mach) (o : Out) : (m.emit o).wantStart = m.wantStart := rfl
@[simp] theorem emit_notReady (m : Mach) (o : Out) : (m.emit o).notReady = m.notReady := rfl
@[simp] theorem emit_resetN (m : Mach) (o : Out) : (m.emit o).resetN = m.resetN := rfl
@[simp] theorem emit_held (m : Mach) (o : Out) : (m.emit o).held = m.held := rfl
@[simp] theorem emit_mated (m : Mach) (o : Out) : (m.emit o).mated = m.mated := rfl
@[simp] theorem emit_tmb (m : Mach) (o : Out) : (m.emit o).tmb = m.tmb := rfl
@[simp] theorem emit_rtc (m : Mach) (o : Out) : (m.emit o).rtc = m.rtc := rfl
@[simp] theorem emit_dle (m : Mach) (o : Out) : (m.emit o).dle = m.dle := rfl
@[simp] theorem emit_upd (m : Mach) (o : Out) : (m.emit o).upd = m.upd := rfl
@[simp] theorem emit_pair (m : Mach) (o : Out) : (m.emit o).pair = m.pair := rfl
@[simp] theorem emit_gx (m : Mach) (o : Out) : (m.emit o).gx = m.gx := rfl
@[simp] theorem emit_stns (m : Mach) (o : Out) : (m.emit o).stns = m.stns := rfl
@[simp] theorem emit_pgm (m : Mach) (o : Out) : (m.emit o).pgm = m.pgm := rfl
@[simp] theorem emit_freeCtr (m : Mach) (o : Out) : (m.emit o).freeCtr = m.freeCtr := rfl

/-! ### `putWords` -/

@[simp] theorem putWords_regs (m : Mach) (a : Nat) (bs : List Byte) : (m.putWords a bs).regs = m.regs := rfl
@[simp] theorem putWords_loHeld (m : Mach) (a : Nat) (bs : List Byte) : (m.putWords a bs).loHeld = m.loHeld := rfl
@[simp] theorem putWords_hiShadow (m : Mach) (a : Nat) (bs : List Byte) : (m.putWords a bs).hiShadow = m.hiShadow := rfl
@[simp] theorem putWords_k0 (m : Mach) (a : Nat) (bs : List Byte) : (m.putWords a bs).k0 = m.k0 := rfl
@[simp] theorem putWords_k1 (m : Mach) (a : Nat) (bs : List Byte) : (m.putWords a bs).k1 = m.k1 := rfl
@[simp] theorem putWords_prog (m : Mach) (a : Nat) (bs : List Byte) : (m.putWords a bs).prog = m.prog := rfl
@[simp] theorem putWords_mpu (m : Mach) (a : Nat) (bs : List Byte) : (m.putWords a bs).mpu = m.mpu := rfl
@[simp] theorem putWords_tick (m : Mach) (a : Nat) (bs : List Byte) : (m.putWords a bs).tick = m.tick := rfl
@[simp] theorem putWords_ldg (m : Mach) (a : Nat) (bs : List Byte) : (m.putWords a bs).ldg = m.ldg := rfl
@[simp] theorem putWords_out (m : Mach) (a : Nat) (bs : List Byte) : (m.putWords a bs).out = m.out := rfl
@[simp] theorem putWords_jrn (m : Mach) (a : Nat) (bs : List Byte) : (m.putWords a bs).jrn = m.jrn := rfl
@[simp] theorem putWords_mpuNext (m : Mach) (a : Nat) (bs : List Byte) : (m.putWords a bs).mpuNext = m.mpuNext := rfl
@[simp] theorem putWords_mpuWait (m : Mach) (a : Nat) (bs : List Byte) : (m.putWords a bs).mpuWait = m.mpuWait := rfl
@[simp] theorem putWords_adm (m : Mach) (a : Nat) (bs : List Byte) : (m.putWords a bs).adm = m.adm := rfl
@[simp] theorem putWords_sva (m : Mach) (a : Nat) (bs : List Byte) : (m.putWords a bs).sva = m.sva := rfl
@[simp] theorem putWords_forces (m : Mach) (a : Nat) (bs : List Byte) : (m.putWords a bs).forces = m.forces := rfl
@[simp] theorem putWords_forcesOut (m : Mach) (a : Nat) (bs : List Byte) : (m.putWords a bs).forcesOut = m.forcesOut := rfl
@[simp] theorem putWords_lio (m : Mach) (a : Nat) (bs : List Byte) : (m.putWords a bs).lio = m.lio := rfl
@[simp] theorem putWords_can0 (m : Mach) (a : Nat) (bs : List Byte) : (m.putWords a bs).can0 = m.can0 := rfl
@[simp] theorem putWords_can1 (m : Mach) (a : Nat) (bs : List Byte) : (m.putWords a bs).can1 = m.can1 := rfl
@[simp] theorem putWords_can2 (m : Mach) (a : Nat) (bs : List Byte) : (m.putWords a bs).can2 = m.can2 := rfl
@[simp] theorem putWords_can3 (m : Mach) (a : Nat) (bs : List Byte) : (m.putWords a bs).can3 = m.can3 := rfl
@[simp] theorem putWords_label (m : Mach) (a : Nat) (bs : List Byte) : (m.putWords a bs).label = m.label := rfl
@[simp] theorem putWords_wantMode (m : Mach) (a : Nat) (bs : List Byte) : (m.putWords a bs).wantMode = m.wantMode := rfl
@[simp] theorem putWords_wantStart (m : Mach) (a : Nat) (bs : List Byte) : (m.putWords a bs).wantStart = m.wantStart := rfl
@[simp] theorem putWords_notReady (m : Mach) (a : Nat) (bs : List Byte) : (m.putWords a bs).notReady = m.notReady := rfl
@[simp] theorem putWords_resetN (m : Mach) (a : Nat) (bs : List Byte) : (m.putWords a bs).resetN = m.resetN := rfl
@[simp] theorem putWords_held (m : Mach) (a : Nat) (bs : List Byte) : (m.putWords a bs).held = m.held := rfl
@[simp] theorem putWords_mated (m : Mach) (a : Nat) (bs : List Byte) : (m.putWords a bs).mated = m.mated := rfl
@[simp] theorem putWords_tmb (m : Mach) (a : Nat) (bs : List Byte) : (m.putWords a bs).tmb = m.tmb := rfl
@[simp] theorem putWords_rtc (m : Mach) (a : Nat) (bs : List Byte) : (m.putWords a bs).rtc = m.rtc := rfl
@[simp] theorem putWords_dle (m : Mach) (a : Nat) (bs : List Byte) : (m.putWords a bs).dle = m.dle := rfl
@[simp] theorem putWords_upd (m : Mach) (a : Nat) (bs : List Byte) : (m.putWords a bs).upd = m.upd := rfl
@[simp] theorem putWords_pair (m : Mach) (a : Nat) (bs : List Byte) : (m.putWords a bs).pair = m.pair := rfl
@[simp] theorem putWords_gx (m : Mach) (a : Nat) (bs : List Byte) : (m.putWords a bs).gx = m.gx := rfl
@[simp] theorem putWords_stns (m : Mach) (a : Nat) (bs : List Byte) : (m.putWords a bs).stns = m.stns := rfl
@[simp] theorem putWords_pgm (m : Mach) (a : Nat) (bs : List Byte) : (m.putWords a bs).pgm = m.pgm := rfl
@[simp] theorem putWords_freeCtr (m : Mach) (a : Nat) (bs : List Byte) : (m.putWords a bs).freeCtr = m.freeCtr := rfl

/-! ### `copyWords` -/

@[simp] theorem copyWords_regs (m : Mach) (src dst n : Nat) : (m.copyWords src dst n).regs = m.regs := rfl
@[simp] theorem copyWords_loHeld (m : Mach) (src dst n : Nat) : (m.copyWords src dst n).loHeld = m.loHeld := rfl
@[simp] theorem copyWords_hiShadow (m : Mach) (src dst n : Nat) : (m.copyWords src dst n).hiShadow = m.hiShadow := rfl
@[simp] theorem copyWords_k0 (m : Mach) (src dst n : Nat) : (m.copyWords src dst n).k0 = m.k0 := rfl
@[simp] theorem copyWords_k1 (m : Mach) (src dst n : Nat) : (m.copyWords src dst n).k1 = m.k1 := rfl
@[simp] theorem copyWords_prog (m : Mach) (src dst n : Nat) : (m.copyWords src dst n).prog = m.prog := rfl
@[simp] theorem copyWords_mpu (m : Mach) (src dst n : Nat) : (m.copyWords src dst n).mpu = m.mpu := rfl
@[simp] theorem copyWords_tick (m : Mach) (src dst n : Nat) : (m.copyWords src dst n).tick = m.tick := rfl
@[simp] theorem copyWords_ldg (m : Mach) (src dst n : Nat) : (m.copyWords src dst n).ldg = m.ldg := rfl
@[simp] theorem copyWords_out (m : Mach) (src dst n : Nat) : (m.copyWords src dst n).out = m.out := rfl
@[simp] theorem copyWords_jrn (m : Mach) (src dst n : Nat) : (m.copyWords src dst n).jrn = m.jrn := rfl
@[simp] theorem copyWords_mpuNext (m : Mach) (src dst n : Nat) : (m.copyWords src dst n).mpuNext = m.mpuNext := rfl
@[simp] theorem copyWords_mpuWait (m : Mach) (src dst n : Nat) : (m.copyWords src dst n).mpuWait = m.mpuWait := rfl
@[simp] theorem copyWords_adm (m : Mach) (src dst n : Nat) : (m.copyWords src dst n).adm = m.adm := rfl
@[simp] theorem copyWords_sva (m : Mach) (src dst n : Nat) : (m.copyWords src dst n).sva = m.sva := rfl
@[simp] theorem copyWords_forces (m : Mach) (src dst n : Nat) : (m.copyWords src dst n).forces = m.forces := rfl
@[simp] theorem copyWords_forcesOut (m : Mach) (src dst n : Nat) : (m.copyWords src dst n).forcesOut = m.forcesOut := rfl
@[simp] theorem copyWords_lio (m : Mach) (src dst n : Nat) : (m.copyWords src dst n).lio = m.lio := rfl
@[simp] theorem copyWords_can0 (m : Mach) (src dst n : Nat) : (m.copyWords src dst n).can0 = m.can0 := rfl
@[simp] theorem copyWords_can1 (m : Mach) (src dst n : Nat) : (m.copyWords src dst n).can1 = m.can1 := rfl
@[simp] theorem copyWords_can2 (m : Mach) (src dst n : Nat) : (m.copyWords src dst n).can2 = m.can2 := rfl
@[simp] theorem copyWords_can3 (m : Mach) (src dst n : Nat) : (m.copyWords src dst n).can3 = m.can3 := rfl
@[simp] theorem copyWords_label (m : Mach) (src dst n : Nat) : (m.copyWords src dst n).label = m.label := rfl
@[simp] theorem copyWords_wantMode (m : Mach) (src dst n : Nat) : (m.copyWords src dst n).wantMode = m.wantMode := rfl
@[simp] theorem copyWords_wantStart (m : Mach) (src dst n : Nat) : (m.copyWords src dst n).wantStart = m.wantStart := rfl
@[simp] theorem copyWords_notReady (m : Mach) (src dst n : Nat) : (m.copyWords src dst n).notReady = m.notReady := rfl
@[simp] theorem copyWords_resetN (m : Mach) (src dst n : Nat) : (m.copyWords src dst n).resetN = m.resetN := rfl
@[simp] theorem copyWords_held (m : Mach) (src dst n : Nat) : (m.copyWords src dst n).held = m.held := rfl
@[simp] theorem copyWords_mated (m : Mach) (src dst n : Nat) : (m.copyWords src dst n).mated = m.mated := rfl
@[simp] theorem copyWords_tmb (m : Mach) (src dst n : Nat) : (m.copyWords src dst n).tmb = m.tmb := rfl
@[simp] theorem copyWords_rtc (m : Mach) (src dst n : Nat) : (m.copyWords src dst n).rtc = m.rtc := rfl
@[simp] theorem copyWords_dle (m : Mach) (src dst n : Nat) : (m.copyWords src dst n).dle = m.dle := rfl
@[simp] theorem copyWords_upd (m : Mach) (src dst n : Nat) : (m.copyWords src dst n).upd = m.upd := rfl
@[simp] theorem copyWords_pair (m : Mach) (src dst n : Nat) : (m.copyWords src dst n).pair = m.pair := rfl
@[simp] theorem copyWords_gx (m : Mach) (src dst n : Nat) : (m.copyWords src dst n).gx = m.gx := rfl
@[simp] theorem copyWords_stns (m : Mach) (src dst n : Nat) : (m.copyWords src dst n).stns = m.stns := rfl
@[simp] theorem copyWords_pgm (m : Mach) (src dst n : Nat) : (m.copyWords src dst n).pgm = m.pgm := rfl
@[simp] theorem copyWords_freeCtr (m : Mach) (src dst n : Nat) : (m.copyWords src dst n).freeCtr = m.freeCtr := rfl

/-! ### `zeroWords` -/

@[simp] theorem zeroWords_regs (m : Mach) (a n : Nat) : (m.zeroWords a n).regs = m.regs := rfl
@[simp] theorem zeroWords_loHeld (m : Mach) (a n : Nat) : (m.zeroWords a n).loHeld = m.loHeld := rfl
@[simp] theorem zeroWords_hiShadow (m : Mach) (a n : Nat) : (m.zeroWords a n).hiShadow = m.hiShadow := rfl
@[simp] theorem zeroWords_k0 (m : Mach) (a n : Nat) : (m.zeroWords a n).k0 = m.k0 := rfl
@[simp] theorem zeroWords_k1 (m : Mach) (a n : Nat) : (m.zeroWords a n).k1 = m.k1 := rfl
@[simp] theorem zeroWords_prog (m : Mach) (a n : Nat) : (m.zeroWords a n).prog = m.prog := rfl
@[simp] theorem zeroWords_mpu (m : Mach) (a n : Nat) : (m.zeroWords a n).mpu = m.mpu := rfl
@[simp] theorem zeroWords_tick (m : Mach) (a n : Nat) : (m.zeroWords a n).tick = m.tick := rfl
@[simp] theorem zeroWords_ldg (m : Mach) (a n : Nat) : (m.zeroWords a n).ldg = m.ldg := rfl
@[simp] theorem zeroWords_out (m : Mach) (a n : Nat) : (m.zeroWords a n).out = m.out := rfl
@[simp] theorem zeroWords_jrn (m : Mach) (a n : Nat) : (m.zeroWords a n).jrn = m.jrn := rfl
@[simp] theorem zeroWords_mpuNext (m : Mach) (a n : Nat) : (m.zeroWords a n).mpuNext = m.mpuNext := rfl
@[simp] theorem zeroWords_mpuWait (m : Mach) (a n : Nat) : (m.zeroWords a n).mpuWait = m.mpuWait := rfl
@[simp] theorem zeroWords_adm (m : Mach) (a n : Nat) : (m.zeroWords a n).adm = m.adm := rfl
@[simp] theorem zeroWords_sva (m : Mach) (a n : Nat) : (m.zeroWords a n).sva = m.sva := rfl
@[simp] theorem zeroWords_forces (m : Mach) (a n : Nat) : (m.zeroWords a n).forces = m.forces := rfl
@[simp] theorem zeroWords_forcesOut (m : Mach) (a n : Nat) : (m.zeroWords a n).forcesOut = m.forcesOut := rfl
@[simp] theorem zeroWords_lio (m : Mach) (a n : Nat) : (m.zeroWords a n).lio = m.lio := rfl
@[simp] theorem zeroWords_can0 (m : Mach) (a n : Nat) : (m.zeroWords a n).can0 = m.can0 := rfl
@[simp] theorem zeroWords_can1 (m : Mach) (a n : Nat) : (m.zeroWords a n).can1 = m.can1 := rfl
@[simp] theorem zeroWords_can2 (m : Mach) (a n : Nat) : (m.zeroWords a n).can2 = m.can2 := rfl
@[simp] theorem zeroWords_can3 (m : Mach) (a n : Nat) : (m.zeroWords a n).can3 = m.can3 := rfl
@[simp] theorem zeroWords_label (m : Mach) (a n : Nat) : (m.zeroWords a n).label = m.label := rfl
@[simp] theorem zeroWords_wantMode (m : Mach) (a n : Nat) : (m.zeroWords a n).wantMode = m.wantMode := rfl
@[simp] theorem zeroWords_wantStart (m : Mach) (a n : Nat) : (m.zeroWords a n).wantStart = m.wantStart := rfl
@[simp] theorem zeroWords_notReady (m : Mach) (a n : Nat) : (m.zeroWords a n).notReady = m.notReady := rfl
@[simp] theorem zeroWords_resetN (m : Mach) (a n : Nat) : (m.zeroWords a n).resetN = m.resetN := rfl
@[simp] theorem zeroWords_held (m : Mach) (a n : Nat) : (m.zeroWords a n).held = m.held := rfl
@[simp] theorem zeroWords_mated (m : Mach) (a n : Nat) : (m.zeroWords a n).mated = m.mated := rfl
@[simp] theorem zeroWords_tmb (m : Mach) (a n : Nat) : (m.zeroWords a n).tmb = m.tmb := rfl
@[simp] theorem zeroWords_rtc (m : Mach) (a n : Nat) : (m.zeroWords a n).rtc = m.rtc := rfl
@[simp] theorem zeroWords_dle (m : Mach) (a n : Nat) : (m.zeroWords a n).dle = m.dle := rfl
@[simp] theorem zeroWords_upd (m : Mach) (a n : Nat) : (m.zeroWords a n).upd = m.upd := rfl
@[simp] theorem zeroWords_pair (m : Mach) (a n : Nat) : (m.zeroWords a n).pair = m.pair := rfl
@[simp] theorem zeroWords_gx (m : Mach) (a n : Nat) : (m.zeroWords a n).gx = m.gx := rfl
@[simp] theorem zeroWords_stns (m : Mach) (a n : Nat) : (m.zeroWords a n).stns = m.stns := rfl
@[simp] theorem zeroWords_pgm (m : Mach) (a n : Nat) : (m.zeroWords a n).pgm = m.pgm := rfl
@[simp] theorem zeroWords_freeCtr (m : Mach) (a n : Nat) : (m.zeroWords a n).freeCtr = m.freeCtr := rfl

@[simp] theorem emit_out (m : Mach) (o : Out) : (m.emit o).out = m.out ++ [o] := rfl
@[simp] theorem putWords_mem (m : Mach) (a : Nat) (bs : List Byte) : (m.putWords a bs).mem = m.mem.stBytes a bs := rfl
/-! ### The kept state of a cluster -/

@[simp] theorem setKiln_mem (m : Mach) (cl : Nat) (k : Kiln) : (m.setKiln cl k).mem = m.mem := by
  unfold setKiln; split <;> rfl
@[simp] theorem modKiln_mem (m : Mach) (cl : Nat) (f : Kiln → Kiln) : (m.modKiln cl f).mem = m.mem := setKiln_mem m cl _
@[simp] theorem setKiln_ecc (m : Mach) (cl : Nat) (k : Kiln) : (m.setKiln cl k).ecc = m.ecc := by
  unfold setKiln; split <;> rfl
@[simp] theorem modKiln_ecc (m : Mach) (cl : Nat) (f : Kiln → Kiln) : (m.modKiln cl f).ecc = m.ecc := setKiln_ecc m cl _
@[simp] theorem setKiln_regs (m : Mach) (cl : Nat) (k : Kiln) : (m.setKiln cl k).regs = m.regs := by
  unfold setKiln; split <;> rfl
@[simp] theorem modKiln_regs (m : Mach) (cl : Nat) (f : Kiln → Kiln) : (m.modKiln cl f).regs = m.regs := setKiln_regs m cl _
@[simp] theorem setKiln_loHeld (m : Mach) (cl : Nat) (k : Kiln) : (m.setKiln cl k).loHeld = m.loHeld := by
  unfold setKiln; split <;> rfl
@[simp] theorem modKiln_loHeld (m : Mach) (cl : Nat) (f : Kiln → Kiln) : (m.modKiln cl f).loHeld = m.loHeld := setKiln_loHeld m cl _
@[simp] theorem setKiln_hiShadow (m : Mach) (cl : Nat) (k : Kiln) : (m.setKiln cl k).hiShadow = m.hiShadow := by
  unfold setKiln; split <;> rfl
@[simp] theorem modKiln_hiShadow (m : Mach) (cl : Nat) (f : Kiln → Kiln) : (m.modKiln cl f).hiShadow = m.hiShadow := setKiln_hiShadow m cl _
@[simp] theorem setKiln_prog (m : Mach) (cl : Nat) (k : Kiln) : (m.setKiln cl k).prog = m.prog := by
  unfold setKiln; split <;> rfl
@[simp] theorem modKiln_prog (m : Mach) (cl : Nat) (f : Kiln → Kiln) : (m.modKiln cl f).prog = m.prog := setKiln_prog m cl _
@[simp] theorem setKiln_mpu (m : Mach) (cl : Nat) (k : Kiln) : (m.setKiln cl k).mpu = m.mpu := by
  unfold setKiln; split <;> rfl
@[simp] theorem modKiln_mpu (m : Mach) (cl : Nat) (f : Kiln → Kiln) : (m.modKiln cl f).mpu = m.mpu := setKiln_mpu m cl _
@[simp] theorem setKiln_tick (m : Mach) (cl : Nat) (k : Kiln) : (m.setKiln cl k).tick = m.tick := by
  unfold setKiln; split <;> rfl
@[simp] theorem modKiln_tick (m : Mach) (cl : Nat) (f : Kiln → Kiln) : (m.modKiln cl f).tick = m.tick := setKiln_tick m cl _
@[simp] theorem setKiln_ldg (m : Mach) (cl : Nat) (k : Kiln) : (m.setKiln cl k).ldg = m.ldg := by
  unfold setKiln; split <;> rfl
@[simp] theorem modKiln_ldg (m : Mach) (cl : Nat) (f : Kiln → Kiln) : (m.modKiln cl f).ldg = m.ldg := setKiln_ldg m cl _
@[simp] theorem setKiln_out (m : Mach) (cl : Nat) (k : Kiln) : (m.setKiln cl k).out = m.out := by
  unfold setKiln; split <;> rfl
@[simp] theorem modKiln_out (m : Mach) (cl : Nat) (f : Kiln → Kiln) : (m.modKiln cl f).out = m.out := setKiln_out m cl _
@[simp] theorem setKiln_jrn (m : Mach) (cl : Nat) (k : Kiln) : (m.setKiln cl k).jrn = m.jrn := by
  unfold setKiln; split <;> rfl
@[simp] theorem modKiln_jrn (m : Mach) (cl : Nat) (f : Kiln → Kiln) : (m.modKiln cl f).jrn = m.jrn := setKiln_jrn m cl _
@[simp] theorem setKiln_mpuNext (m : Mach) (cl : Nat) (k : Kiln) : (m.setKiln cl k).mpuNext = m.mpuNext := by
  unfold setKiln; split <;> rfl
@[simp] theorem modKiln_mpuNext (m : Mach) (cl : Nat) (f : Kiln → Kiln) : (m.modKiln cl f).mpuNext = m.mpuNext := setKiln_mpuNext m cl _
@[simp] theorem setKiln_mpuWait (m : Mach) (cl : Nat) (k : Kiln) : (m.setKiln cl k).mpuWait = m.mpuWait := by
  unfold setKiln; split <;> rfl
@[simp] theorem modKiln_mpuWait (m : Mach) (cl : Nat) (f : Kiln → Kiln) : (m.modKiln cl f).mpuWait = m.mpuWait := setKiln_mpuWait m cl _
@[simp] theorem setKiln_adm (m : Mach) (cl : Nat) (k : Kiln) : (m.setKiln cl k).adm = m.adm := by
  unfold setKiln; split <;> rfl
@[simp] theorem modKiln_adm (m : Mach) (cl : Nat) (f : Kiln → Kiln) : (m.modKiln cl f).adm = m.adm := setKiln_adm m cl _
@[simp] theorem setKiln_sva (m : Mach) (cl : Nat) (k : Kiln) : (m.setKiln cl k).sva = m.sva := by
  unfold setKiln; split <;> rfl
@[simp] theorem modKiln_sva (m : Mach) (cl : Nat) (f : Kiln → Kiln) : (m.modKiln cl f).sva = m.sva := setKiln_sva m cl _
@[simp] theorem setKiln_forces (m : Mach) (cl : Nat) (k : Kiln) : (m.setKiln cl k).forces = m.forces := by
  unfold setKiln; split <;> rfl
@[simp] theorem modKiln_forces (m : Mach) (cl : Nat) (f : Kiln → Kiln) : (m.modKiln cl f).forces = m.forces := setKiln_forces m cl _
@[simp] theorem setKiln_forcesOut (m : Mach) (cl : Nat) (k : Kiln) : (m.setKiln cl k).forcesOut = m.forcesOut := by
  unfold setKiln; split <;> rfl
@[simp] theorem modKiln_forcesOut (m : Mach) (cl : Nat) (f : Kiln → Kiln) : (m.modKiln cl f).forcesOut = m.forcesOut := setKiln_forcesOut m cl _
@[simp] theorem setKiln_lio (m : Mach) (cl : Nat) (k : Kiln) : (m.setKiln cl k).lio = m.lio := by
  unfold setKiln; split <;> rfl
@[simp] theorem modKiln_lio (m : Mach) (cl : Nat) (f : Kiln → Kiln) : (m.modKiln cl f).lio = m.lio := setKiln_lio m cl _
@[simp] theorem setKiln_can0 (m : Mach) (cl : Nat) (k : Kiln) : (m.setKiln cl k).can0 = m.can0 := by
  unfold setKiln; split <;> rfl
@[simp] theorem modKiln_can0 (m : Mach) (cl : Nat) (f : Kiln → Kiln) : (m.modKiln cl f).can0 = m.can0 := setKiln_can0 m cl _
@[simp] theorem setKiln_can1 (m : Mach) (cl : Nat) (k : Kiln) : (m.setKiln cl k).can1 = m.can1 := by
  unfold setKiln; split <;> rfl
@[simp] theorem modKiln_can1 (m : Mach) (cl : Nat) (f : Kiln → Kiln) : (m.modKiln cl f).can1 = m.can1 := setKiln_can1 m cl _
@[simp] theorem setKiln_can2 (m : Mach) (cl : Nat) (k : Kiln) : (m.setKiln cl k).can2 = m.can2 := by
  unfold setKiln; split <;> rfl
@[simp] theorem modKiln_can2 (m : Mach) (cl : Nat) (f : Kiln → Kiln) : (m.modKiln cl f).can2 = m.can2 := setKiln_can2 m cl _
@[simp] theorem setKiln_can3 (m : Mach) (cl : Nat) (k : Kiln) : (m.setKiln cl k).can3 = m.can3 := by
  unfold setKiln; split <;> rfl
@[simp] theorem modKiln_can3 (m : Mach) (cl : Nat) (f : Kiln → Kiln) : (m.modKiln cl f).can3 = m.can3 := setKiln_can3 m cl _
@[simp] theorem setKiln_label (m : Mach) (cl : Nat) (k : Kiln) : (m.setKiln cl k).label = m.label := by
  unfold setKiln; split <;> rfl
@[simp] theorem modKiln_label (m : Mach) (cl : Nat) (f : Kiln → Kiln) : (m.modKiln cl f).label = m.label := setKiln_label m cl _
@[simp] theorem setKiln_wantMode (m : Mach) (cl : Nat) (k : Kiln) : (m.setKiln cl k).wantMode = m.wantMode := by
  unfold setKiln; split <;> rfl
@[simp] theorem modKiln_wantMode (m : Mach) (cl : Nat) (f : Kiln → Kiln) : (m.modKiln cl f).wantMode = m.wantMode := setKiln_wantMode m cl _
@[simp] theorem setKiln_wantStart (m : Mach) (cl : Nat) (k : Kiln) : (m.setKiln cl k).wantStart = m.wantStart := by
  unfold setKiln; split <;> rfl
@[simp] theorem modKiln_wantStart (m : Mach) (cl : Nat) (f : Kiln → Kiln) : (m.modKiln cl f).wantStart = m.wantStart := setKiln_wantStart m cl _
@[simp] theorem setKiln_notReady (m : Mach) (cl : Nat) (k : Kiln) : (m.setKiln cl k).notReady = m.notReady := by
  unfold setKiln; split <;> rfl
@[simp] theorem modKiln_notReady (m : Mach) (cl : Nat) (f : Kiln → Kiln) : (m.modKiln cl f).notReady = m.notReady := setKiln_notReady m cl _
@[simp] theorem setKiln_resetN (m : Mach) (cl : Nat) (k : Kiln) : (m.setKiln cl k).resetN = m.resetN := by
  unfold setKiln; split <;> rfl
@[simp] theorem modKiln_resetN (m : Mach) (cl : Nat) (f : Kiln → Kiln) : (m.modKiln cl f).resetN = m.resetN := setKiln_resetN m cl _
@[simp] theorem setKiln_held (m : Mach) (cl : Nat) (k : Kiln) : (m.setKiln cl k).held = m.held := by
  unfold setKiln; split <;> rfl
@[simp] theorem modKiln_held (m : Mach) (cl : Nat) (f : Kiln → Kiln) : (m.modKiln cl f).held = m.held := setKiln_held m cl _
@[simp] theorem setKiln_mated (m : Mach) (cl : Nat) (k : Kiln) : (m.setKiln cl k).mated = m.mated := by
  unfold setKiln; split <;> rfl
@[simp] theorem modKiln_mated (m : Mach) (cl : Nat) (f : Kiln → Kiln) : (m.modKiln cl f).mated = m.mated := setKiln_mated m cl _
@[simp] theorem setKiln_tmb (m : Mach) (cl : Nat) (k : Kiln) : (m.setKiln cl k).tmb = m.tmb := by
  unfold setKiln; split <;> rfl
@[simp] theorem modKiln_tmb (m : Mach) (cl : Nat) (f : Kiln → Kiln) : (m.modKiln cl f).tmb = m.tmb := setKiln_tmb m cl _
@[simp] theorem setKiln_rtc (m : Mach) (cl : Nat) (k : Kiln) : (m.setKiln cl k).rtc = m.rtc := by
  unfold setKiln; split <;> rfl
@[simp] theorem modKiln_rtc (m : Mach) (cl : Nat) (f : Kiln → Kiln) : (m.modKiln cl f).rtc = m.rtc := setKiln_rtc m cl _
@[simp] theorem setKiln_dle (m : Mach) (cl : Nat) (k : Kiln) : (m.setKiln cl k).dle = m.dle := by
  unfold setKiln; split <;> rfl
@[simp] theorem modKiln_dle (m : Mach) (cl : Nat) (f : Kiln → Kiln) : (m.modKiln cl f).dle = m.dle := setKiln_dle m cl _
@[simp] theorem setKiln_upd (m : Mach) (cl : Nat) (k : Kiln) : (m.setKiln cl k).upd = m.upd := by
  unfold setKiln; split <;> rfl
@[simp] theorem modKiln_upd (m : Mach) (cl : Nat) (f : Kiln → Kiln) : (m.modKiln cl f).upd = m.upd := setKiln_upd m cl _
@[simp] theorem setKiln_pair (m : Mach) (cl : Nat) (k : Kiln) : (m.setKiln cl k).pair = m.pair := by
  unfold setKiln; split <;> rfl
@[simp] theorem modKiln_pair (m : Mach) (cl : Nat) (f : Kiln → Kiln) : (m.modKiln cl f).pair = m.pair := setKiln_pair m cl _
@[simp] theorem setKiln_gx (m : Mach) (cl : Nat) (k : Kiln) : (m.setKiln cl k).gx = m.gx := by
  unfold setKiln; split <;> rfl
@[simp] theorem modKiln_gx (m : Mach) (cl : Nat) (f : Kiln → Kiln) : (m.modKiln cl f).gx = m.gx := setKiln_gx m cl _
@[simp] theorem setKiln_stns (m : Mach) (cl : Nat) (k : Kiln) : (m.setKiln cl k).stns = m.stns := by
  unfold setKiln; split <;> rfl
@[simp] theorem modKiln_stns (m : Mach) (cl : Nat) (f : Kiln → Kiln) : (m.modKiln cl f).stns = m.stns := setKiln_stns m cl _
@[simp] theorem setKiln_pgm (m : Mach) (cl : Nat) (k : Kiln) : (m.setKiln cl k).pgm = m.pgm := by
  unfold setKiln; split <;> rfl
@[simp] theorem modKiln_pgm (m : Mach) (cl : Nat) (f : Kiln → Kiln) : (m.modKiln cl f).pgm = m.pgm := setKiln_pgm m cl _
@[simp] theorem setKiln_freeCtr (m : Mach) (cl : Nat) (k : Kiln) : (m.setKiln cl k).freeCtr = m.freeCtr := by
  unfold setKiln; split <;> rfl
@[simp] theorem modKiln_freeCtr (m : Mach) (cl : Nat) (f : Kiln → Kiln) : (m.modKiln cl f).freeCtr = m.freeCtr := setKiln_freeCtr m cl _
@[simp] theorem kiln_setKiln (m : Mach) (cl : Nat) (k : Kiln) : (m.setKiln cl k).kiln cl = k := by
  unfold setKiln kiln; split <;> rfl
@[simp] theorem kiln_modKiln (m : Mach) (cl : Nat) (f : Kiln → Kiln) : (m.modKiln cl f).kiln cl = f (m.kiln cl) := kiln_setKiln m cl _
@[simp] theorem setKiln_setKiln (m : Mach) (cl : Nat) (k k' : Kiln) : (m.setKiln cl k).setKiln cl k' = m.setKiln cl k' := by
  unfold setKiln; split <;> rfl
@[simp] theorem setKiln_kiln (m : Mach) (cl : Nat) : m.setKiln cl (m.kiln cl) = m := by
  unfold setKiln kiln; split <;> rfl

end Mach

end Sys2Proof.Machine
end

