-- ==== Sys2Proof/Laws/Word.lean ====
section
/-! SUPPORT. Bit fields of numbers: what a field reads after a field has been replaced. -/

namespace Sys2Proof

/-- A bit of a field is a bit of the number. -/
theorem testBit_bits (v hi lo i : Nat) :
    (bits v hi lo).testBit i = (decide (i < hi - lo + 1) && v.testBit (lo + i)) := by
  simp [bits, Nat.testBit_mod_two_pow, Nat.testBit_div_two_pow, Nat.add_comm]

theorem bits_lt (v hi lo : Nat) : bits v hi lo < 2 ^ (hi - lo + 1) := Nat.mod_lt _ (by positivity)

/-- The three parts of a number about a field. -/
theorem split_field (v hi lo : Nat) :
    v = 2 ^ (lo + (hi - lo + 1)) * (v / 2 ^ (lo + (hi - lo + 1))) + (2 ^ lo * bits v hi lo + v % 2 ^ lo) := by
  have h1 := Nat.div_add_mod v (2 ^ lo)
  have h2 := Nat.div_add_mod (v / 2 ^ lo) (2 ^ (hi - lo + 1))
  rw [Nat.div_div_eq_div_mul, ← pow_add] at h2
  unfold bits
  calc v = 2 ^ lo * (v / 2 ^ lo) + v % 2 ^ lo := h1.symm
    _ = 2 ^ lo * (2 ^ (hi - lo + 1) * (v / 2 ^ (lo + (hi - lo + 1))) + v / 2 ^ lo % 2 ^ (hi - lo + 1)) +
        v % 2 ^ lo := by rw [h2]
    _ = _ := by rw [pow_add]; ring

/-- A number with a field replaced, by its three parts. -/
theorem putBits_eq (v hi lo x : Nat) :
    putBits v hi lo x =
      2 ^ (lo + (hi - lo + 1)) * (v / 2 ^ (lo + (hi - lo + 1))) +
        (2 ^ lo * (x % 2 ^ (hi - lo + 1)) + v % 2 ^ lo) := by
  have h := split_field v hi lo
  unfold putBits
  have hc : bits v hi lo * 2 ^ lo = 2 ^ lo * bits v hi lo := Nat.mul_comm _ _
  have hd : x % 2 ^ (hi - lo + 1) * 2 ^ lo = 2 ^ lo * (x % 2 ^ (hi - lo + 1)) := Nat.mul_comm _ _
  rw [hc, hd]
  omega

/-- The bits of a number with a field replaced. -/
theorem testBit_putBits (v hi lo x i : Nat) :
    (putBits v hi lo x).testBit i =
      if lo ≤ i ∧ i < lo + (hi - lo + 1) then x.testBit (i - lo) else v.testBit i := by
  have hr : v % 2 ^ lo < 2 ^ lo := Nat.mod_lt _ (by positivity)
  have hx : x % 2 ^ (hi - lo + 1) < 2 ^ (hi - lo + 1) := Nat.mod_lt _ (by positivity)
  have hlow : 2 ^ lo * (x % 2 ^ (hi - lo + 1)) + v % 2 ^ lo < 2 ^ (lo + (hi - lo + 1)) := by
    rw [pow_add 2 lo]
    generalize x % 2 ^ (hi - lo + 1) = y at *
    generalize 2 ^ (hi - lo + 1) = w at *
    have := Nat.mul_le_mul_left (2 ^ lo) (Nat.succ_le_of_lt hx)
    rw [Nat.succ_eq_add_one, Nat.mul_add, Nat.mul_one] at this
    omega
  rw [putBits_eq, Nat.testBit_two_pow_mul_add _ hlow, Nat.testBit_two_pow_mul_add _ hr]
  by_cases h1 : i < lo + (hi - lo + 1)
  · by_cases h2 : i < lo
    · simp [h1, h2, Nat.testBit_mod_two_pow, show ¬ lo ≤ i by omega]
    · simp [h1, h2, Nat.testBit_mod_two_pow, show lo ≤ i by omega, show i - lo < hi - lo + 1 by omega]
  · simp [h1, Nat.testBit_div_two_pow, show i - (lo + (hi - lo + 1)) + (lo + (hi - lo + 1)) = i by omega]

/-- A replaced field reads what was put, cut to its width. -/
theorem bits_putBits_same (v hi lo x : Nat) : bits (putBits v hi lo x) hi lo = x % 2 ^ (hi - lo + 1) := by
  refine Nat.eq_of_testBit_eq fun i => ?_
  rw [testBit_bits, testBit_putBits, Nat.testBit_mod_two_pow]
  by_cases h : i < hi - lo + 1 <;> simp [h]

/-- Another field of the number reads as before. -/
theorem bits_putBits_other (v hi lo x hi' lo' : Nat) (hl : lo ≤ hi) (hl' : lo' ≤ hi') (h : hi < lo' ∨ hi' < lo) :
    bits (putBits v hi lo x) hi' lo' = bits v hi' lo' := by
  refine Nat.eq_of_testBit_eq fun i => ?_
  rw [testBit_bits, testBit_bits, testBit_putBits]
  by_cases hi2 : i < hi' - lo' + 1
  · rw [if_neg (by omega)]
  · simp [hi2]

/-- A bit outside a replaced field reads as before. -/
theorem testBit_putBits_other (v hi lo x k : Nat) (hl : lo ≤ hi) (h : hi < k ∨ k < lo) :
    (putBits v hi lo x).testBit k = v.testBit k := by
  rw [testBit_putBits, if_neg (by omega)]

/-- A bit inside a replaced field. -/
theorem testBit_putBits_in (v hi lo x k : Nat) (h1 : lo ≤ k) (h2 : k ≤ hi) :
    (putBits v hi lo x).testBit k = x.testBit (k - lo) := by
  rw [testBit_putBits, if_pos (by omega)]

/-- A field that does not hold a replaced bit reads as before. -/
theorem bits_putBits_bit (v k x hi lo : Nat) (hl : lo ≤ hi) (h : k < lo ∨ hi < k) :
    bits (putBits v k k x) hi lo = bits v hi lo := bits_putBits_other v k k x hi lo (le_refl _) hl (by omega)

/-- A field replaced below bit 32 keeps a 32-bit number one. -/
theorem putBits_lt (v hi lo x : Nat) (hv : v < 2 ^ 32) (hl : lo ≤ hi) (h : hi < 32) : putBits v hi lo x < 2 ^ 32 := by
  refine Nat.lt_of_testBit 32 (by
    rw [testBit_putBits, if_neg (by omega)]; exact Nat.testBit_lt_two_pow hv) (by decide) ?_
  intro j hj
  rw [testBit_putBits, if_neg (by omega), Nat.testBit_lt_two_pow (lt_of_lt_of_le hv (Nat.pow_le_pow_right (by decide) (by omega)))]
  exact (Nat.testBit_two_pow_of_ne (by omega)).symm

end Sys2Proof
end

