-- ==== Sys2Proof/Laws/Reg.lean ====
section
/-! SUPPORT. Registers and their fields: what a read finds after a write. -/

namespace Sys2Proof.Machine

namespace Mach

/-- A register holds 32 bits (R5). -/
theorem rg_lt (m : Mach) (a : Nat) : m.rg a < 2 ^ 32 := BitVec.isLt _

/-- A written register reads the value, cut to 32 bits. -/
theorem rg_wr_same (m : Mach) (a v : Nat) : (m.wr a v).rg a = v % 2 ^ 32 := by
  simp [rg, wr, tabGet_tabPut]

/-- Another register reads as before. -/
theorem rg_wr_other (m : Mach) (a v b : Nat) (h : b ≠ a) : (m.wr a v).rg b = m.rg b := by
  simp [rg, wr, tabGet_tabPut_other _ _ _ _ _ _ h]

theorem rg_setFld_same (m : Mach) (a hi lo v : Nat) (hl : lo ≤ hi) (h : hi < 32) :
    (m.setFld a hi lo v).rg a = putBits (m.rg a) hi lo v := by
  rw [setFld, rg_wr_same, Nat.mod_eq_of_lt (putBits_lt _ _ _ _ (rg_lt m a) hl h)]

theorem rg_setFld_other (m : Mach) (a hi lo v b : Nat) (h : b ≠ a) : (m.setFld a hi lo v).rg b = m.rg b :=
  rg_wr_other _ _ _ _ h

theorem rg_setBit_other (m : Mach) (a k : Nat) (v : Bool) (b : Nat) (h : b ≠ a) : (m.setBit a k v).rg b = m.rg b :=
  rg_wr_other _ _ _ _ h

theorem rg_incFld_other (m : Mach) (a hi lo b : Nat) (h : b ≠ a) : (m.incFld a hi lo).rg b = m.rg b :=
  rg_wr_other _ _ _ _ h

theorem rg_addFld_other (m : Mach) (a hi lo n b : Nat) (h : b ≠ a) : (m.addFld a hi lo n).rg b = m.rg b :=
  rg_wr_other _ _ _ _ h

theorem rg_wr64_other (m : Mach) (a v b : Nat) (h : b ≠ a) (h' : b ≠ a + 4) : (m.wr64 a v).rg b = m.rg b := by
  rw [wr64, rg_wr_other _ _ _ _ h', rg_wr_other _ _ _ _ h]

/-- A 64-bit quantity reads what was written, cut to 64 bits (R6). -/
theorem rg64_wr64 (m : Mach) (a v : Nat) : (m.wr64 a v).rg64 a = v % 2 ^ 64 := by
  rw [rg64, wr64, rg_wr_same, rg_wr_other _ _ _ _ (by omega), rg_wr_same]
  rw [Nat.mod_mod, Nat.mod_mod, show (2 : Nat) ^ 64 = 2 ^ 32 * 2 ^ 32 from rfl, Nat.mod_mul]

/-- A written field reads the value, cut to its width. -/
theorem fld_setFld_same (m : Mach) (a hi lo v : Nat) (hl : lo ≤ hi) (h : hi < 32) :
    (m.setFld a hi lo v).fld a hi lo = v % 2 ^ (hi - lo + 1) := by
  rw [fld, rg_setFld_same _ _ _ _ _ hl h, bits_putBits_same]

/-- Another field of the register reads as before. -/
theorem fld_setFld_field (m : Mach) (a hi lo v hi' lo' : Nat) (hl : lo ≤ hi) (h : hi < 32) (hl' : lo' ≤ hi')
    (hd : hi < lo' ∨ hi' < lo) : (m.setFld a hi lo v).fld a hi' lo' = m.fld a hi' lo' := by
  rw [fld, rg_setFld_same _ _ _ _ _ hl h, bits_putBits_other _ _ _ _ _ _ hl hl' hd, fld]

/-- A field of another register reads as before. -/
theorem fld_setFld_other (m : Mach) (a hi lo v b hi' lo' : Nat) (h : b ≠ a) :
    (m.setFld a hi lo v).fld b hi' lo' = m.fld b hi' lo' := by
  rw [fld, rg_setFld_other _ _ _ _ _ _ h, fld]

theorem fld_wr_other (m : Mach) (a v b hi lo : Nat) (h : b ≠ a) : (m.wr a v).fld b hi lo = m.fld b hi lo := by
  rw [fld, rg_wr_other _ _ _ _ h, fld]

theorem fld_setBit_other (m : Mach) (a k : Nat) (v : Bool) (b hi lo : Nat) (h : b ≠ a) :
    (m.setBit a k v).fld b hi lo = m.fld b hi lo := fld_setFld_other _ _ _ _ _ _ _ _ h

theorem fld_incFld_other (m : Mach) (a hi lo b hi' lo' : Nat) (h : b ≠ a) :
    (m.incFld a hi lo).fld b hi' lo' = m.fld b hi' lo' := fld_setFld_other _ _ _ _ _ _ _ _ h

theorem fld_setBit_field (m : Mach) (a k : Nat) (v : Bool) (hi lo : Nat) (h : k < 32) (hl : lo ≤ hi)
    (hd : k < lo ∨ hi < k) : (m.setBit a k v).fld a hi lo = m.fld a hi lo :=
  fld_setFld_field _ _ _ _ _ _ _ (le_refl _) h hl (by omega)

/-- A written bit reads the value. -/
theorem bit_setBit_same (m : Mach) (a k : Nat) (v : Bool) (h : k < 32) : (m.setBit a k v).bit a k = v := by
  rw [bit, setBit, rg_setFld_same _ _ _ _ _ (le_refl _) h, testBit_putBits_in _ _ _ _ _ (le_refl _) (le_refl _)]
  cases v <;> simp [b2n]

/-- Another bit of the register reads as before. -/
theorem bit_setBit_field (m : Mach) (a k : Nat) (v : Bool) (j : Nat) (h : k < 32) (hd : j ≠ k) :
    (m.setBit a k v).bit a j = m.bit a j := by
  rw [bit, setBit, rg_setFld_same _ _ _ _ _ (le_refl _) h, testBit_putBits_other _ _ _ _ _ (le_refl _) (by omega), bit]

theorem bit_setBit_other (m : Mach) (a k : Nat) (v : Bool) (b j : Nat) (h : b ≠ a) :
    (m.setBit a k v).bit b j = m.bit b j := by
  rw [bit, rg_setBit_other _ _ _ _ _ h, bit]

theorem bit_setFld_field (m : Mach) (a hi lo v j : Nat) (hl : lo ≤ hi) (h : hi < 32) (hd : hi < j ∨ j < lo) :
    (m.setFld a hi lo v).bit a j = m.bit a j := by
  rw [bit, rg_setFld_same _ _ _ _ _ hl h, testBit_putBits_other _ _ _ _ _ hl hd, bit]

theorem bit_setFld_other (m : Mach) (a hi lo v b j : Nat) (h : b ≠ a) : (m.setFld a hi lo v).bit b j = m.bit b j := by
  rw [bit, rg_setFld_other _ _ _ _ _ _ h, bit]

theorem bit_wr_other (m : Mach) (a v b j : Nat) (h : b ≠ a) : (m.wr a v).bit b j = m.bit b j := by
  rw [bit, rg_wr_other _ _ _ _ h, bit]

theorem bit_incFld_other (m : Mach) (a hi lo b j : Nat) (h : b ≠ a) : (m.incFld a hi lo).bit b j = m.bit b j :=
  bit_setFld_other _ _ _ _ _ _ _ h

/-! Registers do not see what changes no register. -/

theorem rg_of_regs {m m' : Mach} (h : m'.regs = m.regs) (a : Nat) : m'.rg a = m.rg a := by rw [rg, h, rg]

@[simp] theorem rg_emit (m : Mach) (o : Out) (a : Nat) : (m.emit o).rg a = m.rg a := rfl
@[simp] theorem rg_putWords (m : Mach) (b : Nat) (bs : List Byte) (a : Nat) : (m.putWords b bs).rg a = m.rg a := rfl
@[simp] theorem rg_setKiln (m : Mach) (cl : Nat) (k : Kiln) (a : Nat) : (m.setKiln cl k).rg a = m.rg a :=
  rg_of_regs (setKiln_regs m cl k) a
@[simp] theorem rg_modKiln (m : Mach) (cl : Nat) (f : Kiln → Kiln) (a : Nat) : (m.modKiln cl f).rg a = m.rg a :=
  rg_of_regs (modKiln_regs m cl f) a

end Mach

end Sys2Proof.Machine
end

