-- ==== Sys2Proof/Laws/Ledger.lean ====
section
/-! SUPPORT. Everything that a Ledger record can change (R420 to R429): registers of the Ledger block, memory in
its two rings with the check states there, what the Ledger keeps, a waiting admission of its own, and the count
of free values. -/

namespace Sys2Proof.Machine

namespace Mach

/-- Two modules that agree in everything that no Ledger record changes. -/
structure LedgerFrame (m m' : Mach) : Prop where
  prog : m'.prog = m.prog
  loHeld : m'.loHeld = m.loHeld
  hiShadow : m'.hiShadow = m.hiShadow
  k0 : m'.k0 = m.k0
  k1 : m'.k1 = m.k1
  mpu : m'.mpu = m.mpu
  tick : m'.tick = m.tick
  out : m'.out = m.out
  jrn : m'.jrn = m.jrn
  mpuNext : m'.mpuNext = m.mpuNext
  mpuWait : m'.mpuWait = m.mpuWait
  sva : m'.sva = m.sva
  forces : m'.forces = m.forces
  forcesOut : m'.forcesOut = m.forcesOut
  lio : m'.lio = m.lio
  can0 : m'.can0 = m.can0
  can1 : m'.can1 = m.can1
  can2 : m'.can2 = m.can2
  can3 : m'.can3 = m.can3
  label : m'.label = m.label
  wantMode : m'.wantMode = m.wantMode
  wantStart : m'.wantStart = m.wantStart
  notReady : m'.notReady = m.notReady
  resetN : m'.resetN = m.resetN
  held : m'.held = m.held
  mated : m'.mated = m.mated
  tmb : m'.tmb = m.tmb
  rtc : m'.rtc = m.rtc
  dle : m'.dle = m.dle
  upd : m'.upd = m.upd
  pair : m'.pair = m.pair
  gx : m'.gx = m.gx
  stns : m'.stns = m.stns
  pgm : m'.pgm = m.pgm
  rg : ∀ a, a ≠ LDG_HEAD → a ≠ LDG_FLUSHED → a ≠ LDG_LOSTCNT → a ≠ LDG_SUPCNT → a ≠ LDG_STAT → m'.rg a = m.rg a
  ld8 : ∀ a, ¬(0x03A00000 ≤ a ∧ a < 0x03B00000) → ¬(0x10000000 ≤ a ∧ a < 0x11000000) → m'.mem.ld8 a = m.mem.ld8 a

theorem LedgerFrame.refl (m : Mach) : LedgerFrame m m := by constructor <;> intros <;> rfl

theorem LedgerFrame.trans {m m' m'' : Mach} (h : LedgerFrame m m') (h' : LedgerFrame m' m'') : LedgerFrame m m'' := by
  constructor
  · rw [h'.prog, h.prog]
  · rw [h'.loHeld, h.loHeld]
  · rw [h'.hiShadow, h.hiShadow]
  · rw [h'.k0, h.k0]
  · rw [h'.k1, h.k1]
  · rw [h'.mpu, h.mpu]
  · rw [h'.tick, h.tick]
  · rw [h'.out, h.out]
  · rw [h'.jrn, h.jrn]
  · rw [h'.mpuNext, h.mpuNext]
  · rw [h'.mpuWait, h.mpuWait]
  · rw [h'.sva, h.sva]
  · rw [h'.forces, h.forces]
  · rw [h'.forcesOut, h.forcesOut]
  · rw [h'.lio, h.lio]
  · rw [h'.can0, h.can0]
  · rw [h'.can1, h.can1]
  · rw [h'.can2, h.can2]
  · rw [h'.can3, h.can3]
  · rw [h'.label, h.label]
  · rw [h'.wantMode, h.wantMode]
  · rw [h'.wantStart, h.wantStart]
  · rw [h'.notReady, h.notReady]
  · rw [h'.resetN, h.resetN]
  · rw [h'.held, h.held]
  · rw [h'.mated, h.mated]
  · rw [h'.tmb, h.tmb]
  · rw [h'.rtc, h.rtc]
  · rw [h'.dle, h.dle]
  · rw [h'.upd, h.upd]
  · rw [h'.pair, h.pair]
  · rw [h'.gx, h.gx]
  · rw [h'.stns, h.stns]
  · rw [h'.pgm, h.pgm]
  · intro a h1 h2 h3 h4 h5; rw [h'.rg a h1 h2 h3 h4 h5, h.rg a h1 h2 h3 h4 h5]
  · intro a h1 h2; rw [h'.ld8 a h1 h2, h.ld8 a h1 h2]

/-- A write of a Ledger register. -/
theorem LedgerFrame.wr (m : Mach) (a v : Nat)
    (h : a = LDG_HEAD ∨ a = LDG_FLUSHED ∨ a = LDG_LOSTCNT ∨ a = LDG_SUPCNT ∨ a = LDG_STAT) : LedgerFrame m (m.wr a v) := by
  constructor
  case rg => intro b h1 h2 h3 h4 h5; rcases h with h | h | h | h | h <;> subst h <;> exact rg_wr_other _ _ _ _ (by assumption)
  all_goals intros; rfl

theorem LedgerFrame.setFld (m : Mach) (a hi lo v : Nat)
    (h : a = LDG_HEAD ∨ a = LDG_FLUSHED ∨ a = LDG_LOSTCNT ∨ a = LDG_SUPCNT ∨ a = LDG_STAT) :
    LedgerFrame m (m.setFld a hi lo v) := LedgerFrame.wr m a _ h

/-- Words written in the rings. -/
theorem LedgerFrame.putWords (m : Mach) (a : Nat) (bs : List Byte)
    (h : (0x03A00000 ≤ a ∧ a + bs.length ≤ 0x03B00000) ∨ (0x10000000 ≤ a ∧ a + bs.length ≤ 0x11000000)) :
    LedgerFrame m (m.putWords a bs) := by
  constructor
  case ld8 =>
    intro b h1 h2
    rw [putWords_mem, Memory.ld8_stBytes_other _ _ _ _ (by omega)]
  all_goals intros; rfl

/-- What the Ledger keeps. -/
theorem LedgerFrame.ldg_ (m : Mach) (l : Ledger) : LedgerFrame m { m with ldg := l } := by
  constructor <;> intros <;> rfl

theorem LedgerFrame.adm_ (m : Mach) (x : Adm) : LedgerFrame m { m with adm := x } := by
  constructor <;> intros <;> rfl

theorem LedgerFrame.free (m : Mach) : LedgerFrame m m.free.2 := by
  constructor <;> intros <;> rfl

theorem ledgerRec_frame (m : Mach) (code src count arg0 arg1 arg2 flags : Nat) :
    LedgerFrame m (m.ledgerRec code src count arg0 arg1 arg2 flags).2 := by
  unfold ledgerRec
  by_cases h : m.bit TMB_STAT 0
  · simp only [h, if_true]; exact LedgerFrame.refl m
  · simp only [h]; exact LedgerFrame.free m

theorem bytes_length (r : LedgerRec) (seq : Nat) : (r.bytes seq).length = 32 := by
  simp [LedgerRec.bytes, leBytes_length]

theorem ledgerPut_frame (m : Mach) (r : LedgerRec) : LedgerFrame m (m.ledgerPut r) := by
  have hs : ∀ q, (0x03A00000 ≤ ledgerSram q ∧ ledgerSram q + (r.bytes q).length ≤ 0x03B00000) := by
    intro q; rw [bytes_length]; unfold ledgerSram; omega
  have hput : ∀ (m : Mach) (q : Nat), LedgerFrame m (((m.putWords (ledgerSram q) (r.bytes q)).wr LDG_HEAD (q + 1)).ledgerShow) := by
    intro m q
    exact ((LedgerFrame.putWords m _ _ (Or.inl (hs q))).trans (LedgerFrame.wr _ _ _ (by simp))).trans
      (LedgerFrame.setFld _ _ _ _ _ (by simp))
  unfold ledgerPut
  refine LedgerFrame.trans ?_ (hput _ _)
  split
  · exact LedgerFrame.refl m
  · exact (((LedgerFrame.setFld m _ _ _ _ (by simp)).trans (LedgerFrame.setFld _ _ _ _ _ (by simp))).trans
      (LedgerFrame.wr _ _ _ (by simp))).trans (LedgerFrame.ldg_ _ _)

theorem ledgerCopy_frame (m : Mach) : LedgerFrame m m.ledgerCopy := by
  have hfold : ∀ (l : List Nat) (m : Mach), LedgerFrame m
      (l.foldl (fun m s => m.putWords (ledgerMram s) (m.mem.ldBytes (ledgerSram s) 32)) m) := by
    intro l
    induction l with
    | nil => exact LedgerFrame.refl
    | cons x l ih =>
      intro m
      refine LedgerFrame.trans (LedgerFrame.putWords m _ _ (Or.inr ?_)) (ih _)
      rw [Memory.ldBytes_length]; unfold ledgerMram; omega
  exact ((hfold _ m).trans (LedgerFrame.wr _ _ _ (by simp))).trans (LedgerFrame.setFld _ _ _ _ _ (by simp))

theorem ledgerFlush_frame (m : Mach) : LedgerFrame m m.ledgerFlush := by
  unfold ledgerFlush
  split
  · exact LedgerFrame.refl m
  · have hend : ∀ (m : Mach) (x : Adm),
        LedgerFrame m (((({ m with adm := x } : Mach).ledgerCopy).setBit LDG_STAT 1 true).setBit LDG_STAT 2 false) := by
      intro m x
      exact (((LedgerFrame.adm_ m _).trans (ledgerCopy_frame _)).trans (LedgerFrame.setFld _ _ _ _ _ (by simp))).trans
        (LedgerFrame.setFld _ _ _ _ _ (by simp))
    refine LedgerFrame.trans ?_ (hend _ _)
    split
    · exact LedgerFrame.refl m
    · have hr := ledgerRec_frame m 0x0D01 10 0 0 m.ldg.lostRun m.ldg.lostAt 0
      generalize m.ledgerRec 0x0D01 10 0 0 m.ldg.lostRun m.ldg.lostAt 0 = p at hr
      obtain ⟨r, m1⟩ := p
      exact (hr.trans (LedgerFrame.ldg_ m1 { m1.ldg with lostRun := 0 })).trans (ledgerPut_frame _ r)

/-- What a Ledger record leaves as it was. -/
theorem ledger_frame (m : Mach) (code src arg0 arg1 arg2 : Nat) : LedgerFrame m (m.ledger code src arg0 arg1 arg2) := by
  unfold ledger
  have hr := ledgerRec_frame m code src 0 arg0 arg1 arg2 0
  generalize m.ledgerRec code src 0 arg0 arg1 arg2 0 = p at hr
  obtain ⟨r, m1⟩ := p
  refine hr.trans ?_
  dsimp only
  split
  · split
    · exact LedgerFrame.ldg_ _ _
    · exact ((LedgerFrame.setFld _ _ _ _ _ (by simp)).trans (LedgerFrame.setFld _ _ _ _ _ (by simp))).trans
        (LedgerFrame.ldg_ _ _)
  · split
    · constructor
      case ld8 =>
        intro b h1 h2
        dsimp only
        unfold Memory.stN
        rw [Memory.ld8_stBytes_other, Memory.ld8_stBytes_other]
        · rw [leBytes_length]; unfold ledgerSram; omega
        · rw [leBytes_length]; unfold ledgerSram; omega
      all_goals intros; rfl
    · split
      · exact (LedgerFrame.setFld _ _ _ _ _ (by simp)).trans (LedgerFrame.ldg_ _ _)
      · have h1 := (ledgerPut_frame m1 r).trans (LedgerFrame.ldg_ (m1.ledgerPut r) { (m1.ledgerPut r).ldg with
          written := tabPut 0 (m1.ledgerPut r).ldg.written code (tabGet 0 m1.ldg.written code + 1)
          keyed := if ledgerKeyed code then tabPut 0 (m1.ledgerPut r).ldg.keyed (src * 65536 + r.arg0) (m1.rg LDG_HEAD)
            else (m1.ledgerPut r).ldg.keyed })
        split
        · exact h1.trans (ledgerFlush_frame _)
        · exact h1

end Mach

/-! ### One lemma for each field -/

namespace Mach

@[simp] theorem ledger_prog (m : Mach) (code src arg0 arg1 arg2 : Nat) :
    (m.ledger code src arg0 arg1 arg2).prog = m.prog := (ledger_frame m code src arg0 arg1 arg2).prog
@[simp] theorem ledger_loHeld (m : Mach) (code src arg0 arg1 arg2 : Nat) :
    (m.ledger code src arg0 arg1 arg2).loHeld = m.loHeld := (ledger_frame m code src arg0 arg1 arg2).loHeld
@[simp] theorem ledger_hiShadow (m : Mach) (code src arg0 arg1 arg2 : Nat) :
    (m.ledger code src arg0 arg1 arg2).hiShadow = m.hiShadow := (ledger_frame m code src arg0 arg1 arg2).hiShadow
@[simp] theorem ledger_k0 (m : Mach) (code src arg0 arg1 arg2 : Nat) :
    (m.ledger code src arg0 arg1 arg2).k0 = m.k0 := (ledger_frame m code src arg0 arg1 arg2).k0
@[simp] theorem ledger_k1 (m : Mach) (code src arg0 arg1 arg2 : Nat) :
    (m.ledger code src arg0 arg1 arg2).k1 = m.k1 := (ledger_frame m code src arg0 arg1 arg2).k1
@[simp] theorem ledger_mpu (m : Mach) (code src arg0 arg1 arg2 : Nat) :
    (m.ledger code src arg0 arg1 arg2).mpu = m.mpu := (ledger_frame m code src arg0 arg1 arg2).mpu
@[simp] theorem ledger_tick (m : Mach) (code src arg0 arg1 arg2 : Nat) :
    (m.ledger code src arg0 arg1 arg2).tick = m.tick := (ledger_frame m code src arg0 arg1 arg2).tick
@[simp] theorem ledger_out (m : Mach) (code src arg0 arg1 arg2 : Nat) :
    (m.ledger code src arg0 arg1 arg2).out = m.out := (ledger_frame m code src arg0 arg1 arg2).out
@[simp] theorem ledger_jrn (m : Mach) (code src arg0 arg1 arg2 : Nat) :
    (m.ledger code src arg0 arg1 arg2).jrn = m.jrn := (ledger_frame m code src arg0 arg1 arg2).jrn
@[simp] theorem ledger_mpuNext (m : Mach) (code src arg0 arg1 arg2 : Nat) :
    (m.ledger code src arg0 arg1 arg2).mpuNext = m.mpuNext := (ledger_frame m code src arg0 arg1 arg2).mpuNext
@[simp] theorem ledger_mpuWait (m : Mach) (code src arg0 arg1 arg2 : Nat) :
    (m.ledger code src arg0 arg1 arg2).mpuWait = m.mpuWait := (ledger_frame m code src arg0 arg1 arg2).mpuWait
@[simp] theorem ledger_sva (m : Mach) (code src arg0 arg1 arg2 : Nat) :
    (m.ledger code src arg0 arg1 arg2).sva = m.sva := (ledger_frame m code src arg0 arg1 arg2).sva
@[simp] theorem ledger_forces (m : Mach) (code src arg0 arg1 arg2 : Nat) :
    (m.ledger code src arg0 arg1 arg2).forces = m.forces := (ledger_frame m code src arg0 arg1 arg2).forces
@[simp] theorem ledger_forcesOut (m : Mach) (code src arg0 arg1 arg2 : Nat) :
    (m.ledger code src arg0 arg1 arg2).forcesOut = m.forcesOut := (ledger_frame m code src arg0 arg1 arg2).forcesOut
@[simp] theorem ledger_lio (m : Mach) (code src arg0 arg1 arg2 : Nat) :
    (m.ledger code src arg0 arg1 arg2).lio = m.lio := (ledger_frame m code src arg0 arg1 arg2).lio
@[simp] theorem ledger_can0 (m : Mach) (code src arg0 arg1 arg2 : Nat) :
    (m.ledger code src arg0 arg1 arg2).can0 = m.can0 := (ledger_frame m code src arg0 arg1 arg2).can0
@[simp] theorem ledger_can1 (m : Mach) (code src arg0 arg1 arg2 : Nat) :
    (m.ledger code src arg0 arg1 arg2).can1 = m.can1 := (ledger_frame m code src arg0 arg1 arg2).can1
@[simp] theorem ledger_can2 (m : Mach) (code src arg0 arg1 arg2 : Nat) :
    (m.ledger code src arg0 arg1 arg2).can2 = m.can2 := (ledger_frame m code src arg0 arg1 arg2).can2
@[simp] theorem ledger_can3 (m : Mach) (code src arg0 arg1 arg2 : Nat) :
    (m.ledger code src arg0 arg1 arg2).can3 = m.can3 := (ledger_frame m code src arg0 arg1 arg2).can3
@[simp] theorem ledger_label (m : Mach) (code src arg0 arg1 arg2 : Nat) :
    (m.ledger code src arg0 arg1 arg2).label = m.label := (ledger_frame m code src arg0 arg1 arg2).label
@[simp] theorem ledger_wantMode (m : Mach) (code src arg0 arg1 arg2 : Nat) :
    (m.ledger code src arg0 arg1 arg2).wantMode = m.wantMode := (ledger_frame m code src arg0 arg1 arg2).wantMode
@[simp] theorem ledger_wantStart (m : Mach) (code src arg0 arg1 arg2 : Nat) :
    (m.ledger code src arg0 arg1 arg2).wantStart = m.wantStart := (ledger_frame m code src arg0 arg1 arg2).wantStart
@[simp] theorem ledger_notReady (m : Mach) (code src arg0 arg1 arg2 : Nat) :
    (m.ledger code src arg0 arg1 arg2).notReady = m.notReady := (ledger_frame m code src arg0 arg1 arg2).notReady
@[simp] theorem ledger_resetN (m : Mach) (code src arg0 arg1 arg2 : Nat) :
    (m.ledger code src arg0 arg1 arg2).resetN = m.resetN := (ledger_frame m code src arg0 arg1 arg2).resetN
@[simp] theorem ledger_held (m : Mach) (code src arg0 arg1 arg2 : Nat) :
    (m.ledger code src arg0 arg1 arg2).held = m.held := (ledger_frame m code src arg0 arg1 arg2).held
@[simp] theorem ledger_mated (m : Mach) (code src arg0 arg1 arg2 : Nat) :
    (m.ledger code src arg0 arg1 arg2).mated = m.mated := (ledger_frame m code src arg0 arg1 arg2).mated
@[simp] theorem ledger_tmb (m : Mach) (code src arg0 arg1 arg2 : Nat) :
    (m.ledger code src arg0 arg1 arg2).tmb = m.tmb := (ledger_frame m code src arg0 arg1 arg2).tmb
@[simp] theorem ledger_rtc (m : Mach) (code src arg0 arg1 arg2 : Nat) :
    (m.ledger code src arg0 arg1 arg2).rtc = m.rtc := (ledger_frame m code src arg0 arg1 arg2).rtc
@[simp] theorem ledger_dle (m : Mach) (code src arg0 arg1 arg2 : Nat) :
    (m.ledger code src arg0 arg1 arg2).dle = m.dle := (ledger_frame m code src arg0 arg1 arg2).dle
@[simp] theorem ledger_upd (m : Mach) (code src arg0 arg1 arg2 : Nat) :
    (m.ledger code src arg0 arg1 arg2).upd = m.upd := (ledger_frame m code src arg0 arg1 arg2).upd
@[simp] theorem ledger_pair (m : Mach) (code src arg0 arg1 arg2 : Nat) :
    (m.ledger code src arg0 arg1 arg2).pair = m.pair := (ledger_frame m code src arg0 arg1 arg2).pair
@[simp] theorem ledger_gx (m : Mach) (code src arg0 arg1 arg2 : Nat) :
    (m.ledger code src arg0 arg1 arg2).gx = m.gx := (ledger_frame m code src arg0 arg1 arg2).gx
@[simp] theorem ledger_stns (m : Mach) (code src arg0 arg1 arg2 : Nat) :
    (m.ledger code src arg0 arg1 arg2).stns = m.stns := (ledger_frame m code src arg0 arg1 arg2).stns
@[simp] theorem ledger_pgm (m : Mach) (code src arg0 arg1 arg2 : Nat) :
    (m.ledger code src arg0 arg1 arg2).pgm = m.pgm := (ledger_frame m code src arg0 arg1 arg2).pgm

/-- A register outside the Ledger block reads as before. -/
theorem rg_ledger (m : Mach) (code src arg0 arg1 arg2 a : Nat) (h1 : a ≠ LDG_HEAD) (h2 : a ≠ LDG_FLUSHED)
    (h3 : a ≠ LDG_LOSTCNT) (h4 : a ≠ LDG_SUPCNT) (h5 : a ≠ LDG_STAT) :
    (m.ledger code src arg0 arg1 arg2).rg a = m.rg a := (ledger_frame m code src arg0 arg1 arg2).rg a h1 h2 h3 h4 h5

/-- A byte outside the rings reads as before. -/
theorem ld8_ledger (m : Mach) (code src arg0 arg1 arg2 a : Nat) (h1 : ¬(0x03A00000 ≤ a ∧ a < 0x03B00000))
    (h2 : ¬(0x10000000 ≤ a ∧ a < 0x11000000)) :
    (m.ledger code src arg0 arg1 arg2).mem.ld8 a = m.mem.ld8 a := (ledger_frame m code src arg0 arg1 arg2).ld8 a h1 h2

end Mach

end Sys2Proof.Machine
end

