-- ==== Sys2Proof/Laws/Exec.lean ====
section
/-! SUPPORT. What an instruction that a cluster is ready to execute does: the vote of agreeing cores, a fetch and
reads without ECC errors, and how an instruction finishes. -/

namespace Sys2Proof.Machine

/-! ### The cores -/

theorem Mach.actives_cases (m : Mach) (cl : Nat) (h : m.actives cl ≠ []) :
    m.actives cl = [0] ∨ m.actives cl = [1] ∨ m.actives cl = [2] ∨ m.actives cl = [0, 1] ∨ m.actives cl = [0, 2] ∨
      m.actives cl = [1, 2] ∨ m.actives cl = [0, 1, 2] := by
  unfold Mach.actives at *
  cases h0 : m.bit (KLN_CLSTAT cl) (5 + 0) <;> cases h1 : m.bit (KLN_CLSTAT cl) (5 + 1) <;>
    cases h2 : m.bit (KLN_CLSTAT cl) (5 + 2) <;> simp_all [List.filter]

/-- A core after some cores have been changed. -/
theorem Tri.get_mapOn (t : Tri) (ks : List Nat) (f : Core → Core) (k : Nat) (hk : k < 3) (hs : ∀ j ∈ ks, j < 3)
    (hn : ks.Nodup) : (t.mapOn ks f).get k = if k ∈ ks then f (t.get k) else t.get k := by
  induction ks generalizing t with
  | nil => rfl
  | cons j ks ih =>
    have hj : j < 3 := hs j (by simp)
    have hset : ∀ c, (t.set j c).get k = if k = j then c else t.get k := by
      intro c
      interval_cases j <;> interval_cases k <;> rfl
    have hn' := List.nodup_cons.mp hn
    show (Tri.mapOn (t.set j (f (t.get j))) ks f).get k = _
    rw [ih _ (fun i hi => hs i (by simp [hi])) hn'.2, hset]
    by_cases hkj : k = j
    · subst hkj; simp [hn'.1]
    · simp [hkj]

theorem Mach.actives_lt (m : Mach) (cl : Nat) : ∀ j ∈ m.actives cl, j < 3 := by
  intro j hj
  have : j ∈ [0, 1, 2] := List.mem_of_mem_filter hj
  simp at this; omega

theorem Mach.actives_nodup (m : Mach) (cl : Nat) : (m.actives cl).Nodup :=
  List.Nodup.filter _ (by decide)

theorem State.tri_setTri (s : State) (cl : Nat) (t : Tri) : (s.setTri cl t).tri cl = t := by
  unfold State.setTri State.tri; split <;> rfl

theorem State.core_setTri (s : State) (cl : Nat) (t : Tri) (k : Nat) : (s.setTri cl t).core cl k = t.get k := by
  rw [State.core, State.tri_setTri]

theorem State.tri_setTri_other (s : State) (cl : Fin 2) (t : Tri) : (s.setTri cl t).tri (1 - cl.val) = s.tri (1 - cl.val) := by
  fin_cases cl <;> rfl

/-! ### The vote -/

/-- Cores that ask for the same make that access, and nothing else happens (R160). -/
theorem Mach.voted_agree (m : Mach) (cl pc : Nat) (t : Tri) (req : Core → Option VReq) (x : VReq)
    (h : m.actives cl ≠ []) (hx : ∀ k ∈ m.actives cl, req (t.get k) = some x) :
    m.voted cl pc t req = (some x, false, m) := by
  have hm : ∀ a : Word, maj a a a = a := by intro a; simp [maj]
  rcases m.actives_cases cl h with e | e | e | e | e | e | e <;>
    · rw [e] at hx
      simp [Mach.voted, e, vote, hx, hm]

/-- Cores that ask for nothing make no access. -/
theorem Mach.voted_none (m : Mach) (cl pc : Nat) (t : Tri) (req : Core → Option VReq)
    (h : m.actives cl ≠ []) (hx : ∀ k ∈ m.actives cl, req (t.get k) = none) :
    m.voted cl pc t req = (none, false, m) := by
  rcases m.actives_cases cl h with e | e | e | e | e | e | e <;>
    · rw [e] at hx
      simp [Mach.voted, e, vote, hx]

/-! ### Clean reads -/

theorem countFrom_mem {a n x : Nat} (h : x ∈ countFrom a n) : a ≤ x ∧ x < a + n := by
  induction n generalizing a with
  | zero => simp [countFrom] at h
  | succ n ih =>
    simp only [countFrom, List.mem_cons] at h
    rcases h with h | h
    · omega
    · have := ih h; omega

theorem mem_countFrom {a n x : Nat} (h1 : a ≤ x) (h2 : x < a + n) : x ∈ countFrom a n := by
  induction n generalizing a with
  | zero => omega
  | succ n ih =>
    simp only [countFrom, List.mem_cons]
    by_cases h : x = a
    · exact Or.inl h
    · exact Or.inr (ih (by omega) (by omega))

theorem countFrom_length (a n : Nat) : (countFrom a n).length = n := by
  induction n generalizing a with
  | zero => rfl
  | succ n ih => simp [countFrom, ih]

/-- A read of clean words finds nothing to correct and changes nothing. -/
theorem Mach.eccRead_clean (m : Mach) (a n cls : Nat) (h : m.clean a n) : m.eccRead a n cls = (0, false, m) := by
  unfold Mach.eccRead
  have hl : ∀ w ∈ countFrom (a / 8) ((a + n + 7) / 8 - a / 8), tabGet Ecc.good m.ecc w = .good := by
    intro w hw
    have := countFrom_mem hw
    exact h w this.1 (by omega)
  generalize countFrom (a / 8) ((a + n + 7) / 8 - a / 8) = l at hl
  induction l with
  | nil => rfl
  | cons w l ih =>
    rw [List.foldl_cons]
    have hw := hl w (by simp)
    have : m.eccReadWord (8 * w) cls = (0, false, m) := by
      simp [Mach.eccReadWord, show 8 * w / 8 = w by omega, hw]
    simp only [this]
    exact ih fun x hx => hl x (by simp [hx])

/-! ### An instruction -/

theorem headD_mem {l : List Nat} (h : l ≠ []) : l.headD 0 ∈ l := by
  cases l with
  | nil => exact absurd rfl h
  | cons a l => simp

/-- The lead core of a ready cluster. -/
theorem Ready.lead {cl : Nat} {s : State} {c : Core} (h : Ready cl s c) :
    (s.tri cl).get ((s.m.actives cl).headD 0) = c := h.agree _ (headD_mem h.runs)

/-- A ready cluster executes the instruction's own part: reserved words and the system right apart, nothing stands
before it (R114). -/
theorem execInstr_ready {cl : Nat} {s : State} {c : Core} (h : Ready cl s c) (sysOnly : Bool)
    (body : Mach → Tri → Core → StepOut) (hs : sysOnly = true → c.sys = true) :
    execInstr cl false sysOnly body s = s.finish cl (body s.m (s.tri cl) c) := by
  obtain ⟨sl, hsl, hb⟩ := h.slice
  have hlead := h.lead
  have hov : overBudget s cl sl = false := by simp [overBudget, Nat.not_le.mpr hb]
  have hrun : budgetRunOn s cl sl = s := by simp [budgetRunOn, Nat.not_le.mpr hb]
  have hv : s.m.voted cl c.pc.toNat (s.tri cl) (fun c => some ⟨c.pc.setWidth 64, 0⟩) =
      (some ⟨c.pc.setWidth 64, 0⟩, false, s.m) :=
    s.m.voted_agree cl _ _ _ _ h.runs (fun k hk => by rw [show (s.tri cl).get k = c from h.agree k hk])
  have hpc : (c.pc.setWidth 64 : Word).toNat = c.pc.toNat := by
    simp [BitVec.toNat_setWidth]; exact Nat.lt_of_lt_of_le c.pc.isLt (by norm_num)
  have he := s.m.eccRead_clean c.pc.toNat 4 cl h.intact
  unfold execInstr
  simp only [hsl, h.going, Bool.false_and, Bool.false_eq_true, if_false, hlead, hov, hrun, hv, Option.map_some,
    Option.getD_some, hpc, h.range, Bool.not_true, h.permit, he]
  cases hso : sysOnly
  · simp
  · simp [hs hso]

/-- A ready cluster raises ILLEGAL for a reserved word (R111). -/
theorem execInstr_reserved {cl : Nat} {s : State} {c : Core} (h : Ready cl s c) (sysOnly : Bool)
    (body : Mach → Tri → Core → StepOut) :
    execInstr cl true sysOnly body s = takeException (s.charge cl 1 0) cl 9 := by
  obtain ⟨sl, hsl, hb⟩ := h.slice
  have hlead := h.lead
  have hov : overBudget s cl sl = false := by simp [overBudget, Nat.not_le.mpr hb]
  have hrun : budgetRunOn s cl sl = s := by simp [budgetRunOn, Nat.not_le.mpr hb]
  have hv : s.m.voted cl c.pc.toNat (s.tri cl) (fun c => some ⟨c.pc.setWidth 64, 0⟩) =
      (some ⟨c.pc.setWidth 64, 0⟩, false, s.m) :=
    s.m.voted_agree cl _ _ _ _ h.runs (fun k hk => by rw [show (s.tri cl).get k = c from h.agree k hk])
  have hpc : (c.pc.setWidth 64 : Word).toNat = c.pc.toNat := by
    simp [BitVec.toNat_setWidth]; exact Nat.lt_of_lt_of_le c.pc.isLt (by norm_num)
  have he := s.m.eccRead_clean c.pc.toNat 4 cl h.intact
  unfold execInstr
  simp only [hsl, h.going, Bool.false_and, Bool.false_eq_true, if_false, hlead, hov, hrun, hv, Option.map_some,
    Option.getD_some, hpc, h.range, Bool.not_true, h.permit, he, if_true]

/-! ### How an instruction retires -/

theorem Core.Alike.refl (c : Core) : c.Alike c := ⟨rfl, rfl, rfl, rfl, rfl, rfl⟩

theorem Core.retire_alike (eff : Core → Eff) (c : Core) : (c.retire eff).Alike (eff c).core :=
  ⟨rfl, rfl, rfl, rfl, rfl, rfl⟩

theorem Core.newSig_alike (c : Core) : c.newSig.Alike c := ⟨rfl, rfl, rfl, rfl, rfl, rfl⟩

theorem Core.Alike.trans {a b c : Core} (h : a.Alike b) (h' : b.Alike c) : a.Alike c :=
  ⟨h.gregs.trans h'.gregs, h.conds.trans h'.conds, h.flags.trans h'.flags, h.at_.trans h'.at_,
    h.right.trans h'.right, h.unit_.trans h'.unit_⟩

theorem Core.Alike.rd {a b : Core} (h : a.Alike b) (r : BitVec 5) : a.rd r = b.rd r := by
  unfold Core.rd; rw [h.gregs]

theorem Core.Alike.cb {a b : Core} (h : a.Alike b) (k : BitVec 3) : a.cb k = b.cb k := by
  unfold Core.cb; rw [h.conds]

/-- The close of a window touches no register of R63 (R164). -/
theorem closeWindow_retired {cl : Fin 2} {s t : State} {m : Mach} {c' : Core} {cost : Nat}
    (h : Retired cl s m c' cost t) (ha : t.m.actives cl = s.m.actives cl) : Retired cl s m c' cost (t.closeWindow cl) := by
  unfold State.closeWindow
  by_cases hw : (t.m.kiln cl).win = 0
  · simp only [hw, if_true]; exact h
  · simp only [hw, if_false]
    obtain ⟨sl, w, lp, dw, hr⟩ := h.rest
    refine ⟨?_, ?_, ?_, ?_, ?_⟩
    · intro k hk
      have hcore : (t.setTri cl ((t.tri cl).mapOn (t.m.actives cl) Core.newSig)).core cl k =
          if k ∈ t.m.actives cl then ((t.tri cl).get k).newSig else (t.tri cl).get k := by
        rw [State.core_setTri, Tri.get_mapOn _ _ _ _ hk (t.m.actives_lt cl) (t.m.actives_nodup cl)]
      have := h.cores k hk
      show if k ∈ s.m.actives cl then ((t.setTri cl ((t.tri cl).mapOn (t.m.actives cl) Core.newSig)).core cl k).Alike c'
        else (t.setTri cl ((t.tri cl).mapOn (t.m.actives cl) Core.newSig)).core cl k = s.core cl k
      rw [hcore, ha]
      by_cases hk' : k ∈ s.m.actives cl
      · rw [if_pos hk'] at this ⊢; rw [if_pos hk']
        exact (Core.newSig_alike _).trans this
      · rw [if_neg hk'] at this ⊢; rw [if_neg hk']; exact this
    · intro k hk
      show ((t.setTri cl _).tri (1 - cl.val)).get k = _
      rw [State.tri_setTri_other]; exact h.other k hk
    · exact (State.setTri_pending _ _ _).trans h.queue
    · exact ⟨sl, _, lp, _, by simp [hr]; rfl⟩
    · obtain ⟨a, b, h1, h2, h3⟩ := h.count
      exact ⟨a, b, h1, by simpa using h2, h3⟩

/-- An instruction whose own part ended well, on a cluster whose running cores agree, retires. -/
theorem finish_ok {cl : Fin 2} {s : State} {m : Mach} {c : Core} {eff : Core → Eff} {cost : Nat} {sl : Slice}
    (hm : m.actives cl = s.m.actives cl) (hc : ∀ k ∈ s.m.actives cl, s.core cl k = c)
    (hsl : (m.kiln cl).slice = some sl) (hst : (m.kiln cl).stepping = false) :
    Retired cl s m (eff c).core cost (s.finish cl ⟨m, 0, cost, .ok eff⟩) := by
  set q : Kiln := { m.kiln cl with
    cyc := (m.kiln cl).cyc + cost + 4 * 0, slice := some { sl with count := sl.count + cost } } with hq
  set t1 : Tri := (s.tri cl).mapOn (m.actives cl) (Core.retire eff) with ht1
  set pc := ((s.tri cl).get ((m.actives cl).headD 0)).pc with hpc
  set s2 : State := { (s.setTri cl t1) with m := m.setKiln cl { q with win := q.win + 1, lastPc := pc.toNat } } with hs2
  have hact : ∀ k : Kiln, (m.setKiln cl k).actives cl = m.actives cl := by intro k; simp [Mach.actives, Mach.bit]
  have hfin : s.finish cl ⟨m, 0, cost, .ok eff⟩ =
      (if (s2.m.kiln cl).win = 1024 then s2.closeWindow cl else s2).stepDone cl := by
    have e1 : s.finish cl ⟨m, 0, cost, .ok eff⟩ = (((({ s with m := m } : State).charge cl cost 0).retire cl eff).stepDone cl) := rfl
    have e2 : ({ s with m := m } : State).charge cl cost 0 = { s with m := m.setKiln cl q } := by
      simp [State.charge, State.mod, Mach.modKiln, hsl, hq]
    have e3 : ({ s with m := m.setKiln cl q } : State).retire cl eff = if (s2.m.kiln cl).win = 1024 then s2.closeWindow cl else s2 := by
      have e4 : (({ s with m := m.setKiln cl q } : State).tri cl) = s.tri cl := rfl
      simp only [State.retire, e4, hact, State.setTri_m, State.mod, Mach.modKiln, Mach.kiln_setKiln, Mach.setKiln_setKiln,
        ← ht1, ← hpc]
      have e5 : ({ s with m := m.setKiln cl q } : State).setTri cl t1 = { (s.setTri cl t1) with m := m.setKiln cl q } := by
        unfold State.setTri; split <;> rfl
      have e6 : (s2.m.kiln cl).win = q.win + 1 := by simp [hs2]
      rw [e5, e6]
    rw [e1, e2, e3]
  have hs2r : Retired cl s m (eff c).core cost s2 := by
    refine ⟨?_, ?_, ?_, ?_, ?_⟩
    · intro k hk
      have : s2.core cl k = t1.get k := by
        show (s.setTri cl t1).core cl k = _
        exact State.core_setTri _ _ _ _
      rw [this, ht1, Tri.get_mapOn _ _ _ _ hk (m.actives_lt cl) (m.actives_nodup cl), hm]
      by_cases hk' : k ∈ s.m.actives cl
      · rw [if_pos hk', if_pos hk', show (s.tri cl).get k = c from hc k hk']
        exact Core.retire_alike eff c
      · rw [if_neg hk', if_neg hk']; rfl
    · intro k _
      show ((s.setTri cl t1).tri (1 - cl.val)).get k = _
      rw [State.tri_setTri_other]; rfl
    · exact State.setTri_pending _ _ _
    · exact ⟨_, _, _, _, by simp [hs2, hq]; rfl⟩
    · refine ⟨sl, _, hsl, ?_, rfl⟩
      simp [hs2, hq]
  rw [hfin]
  have hclose : Retired cl s m (eff c).core cost (if (s2.m.kiln cl).win = 1024 then s2.closeWindow cl else s2) := by
    split
    · exact closeWindow_retired hs2r (by simp [hs2, hact, hm])
    · exact hs2r
  generalize (if (s2.m.kiln cl).win = 1024 then s2.closeWindow cl else s2) = t at hclose
  have : t.stepDone cl = t := by
    obtain ⟨sl', w, lp, dw, hr⟩ := hclose.rest
    simp [State.stepDone, hr, hst]
  rw [this]; exact hclose

/-- A ready cluster whose instruction ends well retires it. -/
theorem ready_retires {cl : Fin 2} {s : State} {c : Core} (h : Ready cl s c) (sysOnly : Bool)
    (body : Mach → Tri → Core → StepOut) (hs : sysOnly = true → c.sys = true) {m : Mach} {cost : Nat}
    {eff : Core → Eff} (hb : body s.m (s.tri cl) c = ⟨m, 0, cost, .ok eff⟩)
    (hm : m.actives cl = s.m.actives cl) (hk : (m.kiln cl).slice = (s.m.kiln cl).slice)
    (hst : (m.kiln cl).stepping = false) :
    Retired cl s m (eff c).core cost (execInstr cl false sysOnly body s) := by
  obtain ⟨sl, hsl, _⟩ := h.slice
  rw [execInstr_ready h sysOnly body hs, hb]
  exact finish_ok hm h.agree (hk.trans hsl) hst

/-- A ready cluster executes an RR instruction whose fields are not reserved and whose predicate holds. -/
theorem ready_rr {cl : Fin 2} {s : State} {c : Core} (h : Ready cl s c) {r : RR} {d a b : FieldUse}
    {body : Mach → Tri → Core → StepOut} (hr : rrReserved d a b r = false) (hp : predicate c r = true) {m : Mach}
    {cost : Nat} {eff : Core → Eff} (hb : body s.m (s.tri cl) c = ⟨m, 0, cost, .ok eff⟩)
    (hm : m.actives cl = s.m.actives cl) (hk : (m.kiln cl).slice = (s.m.kiln cl).slice)
    (hst : (m.kiln cl).stepping = false) :
    Retired cl s m (eff c).core cost (execRR cl r d a b body s) := by
  obtain ⟨sl, hsl, _⟩ := h.slice
  have key : ∀ e : Core → Eff, (e c).core = (eff c).core →
      Retired cl s m (eff c).core cost (s.finish cl ⟨m, 0, cost, .ok e⟩) :=
    fun e he => he ▸ finish_ok hm h.agree (hk.trans hsl) hst
  unfold execRR
  rw [hr, execInstr_ready h false _ (by simp)]
  simp only [hp, if_true, hb]
  apply key
  simp [hp]

/-- A predicate that fails passes over the instruction in one cycle (R97). -/
theorem ready_rr_skip {cl : Fin 2} {s : State} {c : Core} (h : Ready cl s c) {r : RR} {d a b : FieldUse}
    {body : Mach → Tri → Core → StepOut} (hr : rrReserved d a b r = false) (hp : predicate c r = false) :
    Retired cl s s.m c.next 1 (execRR cl r d a b body s) := by
  obtain ⟨sl, hsl, _⟩ := h.slice
  have key : ∀ e : Core → Eff, (e c).core = c.next →
      Retired cl s s.m c.next 1 (s.finish cl ⟨s.m, 0, 1, .ok e⟩) :=
    fun e he => he ▸ finish_ok rfl h.agree hsl h.single
  unfold execRR
  rw [hr, execInstr_ready h false _ (by simp)]
  simp only [hp, Bool.false_eq_true, if_false]
  apply key
  simp [hp]

/-! ### Exceptions -/

theorem Mach.fld_ledger (m : Mach) (code src arg0 arg1 arg2 a hi lo : Nat) (h1 : a ≠ LDG_HEAD) (h2 : a ≠ LDG_FLUSHED)
    (h3 : a ≠ LDG_LOSTCNT) (h4 : a ≠ LDG_SUPCNT) (h5 : a ≠ LDG_STAT) :
    (m.ledger code src arg0 arg1 arg2).fld a hi lo = m.fld a hi lo := by
  rw [Mach.fld, Mach.rg_ledger _ _ _ _ _ _ _ h1 h2 h3 h4 h5, Mach.fld]

theorem Mach.fld_tick (m : Mach) (x : Tick) (a hi lo : Nat) : ({ m with tick := x } : Mach).fld a hi lo = m.fld a hi lo := rfl

theorem Mach.faultPolicy_fld (m : Mach) (t hi lo : Nat) (hl : lo ≤ hi) (h2 : 2 < lo) :
    (m.faultPolicy t).fld (KLN_TFLT t) hi lo = m.fld (KLN_TFLT t) hi lo := by
  have hne : KLN_TFLT t ≠ KLN_TSTAT t := by simp only [KLN_TFLT, KLN_TSTAT]; omega
  unfold Mach.faultPolicy
  generalize KLN_TFLT t = a at *
  split
  · rfl
  · unfold Mach.losePeriod
    split
    · rfl
    · rw [Mach.fld_tick, Mach.fld_incFld_other _ _ _ _ _ _ _ hne]
  · exact Mach.fld_setBit_field _ _ _ _ _ _ (by omega) hl (by omega)
  · rfl

theorem Mach.faultPolicy_kiln (m : Mach) (t cl : Nat) : (m.faultPolicy t).kiln cl = m.kiln cl := by
  unfold Mach.faultPolicy
  split
  · rfl
  · unfold Mach.losePeriod; split <;> rfl
  · rfl
  · rfl

/-- What a dispatch leaves in the kept state of its cluster. -/
theorem dispatch_kiln (s : State) (cl : Nat) :
    ((s.dispatch cl).m.kiln cl).due = (s.m.kiln cl).due.tail ∧
    ((s.m.kiln cl).slice = none → ((s.dispatch cl).m.kiln cl).slice.map (fun x => (x.task, x.idx)) = (s.m.kiln cl).due.head?) := by
  have hk : ∀ (m : Mach) (a k : Nat) (v : Bool) (x : Nat), ((m.setBit a k v).kiln x) = m.kiln x := fun _ _ _ _ _ => rfl
  have hf : ∀ (m : Mach) (a hi lo v x : Nat), ((m.setFld a hi lo v).kiln x) = m.kiln x := fun _ _ _ _ _ _ => rfl
  unfold State.dispatch
  dsimp only
  cases hd : (s.m.kiln cl).due with
  | nil => simp [State.mod, Mach.showFiring, hk, hd]
  | cons e rest =>
    obtain ⟨t, i⟩ := e
    dsimp only
    split <;> simp [Mach.showFiring, hk, hf]

theorem fld_of_dispatch (s : State) (cl a hi lo : Nat) (h1 : a ≠ KLN_SCHSTAT) (h2 : a ≠ KLN_DBGSTAT cl) :
    (s.dispatch cl).m.fld a hi lo = s.m.fld a hi lo := by
  have hk : ∀ (m : Mach) (k : Kiln), (m.setKiln cl k).fld a hi lo = m.fld a hi lo := by
    intro m k; simp [Mach.fld]
  have hkm : ∀ (m : Mach) (f : Kiln → Kiln), (m.modKiln cl f).fld a hi lo = m.fld a hi lo := fun m f => hk m _
  unfold State.dispatch
  dsimp only
  cases hd : (s.m.kiln cl).due with
  | nil => exact Mach.fld_setBit_other _ _ _ _ _ _ _ h1
  | cons e rest =>
    obtain ⟨t, i⟩ := e
    dsimp only
    split
    · rw [hkm, Mach.fld_setFld_other _ _ _ _ _ _ _ _ h2, Mach.fld_setBit_other _ _ _ _ _ _ _ h2, Mach.showFiring,
        Mach.fld_setBit_other _ _ _ _ _ _ _ h1, Mach.fld_setFld_other _ _ _ _ _ _ _ _ h1, hk]
    · rw [Mach.showFiring, Mach.fld_setBit_other _ _ _ _ _ _ _ h1, Mach.fld_setFld_other _ _ _ _ _ _ _ _ h1, hk]

theorem dispatch_tri_other (s : State) (cl : Fin 2) : (s.dispatch cl).tri (1 - cl.val) = s.tri (1 - cl.val) := by
  unfold State.dispatch
  dsimp only
  cases (s.m.kiln cl).due with
  | nil => rfl
  | cons e rest =>
    obtain ⟨t, i⟩ := e
    exact State.tri_setTri_other s cl _

theorem dispatch_pending (s : State) (cl : Nat) : (s.dispatch cl).pending = s.pending := by
  unfold State.dispatch
  dsimp only
  split
  · rfl
  · exact State.setTri_pending _ _ _

theorem closeWindow_tri_other (s : State) (cl : Fin 2) : (s.closeWindow cl).tri (1 - cl.val) = s.tri (1 - cl.val) := by
  unfold State.closeWindow
  dsimp only
  split
  · rfl
  · exact State.tri_setTri_other s cl _

theorem closeWindow_pending (s : State) (cl : Nat) : (s.closeWindow cl).pending = s.pending := by
  unfold State.closeWindow
  dsimp only
  split
  · rfl
  · exact State.setTri_pending _ _ _

theorem closeWindow_rest (s : State) (cl : Nat) : ((s.closeWindow cl).m.kiln cl).due = (s.m.kiln cl).due ∧
    ∀ a hi lo, (s.closeWindow cl).m.fld a hi lo = s.m.fld a hi lo := by
  unfold State.closeWindow
  dsimp only
  split
  · exact ⟨rfl, fun _ _ _ => rfl⟩
  · exact ⟨by simp, fun _ _ _ => by simp [Mach.fld]⟩

/-- What the end of a slice leaves (R45, R67). -/
theorem endSlice_spec (s : State) (cl : Fin 2) :
    ((s.endSlice cl).m.kiln cl).due = (s.m.kiln cl).due.tail ∧
    ((s.endSlice cl).m.kiln cl).slice.map (fun x => (x.task, x.idx)) = (s.m.kiln cl).due.head? ∧
    (∀ k, (s.endSlice cl).core (1 - cl.val) k = s.core (1 - cl.val) k) ∧ (s.endSlice cl).pending = s.pending ∧
    ∀ a hi lo, a ≠ KLN_SCHSTAT → a ≠ KLN_DBGSTAT cl → (s.endSlice cl).m.fld a hi lo = s.m.fld a hi lo := by
  have hc := closeWindow_rest s cl
  unfold State.endSlice
  dsimp only
  set s1 := (s.closeWindow cl).mod fun m => m.modKiln cl fun k => { k with slice := none, stepping := false } with hs1
  have hdue : (s1.m.kiln cl).due = (s.m.kiln cl).due := by simp [hs1, hc.1]
  have hd := dispatch_kiln s1 cl
  refine ⟨?_, ?_, ?_, ?_, ?_⟩
  · rw [hd.1, hdue]
  · rw [hd.2 (by simp [hs1]), hdue]
  · intro k
    rw [State.core, dispatch_tri_other]
    show ((s.closeWindow cl).tri (1 - cl.val)).get k = _
    rw [closeWindow_tri_other]; rfl
  · rw [dispatch_pending]
    exact closeWindow_pending s cl
  · intro a hi lo h1 h2
    rw [fld_of_dispatch _ _ _ _ _ h1 h2]
    show ((s.closeWindow cl).m.modKiln cl _).fld a hi lo = _
    rw [← hc.2]; simp [Mach.fld]

/-- An exception is recorded, counted and ends its slice (R84 to R88). -/
theorem takeException_raised {cl : Fin 2} {s : State} {sl : Slice} {code : Nat} (hsl : (s.m.kiln cl).slice = some sl)
    (ht : sl.task < 16) (hc : code < 256) : Raised cl s sl code (takeException s cl code) := by
  unfold takeException
  rw [hsl]
  dsimp only
  set c := (s.tri cl).get ((s.m.actives cl).headD 0)
  set m0 := s.m.exceptionRecord cl sl c.unit.toNat c.pc.toNat code false with hm0
  set m1 := (m0.incFld (KLN_TFLT sl.task) 31 16).setFld (KLN_TFLT sl.task) 15 8 code with hm1
  set m2 := (if code = 15 then { m1 with pair := { m1.pair with selfCause := true } } else m1) with hm2
  have n1 : KLN_TFLT sl.task ≠ KLN_SCHSTAT := by simp only [KLN_TFLT, KLN_SCHSTAT]; omega
  have n2 : KLN_TFLT sl.task ≠ KLN_DBGSTAT cl := by simp only [KLN_TFLT, KLN_DBGSTAT]; omega
  have e := endSlice_spec { s with m := m2.faultPolicy sl.task } cl
  have hkiln : ∀ x, (m2.faultPolicy sl.task).kiln x = s.m.kiln x := by
    intro x
    rw [Mach.faultPolicy_kiln]
    have : m2.kiln x = m1.kiln x := by rw [hm2]; split <;> rfl
    rw [this]
    show m0.kiln x = _
    unfold Mach.kiln
    simp [hm0, Mach.exceptionRecord]
  have hfld : ∀ hi lo, (m2.fld (KLN_TFLT sl.task) hi lo) = m1.fld (KLN_TFLT sl.task) hi lo := by
    intro hi lo; rw [hm2]; split <;> rfl
  have h0 : m0.fld (KLN_TFLT sl.task) 31 16 = s.m.fld (KLN_TFLT sl.task) 31 16 := by
    rw [hm0, Mach.exceptionRecord]
    apply Mach.fld_ledger <;> simp only [KLN_TFLT, LDG_HEAD, LDG_FLUSHED, LDG_LOSTCNT, LDG_SUPCNT, LDG_STAT] <;> omega
  refine ⟨?_, ?_, ?_, ?_, ?_, ?_⟩
  · rw [e.2.2.2.2 _ _ _ n1 n2]
    show (m2.faultPolicy sl.task).fld _ _ _ = _
    rw [Mach.faultPolicy_fld _ _ _ _ (by omega) (by omega), hfld, hm1,
      Mach.fld_setFld_same _ _ _ _ _ (by omega) (by omega), Nat.mod_eq_of_lt (by simpa using hc)]
  · rw [e.2.2.2.2 _ _ _ n1 n2]
    show (m2.faultPolicy sl.task).fld _ _ _ = _
    rw [Mach.faultPolicy_fld _ _ _ _ (by omega) (by omega), hfld, hm1,
      Mach.fld_setFld_field _ _ _ _ _ _ _ (by omega) (by omega) (by omega) (by omega), Mach.incFld,
      Mach.fld_setFld_same _ _ _ _ _ (by omega) (by omega), h0]
    refine Nat.mod_eq_of_lt ?_
    have := bits_lt (s.m.rg (KLN_TFLT sl.task)) 31 16
    unfold satInc Mach.fld
    split <;> simp at * <;> omega
  · rw [e.2.1]; show ((m2.faultPolicy sl.task).kiln cl).due.head? = _; rw [hkiln]
  · rw [e.1]; show ((m2.faultPolicy sl.task).kiln cl).due.tail = _; rw [hkiln]
  · intro k _; exact e.2.2.1 k
  · exact e.2.2.2.1

end Sys2Proof.Machine
end

