-- ==== Sys2Proof/Laws/Core.lean ====
section
/-! SUPPORT. What the writes of a core leave: registers, condition bits and the flags. -/

namespace Sys2Proof.Machine

/-- A register read. -/
theorem Core.rd_eq (c : Core) (r : BitVec 5) : c.rd r = c.g[r.toNat]'r.isLt := rfl

/-- A register read after a write of one. -/
theorem Core.rd_wr (c : Core) (d r : BitVec 5) (v : Word) : (c.wr d v).rd r = if r = d ∧ d ≠ 0 then v else c.rd r := by
  unfold Core.wr
  split_ifs with h1 h2 h2
  · exact absurd h1 h2.2
  · rfl
  · obtain ⟨rfl, _⟩ := h2
    rw [Core.rd_eq]; exact Vector.getElem_set_self _
  · have : r ≠ d := fun h => h2 ⟨h, h1⟩
    have hne : d.toNat ≠ r.toNat := fun h => this (BitVec.eq_of_toNat_eq h).symm
    rw [Core.rd_eq, Core.rd_eq]
    exact Vector.getElem_set_ne (hi := d.isLt) (hj := r.isLt) hne

theorem effG_writes (d : BitVec 5) (f : Core → Word) (c : Core) : WritesG d (f c) c (effG d f c).core where
  gregs r := Core.rd_wr c d r (f c)
  conds := by simp only [effG, Core.next, Core.wr]; split <;> rfl
  right := by simp only [effG, Core.next, Core.wr]; split <;> rfl
  unit_ := by simp only [effG, Core.next, Core.wr]; split <;> rfl
  flags := by simp only [effG, Core.next, Core.wr]; split <;> rfl
  next := by simp only [effG, Core.next, Core.wr]; split <;> rfl

/-- The bits of the condition byte after one is replaced. -/
theorem cond_bits : ∀ (b : BitVec 8) (d k : BitVec 3) (v : Bool),
    (if v then b ||| ((1 : BitVec 8) <<< d.toNat) else b &&& ~~~((1 : BitVec 8) <<< d.toNat)).getLsbD k.toNat =
      if k = d then v else b.getLsbD k.toNat := by
  intro b d k v
  have hd := d.isLt; have hk := k.isLt
  have hkd : k = d ↔ k.toNat = d.toNat := ⟨fun h => h ▸ rfl, BitVec.eq_of_toNat_eq⟩
  simp only [hkd]
  generalize k.toNat = i at *; generalize d.toNat = j at *
  cases v <;> simp [BitVec.getLsbD_shiftLeft] <;> by_cases h : i = j <;> simp [h] <;> omega

/-- A condition bit after a write of one. -/
theorem Core.cb_wrC (c : Core) (d k : BitVec 3) (v : Bool) : (c.wrC d v).cb k = if k = d ∧ d ≠ 0 then v else c.cb k := by
  unfold Core.wrC
  by_cases h : d = 0
  · simp [h]
  · simp only [h, if_false, Core.cb, ne_eq, not_false_eq_true, and_true]
    exact cond_bits c.c d k v

theorem effC_writes (d : BitVec 3) (f : Core → Bool) (c : Core) : WritesC d (f c) c (effC d f c).core where
  gregs r := by simp only [effC, Core.next, Core.wrC]; split <;> rfl
  conds k := Core.cb_wrC c d k (f c)
  right := by simp only [effC, Core.next, Core.wrC]; split <;> rfl
  unit_ := by simp only [effC, Core.next, Core.wrC]; split <;> rfl
  flags := by simp only [effC, Core.next, Core.wrC]; split <;> rfl
  next := by simp only [effC, Core.next, Core.wrC]; split <;> rfl

theorem effF_writes (d : BitVec 5) (f : Core → Word × FFlags) (c : Core) :
    WritesF d (f c).1 (f c).2 c (effF d f c).core where
  gregs r := Core.rd_wr c d r (f c).1
  conds := by simp only [effF, Core.next, Core.wr]; split <;> rfl
  right := by simp only [effF, Core.next, Core.wr]; split <;> rfl
  unit_ := by simp only [effF, Core.next, Core.wr]; split <;> rfl
  flags := by simp only [effF, Core.next, Core.wr, fpfAfter]
  next := by simp only [effF, Core.next, Core.wr]; split <;> rfl

theorem effFC_writes (d : BitVec 3) (f : Core → Bool × FFlags) (c : Core) :
    WritesFC d (f c).1 (f c).2 c (effFC d f c).core where
  gregs r := by simp only [effFC, Core.next, Core.wrC]; split <;> rfl
  conds k := Core.cb_wrC c d k (f c).1
  right := by simp only [effFC, Core.next, Core.wrC]; split <;> rfl
  unit_ := by simp only [effFC, Core.next, Core.wrC]; split <;> rfl
  flags := by simp only [effFC, Core.next, Core.wrC, fpfAfter]
  next := by simp only [effFC, Core.next, Core.wrC]; split <;> rfl

end Sys2Proof.Machine
end

