-- ==== Sys2Proof/Laws/Link.lean ====
section
/-! SUPPORT. Frames of the partner link: what is sent is what is taken. -/

namespace Sys2Proof.Machine

theorem crcByteGo_lt (p : Nat) (hp : p < 2 ^ 32) : ∀ n c, c < 2 ^ 32 → crcByteGo p n c < 2 ^ 32 := by
  intro n
  induction n with
  | zero => intro c h; exact h
  | succ n ih =>
    intro c h
    unfold crcByteGo
    apply ih
    split
    · exact Nat.xor_lt_two_pow (by omega) hp
    · omega

/-- A CRC-32C is a number of 32 bits. -/
theorem crc32c_lt (bs : List Byte) : crc32c bs < 2 ^ 32 := by
  have : ∀ c, c < 2 ^ 32 → crcFold poly32c c bs < 2 ^ 32 := by
    induction bs with
    | nil => intro c h; exact h
    | cons b bs ih =>
      intro c h
      exact ih _ (crcByteGo_lt _ (by decide) _ _ (Nat.xor_lt_two_pow h (lt_of_lt_of_le b.isLt (by decide))))
  exact Nat.xor_lt_two_pow (this _ (by decide)) (by decide)

/-- A frame that the link sends is taken as it was sent (R317). -/
theorem frameOf_frameBytes (type cls mseq tick : Nat) (p : List Byte) (ht : type < 256) (hc : linkClass type = some cls)
    (hq : mseq < 2 ^ 32) (hk : tick < 2 ^ 64) (hp : p.length ≤ 4104) :
    frameOf type (frameBytes type cls mseq tick p) = some (cls, mseq, tick, p) := by
  have hcl : cls < 256 := by
    unfold linkClass at hc; split at hc <;> simp at hc <;> omega
  have h7 : type ≠ 0x7F := by rintro rfl; simp [linkClass] at hc
  have mid : ∀ (x y z : List Byte) (k n : Nat), x.length = k → y.length = n → ((x ++ (y ++ z)).drop k).take n = y := by
    rintro x y z k n rfl rfl; simp
  have hb := leBytes_length
  generalize hB : leBytes 1 type ++ leBytes 1 cls ++ leBytes 2 p.length ++ leBytes 4 mseq ++ leBytes 8 tick ++ p = b
  have hbl : b.length = 16 + p.length := by rw [← hB]; simp [hb]; omega
  have hfb : frameBytes type cls mseq tick p = b ++ leBytes 4 (crc32c b) := by unfold frameBytes; rw [hB]
  have hn : (frameBytes type cls mseq tick p).length = 20 + p.length := by rw [hfb]; simp [hb, hbl]; omega
  have e1 : leNat ((frameBytes type cls mseq tick p).take 1) = type := by
    have := mid [] (leBytes 1 type) (leBytes 1 cls ++ (leBytes 2 p.length ++ (leBytes 4 mseq ++ (leBytes 8 tick ++
      (p ++ leBytes 4 (crc32c b)))))) 0 1 rfl (hb _ _)
    simp only [List.nil_append, List.drop_zero, ← List.append_assoc] at this
    rw [hB] at this
    rw [hfb, this, leNat_leBytes]; omega
  have e2 : leNat (((frameBytes type cls mseq tick p).drop 1).take 1) = cls := by
    have := mid (leBytes 1 type) (leBytes 1 cls) (leBytes 2 p.length ++ (leBytes 4 mseq ++ (leBytes 8 tick ++
      (p ++ leBytes 4 (crc32c b))))) 1 1 (hb _ _) (hb _ _)
    simp only [← List.append_assoc] at this
    rw [hB] at this
    rw [hfb, this, leNat_leBytes]; omega
  have e3 : leNat (((frameBytes type cls mseq tick p).drop 2).take 2) = p.length := by
    have := mid (leBytes 1 type ++ leBytes 1 cls) (leBytes 2 p.length) (leBytes 4 mseq ++ (leBytes 8 tick ++
      (p ++ leBytes 4 (crc32c b)))) 2 2 (by simp [hb]) (hb _ _)
    simp only [← List.append_assoc] at this
    rw [hB] at this
    rw [hfb, this, leNat_leBytes]; omega
  have e4 : leNat (((frameBytes type cls mseq tick p).drop 4).take 4) = mseq := by
    have := mid (leBytes 1 type ++ leBytes 1 cls ++ leBytes 2 p.length) (leBytes 4 mseq) (leBytes 8 tick ++
      (p ++ leBytes 4 (crc32c b))) 4 4 (by simp [hb]) (hb _ _)
    simp only [← List.append_assoc] at this
    rw [hB] at this
    rw [hfb, this, leNat_leBytes]; omega
  have e5 : leNat (((frameBytes type cls mseq tick p).drop 8).take 8) = tick := by
    have := mid (leBytes 1 type ++ leBytes 1 cls ++ leBytes 2 p.length ++ leBytes 4 mseq) (leBytes 8 tick)
      (p ++ leBytes 4 (crc32c b)) 8 8 (by simp [hb]) (hb _ _)
    simp only [← List.append_assoc] at this
    rw [hB] at this
    rw [hfb, this, leNat_leBytes]; omega
  have e6 : ((frameBytes type cls mseq tick p).drop 16).take p.length = p := by
    have := mid (leBytes 1 type ++ leBytes 1 cls ++ leBytes 2 p.length ++ leBytes 4 mseq ++ leBytes 8 tick) p
      (leBytes 4 (crc32c b)) 16 p.length (by simp [hb]) rfl
    simp only [← List.append_assoc] at this
    rw [hB] at this
    rw [hfb, this]
  have e7 : leNat ((frameBytes type cls mseq tick p).drop (20 + p.length - 4)) = crc32c b := by
    rw [hfb, show 20 + p.length - 4 = b.length by omega, List.drop_left, leNat_leBytes]
    exact Nat.mod_eq_of_lt (crc32c_lt b)
  have e8 : (frameBytes type cls mseq tick p).take (20 + p.length - 4) = b := by
    rw [hfb, show 20 + p.length - 4 = b.length by omega, List.take_left]
  unfold frameOf
  simp only [hn, e1, e2, e3, e4, e5, e6, e7, e8, hc, h7, hp, if_false, decide_true, and_self, if_true]

end Sys2Proof.Machine
end

