-- ==== Sys2Proof/WellFormed.lean ====
section
/-! DEFINITION. Which commands the outside can form: operands of the lengths and ranges that the spec gives
them. The meanings are total: they answer for every command, well formed or not. -/

namespace Sys2Proof

/-- A frame of the partner link: 16 bytes of header, a payload of at most 4,104 bytes, and its check (R317). -/
def linkFrameOk (f : List Byte) : Bool := decide (20 ≤ f.length) && decide (f.length ≤ 4124)

/-- A datagram comes from a 16-byte address (R350, R402). -/
def hostOk (addr : List Byte) : Bool := decide (addr.length = 16)

/-- An image of at most 32 MiB and a Catalogue of at most 1 MiB (R193, R233), or none. -/
def imageOk (img cat : List Byte) : Bool := decide (img.length ≤ 2 ^ 25) && decide (cat.length ≤ 2 ^ 20)

/-- An access of 1, 2, 4 or 8 bytes (R5, R17). -/
def sizeOk (n : Nat) : Bool := n == 1 || n == 2 || n == 4 || n == 8

/-- Whether the operands of a command lie in their ranges. -/
def Instr.wellFormed (i : Instr) : Bool :=
  match i with
  | .canFrameReceive _ f => decide (f.length = 76)
  | .inputMessage f _ _ => linkFrameOk f
  | .fillMessage f => linkFrameOk f
  | .deltaMessage f => linkFrameOk f
  | .finalMessage f => linkFrameOk f
  | .actdigMessage f => linkFrameOk f
  | .outdigMessage f => linkFrameOk f
  | .noticeMessage f => linkFrameOk f
  | .commitMessage f => linkFrameOk f
  | .confirmMessage f => linkFrameOk f
  | .orderMessage f => linkFrameOk f
  | .orderackMessage f => linkFrameOk f
  | .imageMessage f => linkFrameOk f
  | .forceMessage f => linkFrameOk f
  | .sessionMessage f => linkFrameOk f
  | .outblkMessage f => linkFrameOk f
  | .reqMessage f => linkFrameOk f
  | .reqAnswer f => linkFrameOk f
  | .pageMessage f => linkFrameOk f
  | .mirrorMessage f => linkFrameOk f
  | .cutMessage f => linkFrameOk f
  | .lackMessage f => linkFrameOk f
  | .hostOrder _ h => hostOk h.addr
  | .hostCack _ h => hostOk h.addr
  | .hostQuery _ h => hostOk h.addr
  | .provenanceReport q => hostOk q.addr
  | .logPart q => hostOk q.addr
  | .certificate q => hostOk q.addr
  | .imageLoad img cat => imageOk img cat
  | .onlineChange img cat => imageOk img cat
  | .debugMemoryAccess _ _ n data => decide (n ≠ 0) && data.all fun d => decide (d.length = n.toNat)
  | .registerWrite _ _ size _ => sizeOk size.toNat
  | .begin _ h => decide (h.length = 512)
  | .recoveryDownload _ h _ _ => decide (h.length = 512)
  | .configurationCommit c => c.regs.all fun e => decide (e.1.toNat % 4 = 0)
  | _ => true

end Sys2Proof
end

