-- ==== Sys2Proof/Tests/Slice0.lean ====
section
/-! SUPPORT. Tests: the refusals of WellFormed, the spec's own examples, and for every statement with hypotheses a state
and operands that meet them. -/

namespace Sys2Proof.Tests

open Sys2Proof Sys2Proof.Machine

set_option Elab.async false

/-! ### States -/

/-- A module with some registers set, and more. -/
def mk (regs : List (Nat × Reg)) (f : Mach → Mach := id) : State :=
  { State.reset with m := f { Mach.reset with regs := regs } }

/-- A core in a system unit with some general registers. -/
def coreWith (g : List (BitVec 5 × Word)) : Core :=
  { g.foldl (fun c e => c.wr e.1 e.2) Core.reset with sys := true }

/-- A slice of task 0 runs on cluster 0, whose three cores stand alike. -/
def run (c : Core) (f : Mach → Mach := id) (regs : List (Nat × Reg) := []) : State :=
  { mk ((KLN_CLSTAT 0, 0xE1) :: (KLN_DBGSTAT 0, 0) :: regs) fun m => f { m with
      k0 := { m.k0 with slice := some ⟨0, 0, 0, 1000, false⟩ } } with c0 := ⟨c, c, c⟩ }

def rr : RR := ⟨1, 2, 3, 0, false⟩

theorem ready_run (c : Core) (f : Mach → Mach) (regs : List (Nat × Reg)) (h : (run c f regs).m.regs =
      (KLN_CLSTAT 0, 0xE1) :: (KLN_DBGSTAT 0, 0) :: regs)
    (hk : (run c f regs).m.k0.slice = some ⟨0, 0, 0, 1000, false⟩ ∧ (run c f regs).m.k0.stepping = false)
    (he : (run c f regs).m.ecc = []) (hr : inData c.pc.toNat = true)
    (hp : (run c f regs).m.kilnDenied 0 c.pc.toNat 2 c.sys = none) : Ready 0 (run c f regs) c where
  slice := ⟨_, hk.1, by decide⟩
  going := by unfold Mach.bit Mach.rg; rw [h]; simp [tabGet]
  single := hk.2
  runs := by unfold Mach.actives Mach.bit Mach.rg; rw [h]; simp [tabGet]; decide
  agree := by
    intro k _
    unfold State.core State.tri Tri.get run
    simp only [if_pos]
    split <;> [rfl; skip]
    split <;> rfl
  range := hr
  permit := hp
  intact := by intro w _ _; rw [he]; rfl

/-! ### Witnesses: the queue and the instructions -/

def s0 : State := run (coreWith [])

theorem ready_s0 : Ready 0 s0 (coreWith []) := ready_run _ _ _ rfl ⟨rfl, rfl⟩ rfl rfl rfl
theorem fires_rr : Fires (coreWith []) rr := ⟨.inr rfl, rfl⟩

theorem witness_StepRunsTheFrontCommand :
    ({ s0 with pending := [.firingEnd] } : State).pending = .firingEnd :: [] ∧ s0.pending = [] := ⟨rfl, rfl⟩

theorem witness_TwoOperandIntegerResults : Ready 0 s0 (coreWith []) ∧ Fires (coreWith []) rr := ⟨ready_s0, fires_rr⟩

theorem witness_OneOperandIntegerResults : Ready 0 s0 (coreWith []) ∧ Fires (coreWith []) ⟨1, 2, 0, 0, false⟩ ∧
    (⟨1, 2, 0, 0, false⟩ : RR).b = 0 := ⟨ready_s0, ⟨.inr rfl, rfl⟩, rfl⟩

/-- The most negative number by -1, and a divisor whose low word alone is 0. -/
theorem witness_DivisionResults : Ready 0 s0 (coreWith []) ∧ Fires (coreWith []) rr ∧ (coreWith []).rd rr.b = 0 ∧
    low ((coreWith []).rd rr.b) = 0 ∧ (s0.m.kiln 0).slice = some ⟨0, 0, 0, 1000, false⟩ ∧
    Ready 0 (run (coreWith [(2, 0x8000000000000000), (3, -1)])) (coreWith [(2, 0x8000000000000000), (3, -1)]) ∧
    (coreWith [(2, 0x8000000000000000), (3, -1)]).rd 3 ≠ 0 ∧ low ((coreWith [(3, 0x100000000)]).rd 3) = 0 ∧
    low ((coreWith [(3, -1)]).rd 3) ≠ 0 :=
  ⟨ready_s0, fires_rr, rfl, by decide, rfl, ready_run _ _ _ rfl ⟨rfl, rfl⟩ rfl rfl rfl, by decide, by decide, by decide⟩

theorem witness_FailedPredicatePassesOver : Ready 0 s0 (coreWith []) ∧
    xor ((coreWith []).cb (⟨7, 2, 3, 1, false⟩ : RR).pc) (⟨7, 2, 3, 1, false⟩ : RR).pn = false ∧
    ((⟨7, 2, 3, 1, false⟩ : RR).pc ≠ 0 ∨ (⟨7, 2, 3, 1, false⟩ : RR).pn = false) ∧
    (⟨7, 2, 3, 1, false⟩ : RR).d.toNat < 8 := ⟨ready_s0, rfl, by decide, by decide⟩

theorem witness_ReservedFieldsRaiseIllegal : Ready 0 s0 (coreWith []) ∧
    (s0.m.kiln 0).slice = some ⟨0, 0, 0, 1000, false⟩ ∧ (⟨1, 2, 3, 0, true⟩ : RR).pc = 0 ∧ (⟨1, 2, 3, 0, true⟩ : RR).pn = true ∧
    8 ≤ (⟨8, 2, 3, 0, true⟩ : RR).d.toNat ∧ rr.b ≠ 0 ∧ wordReserved 0 = true ∧ wordReserved 0xFFFFFFFF = true :=
  ⟨ready_s0, rfl, rfl, rfl, by decide, by decide, by decide, by decide⟩

theorem witness_ConditionResults : Ready 0 s0 (coreWith []) ∧ Fires (coreWith []) ⟨7, 7, 7, 0, false⟩ ∧
    (⟨7, 7, 7, 0, false⟩ : RR).d.toNat < 8 ∧ (⟨7, 7, 7, 0, false⟩ : RR).a.toNat < 8 ∧ Fires (coreWith []) ⟨0, 0, 0, 0, false⟩ :=
  ⟨ready_s0, ⟨.inr rfl, rfl⟩, by decide, by decide, ⟨.inr rfl, rfl⟩⟩

theorem witness_ImmediateResults : Ready 0 s0 (coreWith []) ∧ (⟨7, 2, 0x8000⟩ : RI).d.toNat < 8 ∧
    (⟨1, 2, 511⟩ : RI).imm.toNat < 512 := ⟨ready_s0, by decide, by decide⟩

/-- A jump to the last word of the data space; branches to its first word and its last, taken and not. -/
theorem witness_JumpsAndBranches : Ready 0 s0 (coreWith []) ∧ (s0.m.kiln 0).slice = some ⟨0, 0, 0, 1000, false⟩ ∧
    xor ((coreWith []).cb 0) false = true ∧ xor ((coreWith []).cb 1) false = false ∧
    inData ((coreWith [(2, 0x017F7FFC)]).rd 2).toNat = true ∧ ((coreWith [(2, 0x017F7FFC)]).rd 2).toNat % 4 = 0 ∧
    inData ((coreWith [(2, 0x01800000)]).rd 2).toNat = false ∧ ((coreWith [(2, 6)]).rd 2).toNat % 4 ≠ 0 ∧
    (coreWith []).cb 1 = false ∧ (coreWith []).cb 0 = true ∧
    0 ≤ ((coreWith []).pc.toNat : Int) + 4 * (0 : BitVec 22).toInt ∧
    ((coreWith []).pc.toNat : Int) + 4 * (0x1FFFFF : BitVec 22).toInt < 0x01800000 ∧
    ((coreWith []).pc.toNat : Int) + 4 * (0x200000 : BitVec 22).toInt < 0 :=
  ⟨ready_s0, rfl, rfl, rfl, rfl, rfl, rfl, by decide, rfl, rfl, by decide, by decide, by decide⟩

/-- 1.0 and the largest finite number of binary32. -/
theorem witness_ArithmeticRoundsToNearest : unpack .s 0x3F800000 = .fin false 0x800000 (-23) ∧
    unpack .s 0x7F7FFFFF = .fin false 0xFFFFFF 104 := ⟨by rfl, by rfl⟩

theorem witness_FloatingPointResults : Ready 0 s0 (coreWith []) ∧ Fires (coreWith []) ⟨0, 0, 0, 0, false⟩ :=
  ⟨ready_s0, ⟨.inr rfl, rfl⟩⟩

/-- A NaN, both infinities, and a finite datum. -/
theorem witness_ConversionsFollowR125 : (unpack .s 0x7FC00000).isNan = true ∧ unpack .s 0x7F800000 = .inf false ∧
    unpack .s 0xFF800000 = .inf true ∧ unpack .s 0xBF000000 = .fin true 0x800000 (-24) := ⟨rfl, rfl, rfl, rfl⟩

theorem witness_FloatingPointComparisons : Ready 0 s0 (coreWith []) ∧ Fires (coreWith []) ⟨7, 2, 3, 0, false⟩ ∧
    (⟨7, 2, 3, 0, false⟩ : RR).d.toNat < 8 ∧ unpack .s 0x80000000 = .fin true 0 (-149) ∧ unpack .s 0 = .fin false 0 (-149) :=
  ⟨ready_s0, ⟨.inr rfl, rfl⟩, by decide, by rfl, by rfl⟩

theorem clean_nil (s : State) (h : s.m.ecc = []) (a n : Nat) : s.m.clean a n := by intro w _ _; rw [h]; rfl

/-- The last doubleword of the data space, in the exchange range of the other cluster. -/
theorem witness_LoadResults : let c := coreWith [(4, 0x017F7FF8)]
    let a := (c.rd 4 + (0 : BitVec 16).signExtend 64).toNat
    Ready 0 (run c) c ∧ inData a = true ∧ a % 8 = 0 ∧ (run c).m.kilnDenied 0 a 0 c.sys = none ∧
    (run c).m.clean (readAddr 0 a) 8 :=
  ⟨ready_run _ _ _ rfl ⟨rfl, rfl⟩ rfl rfl rfl, rfl, rfl, rfl, clean_nil _ rfl _ _⟩

theorem witness_StoreResults : let c := coreWith [(4, 0x1000)]
    let a := (c.rd 4 + (8 : BitVec 16).signExtend 64).toNat
    Ready 0 (run c) c ∧ inData a = true ∧ a % 8 = 0 ∧ (run c).m.kilnDenied 0 a 1 c.sys = none ∧
    (run c).m.deltaFull ((run c).m.newGranules a 8) = false :=
  ⟨ready_run _ _ _ rfl ⟨rfl, rfl⟩ rfl rfl rfl, rfl, rfl, rfl, rfl⟩

/-- Below the data space, beyond it, misaligned, and in the exchange range of the other cluster. -/
theorem witness_DataAccessExceptions : let c := coreWith [(4, 0x017F7FF8)]
    Ready 0 (run c) c ∧ ((run c).m.kiln 0).slice = some ⟨0, 0, 0, 1000, false⟩ ∧
    inData (c.rd 0 + (0xFFFF : BitVec 16).signExtend 64).toNat = false ∧
    (c.rd 0 + (1 : BitVec 16).signExtend 64).toNat % 2 ≠ 0 ∧ inData (c.rd 4 + 0).toNat = true ∧
    (run c).m.kilnDenied 0 (c.rd 4 + 0).toNat 1 c.sys = some 0x1D :=
  ⟨ready_run _ _ _ rfl ⟨rfl, rfl⟩ rfl rfl rfl, rfl, by decide, by decide, by decide, by decide⟩

/-- The last input bit, the first output bit with its owner, the last marker bit. -/
theorem witness_ImageBits : let o : Mach → Mach := fun m => { m with prog := { own := [0x01] } }
    Ready 0 (run (coreWith []) o) (coreWith []) ∧ mapped .input (0x0A0FFF : BitVec 23).toNat = true ∧
    mapped .marker (0x7FFFFF : BitVec 23).toNat = true ∧ mapped .output (0 : BitVec 23).toNat = true ∧
    (run (coreWith []) o).m.owns 0 0 = true ∧ (run (coreWith []) o).m.clean ((run (coreWith []) o).m.imageByte 0 .input 0x141FF) 1 ∧
    Fires (coreWith []) ⟨7, 0, 0, 0, false⟩ ∧ ((coreWith []).rd 0).toNat < 2 ^ 23 :=
  ⟨ready_run _ _ _ rfl ⟨rfl, rfl⟩ rfl rfl rfl, by decide, by decide, by decide, rfl, clean_nil _ rfl _ _, ⟨.inr rfl, rfl⟩,
    by decide⟩

/-- The last 64 bits of the input space; the first 64 of an owned output word. -/
theorem witness_ImageWords : let o : Mach → Mach := fun m => { m with prog := { own := [0x55, 0x55] } }
    let c := coreWith [(2, 0x0A0FC0)]
    Ready 0 (run c o) c ∧ Fires c ⟨1, 2, 0, 0, false⟩ ∧ (c.rd 2).toNat % 64 = 0 ∧ (c.rd 2).toNat + 64 ≤ 2 ^ 23 ∧
    mapped (spaceOf 0) ((c.rd 2).toNat + 63) = true ∧ (∀ j < 8, (run c o).m.owns 0 ((c.rd 0).toNat / 8 + j) = true) :=
  ⟨ready_run _ _ _ rfl ⟨rfl, rfl⟩ rfl rfl rfl, ⟨.inr rfl, rfl⟩, by decide, by decide, by decide, by decide⟩

/-- The first bit beyond each space, an output bit without its owner, and a misaligned word. -/
theorem witness_ImageExceptions : Ready 0 s0 (coreWith []) ∧ (s0.m.kiln 0).slice = some ⟨0, 0, 0, 1000, false⟩ ∧
    mapped .input (0x0A1000 : BitVec 23).toNat = false ∧ mapped .output (0x0A0000 : BitVec 23).toNat = false ∧
    mapped .output (0 : BitVec 23).toNat = true ∧ s0.m.owns 0 0 = false ∧ Fires (coreWith [(2, 1)]) ⟨7, 2, 0, 0, false⟩ ∧
    mapped (spaceOf 2) ((coreWith [(2, 1)]).rd 2).toNat = true ∧ ((coreWith [(2, 1)]).rd 2).toNat % (8 * 2 ^ 0) ≠ 0 ∧
    mapped (spaceOf 2) ((coreWith [(2, 0x800000)]).rd 2).toNat = false :=
  ⟨ready_s0, rfl, by decide, by decide, by decide, rfl, ⟨.inr rfl, rfl⟩, by decide, by decide, by decide⟩

theorem scannable_s0 (n : Nat) (h : n ∈ [1, 3, 4]) : Scannable 0 s0.m true 0 n where
  range := by revert n; decide
  align := rfl
  read := by revert n; decide
  write := by revert n; decide
  intact := clean_nil _ rfl _ _
  room := by revert n; decide

theorem witness_BlockScans : Ready 0 s0 (coreWith []) ∧ ((coreWith []).rd 0 + (0 : BitVec 16).signExtend 64).toNat = 0 ∧
    ∀ n ∈ [1, 3, 4], Scannable 0 s0.m (coreWith []).sys 0 n := ⟨ready_s0, rfl, scannable_s0⟩

/-- A program of two units; unit 0, at 0x2000, is a system unit; task 0 has its stack from 0x4000 to 0x8000. -/
def unitProg : Mach → Mach := fun m => { m with
  prog := { units := 2, unitBase := 0x1000, tasks := [⟨0, 0, 1, 0, 0, 0x8000, 0x4000, 0, 1000, 0⟩] }
  mem := [(0x1001, 0x20), (0x1008, 1), (0x1011, 0x20), (0x1018, 1), (0x7FE1, 0x20)] }

/-- The deepest call that the stack admits, and a return from the shallowest one. -/
theorem witness_UnitCallsAndReturn : let c := coreWith [(29, 0x4020)]
    let d := coreWith [(29, 0x7FE0)]
    let s := run c unitProg
    let s' := run d unitProg
    Ready 0 s c ∧ (s.m.kiln 0).slice = some ⟨0, 0, 0, 1000, false⟩ ∧ 0 < s.m.prog.units ∧
    (0x1000 : Nat) + 16 ≤ 0x01800000 ∧ s.m.clean 0x1000 16 ∧ inData (s.m.mem.ldN 0x1000 4) = true ∧
    s.m.mem.ldN 0x1000 4 % 4 = 0 ∧ s.m.mem.ldN 0x1004 4 = 0 ∧ (s.m.taskEnt 0).floor + 32 ≤ (c.rd 29).toNat ∧
    blockInData ((c.rd 29).toNat - 32) 32 = true ∧ (c.rd 29).toNat % 8 = 0 ∧
    s.m.kilnDeniedBlock 0 ((c.rd 29).toNat - 32) 32 1 true = none ∧ s.m.tick.delta.length + 4 ≤ 1024 ∧
    (∀ i < 4, s.m.kilnDenied 0 ((c.rd 29).toNat - 32 + 8 * i) 1 true = none) ∧
    Ready 0 s' d ∧ (d.rd 29).toNat < (s'.m.taskEnt 0).top ∧ blockInData (d.rd 29).toNat 32 = true ∧
    s'.m.kilnDeniedBlock 0 (d.rd 29).toNat 32 0 true = none ∧
    inData (s'.m.mem.ldN (readAddr 0 (d.rd 29).toNat) 8) = true ∧ s'.m.mem.ldN (readAddr 0 (d.rd 29).toNat) 8 % 4 = 0 ∧
    ∀ i < 4, s'.m.clean (readAddr 0 ((d.rd 29).toNat + 8 * i)) 8 :=
  ⟨ready_run _ _ _ rfl ⟨rfl, rfl⟩ rfl rfl rfl, rfl, by decide, by decide, clean_nil _ rfl _ _, by decide, by decide,
    by decide, by decide, by decide, by decide, by decide, by decide, by decide,
    ready_run _ _ _ rfl ⟨rfl, rfl⟩ rfl rfl rfl, by decide, by decide, by decide, by decide, by decide,
    fun _ _ => clean_nil _ rfl _ _⟩

/-- A unit beyond the table, a stack at its top, a misaligned entry, and a stack without room. -/
theorem witness_CallExceptions : let c := coreWith [(29, 0x8000), (2, 2), (3, 1)]
    let bad : Mach → Mach := fun m => { unitProg m with mem := [(0x1000, 2)] }
    Ready 0 (run c unitProg) c ∧ ((run c unitProg).m.kiln 0).slice = some ⟨0, 0, 0, 1000, false⟩ ∧
    (run c unitProg).m.prog.units ≤ (c.rd 2).toNat ∧ ((run c unitProg).m.taskEnt 0).top ≤ (c.rd 29).toNat ∧
    (run c bad).m.mem.ldN 0x1000 4 % 4 ≠ 0 ∧ (run c unitProg).m.mem.ldN 0x1000 4 % 4 = 0 ∧
    (0 : Nat) < ((run c unitProg).m.taskEnt 0).floor + 32 ∧ (run c unitProg).m.clean 0x1000 16 ∧
    Ready 0 (run { c with sys := false } (fun m => { m with mpu := [(0, ⟨0, 0x5804⟩)] })) { c with sys := false } :=
  ⟨ready_run _ _ _ rfl ⟨rfl, rfl⟩ rfl rfl rfl, rfl, by decide, by decide, by decide, by decide, by decide,
    clean_nil _ rfl _ _, ready_run _ _ _ rfl ⟨rfl, rfl⟩ rfl rfl (by decide)⟩

theorem witness_SliceEndsAndNextIsDispatched :
    Ready 0 (run (coreWith []) fun m => { m with k0 := { m.k0 with due := [(1, 0)] } }) (coreWith []) :=
  ready_run _ _ _ rfl ⟨rfl, rfl⟩ rfl rfl rfl

/-- A breakpoint that stops: BENCH, attached, and enabled. -/
theorem witness_SystemInstructions : let s := run (coreWith []) id [(CUR_MODE, 3), (KLN_DBGCTL 0, 3)]
    Ready 0 s (coreWith []) ∧ (s.m.kiln 0).slice = some ⟨0, 0, 0, 1000, false⟩ ∧ s.m.mode = 3 ∧
    s.m.bit (KLN_DBGCTL 0) 0 = true ∧ s.m.bit (KLN_DBGCTL 0) 1 = true ∧ s0.m.mode ≠ 3 :=
  ⟨ready_run _ _ _ rfl ⟨rfl, rfl⟩ rfl rfl rfl, rfl, by decide, by decide, by decide, by decide +kernel⟩

/-- An empty delivery set, and one of an accession. -/
theorem witness_AcquireResults : let c := coreWith [(2, 0x1000)]
    let s := run c fun m => { m with k0 := { m.k0 with deliv := [5] } }
    Ready 0 s c ∧ blockInData (c.rd 2).toNat 288 = true ∧ (c.rd 2).toNat % 8 = 0 ∧
    s.m.kilnDeniedBlock 0 (c.rd 2).toNat 288 1 c.sys = none ∧ s.m.toFetch 0 = some 5 ∧ s0.m.toFetch 0 = none ∧
    s.m.deltaFull (s.m.newGranules (c.rd 2).toNat (s.m.acqBytes 5).length) = false :=
  ⟨ready_run _ _ _ rfl ⟨rfl, rfl⟩ rfl rfl rfl, by decide, by decide, by decide, by decide, by decide, by decide +kernel⟩

/-- A fetched accession of this cluster, and one that a commit has completed. -/
theorem witness_CompletionResults : let c := coreWith [(2, 5)]
    let s := run c (fun m => { m with k0 := { m.k0 with fetched := [5] } }) [(ACJ_NEXT, 6), (ACJ_NEXT + 4, 0)]
    let d := run c (fun m => { m with mem := [(Mach.recordAt 5, 4)] }) [(ACJ_NEXT, 6), (ACJ_NEXT + 4, 0)]
    Ready 0 s c ∧ s.m.accLive 5 = true ∧ s.m.routeOf (s.m.recClass 5) = 0 ∧ s.m.recState 5 = 0 ∧
    5 ∈ (s.m.kiln 0).fetched ∧ Ready 0 d c ∧ d.m.accLive 5 = true ∧ d.m.recState 5 = 4 ∧ d.m.accLive 6 = false :=
  ⟨ready_run _ _ _ rfl ⟨rfl, rfl⟩ rfl rfl rfl, by decide, by decide, by decide, by decide,
    ready_run _ _ _ rfl ⟨rfl, rfl⟩ rfl rfl rfl, by decide, by decide, by decide⟩

/-- A query block at 0x1000, of KIND 0 and of KIND 2, with a result to collect. -/
theorem witness_DeadlineRequests : let c := coreWith [(2, 0x1000)]
    let s := run c fun m => { m with mem := [(0x1004, 2)], k0 := { m.k0 with results := [⟨1, 0, 0, 0, 0, 0, 0, 0⟩] } }
    let blk := (List.range 8).flatMap fun i => s.m.mem.ldBytes (readAddr 0 (0x1000 + 8 * i)) 8
    Ready 0 (run c) c ∧ blockInData (c.rd 2).toNat 64 = true ∧ (c.rd 2).toNat % 8 = 0 ∧
    (run c).m.kilnDeniedBlock 0 (c.rd 2).toNat 64 0 c.sys = none ∧
    (∀ i < 8, (run c).m.clean (readAddr 0 ((c.rd 2).toNat + 8 * i)) 8) ∧
    Ready 0 s c ∧ fieldOf blk 4 1 = 2 ∧ trkqBad blk = false ∧
    s.m.kilnDeniedBlock 0 ((c.rd 2).toNat + 16) 48 1 c.sys = none ∧
    s.m.deltaFull (s.m.newGranules ((c.rd 2).toNat + 16) 48) = false :=
  ⟨ready_run _ _ _ rfl ⟨rfl, rfl⟩ rfl rfl rfl, by decide, by decide, by decide, fun _ _ => clean_nil _ rfl _ _,
    ready_run _ _ _ rfl ⟨rfl, rfl⟩ rfl rfl rfl, by decide, by decide, by decide, by decide⟩

/-! ### Witnesses: time, local channels, CAN FD -/

def inMode (n : Nat) (regs : List (Nat × Reg) := []) (f : Mach → Mach := id) : State :=
  mk ((CUR_MODE, BitVec.ofNat 32 n) :: regs) f

/-- PRIMARY without plant time, with a step at its limit, a timestamp, a first port of PTP, and a wait for its lock. -/
def wTime : State := inMode 6 [(TMB_STAT, 0), (TMB_STEP, 1000), (TMB_STEP + 4, 0), (TMB_PTPCFG, 3), (TMB_JUMPMAX, 1000)] fun m =>
  { m with tmb := { wait := true, fifo := [⟨7, true, 15, 65535, 2 ^ 64 - 1⟩] } }

theorem witness_PlantTimeCommands : wTime.m.dead = false ∧ ¬(4 ≤ wTime.m.mode ∧ wTime.m.timeValid = true) ∧
    wTime.m.rg64 TMB_STEP ≠ 0 ∧ wTime.m.mode ≠ 4 ∧ wTime.m.mode ≠ 5 ∧ wTime.m.tmb.step = none ∧
    wTime.m.tmb.fifo = ⟨7, true, 15, 65535, 2 ^ 64 - 1⟩ :: [] ∧ wTime.m.ptpPort 0 = true ∧ wTime.m.ptpMaySend 3 = true ∧
    wTime.m.tmb.wait = true ∧ (inMode 4 [(TMB_STAT, 1)]).m.timeValid = true ∧ (inMode 4 [(TMB_STAT, 1)]).m.mode = 4 := by
  decide +kernel

/-- 23:59:59 on 2024-02-28, and the clock halted. -/
def wClock : State := inMode 3 [(RTC_CTL, 2), (RTC_STAT, 0), (RTC_TIME, 0x173B3B), (RTC_DATE, 0x18021C)]
def wHalted : State := inMode 3 [(RTC_CTL, 1), (RTC_STAT, 1), (RTC_TIME, 0x173B3B), (RTC_DATE, 0x18021C)] fun m =>
  { m with rtc := { haltSec := 2 ^ 40 } }

theorem witness_RealTimeClockCommands : wClock.m.bit RTC_CTL 0 = false ∧
    nextSecond (wClock.m.rg RTC_TIME) (wClock.m.rg RTC_DATE) = some (0, 0x18021D) ∧ wClock.m.dead = false ∧
    wHalted.m.bit RTC_CTL 0 = true ∧ wHalted.m.dead = false ∧ dateExists (wHalted.m.rg RTC_DATE) = true ∧
    Mach.timeInRange 0x173B3B = true ∧ Mach.dateInRange 0x18021D = true := by decide +kernel

/-- Channel 15 drives with a schedule, in a pulse, after as many missed ticks as the watchdog admits. -/
def wLocal : State := inMode 6 [(LIO_DRIVE, 0x18000), (LIO_LEVEL, 0), (LIO_FAULT, 0), (LIO_FOREIGN, 0), (LIO_CTL, 0x301), (LIO_CHCFG 15, 0x5A), (LIO_CHCFG 14, 2)] fun m =>
  { m with lio := { sched := [(15, ⟨7, 2, 2⟩)], pulse := [(15, 9)], missed := 3 } }

theorem witness_LocalChannelCommands : wLocal.m.dead = false ∧ wLocal.m.bit LIO_LEVEL 15 ≠ true ∧
    assocGet wLocal.m.lio.sched 15 = some ⟨7, 2, 2⟩ ∧ assocGet wLocal.m.lio.pulse 15 ≠ none ∧ wLocal.m.driving = true ∧
    wLocal.m.bit LIO_DRIVE 15 = true ∧ wLocal.m.bit (LIO_CHCFG 15) 6 = true ∧ wLocal.m.bit LIO_DRIVE 14 = false ∧
    2 ≤ wLocal.m.chMode 14 ∧ wLocal.m.bit LIO_CTL 0 = true ∧ wLocal.m.lio.fellBack = false ∧
    wLocal.m.fld LIO_CTL 15 8 ≤ wLocal.m.lio.missed ∧ wLocal.m.chMode 15 = 2 ∧ wLocal.m.bit (LIO_CHCFG 15) 3 = true := by
  decide +kernel

/-- Port 0 with a full receive FIFO less one, a frame to send, and a filter that passes every standard frame. -/
def wCan : State := inMode 6 [(CFD_CTL 0, 0x35), (CFD_STAT 0, 0xFF0000), (CFD_FID 0 0, 0x80000000), (CFD_FMSK 0 0, 0)] fun m =>
  { m with can0 := { rx := List.replicate 255 [], tx := [[1], [2]] } }
def wBusOff : State := inMode 6 [(CFD_CTL 3, 1), (CFD_STAT 3, 0xA)]

theorem witness_CanPortCommands : wCan.m.dead = false ∧ wCan.m.bit (CFD_CTL 0) 0 = true ∧
    wCan.m.canPasses 0 (List.replicate 76 0) = true ∧ (leNat ((List.replicate 76 (0 : Byte)).take 4)).testBit 30 = false ∧
    (wCan.m.can 0).tx = [1] :: [[2]] ∧ wCan.m.bit (CFD_CTL 0) 6 = false ∧ wCan.m.bit (CFD_CTL 0) 4 = true ∧
    wCan.m.bit (CFD_CTL 0) 1 = false ∧ wCan.m.fld (CFD_STAT 0) 1 0 ≠ 2 ∧ wBusOff.m.dead = false ∧
    wBusOff.m.fld (CFD_STAT 3) 1 0 = 2 ∧ wBusOff.m.bit (CFD_STAT 3) 3 = true := by decide +kernel

/-! ### Witnesses: resets, modes, the role, the tick -/

def env : BootEnv := ⟨2, false, 3, 15, 3, true, true, none, none, none⟩

/-- Seeding under way in BOOT; a watchdog about to expire; a hold; a failed cluster. -/
def wBoot : State := inMode 1 [(CUR_BOOTSTAT, 0x50000), (DDC_STAT, 0)]
def wDog : State := inMode 3 [(CUR_WDOG, 0x2000), (KLN_CLSTAT 1, 4)]
def wHold : State := inMode 1 [] fun m => { m with held := some 1, sva := { hold := true } }

theorem witness_ResetCommands : State.reset.m.mated = true ∧ wBoot.m.dead = false ∧ wHold.m.held = some 1 ∧
    wDog.m.dead = false ∧ wDog.m.bit CUR_WDOG 13 = true ∧ (0xA55B : BitVec 32) ≠ 0xA55A ∧ wHold.m.mated = true ∧
    wHold.m.mode ≠ 0 ∧ wHold.m.sva.hold = true ∧ wDog.m.fld (KLN_CLSTAT 1) 2 0 = 4 ∧ wBoot.m.mode = 1 ∧
    wBoot.m.fld CUR_BOOTSTAT 19 16 = 5 ∧ wBoot.m.bit DDC_STAT 0 = false := by decide +kernel

/-- BENCH with a program, ready to start. -/
def wBench : State := inMode 3 [(TMB_STAT, 1), (SVA_STAT, 2), (KLN_DBGSTAT 0, 0), (KLN_DBGSTAT 1, 0), (KLN_CLSTAT 0, 0xE1), (KLN_CLSTAT 1, 0xE1),
  (KLN_CHGSTAT, 0), (PTL_STAT, 0), (DLE_STAT, 9)] fun m => { m with prog := { gen := 1 } }

theorem witness_ModeCommands : wBench.m.dead = false ∧ wBench.m.mode = 3 ∧ wBench.m.prog.gen ≠ 0 ∧
    wBench.m.bit PTL_STAT 9 = false ∧ wBench.m.bit (KLN_DBGSTAT 0) 0 = false ∧ wBench.m.bit (KLN_DBGSTAT 1) 0 = false ∧
    wBench.m.pgm.change = none ∧ wBench.m.chgState = 0 ∧ wBench.m.entryOk = true ∧ wBench.m.pair.partial_ = false ∧
    (inMode 3).m.prog.gen = 0 ∧ (inMode 3 [(PTL_STAT, 0x200)] fun m => { m with prog := { gen := 1 } }).m.bit PTL_STAT 9 = true ∧
    (inMode 6 [(CUR_PAIR, 1)]).m.solo = true ∧ (inMode 6 [(CUR_PAIR, 1)]).m.mode = 6 ∧ (inMode 6 [(CUR_PAIR, 0)]).m.solo = false ∧
    (inMode 6).m.pair.partDiv = false ∧ (inMode 7).m.mode = 7 ∧ (inMode 5).m.mode = 5 ∧ (inMode 5).m.dead = false := by
  decide +kernel

/-- A primary with its driver on; a standby beside a primary; a standby that has diverged too often; the claim stage. -/
def wPrim : State := inMode 6 [(CUR_PAIR, 2), (PTL_STAT, 0x180), (KLN_CLSTAT 0, 2), (KLN_CLSTAT 1, 2), (PTL_PHEALTH, 0), (KLN_CHGSTAT, 0)] fun m =>
  { m with pair := { m.pair with driver := true, healthyRun := 1024 } }
def wStby : State := inMode 5 [(PTL_STAT, 0x240), (TMB_STAT, 1)] fun m =>
  { m with pair := { m.pair with silent := 2 }, tmb := { exceeds := 4, bad := 1024 } }
def wWeary : State := inMode 5 [(PTL_CFG, 0x3000)] fun m =>
  { m with wantMode := some 4, pair := { m.pair with diverged := true, divTimes := [1, 2, 3, 4] } }
def wClaim (last : Nat) : State := inMode 1 [(PTL_STAT, 0)] fun m => { m with pair := { m.pair with claim := 1, lastRole := last } }
def wWithheld : State := inMode 7 [(PTL_STAT, 0)] fun m => { m with pair := { m.pair with claim := 4 } }
def wSwap : State := inMode 6 [(KLN_TICKNO, 8), (KLN_TICKNO + 4, 0)] fun m => { m with pair := { m.pair with events := [(8, 1)] } }

theorem witness_RoleCommands : wPrim.m.dead = false ∧ wPrim.m.mode = 6 ∧ wPrim.m.pair.driver = true ∧
    wPrim.m.bit CUR_PAIR 1 = true ∧ wPrim.m.swapRefuse = 0 ∧ wStby.m.dead = false ∧ wStby.m.mode = 5 ∧
    wStby.m.bit PTL_STAT 9 = true ∧ wStby.m.pair.diverged = false ∧ 2 ≤ wStby.m.pair.silent ∧ 4 ≤ wStby.m.tmb.exceeds ∧
    1024 ≤ wStby.m.tmb.bad ∧ wStby.m.wantMode = none ∧ (wClaim 6).m.claiming = true ∧ (wClaim 5).m.claiming = true ∧
    (wClaim 6).m.bit PTL_STAT 9 = false ∧ wWithheld.m.mode = 7 ∧ wWithheld.m.pair.claim = 4 ∧
    wWithheld.m.pair.partial_ = false ∧ wWithheld.m.bit PTL_STAT 9 = false ∧ wSwap.m.swapDue = true ∧ wSwap.m.tick.phase = 0 ∧
    wSwap.m.pair.driver = false ∧ wWeary.m.pair.diverged = true ∧ wWeary.m.wantMode = some 4 ∧
    wWeary.m.fld PTL_CFG 15 12 < wWeary.m.pair.divTimes.length := by decide +kernel

/-- A tick of BENCH in each phase, and instants of its own. -/
def wTick (phase : Nat) (f : Tick → Tick := id) : State := inMode 3 [(LIO_CTL, 1), (KLN_TICKNO, 9), (KLN_TICKNO + 4, 0), (KLN_OVRCNT, 3), (PTL_STAT, 0), (KLN_SCHCTL, 1)] fun m =>
  { m with tick := f { m.tick with phase := phase } }
def wEmit : State := inMode 6 [(KLN_TICKNO, 9), (KLN_TICKNO + 4, 0)] fun m => { m with tick := { m.tick with phase := 2 } }
def wAxis : State := inMode 6 [(DLE_STAT, 9), (DLE_AXCFG 1023, 0x41)] fun m =>
  { m with dle := { axes := [(1023, { miss := 2 })] } }
def wRecord : State := inMode 6 [(KLN_TICKNO, 9), (KLN_TICKNO + 4, 0)] fun m => { m with mem := [(Mach.rec64 65535, 3), (Mach.rec64 65535 + 48, 9)] }
def wSlice (cfg : Nat) : State := run (coreWith []) (fun m => { m with k0 := { m.k0 with slice := some ⟨0, 0, 1000, 1000, false⟩ } })
  [(CUR_MODE, 3), (KLN_TCFG 0, BitVec.ofNat 32 cfg)]

theorem witness_TickPhaseCommands : (wTick 0).m.dead = false ∧ (inMode 2).m.mode = 2 ∧ (inMode 2).m.dead = false ∧ State.reset.m.mode = 1 ∧
    State.reset.m.pair.claim = 0 ∧ State.reset.m.dead = false ∧ 3 ≤ (wTick 0).m.mode ∧ (wTick 0).m.tick.phase = 0 ∧
    (wTick 1).m.tick.phase = 1 ∧ (wTick 1).m.pair.filled = false ∧ (wTick 1).m.tick.adopted = false ∧
    (wTick 1 fun t => { t with adopted := true }).m.tick.adopted = true ∧ wEmit.m.tick.phase = 2 ∧ wEmit.m.emitsActs = true ∧
    wEmit.m.pair.diverged = false ∧ wEmit.m.pair.ownAct = none ∧ (wTick 2 fun t => { t with fires := true }).m.tick.fires = true ∧
    (wTick 2 fun t => { t with fires := true }).m.tick.stopped = false ∧ Mach.idleKiln (wTick 2).m.k0 = true ∧
    Mach.idleKiln (wTick 2).m.k1 = true ∧ (wTick 2).m.fld KLN_OVRCNT 1 0 = 3 ∧ (wTick 2).m.tick.ovrLimit = false ∧
    (wTick 2).m.bit LIO_CTL 0 = true ∧ wRecord.m.firstAct ≤ 65535 ∧ wRecord.m.recF 65535 0 1 = 3 ∧
    wRecord.m.recF 65535 48 8 ≤ wRecord.m.tickNo ∧ wAxis.m.dleRuns = true ∧
    wAxis.m.fld (DLE_AXCFG 1023) 13 6 < (wAxis.m.axis 1023).miss ∧
    ((wSlice 0).m.kiln 0).slice = some ⟨0, 0, 1000, 1000, false⟩ ∧ (wSlice 0).m.bit (KLN_TCFG 0) 6 = false ∧
    (wSlice 0x40).m.bit (KLN_TCFG 0) 6 = true := by decide +kernel

/-! ### Witnesses: registers, debugger, windows, rings -/

theorem witness_RegisterWrites : let s := inMode 3
    s.m.dead = false ∧ s.m.lockedAddr TMB_JUMPMAX = false ∧ (2 : BitVec 4) ≠ 4 ∧ windowSrc 0x0801 ≠ none ∧
    windowSrc 0x0FFE = none ∧ (0x0FFE0000 : BitVec 48).toNat / 2 ^ 16 ≠ 0x0FFF ∧ s.m.regionOf 9 TMB_JUMPMAX 16 = none ∧
    s.m.regionOf 9 LDG_RATE 16 = none ∧ s.m.regionOf 9 CUR_WDOG 16 = none ∧ s.m.lockedAddr LDG_RATE = false ∧
    s.m.lockedAddr CUR_WDOG = false ∧ reachWindow 6 0x0FFE = true := by decide +kernel

/-- An attached debugger, before and after the stop; a system unit whose words are locked against it. -/
def wDebug (stopped : BitVec 32) : State := { inMode 3 [(KLN_DBGCTL 0, 1), (KLN_DBGSTAT 0, stopped), (KLN_CLSTAT 0, 0xE1), (KLN_DBGSEL 0, 31)] with
  c0 := ⟨coreWith [], coreWith [], coreWith []⟩ }

theorem witness_DebuggerCommands : (wDebug 0).m.dead = false ∧ (wDebug 0).m.bit (KLN_DBGCTL 0) 0 = true ∧
    (wDebug 0).m.bit (KLN_DBGSTAT 0) 0 = false ∧ (wDebug 1).m.bit (KLN_DBGSTAT 0) 0 = true ∧
    (∀ j ∈ (wDebug 1).m.actives 0, ∀ k ∈ (wDebug 1).m.actives 0, (wDebug 1).core 0 j = (wDebug 1).core 0 k) ∧
    (0x017FFFFC : BitVec 32).toNat < 0x01800000 ∧ (0x017FFFF8 : BitVec 48).toNat + 8 ≤ 0x01800000 ∧
    (wDebug 0).m.lockedAddr 0x017FFFF8 = false ∧ (wDebug 0).m.regionOf 9 0x017FFFF8 16 = none := by decide +kernel

/-- Closed windows of three cores, of which core 1 differs; a rebuild of core 2; a core that may be rebuilt no more. -/
def wWindow : State := inMode 6 [(KLN_CLSTAT 0, 0xE1)] fun m =>
  { m with k0 := { m.k0 with dueWin := [⟨7, 8, 7, 0x100⟩] } }
def wCompare : State := inMode 6 [(KLN_CLSTAT 0, 0xE1)] fun m => { m with k0 := { m.k0 with cmpWin := some ⟨7, 8, 7, 0x100⟩ } }
def wRebuild : State := inMode 6 [(KLN_CLSTAT 0, 0x72), (KLN_RBSTAT 0, 0)] fun m => { m with k0 := { m.k0 with rebuilding := true } }
def wWorn : State := inMode 3 [(KLN_CLSTAT 0, 0x72), (KLN_RBSTAT 0, 0x20000)]

theorem witness_WindowsAndRebuild : wWindow.m.dead = false ∧ (wWindow.m.kiln 0).cmpWin = none ∧
    (wWindow.m.kiln 0).dueWin = ⟨7, 8, 7, 0x100⟩ :: [] ∧ (wCompare.m.kiln 0).cmpWin = some ⟨7, 8, 7, 0x100⟩ ∧
    wCompare.m.actives 0 = [0, 1, 2] ∧ (wRebuild.m.kiln 0).rebuilding = true ∧ wRebuild.m.fld (KLN_CLSTAT 0) 4 3 = 2 ∧
    wRebuild.m.dead = false ∧ wWorn.m.dead = false ∧ wWorn.m.fld (KLN_RBSTAT 0) 17 16 = 2 ∧ wWorn.m.fld (KLN_CLSTAT 0) 2 0 = 2 ∧
    wWorn.m.mode = 3 ∧ wWorn.m.fld (KLN_CLSTAT 0) 4 3 ≠ 3 ∧ wWindow.m.mode ≠ 3 := by decide +kernel

/-- An injection at the last point in BENCH with RUN 0; tests that run after a reset. -/
def wInject : State := inMode 3 [(KLN_SCHCTL, 0), (VOT_INJCTL 0 1, 0xA01), (VOT_INJMASK 0 1, 0xFFFFFFFF), (DLE_CMPMASK, 1), (DLE_STAT, 0),
  (DLE_CMPINJ, 0), (KLN_CLSTAT 0, 0x18)] fun m => { m with k0 := { m.k0 with testing := true }, dle := { testing := true } }

theorem witness_InjectionTests : wInject.m.dead = false ∧ wInject.m.mode = 3 ∧ wInject.m.bit KLN_SCHCTL 0 = false ∧
    wInject.m.bit (VOT_INJCTL 0 1) 0 = true ∧ wInject.m.fld (VOT_INJCTL 0 1) 11 8 = 10 ∧
    injMask (wInject.m.fld (VOT_INJCTL 0 1) 11 8) (wInject.m.fld (VOT_INJCTL 0 1) 5 4) (wInject.m.rg (VOT_INJMASK 0 1)) ≠ 0 ∧
    wInject.m.rg DLE_CMPMASK ≠ 0 ∧ (wInject.m.kiln 0).testing = true ∧ wInject.m.dle.testing = true ∧
    wBench.m.dead = false ∧ (inMode 6).m.mode ≠ 3 ∧ (9 : Writer) ≠ 6 := by decide +kernel

/-- Telegrams of each type at the first tick of generation 0. -/
def tel (type flags : Nat) (payload : List Byte) (ofs : Nat := 0) : Tel :=
  { type := type, flags := flags, ring := 0, index := 0, tick := 9, gen := 0, ofs := ofs, payload := payload }

def wRing : State := inMode 6 [(GXP_CTL 0, 3), (GXP_STAT 0, 0xFF0000), (GXP_CAPSTAT 0, 0), (GXP_CAPLEN 0, 4096), (KLN_TICKNO, 16), (KLN_TICKNO + 4, 0)] fun m =>
  { m with gx := { enums := [0] } }
def wFull (wrap : BitVec 32) : State := inMode 6 [(GXP_CAPSTAT 0, 1), (GXP_CAPCTL 0, wrap), (GXP_CAPLEN 0, 4096)] fun m =>
  { m with gx := { capture := [(0, 4096 - 79)] } }

theorem witness_RingPortCommands : wRing.m.dead = false ∧ wRing.m.bit (GXP_CAPSTAT 0) 0 = false ∧ wRing.m.bit (GXP_CTL 0) 0 = true ∧
    Tel.ofBytes (tel 1 8 []).bytes = some (tel 1 8 []) ∧ Tel.ofBytes (tel 5 4 [0, 0, 0xFF, 0]).bytes = some (tel 5 4 [0, 0, 0xFF, 0]) ∧
    (tel 1 8 []).gen = wRing.m.gxGen ∧ Tel.ofBytes [] = none ∧ wRing.m.gxServes 0 = true ∧ 0 ∈ wRing.m.gx.enums ∧
    wRing.m.fld TMB_GXSYNC 7 0 ≠ 0 ∧ wRing.m.tickNo % wRing.m.fld TMB_GXSYNC 7 0 = 0 ∧ wRing.m.rg (GXP_CAPLEN 0) ≠ 0 ∧
    (inMode 6).m.rg (GXP_CAPLEN 3) = 0 ∧ wRing.m.gxDrives 0 = true ∧ (wFull 1).m.dead = false ∧
    (wFull 1).m.bit (GXP_CAPSTAT 0) 0 = true ∧ (wFull 1).m.captureRoom 0 < 80 ∧ (wFull 1).m.bit (GXP_CAPCTL 0) 0 = true ∧
    (wFull 0).m.bit (GXP_CAPCTL 0) 0 = false := by decide +kernel

/-- The entry of a station with a 4-byte input slot at 0, a 1-byte output slot at 0, one held action and 8 digital outputs. -/
def ent : List Byte := leBytes 16 0 ++ leBytes 4 0 ++ leBytes 2 4 ++ leBytes 2 1 ++ leBytes 4 0 ++ leBytes 14 0 ++ leBytes 1 1 ++
  leBytes 5 0 ++ leBytes 2 8 ++ leBytes 14 0
def stnCfg : StnCfg := ⟨250000, 100000, 3, 0, ent, [0xF0, 0xA0]⟩
def key : StnKey := ⟨3, 31⟩

/-- A configured entry: held outputs for tick 9, an action that is due at time 100, a pulse that ends at 200. -/
def stn : Station := { cfg := some stnCfg, joined := true, sampleTick := 9, west := true, east := false, missed := 3 }
def wStn (x : Station) : State := inMode 6 [(KLN_TICKNO, 9), (KLN_TICKNO + 4, 0)] fun m => m.setStn key x
def heldStn : Station := { stn with held := [(9, 0, [7])], acts := [⟨5, 0, 100, 2, 3, 0⟩] }
def pulseStn : Station := { stn with pulses := [⟨0, 200, 0⟩] }

/-- An action entry: AID 5 for station 0, output 0, to fire at 100. -/
def action : List Byte := leBytes 4 5 ++ leBytes 2 0 ++ leBytes 2 0 ++ leBytes 4 100 ++ leBytes 4 2
/-- A configure telegram for the entry's PATH. -/
def configure : List Byte := leBytes 4 31 ++ leBytes 4 250000 ++ leBytes 16 0 ++ ent ++ [0xF0, 0xA0]

theorem witness_StationTelegrams : (∀ g ∈ [tel 1 0 [0, 0, 0, 0], tel 2 0 [7], tel 3 0 action, tel 6 4 configure, tel 5 0 [0, 0, 0, 0],
      tel 7 0 (leBytes 44 0)], Tel.ofBytes g.bytes = some g) ∧
    (wStn stn).m.stn key = stn ∧ stn.pend = none ∧ stnCfg.gen16 = 0 ∧ keyDirect key = true ∧ stnCfg.f 20 2 = 4 ∧
    stnCfg.f 16 4 = 0 ∧ stn.cfgOf 0 = some stnCfg ∧ stnCfg.f 22 2 = 1 ∧ stnCfg.f 24 4 = 0 ∧ action.length = 16 ∧
    fieldAt action 4 2 = stnCfg.f 0 2 ∧ stnCfg.f 2 1 = 0 ∧ fieldAt action 13 1 = 0 ∧ stnCfg.f 42 1 = 1 ∧
    0 < diff32 (fieldAt action 8 4) 99 ∧ ¬0 < diff32 (fieldAt action 8 4) 100 ∧ 88 ≤ configure.length ∧
    fieldAt configure 0 4 = key.path.toNat ∧ fieldAt configure 13 1 = 0 ∧ (tel 6 4 configure).flags.testBit 2 = true ∧
    (wStn {}).m.stn key = {} ∧ fieldAt (leBytes 44 0) 0 1 % 16 = 0 := by decide +kernel

theorem witness_StationInstants : (wStn heldStn).m.stn key = heldStn ∧ heldStn.cfg ≠ none ∧ stnCfg.wdog ≤ heldStn.missed ∧
    heldStn.fallen = false ∧ heldStn.held.find? (fun e => e.1 = 9) = some (9, 0, [7]) ∧ heldStn.held.find? (fun e => e.1 = 8) = none ∧
    heldStn.acts.find? (fun a => a.aid = 5) = some ⟨5, 0, 100, 2, 3, 0⟩ ∧ diff32 100 100 ≤ 0 ∧
    heldStn.earlier 0 100 0 = false ∧ (wStn pulseStn).m.stn key = pulseStn ∧ diff32 200 200 ≤ 0 ∧
    pulseStn.earlier 0 200 0 = false ∧ stn.west = true ∧ stn.east = !true := by decide +kernel

/-! ### Witnesses: the partner, the journal, the host -/

/-- A frame that the partner sends in tick 9. -/
def frame (type cls : Nat) (p : List Byte) : List Byte := frameBytes type cls 5 9 p

theorem frame_taken (type cls : Nat) (p : List Byte) (ht : type < 256) (hc : linkClass type = some cls) (hp : p.length ≤ 4104) :
    frameOf type (frame type cls p) = some (cls, 5, 9, p) :=
  frameOf_frameBytes type cls 5 9 p ht hc (by decide) (by decide) hp

/-- A module in tick 9 with its link up. -/
def linked (mode : Nat) (regs : List (Nat × Reg) := []) (f : Mach → Mach := id) : State :=
  inMode mode ([(KLN_TICKNO, 9), (KLN_TICKNO + 4, 0), (PTL_CTL, 1), (PTL_STAT, 0x130)] ++ regs) f

def recon (mode : Nat) (heard : Bool) : State := linked mode [] fun m =>
  { m with tick := { m.tick with phase := 1 }, pair := { m.pair with heard := heard } }
def digest (v : Nat) : Digest := ⟨9, v, 0, false⟩
def wDigest : State := linked 5 [] fun m => { m with pair := { m.pair with
  ownAct := some (digest 7), ownOut := some (digest 7), waitAct := true, waitOut := true } }
def zeros (n : Nat) : List Byte := List.replicate n 0

theorem witness_PartnerExchange : (recon 5 false).m.dead = false ∧ (recon 5 false).m.linkUp = true ∧
    frameOf 0x01 (frame 0x01 0 (zeros 1296)) = some (0, 5, 9, zeros 1296) ∧ (9 = (recon 5 false).m.tickNo ∧ (recon 5 false).m.tick.phase = 1) ∧
    (recon 5 false).m.reconciles = true ∧ (recon 5 false).m.pair.filled = false ∧ (recon 5 false).m.pair.heard = false ∧
    frameOf 0x02 (frame 0x02 0 []) = some (0, 5, 9, []) ∧ (recon 6 true).m.mode = 6 ∧ (recon 6 true).m.pair.heard = true ∧
    frameOf 0x03 (frame 0x03 0 (leBytes 8 80 ++ zeros 512)) = some (0, 5, 9, leBytes 8 80 ++ zeros 512) ∧
    (leBytes 8 80 ++ zeros 512).length = 8 + Mach.blockLen 80 ∧ (recon 5 true).m.tick.adopted = false ∧
    frameOf 0x04 (frame 0x04 0 (zeros 16)) = some (0, 5, 9, zeros 16) ∧ frameOf 0x05 (frame 0x05 0 (zeros 16)) = some (0, 5, 9, zeros 16) ∧
    frameOf 0x06 (frame 0x06 0 (zeros 16)) = some (0, 5, 9, zeros 16) ∧ wDigest.m.dead = false ∧ wDigest.m.linkUp = true ∧
    wDigest.m.mode = 5 ∧ wDigest.m.pair.ownAct = some (digest 7) ∧ wDigest.m.pair.waitOut = true ∧
    frameOf 0x07 (frame 0x07 0 (leBytes 8 3)) = some (0, 5, 9, leBytes 8 3) ∧ fieldAt (leBytes 8 3) 0 1 ∈ [1, 2, 3] := by
  refine ⟨?_, ?_, frame_taken _ _ _ ?_ ?_ ?_, ?_, ?_, ?_, ?_, frame_taken _ _ _ ?_ ?_ ?_, ?_, ?_, frame_taken _ _ _ ?_ ?_ ?_, ?_, ?_,
    frame_taken _ _ _ ?_ ?_ ?_, frame_taken _ _ _ ?_ ?_ ?_, frame_taken _ _ _ ?_ ?_ ?_, ?_, ?_, ?_, ?_, ?_, frame_taken _ _ _ ?_ ?_ ?_,
    ?_⟩ <;> decide +kernel

/-- The standby's own commit record of tick 9, and a primary's that waits for its confirmation. -/
def commit : Commit := ⟨9, zeros 64, [], [], [], 0, 0, false, false, false⟩
def order : PendOrder := ⟨1, 9, zeros 16, 7, 3, false, false, false, false⟩
/-- A commit stream of one part, and an ORDER of accession 1 with 4 bytes. -/
def stream : List Byte := leBytes 4 0 ++ leBytes 4 64 ++ zeros 60 ++ [1, 0, 0, 0]
def orderMsg : List Byte := leBytes 8 0 ++ leBytes 4 1 ++ leBytes 8 0 ++ leBytes 2 3183 ++ leBytes 2 4 ++ zeros 4 ++ leBytes 8 1 ++
  zeros 28

theorem witness_ReplicatedJournal : (linked 5).m.dead = false ∧ (linked 5).m.linkUp = true ∧ (linked 5).m.mode = 5 ∧
    frameOf 0x10 (frame 0x10 1 stream) = some (1, 5, 9, stream) ∧ fieldAt stream 0 4 = 0 ∧ 64 ≤ (stream.drop 8).length ∧
    fieldAt stream 4 4 = (stream.drop 8).length ∧ 9 = (linked 5).m.tickNo ∧ fieldAt (stream.drop 8) 60 4 ≠ fieldAt commit.header 60 4 ∧
    frameOf 0x11 (frame 0x11 1 (leBytes 8 1)) = some (1, 5, 9, leBytes 8 1) ∧ fieldAt (leBytes 8 1) 0 1 = 1 ∧
    fieldAt (leBytes 8 1) 4 4 = fieldAt commit.header 60 4 ∧ (linked 6).m.solo = false ∧
    frameOf 0x20 (frame 0x20 2 orderMsg) = some (2, 5, 9, orderMsg) ∧
    fieldAt (orderMsg.drop 8) 0 1 = 1 ∧ (orderMsg.drop 8).length = 52 + fieldAt (orderMsg.drop 8) 14 2 ∧
    fieldAt (orderMsg.drop 8) 12 2 = 3183 ∧ fieldAt (orderMsg.drop 8) 20 8 = 1 ∧ (linked 5).m.accLive 1 = false ∧ (linked 5).m.jrn.pend = [] ∧
    frameOf 0x21 (frame 0x21 2 (leBytes 8 3)) = some (2, 5, 9, leBytes 8 3) ∧ (linked 6).m.actsPrimary = true ∧
    order.mseq = fieldAt (leBytes 8 3) 0 4 ∧ (linked 6).m.recCell order.n < 3184 ∧ (linked 6).m.recLen order.n ≤ 256 := by
  refine ⟨?_, ?_, ?_, frame_taken _ _ _ ?_ ?_ ?_, ?_, ?_, ?_, ?_, ?_, frame_taken _ _ _ ?_ ?_ ?_, ?_, ?_, ?_, frame_taken _ _ _ ?_ ?_ ?_,
    ?_, ?_, ?_, ?_, ?_, ?_, frame_taken _ _ _ ?_ ?_ ?_, ?_, ?_, ?_, ?_⟩ <;> decide +kernel

/-- A whole Catalogue of no bytes, one force item, a client state with its key, an output block. -/
def imagePart : List Byte := zeros 8 ++ leBytes 8 1
def forcePart : List Byte := zeros 4 ++ leBytes 4 1 ++ zeros 16
def sessionPart : List Byte := leBytes 2 1 ++ zeros 2 ++ leBytes 4 255 ++ zeros 4 ++ leBytes 4 44 ++ zeros 44
def outPart : List Byte := leBytes 8 79 ++ zeros 1024
def sentFrame (again : Nat) : SentFrame := ⟨4, 5, again, []⟩

theorem witness_ReplicatedChanges : (linked 5).m.dead = false ∧ (linked 5).m.linkUp = true ∧
    frameOf 0x30 (frame 0x30 3 imagePart) = some (3, 5, 9, imagePart) ∧ 16 ≤ imagePart.length ∧ fieldAt imagePart 8 1 = 1 ∧
    fieldAt imagePart 0 4 = 0 ∧ fieldAt imagePart 4 4 = (imagePart.drop 16).length ∧
    frameOf 0x31 (frame 0x31 3 forcePart) = some (3, 5, 9, forcePart) ∧ fieldAt forcePart 4 2 = 1 ∧ forcePart.length = 24 ∧
    frameOf 0x32 (frame 0x32 3 sessionPart) = some (3, 5, 9, sessionPart) ∧ fieldAt sessionPart 0 2 = 1 ∧ sessionPart.length = 60 ∧
    fieldAt sessionPart 8 4 = 0 ∧ fieldAt sessionPart 12 4 = 44 ∧
    frameOf 0x33 (frame 0x33 3 outPart) = some (3, 5, 9, outPart) ∧ outPart.length = 1032 ∧ fieldAt outPart 0 2 = 79 ∧
    frameOf 0x7F (frameBytes 0x7F 4 5 9 (leBytes 4 5)) = some (4, 5, 9, leBytes 4 5) ∧
    [sentFrame 2].find? (fun x => x.cls = 4 ∧ x.mseq = 5) = some (sentFrame 2) ∧ (linked 4).m.fld PTL_STAT 5 4 = 3 ∧
    (linked 4).m.pair.serveCut = none ∧ (linked 4).m.bit PTL_CTL 0 = true ∧ (linked 4).m.mpu = [] ∧ (linked 4).m.tick.outBuf ≤ 1 := by
  refine ⟨?_, ?_, frame_taken _ _ _ ?_ ?_ ?_, ?_, ?_, ?_, ?_, frame_taken _ _ _ ?_ ?_ ?_, ?_, ?_, frame_taken _ _ _ ?_ ?_ ?_, ?_, ?_, ?_, ?_,
    frame_taken _ _ _ ?_ ?_ ?_, ?_, ?_, ?_, ?_, ?_, ?_, ?_, ?_, ?_⟩ <;> decide +kernel

/-- A REQ and an acceptance, the last page of Kiln SRAM, the last MIRROR word, and a cut. -/
def reqPart (flags : Nat) : List Byte := leBytes 2 1 ++ leBytes 1 flags ++ zeros 37
def pagePart : List Byte := leBytes 6 0x017FF000 ++ zeros 4098
def mirrorPart : List Byte := leBytes 4 0x3FFFF8 ++ zeros 8
def cutPart : List Byte := leBytes 8 10 ++ zeros 4092 ++ leBytes 4 (crc32c (zeros 4092))
def rejoining (accepted : Bool) : State := linked 4 [] fun m => { m with pair := { m.pair with accepted := accepted } }

set_option maxRecDepth 100000 in
theorem cutPart_length : cutPart.length = 4104 := by decide +kernel

set_option maxRecDepth 100000 in
theorem witness_RejoinCommands : (linked 6).m.dead = false ∧ (linked 6).m.linkUp = true ∧ (linked 6).m.mode = 6 ∧
    frameOf 0x40 (frame 0x40 4 (reqPart 0)) = some (4, 5, 9, reqPart 0) ∧ fieldAt (reqPart 0) 2 1 = 0 ∧ (reqPart 0).length = 40 ∧
    frameOf 0x40 (frame 0x40 4 (reqPart 1)) = some (4, 5, 9, reqPart 1) ∧ fieldAt (reqPart 1) 2 1 = 1 ∧
    (rejoining false).m.mode = 4 ∧ (rejoining true).m.pair.accepted = true ∧
    frameOf 0x42 (frame 0x42 4 pagePart) = some (4, 5, 9, pagePart) ∧ pagePart.length = 4104 ∧ fieldAt pagePart 0 6 = 0x017FF000 ∧
    frameOf 0x41 (frame 0x41 4 mirrorPart) = some (4, 5, 9, mirrorPart) ∧ fieldAt mirrorPart 0 4 = 0x3FFFF8 ∧
    frameOf 0x43 (frame 0x43 4 cutPart) = some (4, 5, 9, cutPart) ∧ fieldAt cutPart 0 8 = (rejoining true).m.tickNo + 1 ∧
    crc32c ((cutPart.drop 8).take 4092) = fieldAt cutPart 4100 4 ∧ (inMode 7).m.mode = 7 ∧ (linked 4).m.wantMode ≠ some 7 := by
  refine ⟨?_, ?_, ?_, frame_taken _ _ _ ?_ ?_ ?_, ?_, ?_, frame_taken _ _ _ ?_ ?_ ?_, ?_, ?_, ?_, frame_taken _ _ _ ?_ ?_ ?_, ?_, ?_,
    frame_taken _ _ _ ?_ ?_ ?_, ?_, frame_taken _ _ _ ?_ ?_ ?_, ?_, ?_, ?_, ?_⟩ <;> decide +kernel

/-! ### An image -/

theorem shaRounds_length (p : ShaParams) : ∀ (ks w v : List Nat), v.length = 8 → (shaRounds p ks w v).length = 8
  | [], _, _, h => h
  | _ :: ks, _, [_, _, _, _, _, _, _, _], _ => shaRounds_length p ks _ _ rfl

theorem shaFold_length (p : ShaParams) (ks : List Nat) : ∀ (bs : List (List Byte)) (h : List Nat), h.length = 8 →
    (bs.foldl (shaBlock p ks) h).length = 8
  | [], _, h => h
  | b :: bs, h, hh => shaFold_length p ks bs _ (by simp [shaBlock, shaRounds_length _ _ _ _ hh, hh])

theorem beBytes_length (n v : Nat) : (beBytes n v).length = n := by simp [beBytes, leBytes_length]

theorem sha384_length (bs : List Byte) : (sha384 bs).length = 48 := by
  have h := shaFold_length sha512P (k512a ++ k512b)
    (chunks (2 * sha512P.w) ((shaPad sha512P bs).length / (2 * sha512P.w) + 1) (shaPad sha512P bs)) h384 (by decide)
  have : ∀ l : List Nat, (l.flatMap (beBytes 8)).length = 8 * l.length := by
    intro l; induction l with
    | nil => rfl
    | cons a l ih => simp [beBytes_length, ih]; omega
  simp only [sha384, sha, List.length_take]
  have e : sha512P.w / 8 = 8 := by decide
  rw [e, this, h]; decide

/-- An entry of a section table. -/
def sect (kind addr size off len : Nat) : List Byte :=
  leBytes 4 kind ++ leBytes 4 addr ++ leBytes 4 size ++ leBytes 4 off ++ leBytes 4 len ++ zeros 12
def imgPre : List Byte := leBytes 4 0x50564C57 ++ leBytes 2 1 ++ leBytes 2 6 ++ leBytes 8 7 ++ leBytes 4 20848 ++
  leBytes 4 250000 ++ zeros 8 ++ leBytes 4 100 ++ zeros 4 ++ leBytes 4 0x30000 ++ zeros 4 ++ leBytes 4 0x20000 ++ leBytes 4 1 ++ zeros 8
def imgMid : List Byte := zeros 16 ++ (sect 4 0x10000 64 320 16 ++ sect 5 0 0 336 0 ++ sect 6 0 0 336 0 ++
  sect 7 0 20480 368 20480 ++ sect 8 0 32 336 32 ++ sect 2 0x20000 64 336 0) ++ zeros 48
/-- A whole image of no tasks and one unit without code, with a digest. -/
def imgOf (d : List Byte) : List Byte := imgPre ++ (d ++ (imgMid ++ zeros 20480))
def img : List Byte := imgOf (sha384 (imgMid.drop 16 ++ zeros 20480))
def imgShort : List Byte := imgPre ++ (zeros 48 ++ imgMid)

theorem zeros_length (n : Nat) : (zeros n).length = n := List.length_replicate
theorem imgPre_length : imgPre.length = 64 := by decide +kernel
theorem imgMid_length : imgMid.length = 256 := by decide +kernel
theorem img_digest_length : (sha384 (imgMid.drop 16 ++ zeros 20480)).length = 48 := sha384_length _

theorem imgOf_bytes (d : List Byte) (hd : d.length = 48) (o n : Nat) (h : o + n ≤ 64 ∨ 112 ≤ o ∧ o + n ≤ 368) :
    ((imgOf d).drop o).take n = (imgShort.drop o).take n := by
  unfold imgOf imgShort
  obtain h | ⟨h, h'⟩ := h
  · rw [List.drop_append_of_le_length (by rw [imgPre_length]; omega), List.drop_append_of_le_length (by rw [imgPre_length]; omega),
      List.take_append_of_le_length (by simp [imgPre_length]; omega), List.take_append_of_le_length (by simp [imgPre_length]; omega)]
  · have e : ∀ x y : List Byte, x.length = 48 → (imgPre ++ (x ++ y)).drop o = y.drop (o - 112) := by
      intro x y hx
      rw [← List.append_assoc, List.drop_append, List.drop_eq_nil_of_le (by simp [imgPre_length, hx]; omega)]
      simp [imgPre_length, hx]
    rw [e _ _ hd, e _ _ (by simp [zeros]), List.drop_append_of_le_length (by rw [imgMid_length]; omega),
      List.take_append_of_le_length (by simp [imgMid_length]; omega)]

theorem img_bytes (o n : Nat) (h : o + n ≤ 64 ∨ 112 ≤ o ∧ o + n ≤ 368) : (img.drop o).take n = (imgShort.drop o).take n :=
  imgOf_bytes _ img_digest_length o n h

theorem img_field (o n : Nat) (h : o + n ≤ 64 ∨ 112 ≤ o ∧ o + n ≤ 368) : fieldAt img o n = fieldAt imgShort o n := by
  unfold fieldAt; rw [img_bytes o n h]

theorem img_length : img.length = 20848 := by
  unfold img imgOf
  simp only [List.length_append, imgPre_length, imgMid_length, sha384_length, zeros_length]

theorem img_section (k : Nat) (hk : k < 6) : imgSection img k = imgSection imgShort k := by
  simp only [imgSection]
  simp (disch := omega) only [img_field]

theorem img_sections : imgSections img = imgSections imgShort := by
  unfold imgSections
  rw [img_field 6 2 (by omega), show fieldAt imgShort 6 2 = 6 by decide +kernel]
  refine List.map_congr_left fun k hk => ?_
  have : k < 6 := by revert hk; simp [countFrom]; omega
  exact img_section k this

theorem imgCheck2_img : imgCheck2 img = true := by
  have hs : ∀ k < 6, sectOk img k = sectOk imgShort k := by
    intro k hk
    unfold sectOk
    simp only
    rw [img_section k hk, img_field _ 2 (by omega), img_field _ 12 (by omega), img_field 16 4 (by omega)]
  have hh : headOk img = headOk imgShort := by
    unfold headOk headZero
    simp (disch := omega) only [img_field]
  have h6 : fieldAt imgShort 6 2 = 6 := by decide +kernel
  unfold imgCheck2 kindsOk
  rw [hh, img_field 6 2 (by omega), img_field 36 4 (by omega), img_length, img_sections, h6]
  have : (countFrom 0 6).all (sectOk img) = (countFrom 0 6).all (sectOk imgShort) := by
    show (_ && (_ && (_ && (_ && (_ && (_ && true)))))) = _
    rw [hs 0 (by omega), hs 1 (by omega), hs 2 (by omega), hs 3 (by omega), hs 4 (by omega), hs 5 (by omega)]
    rfl
  rw [this]
  decide +kernel

theorem imgCheck_img : imgCheck img = 0 := by
  have hd : (img.drop 64).take 48 = sha384 (img.drop 128) := by
    have e1 : (img.drop 64).take 48 = sha384 (imgMid.drop 16 ++ zeros 20480) := by
      unfold img imgOf
      rw [List.drop_left' imgPre_length, List.take_left' (sha384_length _)]
    have e2 : img.drop 128 = imgMid.drop 16 ++ zeros 20480 := by
      unfold img imgOf
      rw [← List.append_assoc, List.drop_append, List.drop_eq_nil_of_le (by simp [imgPre_length, sha384_length])]
      simp [imgPre_length, sha384_length, List.drop_append, imgMid_length]
    rw [e1, e2]
  unfold imgCheck
  rw [img_length, img_field 16 4 (by omega), img_field 6 2 (by omega), imgCheck2_img, hd,
    show fieldAt imgShort 16 4 = 20848 by decide +kernel, show fieldAt imgShort 6 2 = 6 by decide +kernel]
  simp

theorem kindBytes_eq (i : List Byte) (k : Nat) (x : Section) (h : sectOf (imgSections i) k = some x) :
    kindBytes i k = (i.drop x.offset).take x.clen := by
  unfold kindBytes; rw [h]; rfl

theorem kindBytes_none (i : List Byte) (k : Nat) (h : sectOf (imgSections i) k = none) : kindBytes i k = [] := by
  unfold kindBytes; rw [h]

/-- The program of the image. -/
def prog0 : Prog :=
  { gen := 1, id := 7, tickNs := 250000, catGen := 0, delta := 100, rbase := 0x30000, rlen := 0, start := 0x20000, units := 1
    unitBase := 0x10000, tasks := [], slices := [], own := zeros 20480, route := zeros 32, rdir := []
    sects := [⟨4, 0, 0x10000, 64, 320, 16⟩, ⟨5, 0, 0, 0, 336, 0⟩, ⟨6, 0, 0, 0, 336, 0⟩, ⟨7, 0, 0, 20480, 368, 20480⟩,
      ⟨8, 0, 0, 32, 336, 32⟩, ⟨2, 0, 0x20000, 64, 336, 0⟩] }

theorem progOf_short : { progOf imgShort 1 with own := zeros 20480, digest := [], bytes := [] } = prog0 := by
  have h : { progOf imgShort 1 with own := [], digest := [], bytes := [] } = { prog0 with own := [] } := by decide +kernel
  exact congrArg (fun p : Prog => { p with own := zeros 20480 }) h

theorem img_own : kindBytes img 7 = zeros 20480 := by
  rw [kindBytes_eq img 7 ⟨7, 0, 0, 20480, 368, 20480⟩ (by rw [img_sections]; decide +kernel)]
  simp only
  unfold img imgOf
  rw [← List.append_assoc, ← List.append_assoc, List.drop_left' (by simp [imgPre_length, sha384_length, imgMid_length])]
  exact List.take_of_length_le (zeros_length _).le

theorem progOf_congr (i j : List Byte) (hf : ∀ o n, o + n ≤ 64 → fieldAt i o n = fieldAt j o n) (hs : imgSections i = imgSections j)
    (h5 : kindBytes i 5 = kindBytes j 5) (h6 : kindBytes i 6 = kindBytes j 6) (h8 : kindBytes i 8 = kindBytes j 8)
    (h9 : kindBytes i 9 = kindBytes j 9) :
    progOf i 1 = { progOf j 1 with own := kindBytes i 7, digest := (i.drop 64).take 48, bytes := i } := by
  unfold progOf
  rw [hs, h5, h6, h8, h9]
  simp (disch := omega) only [hf]

theorem progOf_img : progOf img 1 = { prog0 with digest := (img.drop 64).take 48, bytes := img } := by
  have hk (k : Nat) (x : Section) (h : sectOf (imgSections imgShort) k = some x) (hx : 112 ≤ x.offset ∧ x.offset + x.clen ≤ 368) :
      kindBytes img k = kindBytes imgShort k := by
    rw [kindBytes_eq _ _ _ h, kindBytes_eq _ _ x (by rw [img_sections]; exact h)]
    exact img_bytes _ _ (by omega)
  have h4 := hk 5 ⟨5, 0, 0, 0, 336, 0⟩ (by decide +kernel) (by decide)
  have h6 := hk 6 ⟨6, 0, 0, 0, 336, 0⟩ (by decide +kernel) (by decide)
  have h8 := hk 8 ⟨8, 0, 0, 32, 336, 32⟩ (by decide +kernel) (by decide)
  have h9 : kindBytes img 9 = kindBytes imgShort 9 := by
    rw [kindBytes_none _ 9 (by rw [img_sections]; decide +kernel), kindBytes_none imgShort 9 (by decide +kernel)]
  rw [progOf_congr img imgShort (fun o n h => img_field o n (.inl h)) img_sections h4 h6 h8 h9, img_own, ← progOf_short]

theorem ownOk_zeros (n : Nat) : ownOk (zeros n) = true := by
  simp only [ownOk, zeros, List.all_eq_true, List.mem_replicate, and_imp, decide_eq_true_eq]
  rintro _ _ rfl _ _
  simp [bits]

/-- The digest and the bytes of a program play no part in the checks but the ownership table's. -/
theorem checks_digest (p : Prog) (d b : List Byte) (r : Option Prog) (t : List Byte) (cl len res : Nat) :
    let q := { p with digest := d, bytes := b }
    extentsOk q r = extentsOk p r ∧ dirOk q t = dirOk p t ∧ startOk q = startOk p ∧ builtRegions q cl = builtRegions p cl ∧
    cyclesOk q len res = cyclesOk p len res ∧ deltaOk q len = deltaOk p len := ⟨rfl, rfl, rfl, rfl, rfl, rfl⟩

theorem imgCheck7_img : imgCheck7 img { prog0 with digest := (img.drop 64).take 48, bytes := img } = true := by
  obtain ⟨-, hd, hs, hb, -, -⟩ := checks_digest prog0 ((img.drop 64).take 48) img none (kindBytes img 9) 0 0 0
  obtain ⟨-, -, -, hb1, -, -⟩ := checks_digest prog0 ((img.drop 64).take 48) img none [] 1 0 0
  unfold imgCheck7
  rw [hd, hs, hb, hb1]
  have b0 : (builtRegions prog0 0).length ≤ 12 := by decide +kernel
  have b1 : (builtRegions prog0 1).length ≤ 12 := by decide +kernel
  have s1 : startOk prog0 = true := by decide +kernel
  have ho : ownOk prog0.own = true := ownOk_zeros _
  have ht : (countFrom 0 prog0.tasks.length).all (taskOk { prog0 with digest := (img.drop 64).take 48, bytes := img }
      (kindBytes img 5)) = true := by
    rw [show prog0.tasks.length = 0 by decide +kernel]; rfl
  have hu : (countFrom 0 prog0.units).all (unitOk (kindBytes img 4)) = true := by
    have : kindBytes img 4 = kindBytes imgShort 4 := by
      rw [kindBytes_eq img 4 ⟨4, 0, 0x10000, 64, 320, 16⟩ (by rw [img_sections]; decide +kernel),
        kindBytes_eq imgShort 4 ⟨4, 0, 0x10000, 64, 320, 16⟩ (by decide +kernel)]
      exact img_bytes _ _ (by simp)
    rw [this]; decide +kernel
  have hr : dirOk prog0 (kindBytes img 9) = true := by
    unfold dirOk
    rw [show prog0.rdir = [] by decide +kernel]; rfl
  have hl : (imgSections img).all (kindLenOk img) = true := by
    have hk : ∀ x, kindLenOk img x = kindLenOk imgShort x := by
      intro x
      unfold kindLenOk
      rw [img_field 52 4 (by omega), img_field 28 2 (by omega), img_field 36 4 (by omega)]
    rw [img_sections, funext hk]; decide +kernel
  simp only [b0, b1, s1, ho, ht, hu, hr, hl, decide_true, Bool.and_self]

/-- Checks 4 to 9 pass beside an image of no extents, over an empty Catalogue. -/
theorem progCheck_img (m : Mach) (running : Option Prog) (hr : ∀ q, running = some q → q.extents = [(0, 0)])
    (hl : m.fld KLN_TICKSEL 2 0 = 1) (hm : m.mem = []) (hres : m.fld KLN_RESERVE 19 0 = 0) :
    m.progCheck img (progOf img 1) catActive running = 0 := by
  obtain ⟨hx, -, -, -, hc, hd⟩ := checks_digest prog0 ((img.drop 64).take 48) img running [] 0 1 0
  have x0 : extentsOk prog0 running = true := by
    unfold extentsOk
    cases running with
    | none => decide +kernel
    | some q =>
      show (_ && _ && prog0.extents.all fun a => q.extents.all fun b => !extMeet a b) = true
      rw [hr q rfl]; decide +kernel
  have a1 : prog0.tickNs = Mach.lenNs 1 := by decide +kernel
  have a2 : prog0.catGen = catGen [] catActive := by decide +kernel
  have a3 : prog0.tasks = [] := by decide +kernel
  have a4 : catBudget [] catActive 1 = true := by decide +kernel
  have a5 : cyclesOk prog0 1 0 = true := by decide +kernel
  have a6 : deltaOk prog0 1 = true := by decide +kernel
  have key : ∀ q : Prog, q.tickNs = Mach.lenNs 1 → q.catGen = catGen [] catActive → q.tasks = [] → extentsOk q running = true →
      imgCheck7 img q = true → cyclesOk q 1 0 = true → deltaOk q 1 = true → m.progCheck img q catActive running = 0 := by
    intro q h1 h2 h3 h4 h5 h6 h7
    unfold Mach.progCheck
    simp only [hl, hm, hres, h1, h2, h3, h4, h5, h6, h7, a4]
    simp
  rw [progOf_img]
  exact key _ a1 a2 a3 (hx.trans x0) imgCheck7_img (hc.trans a5) (hd.trans a6)

/-! ### Witnesses: the host, the program, protection, update, the rest -/

/-- A primary with client 1 in state 0, one record delivered and one free accession. -/
def wHost (f : Mach → Mach := id) : State := inMode 6 [(PTL_STAT, 0x100), (HST_CTL 0, 1), (ACJ_NEXT, 2), (ACJ_NEXT + 4, 0), (KLN_TICKNO, 9), (KLN_TICKNO + 4, 0)] fun m =>
  f { m with prog := { gen := 1 }, mem := [(0x03801000, 1), (0x03801004, 1), (0x03801006, 4), (0x0380100C, 6), (0x03900010, 4), (0x03900014, 6)] }
def hmsg (type cseq : Nat) (body : List Byte) : HostMsg :=
  ⟨false, zeros 16, 7, leBytes 2 0x4A41 ++ leBytes 1 1 ++ leBytes 1 type ++ leBytes 2 0 ++ leBytes 2 body.length ++ leBytes 4 1 ++ leBytes 4 cseq ++ body⟩
def acc (type cseq : Nat) (body : List Byte) : AccMsg := ⟨type, false, 1, cseq, body, (hmsg type cseq body).data, []⟩
def orderBody : List Byte := leBytes 2 0 ++ leBytes 2 3 ++ leBytes 4 0 ++ leBytes 3 5
def wLate : State := wHost fun m => { m with jrn := { m.jrn with pend := [⟨1, 8, zeros 16, 7, 0, false, false, false, false⟩] } }

theorem witness_HostCommands : wHost.m.dead = false ∧ wHost.m.actsPrimary = true ∧ wHost.m.bit (HST_CTL 0) 0 = true ∧
    (∀ e ∈ [(1, 7, orderBody), (5, 6, leBytes 8 1), (6, 6, [])], accParse (hmsg e.1 e.2.1 e.2.2).data = some (some (acc e.1 e.2.1 e.2.2)) ∧
      wHost.m.macOk (acc e.1 e.2.1 e.2.2) = true) ∧ wHost.m.clientOf 1 = some 0 ∧ wHost.m.clientOf 2 = none ∧
    wHost.m.cliF 0 12 4 = 6 ∧ ¬256 < fieldAt orderBody 2 2 ∧ Mach.nextCseq 6 = 7 ∧ ¬signed 32 (7 + 2 ^ 32 - 6) ≤ 0 ∧
    wHost.m.cliF 0 16 2 ≠ wHost.m.cliF 0 6 2 ∧ wHost.m.recState 2 = 0 ∧ wHost.m.freeCell ≠ none ∧
    wHost.m.mem.ldBytes (Mach.cliAt 0 + 20) 18 ≠ fixLen 16 (zeros 16) ++ leBytes 2 7 ∧
    ((wHost fun m => { m with mem := m.mem.stN 0x03801024 2 7 }).m.mem.ldBytes (Mach.cliAt 0 + 20) 18 = fixLen 16 (zeros 16) ++ leBytes 2 7) ∧
    wHost.m.accLive 1 = true ∧ 4 ≤ wHost.m.recState 1 ∧ wHost.m.mem.ldN (Mach.recordAt 1 + 1) 1 = 0 ∧
    wHost.m.recOfCseq 0 6 = some 1 ∧ (wLate.m.jrn.pend.map fun o => (wLate.m.ordered o, o.told, o.tick)) = [(false, false, 8)] ∧
    wLate.m.tickNo = 9 ∧ wLate.m.actsPrimary = true ∧ 3 ≤ (inMode 3).m.mode ∧ (inMode 3).m.trialPending = false ∧
    (let d := leBytes 4 1 ++ leBytes 2 3 ++ leBytes 2 4 ++ zeros 4
     d.length = 12 ∧ fieldAt d 6 2 ≠ 0 ∧ fieldAt d 5 1 = 0 ∧ fieldAt d 4 1 < 4) ∧
    (inMode 3 [] fun m => { m with upd := { m.upd with bcr := { m.upd.bcr with trialState := 1 } } }).m.trialPending = true := by
  decide +kernel

/-- BENCH without a change; with a load, a change, a restart and a change at its tick. -/
def change (load : Bool) : Change := ⟨{ gen := 2 }, [], load, [], [], false, false, false⟩
def wPgm (f : Pgm → Pgm) (regs : List (Nat × Reg) := []) : State :=
  inMode 3 ([(KLN_TICKSEL, 1), (KLN_CHGSTAT, 0), (KLN_RESERVE, 0), (KLN_TICKNO, 9), (KLN_TICKNO + 4, 0)] ++ regs) fun m => { m with
    prog := { gen := 1 }, pgm := f m.pgm, adm := { granted := [⟨2, 0, .copy, 0⟩, ⟨1, 0, .staging, 0⟩, ⟨2, 0, .nor, 0⟩] } }
def wSwitch : State := inMode 3 [(KLN_CHGSTAT, 5), (KLN_CHGTICK, 9), (KLN_CHGTICK + 4, 0), (KLN_TICKNO, 9), (KLN_TICKNO + 4, 0)] fun m =>
  { m with pgm := { m.pgm with change := some (change false) }, tick := { m.tick with phase := 0 } }
def wRestart : State := wPgm fun p => { p with restart := some ⟨3, false, some 9⟩ }

theorem witness_ImageChecks : (wPgm id).m.mode = 3 ∧ imgCheck img = 0 ∧
    (wPgm id).m.progCheck img (progOf img ((wPgm id).m.pgm.gens + 1)) catActive none = 0 ∧
    (wPgm id).m.progCheck img (progOf img ((wPgm id).m.pgm.gens + 1)) catActive (some (wPgm id).m.prog) = 0 :=
  ⟨by decide, imgCheck_img,
    progCheck_img _ none (by simp) (by decide +kernel) (by decide +kernel) (by decide +kernel),
    progCheck_img _ _ (fun q h => by obtain rfl := Option.some.inj h; decide +kernel) (by decide +kernel) (by decide +kernel) (by decide +kernel)⟩

theorem witness_ProgramCommands : (wPgm id).m.dead = false ∧ (wPgm id).m.mode = 3 ∧ (wPgm id).m.pgmBusy = false ∧
    (wPgm fun p => { p with change := some (change true) }).m.pgmBusy = true ∧ (inMode 6).m.mode ≠ 3 ∧ (wPgm id).m.prog.gen ≠ 0 ∧
    (wPgm id).m.pair.serving = false ∧
    (wPgm fun p => { p with change := some (change false) }).m.pgm.change = some (change false) ∧
    (wPgm fun p => { p with change := some (change true) }).m.pgm.change = some (change true) ∧
    (wPgm id).m.adm.granted.any (fun g => g.who = .staging) = true ∧ (wPgm id).m.adm.granted.any (fun g => g.who = .copy) = true ∧
    wSwitch.m.pgm.change = some (change false) ∧ wSwitch.m.chgState = 5 ∧ wSwitch.m.rg64 KLN_CHGTICK = wSwitch.m.tickNo ∧
    wSwitch.m.tick.phase = 0 ∧ (wPgm id).m.chgState ≠ 5 ∧ (wPgm id).m.restarting = false ∧ (wPgm id).m.pgm.change = none ∧
    wRestart.m.pgm.restart = some ⟨3, false, some 9⟩ ∧ 9 ≤ wRestart.m.tickNo ∧ wRestart.m.tickNo % wRestart.m.prog.rmax = 0 ∧
    wRestart.m.tick.phase = 0 := by decide +kernel

/-- An item that clears a force, one that names no kind, and a batch that waits for its tick. -/
def clear : ForceItem := ⟨1, 0, 0, 262143, 0, 0⟩
def wForce : State := wPgm fun p => { p with batches := [(9, [ForceItem.item clear])] }

theorem witness_ForcesAndScheduler : (wPgm id).m.dead = false ∧ (wPgm id).m.mode = 3 ∧ (wPgm id).m.pgm.batches = [] ∧
    (wPgm id).m.forceFail 0 [ForceItem.item clear] = none ∧ (wPgm id).m.forceFail 0 [ForceItem.item { clear with kind := 2 }] = some (0, 16) ∧
    (Mach.forceBatch ((wPgm id).m.forces, (wPgm id).m.pgm.frcGen) [ForceItem.item clear]).1.length ≤ 8192 ∧
    wForce.m.tick.phase = 0 ∧ wForce.m.pgm.batches = [(9, [clear].map ForceItem.item)] ∧ 9 ≤ wForce.m.tickNo ∧
    (inMode 3 [(KLN_SCHCTL, 0)]).m.bit KLN_SCHCTL 0 = false := by decide +kernel

/-- No region staged; a set in transition; a scrub; single errors. -/
def wMpu (c : Nat) (v : BitVec 32) : State := inMode 3 [(MPU_CSTAT c, v), (DDC_PATROL, 1), (DDC_STAT, v)] fun m => { m with ecc := [(2, .single)] }

theorem witness_ProtectionCommands : (∀ c ∈ [0, 1, 2, 9], (wMpu c 0).m.dead = false ∧ (wMpu c 0).m.bit (MPU_CSTAT c) 2 = false ∧
      (∀ n < 16, Mach.badRegion ((wMpu c 0).m.staged c n) = false) ∧ (wMpu c 4).m.bit (MPU_CSTAT c) 2 = true) ∧
    (0x10 : BitVec 48).toNat % 8 = 0 ∧ Mach.arrayOf 0x10 = some 0 ∧ Mach.arrayOf 0x13FFFFF8 = some 7 ∧
    (wMpu 2 0).m.fld DDC_PATROL 15 0 ≠ 0 ∧ tabGet Ecc.good (wMpu 2 0).m.ecc 2 = .single ∧ tabGet Ecc.good (wMpu 2 0).m.ecc 3 = .good ∧
    (wMpu 2 0).m.bit DDC_STAT 2 = false ∧ (wMpu 2 4).m.bit DDC_STAT 2 = true ∧ (wMpu 2 0).m.pfw = false ∧
    ((wMpu 2 0).m.adm.waiting ++ (wMpu 2 0).m.adm.granted).all (fun q => q.cls ≠ 7) = true := by decide +kernel

def pvReq (type len : Nat) : PvReq := ⟨false, zeros 16, 7, leBytes 2 0x5650 ++ leBytes 1 1 ++ leBytes 1 type ++ zeros (len - 4)⟩
def wProv : State := inMode 3 [(CUR_PVCFG, 0x201)]

theorem witness_ProvenanceCommands : wProv.m.dead = false ∧ wProv.m.upd.ps.length = 8 ∧ State.reset.m.mode = 1 ∧ 3 ≤ wProv.m.mode ∧
    wProv.m.bit CUR_PVCFG 0 = true ∧ wProv.m.fld CUR_PVCFG 15 8 = 2 ∧
    (if wProv.m.tick.now / 1000000000 = wProv.m.upd.pvSec then wProv.m.upd.pvCnt else 0) < 2 ∧
    ∀ e ∈ [(1, 40), (2, 8), (3, 8)], (pvReq e.1 e.2).data.length = e.2 ∧ fieldAt (pvReq e.1 e.2).data 0 2 = 0x5650 ∧
      fieldAt (pvReq e.1 e.2).data 2 1 = 1 ∧ fieldAt (pvReq e.1 e.2).data 3 1 = e.1 ∧ fieldAt (pvReq e.1 e.2).data 6 2 = 0 := by decide +kernel

/-- A header in order: parts 1, 2 and 3 of no bytes, SIZE 512 and the digest of no bytes; its key and its signature are 0. -/
def part (kind : Nat) : List Byte := leBytes 16 kind
def header (size : Nat) : List Byte := leBytes 4 0x5746474E ++ leBytes 2 1 ++ leBytes 2 3 ++ leBytes 4 0x8400 ++ leBytes 2 7 ++
  leBytes 2 7 ++ leBytes 8 256 ++ leBytes 4 size ++ zeros 12 ++ sha384 [] ++ part 1 ++ part 2 ++ part 3 ++ zeros 376

/-- The header passes its checks on a module of board revision 7 whose ROM holds a key under which its signature is good:
these are constants of the module that the model leaves open. -/
theorem witness_headerCheck (key : List Byte) (hb : Config.boardRevision = 7) (hk : Config.romKey 0 = some key)
    (hs : Config.ecdsaVerify key (sha384 ((header 512).take 256)) (((header 512).drop 256).take 96) = true) (fmt : Option Nat)
    (hf : ∀ f, fmt = some f → f = 0) : Mach.headerCheck (header 512) fmt = 0 := by
  have h1 : ¬(fieldAt (header 512) 24 4 = 0 ∨ fieldAt (header 512) 6 2 = 0) := by decide +kernel
  have h2 : Mach.headerOk (header 512) = true := by decide +kernel
  have h3 : Mach.signatureOk (header 512) = true := by
    unfold Mach.signatureOk
    rw [show fieldAt (header 512) 352 8 = 0 by decide +kernel, hk]
    exact hs
  have h4 : fieldAt (header 512) 12 2 = 7 ∧ fieldAt (header 512) 14 2 = 7 ∧ fieldAt (header 512) 22 2 = 0 := by decide +kernel
  unfold Mach.headerCheck
  rw [if_neg h1, h2, h3, hb, h4.1, h4.2.1, h4.2.2]
  cases fmt with
  | none => rfl
  | some f => rw [hf f rfl]; rfl

def wUpd (f : Upd → Upd) (regs : List (Nat × Reg) := []) (mode : Nat := 3) : State := inMode mode regs fun m =>
  { m with upd := f m.upd, adm := { granted := [⟨2, 0, .nor, 0⟩] } }
def trial (st : Nat) (b : Bcr) : Bcr := { b with trialState := st, trialSlot := 1 }

theorem witness_UpdateCommands : (wUpd id).m.dead = false ∧ 3 ≤ (wUpd id).m.mode ∧ (wUpd id).m.upd.xfer = none ∧ 1 ≠ (wUpd id).m.upd.booted ∧
    (wUpd id).m.trialPending = false ∧ Mach.headerCheck (zeros 512) none = 2 ∧ Mach.headerCheck (header 0) none ≠ 0 ∧
    ((wUpd fun u => { u with bcr := { u.bcr with b := ⟨2, 7⟩ } }).m.slotOf 1).state = 2 ∧
    ((wUpd id).m.slotOf 1).state = 0 ∧
    (let s := wUpd (fun u => { u with bcr := trial 2 u.bcr }) [(UPD_STAT, 0), (UPD_TRIAL, 0x1000000), (KLN_CLSTAT 0, 2), (KLN_CLSTAT 1, 2), (DLE_STAT, 0)]
     s.m.upd.bcr.trialState = 2 ∧ s.m.trialExpired = false ∧ s.m.trialReady = true ∧ s.m.bit UPD_TRIAL 24 = true) ∧
    (wUpd (fun u => { u with bcr := trial 2 u.bcr }) [(UPD_STAT, 0x4000)]).m.trialExpired = true ∧
    (wUpd fun u => { u with xfer := some (1, header 512) }).m.upd.xfer = some (1, header 512) ∧
    (wUpd id).m.adm.granted.any (fun g => g.who = .nor) = true ∧ sha384 [] = ((header 512).drop 40).take 48 ∧
    ([] : List Byte).length + 512 = fieldAt (header 512) 24 4 ∧ (wUpd id [] 2).m.mode = 2 ∧ (header 512).length = 512 := by decide +kernel

/-- A Ledger with records to flush, and one that flushes; a channel whose window opens at once; a group of two channels. -/
def wLedger (stat : BitVec 32) : State := inMode 3 [(LDG_STAT, stat), (LDG_HWM, 4), (LDG_HEAD, 6), (LDG_FLUSHED, 2), (SVA_WCFG 23, 0x11), (SVA_WIN 23, 0x08000100), (SVA_INJCTL 3, 0x1005), (SVA_INJCTL 2, 0x406), (SVA_INJCTL 1, 6)]

theorem witness_LedgerAndSupply : (wLedger 0).m.dead = false ∧ (wLedger 0).m.bit LDG_STAT 1 = false ∧ (wLedger 0).m.bit LDG_STAT 2 = false ∧
    (wLedger 0).m.pfw = false ∧ (((wLedger 0).m.adm.waiting ++ (wLedger 0).m.adm.granted).all fun q => q.cls ≠ 2) = true ∧
    (wLedger 0).m.rg LDG_HWM ≤ (wLedger 0).m.ledgerUnfl ∧ (inMode 3 [(LDG_HWM, 1), (LDG_HEAD, 2), (LDG_FLUSHED, 2)]).m.ledgerUnfl < 1 ∧
    (wLedger 2).m.bit LDG_STAT 1 = true ∧ (wLedger 2).m.adm.waiting = [] ∧ 1 ≤ (wLedger 0).m.fld (SVA_WCFG 23) 7 4 ∧
    (wLedger 0).m.bit (SVA_WCFG 23) 0 = true ∧ tabGet 0 (wLedger 0).m.sva.runs 23 = 0 ∧ (wLedger 0).m.fld (SVA_INJCTL 3) 12 10 = 4 ∧
    (wLedger 0).m.fld (SVA_INJCTL 3) 3 0 = 5 ∧ (wLedger 0).m.fld (SVA_INJCTL 2) 12 10 = 1 ∧ (wLedger 0).m.fld (SVA_INJCTL 2) 3 0 = 6 ∧
    (wLedger 0).m.fld (SVA_INJCTL 1) 12 10 = 0 := by decide +kernel

/-- Admission with a grant of each class that ends; a redraw that runs, that waits for temperature, and none. -/
def wAdm : State := inMode 3 [(ADM_CTL, 1), (ADM_BUDGET, 1000), (ADM_STAT, 0)] fun m => { m with
  adm := { granted := [⟨3, 3, .session, 0⟩, ⟨6, 0, .label, 0⟩] } }
def wLabel (stat : BitVec 32) : State := inMode 3 [(LBL_CTL, 1), (LBL_STAT, stat), (ADM_CTL, 1), (SVA_RES 16, 640)]

set_option maxRecDepth 100000 in
theorem witness_AdmissionAndLabel : wAdm.m.dead = false ∧ wAdm.m.pfw = false ∧ wAdm.m.adm.waiting = [] ∧
    wAdm.m.adm.granted.find? (fun g => g.cls = 6 ∧ g.port = 0) = some ⟨6, 0, .label, 0⟩ ∧
    wAdm.m.adm.granted.find? (fun g => g.cls = 3 ∧ g.port = 3) = some ⟨3, 3, .session, 0⟩ ∧ wAdm.m.bit ADM_CTL 0 = true ∧
    wAdm.m.rg ADM_BUDGET < 1001 ∧ wAdm.m.bit ADM_STAT 2 = false ∧ 999 < wAdm.m.rg ADM_BUDGET ∧
    (wLabel 0).m.labelBusy = false ∧ (wLabel 0).m.bit LBL_CTL 0 = true ∧ (wLabel 0).m.pfw = false ∧
    ((wLabel 0).m.adm.waiting ++ (wLabel 0).m.adm.granted).all (fun q => q.cls ≠ 6) = true ∧ (wLabel 1).m.labelBusy = true ∧
    (wLabel 0).m.label.picture = none ∧ (zeros 9472).length = 9472 ∧ (zeros 9472).all (fun b => [0, 1, 2, 3].all fun k => b.toNat / 4 ^ k % 4 ≠ 3) = true ∧
    (wLabel 3).m.fld LBL_STAT 2 0 = 3 ∧ (wLabel 1).m.fld LBL_STAT 2 0 = 1 ∧ (wLabel 1).m.label.slice = false ∧
    (wLabel 1).m.labelBand = some 1 ∧ (wLabel 16).m.bit LBL_STAT 4 = true ∧ (wLabel 16).m.label.next ≤ 3 := by decide +kernel

/-! ### Witnesses: the whole machine -/

theorem witness_EveryStepKeepsTheWiredRegisters : State.reset.Hardwired := by
  unfold State.Hardwired Core.Hardwired; decide +kernel

theorem witness_InstructionsKeepToTheirCluster : clusterOf (.add 0 rr) = some 0 ∧ clusterOf (.add 1 rr) = some 1 ∧
    State.reset.m.mem.wf = true ∧ DeltaInData State.reset.m := by
  unfold DeltaInData; decide +kernel

/-! ### What WellFormed refuses -/

theorem test_link_frame_too_short : Instr.wellFormed (.inputMessage (zeros 19) 0 0) = false := by decide
theorem test_link_frame_too_long : Instr.wellFormed (.lackMessage (zeros 4125)) = false := by decide +kernel
theorem test_can_frame_of_76_bytes : Instr.wellFormed (.canFrameReceive 0 (zeros 75)) = false ∧ Instr.wellFormed (.canFrameReceive 0 (zeros 76)) = true := by
  decide +kernel
theorem test_host_address_of_16_bytes : Instr.wellFormed (.hostOrder 0 ⟨false, zeros 4, 7, []⟩) = false ∧
    Instr.wellFormed (.certificate ⟨false, zeros 17, 7, []⟩) = false := by decide +kernel
theorem test_access_of_three_bytes : Instr.wellFormed (.registerWrite 0x08000000 0 3 9) = false := by decide
theorem test_debug_access_of_no_bytes : Instr.wellFormed (.debugMemoryAccess 0 0 0 none) = false ∧
    Instr.wellFormed (.debugMemoryAccess 0 0 8 (some (zeros 7))) = false := by decide
theorem test_header_of_512_bytes : Instr.wellFormed (.begin 0 (zeros 511)) = false ∧
    Instr.wellFormed (.recoveryDownload 0 (zeros 513) [] env) = false := by decide +kernel
theorem test_configuration_address : Instr.wellFormed (.configurationCommit ⟨0, [(2, 0)]⟩) = false := by decide
theorem test_image_too_long (img : List Byte) (h : 2 ^ 25 < img.length) : Instr.wellFormed (.imageLoad img []) = false := by
  show (decide (img.length ≤ 2 ^ 25) && _) = false
  rw [decide_eq_false (by omega)]; rfl

/-! ### No word spells a command -/

theorem test_no_word_spells_a_command : decodeTableWord 32 0 = none := rfl

/-! ### Values from outside the model -/

/-- The published check value of CRC-32C. -/
theorem test_crc32c : crc32c [0x31, 0x32, 0x33, 0x34, 0x35, 0x36, 0x37, 0x38, 0x39] = 0xE3069283 := by decide +kernel

/-- FIPS 180-4: the SHA-384 digest of "abc". -/
theorem test_sha384 : sha384 [0x61, 0x62, 0x63] = beBytes 48
    0xcb00753f45a35e8bb5a03d699ac65007272c32ab0eded1631a8b605a43ff5bed8086072ba1e7cc2358baeca134c825a7 := by decide +kernel

/-- RFC 4231, test case 1. -/
theorem test_hmac : hmac256 (List.replicate 20 0x0B) [0x48, 0x69, 0x20, 0x54, 0x68, 0x65, 0x72, 0x65] = beBytes 32
    0xb0344c61d8db38535ca8afceaf0bf12b881dc200c9833da726e9376c2e32cff7 := by decide +kernel

/-- The worked case of the memory chapter: Kettlemoor, cluster 0 (R384). -/
theorem test_built_regions :
    let task (k : Nat) : TaskEnt := { cl := 0, flags := 1, rate := 0, policy := 1, root := 0, top := 0x704000 + 0x4000 * k, floor := 0x700000 + 0x4000 * k, frame := 0, sidx := 0, budget := 1000 }
    (builtRegions { tasks := [task 0, task 1, task 2, task 3], rbase := 0x1000000, rlen := 1310720
                    sects := [⟨0, 1, 0x40000, 0x2FF00, 0, 0⟩, ⟨4, 1, 0x6FF00, 0x100, 0, 0⟩, ⟨2, 0, 0x400000, 0x400000, 0, 0⟩] } 0).map
        (fun r => (r.base, bits r.attr 13 8, r.attr % 64)) =
      [(0x40000, 17, 0x2D), (0x60000, 16, 0x2D), (0x400000, 22, 0x1B), (0x1000000, 20, 0x1B), (0x1100000, 18, 0x1B),
        (0x700000, 16, 0x19), (0x17E0000, 15, 0x1B), (0x17F0000, 15, 0x09)] := by decide +kernel

/-- The register that an instruction leaves in core 0. -/
def after (i : Instr) (g : List (BitVec 5 × Word)) (r : BitVec 5) : Option Word :=
  match exec i (run (coreWith g)) with
  | .next t => some ((t.core 0 0).rd r)
  | _ => none

/-- The condition bit that an instruction leaves in core 0. -/
def afterC (i : Instr) (g : List (BitVec 5 × Word)) (c : BitVec 3) : Option Bool :=
  match exec i (run (coreWith g)) with
  | .next t => some ((t.core 0 0).cb c)
  | _ => none

theorem test_add_wraps : after (.add 0 rr) [(2, 0xFFFFFFFFFFFFFFFF), (3, 2)] 1 = some 1 := by decide +kernel
theorem test_add_to_g0 : after (.add 0 ⟨0, 2, 3, 0, false⟩) [(2, 5), (3, 2)] 0 = some 0 := by decide +kernel
theorem test_mulh_of_signs : after (.mulh 0 rr) [(2, -1), (3, 5)] 1 = some (-1) := by decide +kernel
theorem test_mulhu : after (.mulhu 0 rr) [(2, -1), (3, 5)] 1 = some 4 := by decide +kernel
theorem test_div_truncates : after (.div 0 rr) [(2, -7), (3, 2)] 1 = some (-3) := by decide +kernel
theorem test_rem_takes_the_sign_of_the_dividend : after (.rem 0 rr) [(2, -7), (3, 2)] 1 = some (-1) := by decide +kernel
theorem test_addw_sign_extends : after (.addw 0 rr) [(2, 0x7FFFFFFF), (3, 1)] 1 = some 0xFFFFFFFF80000000 := by decide +kernel
theorem test_sar : after (.sar 0 rr) [(2, 0x8000000000000000), (3, 63)] 1 = some (-1) := by decide +kernel
/-- 1.5 + 2.25 = 3.75, and a tie between 1 and its successor goes to the even one. -/
theorem test_fadd : after (.fadd 0 .d rr) [(2, 0x3FF8000000000000), (3, 0x4002000000000000)] 1 = some 0x400E000000000000 := by decide +kernel
theorem test_fadd_tie : after (.fadd 0 .d rr) [(2, 0x3FF0000000000000), (3, 0x3CA0000000000000)] 1 = some 0x3FF0000000000000 := by decide +kernel
theorem test_fdiv_third : after (.fdiv 0 .d rr) [(2, 0x3FF0000000000000), (3, 0x4008000000000000)] 1 = some 0x3FD5555555555555 := by decide +kernel
theorem test_fsqrt_two : after (.fsqrt 0 .d ⟨1, 2, 0, 0, false⟩) [(2, 0x4000000000000000)] 1 = some 0x3FF6A09E667F3BCD := by decide +kernel

/-- A byte of memory, and a register, after an instruction over some memory. -/
def afterM (i : Instr) (g : List (BitVec 5 × Word)) (mem : Memory) : State :=
  match exec i (run (coreWith g) fun m => { m with mem := mem }) with
  | .next t => t
  | _ => State.reset

theorem test_ldb_sign_extends : ((afterM (.ldb 0 ⟨1, 2, 0xFFFF⟩) [(2, 0x5001)] [(0x5000, 0x80)]).core 0 0).rd 1 = 0xFFFFFFFFFFFFFF80 := by
  decide +kernel
theorem test_ldwu_little_endian : ((afterM (.ldwu 0 ⟨1, 2, 0⟩) [(2, 0x5000)] [(0x5000, 1), (0x5003, 0x80)]).core 0 0).rd 1 = 0x80000001 := by
  decide +kernel
theorem test_sth_writes_two_bytes : (let t := afterM (.sth 0 ⟨1, 2, 0⟩) [(1, 0x123456), (2, 0x5002)] []
    (readAddr 0 0x5002, (countFrom 0 4).map fun k => t.m.mem.ld8 (0x5001 + k)) = (0x5002, [0, 0x56, 0x34, 0])) := by decide +kernel

end Sys2Proof.Tests
end

section
/-! SUPPORT. Register writes: what a plain write stores, which registers take a plain write and start nothing, and
how far a write gets before it reaches its register (R5 to R8, R13, R61, R381, R422). -/

namespace Sys2Proof.Machine

/-! ### What a plain write stores (R7, R61) -/

/-- The bits that a mask of one field leaves of a number. -/
theorem and_fm (x hi lo : Nat) : x &&& fm hi lo = bits x hi lo * 2 ^ lo := by
  refine Nat.eq_of_testBit_eq fun i => ?_
  rw [Nat.testBit_and, fm, Nat.testBit_mul_two_pow, Nat.testBit_mul_two_pow, Nat.testBit_two_pow_sub_one, testBit_bits]
  by_cases h : lo ≤ i
  · simp [h, show lo + (i - lo) = i by omega, Bool.and_comm]
  · simp [h]

namespace Mach

/-- A write that may change a register of one RW field replaces that field. -/
theorem stored_field (m : Mach) (r : RegRow) (a v hi lo : Nat) (open_ : Bool) (hrw : r.rw = fm hi lo)
    (hw1c : r.w1c = 0) (hopen : open_ = true ∨ r.bench = 0) :
    m.stored r a v open_ = putBits (m.rg a) hi lo (bits v hi lo) := by
  have hmask : (if open_ then r.rw else r.rw - (r.rw &&& r.bench)) = fm hi lo := by
    rcases hopen with h | h <;> simp [h, hrw]
  have hcut : bits v hi lo % 2 ^ (hi - lo + 1) = bits v hi lo := Nat.mod_mod _ _
  simp [stored, putBits, hmask, hw1c, and_fm, hcut]

/-- A write of a register all of whose fields are BENCH fields leaves it as it is where BENCH is missing. -/
theorem stored_benchClosed (m : Mach) (r : RegRow) (a v : Nat) (hbench : r.bench = r.rw) (hw1c : r.w1c = 0) :
    m.stored r a v false = m.rg a := by
  simp [stored, hbench, hw1c]

/-- A value that a register of one RW field may take is put into that field. -/
theorem plainWrite_field (m : Mach) (r : RegRow) (a v w hi lo : Nat) (hrw : r.rw = fm hi lo) (hw1c : r.w1c = 0)
    (hopen : m.benchOpen w = true ∨ r.bench = 0) (hgood : m.valueBad a v = none) :
    m.plainWrite r a v w = (true, m.setFld a hi lo (bits v hi lo)) := by
  have hrec : ¬((!m.benchOpen w) = true ∧ (m.rg a ^^^ v) &&& r.bench ≠ 0) := by
    rcases hopen with h | h <;> simp [h]
  simp only [plainWrite, hopen, if_true, hgood, if_neg hrec, stored_field m r a v hi lo _ hrw hw1c hopen, setFld]

/-- A refused value leaves a record and nothing else (R13, R422). -/
theorem plainWrite_refused (m : Mach) (r : RegRow) (a v w code : Nat)
    (hopen : m.benchOpen w = true ∨ r.bench = 0) (hbad : m.valueBad a v = some code) :
    m.plainWrite r a v w = (false, m.refuse code w a v) := by
  simp only [plainWrite, hopen, if_true, hbad]

/-- Where BENCH is missing, a register all of whose fields are BENCH fields keeps its value; a record of the refusal
may have been written before (R61). -/
theorem plainWrite_benchClosed (m : Mach) (r : RegRow) (a v w : Nat) (hbench : r.bench = r.rw) (hsome : r.bench ≠ 0)
    (hw1c : r.w1c = 0) (hclosed : m.benchOpen w = false) :
    ∃ m', LedgerFrame m m' ∧ (m.plainWrite r a v w).2 = m'.wr a (m.rg a) := by
  refine ⟨if (!m.benchOpen w) = true ∧ (m.rg a ^^^ v) &&& r.bench ≠ 0 then m.refuse 0x0C00 w a v else m, ?_, ?_⟩
  · split
    · exact ledger_frame m _ _ _ _ _
    · exact LedgerFrame.refl m
  · simp [plainWrite, hclosed, hsome, stored_benchClosed m r a v hbench hw1c]

/-- BENCH opens the BENCH fields for the debugger in BENCH only (R61). -/
theorem benchOpen_debugger (m : Mach) : m.benchOpen (9 : Writer).val = decide (m.mode = 3) := by
  simp [benchOpen]

/-- A register that no Ledger record changes. -/
theorem LedgerFrame.rg_notMem {m m' : Mach} (h : LedgerFrame m m') {a : Nat} (ha : a ∉ ledgerRegs) :
    m'.rg a = m.rg a := by
  simp only [ledgerRegs, List.mem_cons, List.not_mem_nil, or_false, not_or] at ha
  obtain ⟨hhead, hflushed, hlost, hsup, hstat⟩ := ha
  exact h.rg a hhead hflushed hlost hsup hstat

end Mach

/-! ### Which registers a statement's frame keeps -/

/-- A field changes its own register only. -/
theorem keepsRegs_setFld (s : State) (a hi lo v : Nat) : KeepsRegs s { s with m := s.m.setFld a hi lo v } [a] :=
  fun b hb _ => Mach.rg_setFld_other s.m a hi lo v b (by simpa using hb)

/-- What a Ledger record leaves keeps every register. -/
theorem keepsRegs_of_ledgerFrame (s : State) {m : Mach} (h : Mach.LedgerFrame s.m m) :
    KeepsRegs s { s with m := m } [] :=
  fun _ _ hb => h.rg_notMem hb

/-- A register written with its own value after a Ledger record keeps every register. -/
theorem keepsRegs_wr_self (s : State) {m : Mach} (h : Mach.LedgerFrame s.m m) (a : Nat) :
    KeepsRegs s { s with m := m.wr a (s.m.rg a) } [] := by
  intro b _ hb
  by_cases hba : b = a
  · subst hba
    exact (Mach.rg_wr_same m b _).trans (Nat.mod_eq_of_lt (Mach.rg_lt s.m b))
  · exact (Mach.rg_wr_other m a _ b hba).trans (h.rg_notMem hb)

/-! ### Registers with a plain write -/

/-- The register at `a` has the row `r`, a master other than the Curator writes it, no rule of its own stands in the way
of a plain write of it, and such a write starts nothing. -/
structure PlainReg (a : Nat) (r : RegRow) : Prop where
  row    : regRow? a = some r
  anyone : curatorOnly a = false
  region : mpuReg? a = none
  notLo  : isLo a = false
  notHi  : isLo (a - 4) = false
  single : a ∉ [TMB_ADDEND + 4, KLN_SCHCTL, KLN_TICKSEL, LBL_LUTDATA, CUR_WDOG]
  notRtc : a / 0x10000 ≠ 0x080C
  notInj : nthReg (VOT_INJCTL 0 0) 0x4000 4 a = none
  after  : ∀ m v, Mach.afterWrite m a v = m
  starts : ∀ s v w, State.writeStarts s a v w = s

/-- A write of such a register is the plain write. -/
theorem State.regPut_plain {a : Nat} {r : RegRow} (h : PlainReg a r) (s : State) (v : Nat) (w : Writer) :
    s.regPut a v w = { s with m := (s.m.plainWrite r a v w).2 } := by
  have hsingle := h.single
  simp only [List.mem_cons, List.not_mem_nil, or_false, not_or] at hsingle
  obtain ⟨haddend, hschctl, hticksel, hlut, hwdog⟩ := hsingle
  simp only [State.regPut, h.row, h.anyone, h.region, h.notLo, h.notHi, haddend, hschctl, hticksel, h.notRtc, hlut,
    h.notInj, hwdog, h.after, h.starts, decide_false, Bool.false_and, Bool.false_eq_true, Option.isSome_none,
    false_and, if_false, ite_self]

/-- A register of the Curator takes no write of another master (R213, R306, R418, R472, R491). -/
theorem State.regPut_curatorOnly {a : Nat} (ha : curatorOnly a = true) (s : State) (v : Nat) (w : Writer)
    (hw : w.val ≠ 6) : s.regPut a v w = s := by
  unfold State.regPut
  split
  · rfl
  · rw [if_pos ⟨ha, hw⟩]

/-- The row of TMB_JUMPMAX: one BENCH field (R308). -/
def jumpmaxRow : RegRow := ⟨TMB_JUMPMAX, 1, 4, 1000, fm 30 0, 0, fm 30 0⟩

/-- The row of LDG_RATE: one RW field (R447). -/
def rateRow : RegRow := ⟨LDG_RATE, 1, 4, 32, fm 15 0, 0, 0⟩

/-- TMB_JUMPMAX takes plain writes. -/
theorem plainReg_jumpmax : PlainReg TMB_JUMPMAX jumpmaxRow where
  row := by decide +kernel
  anyone := by decide +kernel
  region := by decide +kernel
  notLo := by decide +kernel
  notHi := by decide +kernel
  single := by decide
  notRtc := by decide
  notInj := by decide
  after _ _ := rfl
  starts _ _ _ := rfl

/-- LDG_RATE takes plain writes. -/
theorem plainReg_rate : PlainReg LDG_RATE rateRow where
  row := by decide +kernel
  anyone := by decide +kernel
  region := by decide +kernel
  notLo := by decide +kernel
  notHi := by decide +kernel
  single := by decide
  notRtc := by decide
  notInj := by decide
  after _ _ := rfl
  starts _ _ _ := rfl

/-- TMB_JUMPMAX refuses no value. -/
theorem Mach.valueBad_jumpmax (m : Mach) (v : Nat) : m.valueBad TMB_JUMPMAX v = none := rfl

/-- LDG_RATE refuses 0 and nothing else (R447). -/
theorem Mach.valueBad_rate (m : Mach) (v : Nat) :
    m.valueBad LDG_RATE v = if bits v 15 0 = 0 then some 0x0C02 else none := rfl

/-! ### How a write reaches its register -/

/-- An access that no register can answer is a bus error (R5, R8, R381). -/
theorem State.regWrite_busError (s : State) (a v size inst : Nat) (w : Writer) (hrom : a / 2 ^ 16 ≠ 0x0FFF)
    (hbad : size ≠ 4 ∨ a % 4 ≠ 0 ∨ windowSrc (a / 2 ^ 16) = none ∨ reachWindow w (a / 2 ^ 16) = false) :
    s.regWrite a v size inst w = { s with m := s.m.emit .busError } := by
  have hwin : a / 0x10000 ≠ 0x0FFF := hrom
  unfold State.regWrite
  rw [if_neg (fun h => hwin h.1)]
  by_cases hreach : a / 0x10000 = 0x0FFF ∨ (windowSrc (a / 0x10000)).isNone = true ∨
      (!reachWindow w (a / 0x10000)) = true
  · rw [if_pos hreach]; rfl
  · rw [if_neg hreach, if_pos]
    · rfl
    · simp only [not_or, Option.isNone_iff_eq_none, Bool.not_eq_true', Bool.not_eq_false] at hreach
      obtain ⟨-, hsrc, hpath⟩ := hreach
      rcases hbad with h | h | h | h
      · exact .inl h
      · exact .inr h
      · exact absurd h hsrc
      · exact absurd (hpath.symm.trans h) (by decide)

/-- No region of class 9 stands against a register access: the default map of the debugger is its path (R383). -/
theorem Mach.regCheck_debugger (m : Mach) (inst a kind : Nat) (h : m.regionOf 9 a 16 = none) :
    m.regCheck (9 : Writer).val inst a kind = (true, m) := by
  simp [Mach.regCheck, h]

/-- An aligned word that the debugger writes into a window with registers, past every region, reaches its register. -/
theorem State.regWrite_debugger (s : State) (a v inst : Nat) (hrom : a / 2 ^ 16 ≠ 0x0FFF)
    (hsrc : windowSrc (a / 2 ^ 16) ≠ none) (halign : a % 4 = 0) (hregion : s.m.regionOf 9 a 16 = none) :
    s.regWrite a v 4 inst 9 = s.regPut (canonReg a) (v % 2 ^ 32) 9 := by
  have hwin : a / 0x10000 ≠ 0x0FFF := hrom
  have hsome : (windowSrc (a / 0x10000)).isNone = false := by simpa [Option.isSome_iff_ne_none] using hsrc
  have hreach : reachWindow (9 : Writer).val (a / 0x10000) = true := rfl
  simp only [State.regWrite, hwin, hsome, hreach, halign, s.m.regCheck_debugger inst a 1 hregion, false_and,
    Bool.not_true, Bool.false_eq_true, or_self, ne_eq, not_true_eq_false, if_false, if_true]

/-- A write command that a serving module takes, but for the words that are locked against the debugger (R391). -/
theorem execRegisterWrite_taken (a : BitVec 48) (v : BitVec 64) (size : BitVec 4) (w : Writer) (s : State)
    (hdead : s.m.dead = false) (hlock : w ≠ 9 ∨ s.m.lockedAddr a.toNat = false) :
    exec (.registerWrite a v size w) s =
      .next (s.regWrite a.toNat v.toNat size.toNat (if w.val = 9 then 2 else 0) w) := by
  have hpass : ¬((decide (w.val = 9) && s.m.lockedAddr a.toNat) = true) := by
    rcases hlock with h | h
    · simp [show w.val ≠ 9 from fun e => h (Fin.ext e)]
    · simp [h]
  show execRegisterWrite a v size w s = _
  simp only [execRegisterWrite, hdead, Bool.false_and, Bool.false_eq_true, if_false, if_neg hpass]

/-! ### The debugger's writes -/

/-- A word that the debugger writes to a register of a serving module reaches it, where no lock and no region stands
against it (R381, R383, R391). -/
theorem exec_registerWrite_debugger {a : BitVec 48} {reg : Nat} (ha : a.toNat = reg) (v : BitVec 64) (s : State)
    (hdead : s.m.dead = false) (hlock : s.m.lockedAddr a.toNat = false) (hregion : s.m.regionOf 9 a.toNat 16 = none)
    (hplace : reg / 2 ^ 16 ≠ 0x0FFF ∧ windowSrc (reg / 2 ^ 16) ≠ none ∧ reg % 4 = 0 ∧ canonReg reg = reg) :
    exec (.registerWrite a v 4 9) s = .next (s.regPut reg (v.toNat % 2 ^ 32) 9) := by
  subst ha
  obtain ⟨hrom, hsrc, halign, hcanon⟩ := hplace
  have hreach := s.regWrite_debugger a.toNat v.toNat 2 hrom hsrc halign hregion
  rw [hcanon] at hreach
  exact (execRegisterWrite_taken a v 4 9 s hdead (.inr hlock)).trans (congrArg _ hreach)

/-- A field at bit 0 of a written word. -/
theorem bits_word_low (v hi : Nat) (h : hi < 32) : bits (v % 2 ^ 32) hi 0 = v % 2 ^ (hi + 1) := by
  rw [bits, pow_zero, Nat.div_one, Nat.sub_zero, Nat.mod_mod_of_dvd _ (Nat.pow_dvd_pow 2 (by omega))]

/-- The low field of a register, after that field of a written word has been put into it. -/
theorem setFld_low_reads (s : State) (a v hi : Nat) (h : hi < 32) :
    (s.m.setFld a hi 0 (bits (v % 2 ^ 32) hi 0)).fld a hi 0 = v % 2 ^ (hi + 1) := by
  rw [Mach.fld_setFld_same _ _ _ _ _ (Nat.zero_le hi) h, bits_word_low v hi h, Nat.sub_zero, Nat.mod_mod]

/-- TMB_JUMPMAX takes a debugger's value in BENCH and keeps its own elsewhere (R61, R308). -/
theorem regPut_jumpmax (s : State) (v : Nat) :
    let t := s.regPut TMB_JUMPMAX (v % 2 ^ 32) 9
    SameCores s t ∧ if s.m.mode = 3 then t.m.fld TMB_JUMPMAX 30 0 = v % 2 ^ 31 ∧ KeepsRegs s t [TMB_JUMPMAX]
      else KeepsRegs s t [] := by
  intro t
  rw [show t = _ from State.regPut_plain plainReg_jumpmax s (v % 2 ^ 32) 9]
  refine ⟨⟨rfl, rfl, rfl⟩, ?_⟩
  split
  case isTrue hmode =>
    rw [Mach.plainWrite_field s.m _ _ _ _ 30 0 rfl rfl
      (.inl (s.m.benchOpen_debugger.trans (decide_eq_true hmode))) (s.m.valueBad_jumpmax _)]
    exact ⟨setFld_low_reads s TMB_JUMPMAX v 30 (by decide), keepsRegs_setFld s _ _ _ _⟩
  case isFalse hmode =>
    obtain ⟨m', hframe, hput⟩ := s.m.plainWrite_benchClosed jumpmaxRow TMB_JUMPMAX (v % 2 ^ 32) (9 : Writer).val rfl
      (by decide) rfl (s.m.benchOpen_debugger.trans (decide_eq_false hmode))
    rw [hput]
    exact keepsRegs_wr_self s hframe TMB_JUMPMAX

/-- LDG_RATE takes a debugger's value but 0 (R13, R447). -/
theorem regPut_rate (s : State) (v : Nat) :
    let t := s.regPut LDG_RATE (v % 2 ^ 32) 9
    SameCores s t ∧ if v % 2 ^ 16 = 0 then KeepsRegs s t []
      else t.m.fld LDG_RATE 15 0 = v % 2 ^ 16 ∧ KeepsRegs s t [LDG_RATE] := by
  intro t
  have hlow : bits (v % 2 ^ 32) 15 0 = v % 2 ^ 16 := bits_word_low v 15 (by decide)
  rw [show t = _ from State.regPut_plain plainReg_rate s (v % 2 ^ 32) 9]
  refine ⟨⟨rfl, rfl, rfl⟩, ?_⟩
  split
  case isTrue hzero =>
    rw [s.m.plainWrite_refused _ LDG_RATE _ _ 0x0C02 (.inr rfl) (by rw [Mach.valueBad_rate, hlow, if_pos hzero])]
    exact keepsRegs_of_ledgerFrame s (Mach.ledger_frame s.m _ _ _ _ _)
  case isFalse hsome =>
    rw [Mach.plainWrite_field s.m _ _ _ _ 15 0 rfl rfl (.inr rfl)
      (by rw [Mach.valueBad_rate, hlow, if_neg hsome])]
    exact ⟨setFld_low_reads s LDG_RATE v 15 (by decide), keepsRegs_setFld s _ _ _ _⟩

end Sys2Proof.Machine
end

section
open Sys2Proof Sys2Proof.Machine

/-- Settles O37: a bus error comes before any register is looked at, and a debugger's word that reaches its register
is a plain write of TMB_JUMPMAX or LDG_RATE, or meets the Curator's own CUR_WDOG. -/
theorem registerWrites : Obligations.RegisterWrites := by
  unfold Obligations.RegisterWrites
  intro a v size w s hdead hlock
  refine ⟨fun hrom hbad => ?_, ?_⟩
  · refine ⟨_, execRegisterWrite_taken a v size w s hdead hlock, State.regWrite_busError s _ _ _ _ w hrom ?_⟩
    exact hbad.imp_left fun h e => h (BitVec.eq_of_toNat_eq e)
  · rintro rfl rfl hregion
    have hopen : s.m.lockedAddr a.toNat = false := hlock.resolve_left (fun h => h rfl)
    refine ⟨fun ha => ?_, fun ha => ?_, fun ha => ?_⟩
    · exact ⟨_, exec_registerWrite_debugger ha v s hdead hopen hregion (by decide), regPut_jumpmax s v.toNat⟩
    · exact ⟨_, exec_registerWrite_debugger ha v s hdead hopen hregion (by decide), regPut_rate s v.toNat⟩
    · exact ⟨_, exec_registerWrite_debugger ha v s hdead hopen hregion (by decide),
        State.regPut_curatorOnly (by decide) s _ 9 (by decide)⟩
end

section
/-! SUPPORT. The instant of a module, which no instruction of a program moves: its mode, plant time and the phase of
its tick (R33, R158). One lemma for each operation that the instructions share, in the order of their definitions. -/

namespace Sys2Proof.Machine

/-- The register of the mode (R33), plant time and the phase of the tick. -/
structure Instant where
  modeReg : Nat
  now : Nat
  phase : Nat

/-- A fold keeps what each of its steps keeps. -/
theorem foldl_keeps {α β γ : Type} (g : β → γ) {f : β → α → β} (h : ∀ b x, g (f b x) = g b) (l : List α) (b : β) :
    g (l.foldl f b) = g b :=
  List.foldlRecOn l f (motive := fun r => g r = g b) rfl fun r hr x _ => (h r x).trans hr

namespace Mach

/-- The instant at which a module stands. -/
def instant (m : Mach) : Instant := ⟨m.rg CUR_MODE, m.tick.now, m.tick.phase⟩

theorem eq_of_instant {m m' : Mach} (h : m'.instant = m.instant) :
    m'.mode = m.mode ∧ m'.tick.now = m.tick.now ∧ m'.tick.phase = m.tick.phase := by
  simp only [instant, Instant.mk.injEq] at h
  obtain ⟨hm, hn, hp⟩ := h
  exact ⟨by simp only [mode, fld, hm], hn, hp⟩

/-- The instant is a matter of the registers and the tick alone. -/
theorem instant_congr {m m' : Mach} (hr : m'.regs = m.regs) (ht : m'.tick = m.tick) : m'.instant = m.instant := by
  simp only [instant, rg, hr, ht]

/-! ### Registers -/

@[simp] theorem instant_wr (m : Mach) (a v : Nat) (h : a ≠ CUR_MODE) : (m.wr a v).instant = m.instant := by
  simp only [instant, rg_wr_other _ _ _ _ h.symm]; rfl

@[simp] theorem instant_setFld (m : Mach) (a hi lo v : Nat) (h : a ≠ CUR_MODE) :
    (m.setFld a hi lo v).instant = m.instant := instant_wr _ _ _ h

@[simp] theorem instant_setBit (m : Mach) (a k : Nat) (v : Bool) (h : a ≠ CUR_MODE) :
    (m.setBit a k v).instant = m.instant := instant_wr _ _ _ h

@[simp] theorem instant_incFld (m : Mach) (a hi lo : Nat) (h : a ≠ CUR_MODE) :
    (m.incFld a hi lo).instant = m.instant := instant_wr _ _ _ h

@[simp] theorem instant_wr64 (m : Mach) (a v : Nat) (h : a ≠ CUR_MODE) (h' : a + 4 ≠ CUR_MODE) :
    (m.wr64 a v).instant = m.instant := by rw [wr64, instant_wr _ _ _ h', instant_wr _ _ _ h]

/-! The registers that instructions write are not the register of the mode. -/

@[simp] theorem tstat_ne_mode (n : Nat) : KLN_TSTAT n ≠ CUR_MODE := by simp only [KLN_TSTAT, CUR_MODE]; omega
@[simp] theorem tflt_ne_mode (n : Nat) : KLN_TFLT n ≠ CUR_MODE := by simp only [KLN_TFLT, CUR_MODE]; omega
@[simp] theorem clstat_ne_mode (cl : Nat) : KLN_CLSTAT cl ≠ CUR_MODE := by simp only [KLN_CLSTAT, CUR_MODE]; omega
@[simp] theorem divcnt_ne_mode (cl : Nat) : KLN_DIVCNT cl ≠ CUR_MODE := by simp only [KLN_DIVCNT, CUR_MODE]; omega
@[simp] theorem divlast_ne_mode (cl : Nat) : KLN_DIVLAST cl ≠ CUR_MODE := by simp only [KLN_DIVLAST, CUR_MODE]; omega
@[simp] theorem dbgstat_ne_mode (cl : Nat) : KLN_DBGSTAT cl ≠ CUR_MODE := by simp only [KLN_DBGSTAT, CUR_MODE]; omega
@[simp] theorem discnt_ne_mode (cl v : Nat) : VOT_DISCNT cl v ≠ CUR_MODE := by
  simp only [VOT_DISCNT, votBase, CUR_MODE]; omega
@[simp] theorem lastaddr_ne_mode (cl v : Nat) : VOT_LASTADDR cl v ≠ CUR_MODE := by
  simp only [VOT_LASTADDR, votBase, CUR_MODE]; omega
@[simp] theorem lastaddr_hi_ne_mode (cl v : Nat) : VOT_LASTADDR cl v + 4 ≠ CUR_MODE := by
  simp only [VOT_LASTADDR, votBase, CUR_MODE]; omega
@[simp] theorem vinfo_ne_mode (c : Nat) : MPU_VINFO c ≠ CUR_MODE := by simp only [MPU_VINFO, CUR_MODE]; omega
@[simp] theorem vaddr_ne_mode (c : Nat) : MPU_VADDR c ≠ CUR_MODE := by simp only [MPU_VADDR, CUR_MODE]; omega
@[simp] theorem vaddr_hi_ne_mode (c : Nat) : MPU_VADDR c + 4 ≠ CUR_MODE := by simp only [MPU_VADDR, CUR_MODE]; omega
@[simp] theorem ecccnt_ne_mode (n : Nat) : DDC_ECCCNT n ≠ CUR_MODE := by simp only [DDC_ECCCNT, CUR_MODE]; omega

/-- The state register of a voter instance; its neighbours lie beyond the mode only for clusters that the module does
not have. -/
theorem votstat_ne_mode (cl : Fin 2) (v : Nat) (hv : v < 2) : VOT_STAT cl v ≠ CUR_MODE := by
  simp only [VOT_STAT, votBase, CUR_MODE]; omega

/-! ### The Ledger, memory and its check states, the link -/

@[simp] theorem instant_ledger (m : Mach) (code src arg0 arg1 arg2 : Nat) :
    (m.ledger code src arg0 arg1 arg2).instant = m.instant := by
  rw [instant, rg_ledger _ _ _ _ _ _ _ (by decide) (by decide) (by decide) (by decide) (by decide), ledger_tick]; rfl

@[simp] theorem instant_putWords (m : Mach) (a : Nat) (bs : List Byte) : (m.putWords a bs).instant = m.instant := rfl

@[simp] theorem instant_eccRecord (m : Mach) (a cls : Nat) (poison patrol : Bool) :
    (m.eccRecord a cls poison patrol).instant = m.instant := by
  unfold eccRecord
  dsimp only
  rw [instant_ledger, instant_wr _ _ _ (by decide), instant_wr64 _ _ _ (by decide) (by decide),
    instant_incFld _ _ _ _ (ecccnt_ne_mode _)]

@[simp] theorem instant_eccReadWord (m : Mach) (a cls : Nat) : (m.eccReadWord a cls).2.2.instant = m.instant := by
  unfold eccReadWord
  split
  · rfl
  · exact (instant_congr rfl rfl).trans (instant_incFld m _ _ _ (ecccnt_ne_mode _))
  · exact instant_eccRecord m a cls false false
  · exact instant_eccRecord m a cls true false

@[simp] theorem instant_eccRead (m : Mach) (a n cls : Nat) : (m.eccRead a n cls).2.2.instant = m.instant := by
  unfold eccRead
  refine foldl_keeps (fun r : Nat × Bool × Mach => r.2.2.instant) ?_ _ _
  rintro ⟨_, _, m⟩ w
  exact instant_eccReadWord m (8 * w) cls

@[simp] theorem instant_eccWriteWord (m : Mach) (w cls : Nat) (whole : Bool) :
    (m.eccWriteWord w cls whole).instant = m.instant := by
  unfold eccWriteWord
  split
  · rfl
  · split
    · rfl
    · exact (instant_congr rfl rfl).trans (instant_incFld m _ _ _ (ecccnt_ne_mode _))
    · exact (instant_congr rfl rfl).trans (instant_eccRecord m _ cls false false)
    · exact instant_eccRecord m _ cls true false

@[simp] theorem instant_store (m : Mach) (a : Nat) (bs : List Byte) (cls : Nat) :
    (m.store a bs cls).instant = m.instant :=
  (instant_congr rfl rfl).trans (foldl_keeps instant (fun m w => instant_eccWriteWord m w cls _) _ m)

@[simp] theorem instant_sendLink (m : Mach) (type : Nat) (payload : List Byte) :
    (m.sendLink type payload).instant = m.instant := by
  unfold sendLink; split <;> rfl

@[simp] theorem instant_notice (m : Mach) (reason : Nat) : (m.notice reason).instant = m.instant := by
  unfold notice; split
  · exact instant_sendLink m _ _
  · rfl

/-! ### Clusters -/

@[simp] theorem instant_setKiln (m : Mach) (cl : Nat) (k : Kiln) : (m.setKiln cl k).instant = m.instant :=
  instant_congr (setKiln_regs m cl k) (by unfold setKiln; split <;> rfl)

@[simp] theorem instant_modKiln (m : Mach) (cl : Nat) (f : Kiln → Kiln) : (m.modKiln cl f).instant = m.instant :=
  instant_setKiln m cl _

@[simp] theorem instant_showFiring (m : Mach) : m.showFiring.instant = m.instant := by simp [showFiring]

@[simp] theorem instant_fence (m : Mach) (cl k src iaddr daddr : Nat) :
    (m.fence cl k src iaddr daddr).instant = m.instant := by simp [fence]

theorem instant_voteShow (m : Mach) (cl : Fin 2) (flag pattern minority : Nat) :
    (m.voteShow cl flag pattern minority).instant = m.instant := by
  have h0 := votstat_ne_mode cl 0 (by omega)
  have h1 := votstat_ne_mode cl 1 (by omega)
  unfold voteShow
  by_cases hf : flag = 2 <;> simp [hf, h0, h1]

@[simp] theorem instant_restoreDelta (m : Mach) : m.restoreDelta.instant = m.instant := by
  exact foldl_keeps instant (f := fun m (e : Nat × Word) => m.putWords (8 * e.1) (leBytes 8 e.2.toNat))
    (fun m _ => instant_putWords m _ _) m.tick.delta m

@[simp] theorem instant_undoTick (m : Mach) : m.undoTick.instant = m.instant := instant_restoreDelta m

theorem instant_clusterFault (m : Mach) (cl : Fin 2) : (m.clusterFault cl).instant = m.instant := by
  have h0 := votstat_ne_mode cl 0 (by omega)
  have h1 := votstat_ne_mode cl 1 (by omega)
  unfold clusterFault
  extract_lets inService shown failed idle t stopped undone ended recorded
  have hidle : idle.instant = m.instant := by simp [idle, failed, shown, h0, h1]
  have hundone : undone.instant = m.instant := by
    have hstopped : stopped.instant = m.instant := hidle
    unfold undone
    split
    · exact hstopped
    · exact (instant_undoTick _).trans hstopped
  have hended : ended.instant = m.instant := by unfold ended; split <;> simp [hidle, hundone]
  simp [recorded, hended]

theorem instant_voted (m : Mach) (cl : Fin 2) (pc : Nat) (t : Tri) (req : Core → Option VReq) :
    (m.voted cl pc t req).2.2.instant = m.instant := by
  unfold voted
  dsimp only
  split
  · simp [instant_voteShow]
  · split
    · simp [instant_voteShow]
    · rfl

@[simp] theorem instant_countDelta (m : Mach) (gs : List Nat) : (m.countDelta gs).instant = m.instant := rfl

@[simp] theorem instant_kilnStore (m : Mach) (cl a : Nat) (bs : List Byte) :
    (m.kilnStore cl a bs).instant = m.instant := by
  unfold kilnStore
  dsimp only
  split <;> simp

/-! ### Checks and accesses of instructions -/

@[simp] theorem instant_mpuReport (m : Mach) (cls inst a kind : Nat) (priv : Bool) (region : Nat) :
    (m.mpuReport cls inst a kind priv region).instant = m.instant := by
  unfold mpuReport
  dsimp only
  rw [instant_ledger]
  split <;> simp

@[simp] theorem instant_dataCheck (m : Mach) (cl a n kind : Nat) (priv : Bool) :
    (m.dataCheck cl a n kind priv).2.instant = m.instant := by
  unfold dataCheck
  split
  · rfl
  · split
    · rfl
    · split
      · exact instant_mpuReport m _ _ _ _ _ _
      · rfl

@[simp] theorem instant_blockCheck (m : Mach) (cl a n kind : Nat) (priv : Bool) :
    (m.blockCheck cl a n kind priv).2.instant = m.instant := by
  unfold blockCheck
  split
  · rfl
  · split
    · rfl
    · split
      · exact instant_mpuReport m _ _ _ _ _ _
      · rfl

@[simp] theorem instant_readWords (m : Mach) (cl : Nat) (addrs : List Nat) :
    (m.readWords cl addrs).2.2.instant = m.instant := by
  unfold readWords
  refine foldl_keeps (fun r : Nat × Bool × Mach => r.2.2.instant) ?_ _ _
  rintro ⟨_, _, m⟩ a
  exact instant_eccRead m (readAddr cl a) 8 cl

@[simp] theorem instant_imageWords (m : Mach) (cl : Nat) (addrs : List Nat) :
    (m.imageWords cl addrs).2.2.instant = m.instant := by
  unfold imageWords
  refine foldl_keeps (fun r : Nat × Bool × Mach => r.2.2.instant) ?_ _ _
  rintro ⟨_, _, m⟩ w
  exact instant_eccRead m (8 * w) 8 cl

theorem instant_voteWords (m : Mach) (cl : Fin 2) (pc : Nat) (t : Tri) (n : Nat) (req : Core → Nat → Option VReq) :
    (m.voteWords cl pc t n req).2.2.instant = m.instant := by
  unfold voteWords
  refine foldl_keeps (fun r : List VReq × Bool × Mach => r.2.2.instant) ?_ _ _
  rintro ⟨_, _, m⟩ i
  exact instant_voted m cl pc t fun c => req c i

@[simp] theorem instant_writeWords (m : Mach) (cl : Nat) (priv : Bool) (ws : List VReq) :
    (m.writeWords cl priv ws).2.instant = m.instant := by
  unfold writeWords
  split
  · exact instant_mpuReport m _ _ _ _ _ _
  · dsimp only
    split
    · rfl
    · exact foldl_keeps instant (fun m w => instant_kilnStore m _ _ _) ws m

@[simp] theorem instant_imageStore (m : Mach) (cl : Nat) (sp : Space) (b : Nat) (bs : List Byte) :
    (m.imageStore cl sp b bs).instant = m.instant := instant_store m _ _ _

@[simp] theorem instant_fetchAcc (m : Mach) (cl n : Nat) : (m.fetchAcc cl n).instant = m.instant :=
  instant_modKiln _ cl _

@[simp] theorem instant_losePeriod (m : Mach) (t : Nat) : (m.losePeriod t).instant = m.instant := by
  unfold losePeriod
  split
  · rfl
  · exact instant_incFld m _ _ _ (tstat_ne_mode t)

@[simp] theorem instant_faultPolicy (m : Mach) (t : Nat) : (m.faultPolicy t).instant = m.instant := by
  unfold faultPolicy
  split
  · rfl
  · exact instant_losePeriod m t
  · exact instant_setBit m _ _ _ (tflt_ne_mode t)
  · rfl

@[simp] theorem instant_exceptionRecord (m : Mach) (cl : Nat) (sl : Slice) (unit pc code : Nat) (runOn : Bool) :
    (m.exceptionRecord cl sl unit pc code runOn).instant = m.instant := instant_ledger m _ _ _ _ _

@[simp] theorem instant_budgetCount (m : Mach) (sl : Slice) : (m.budgetCount sl).instant = m.instant := by
  simp [budgetCount]

end Mach
end Sys2Proof.Machine
end

section
/-! SUPPORT. What an instruction of a cluster leaves alone: the cores of the other cluster and the instant of the module
(R34, R158). An instruction does so when its own part moves no instant. -/

namespace Sys2Proof.Machine

/-- From `s` to `t` the cores of the cluster beside `cl` and the instant of the module have stayed. -/
structure Aside (cl : Fin 2) (s t : State) : Prop where
  other : t.tri (1 - cl.val) = s.tri (1 - cl.val)
  instant : t.m.instant = s.m.instant

namespace Aside

theorem refl (cl : Fin 2) (s : State) : Aside cl s s := ⟨rfl, rfl⟩

theorem trans {cl : Fin 2} {s t u : State} (h : Aside cl s t) (h' : Aside cl t u) : Aside cl s u :=
  ⟨h'.other.trans h.other, h'.instant.trans h.instant⟩

/-- A change beside the cores. -/
theorem put (cl : Fin 2) (s : State) {m : Mach} (h : m.instant = s.m.instant) : Aside cl s { s with m := m } := ⟨rfl, h⟩

/-- A change of the cluster's own cores and beside the cores. -/
theorem putTri (cl : Fin 2) (s : State) (t : Tri) {m : Mach} (h : m.instant = s.m.instant) :
    Aside cl s { s.setTri cl t with m := m } := ⟨State.tri_setTri_other s cl t, h⟩

theorem setTri (cl : Fin 2) (s : State) (t : Tri) : Aside cl s (s.setTri cl t) :=
  ⟨State.tri_setTri_other s cl t, by rw [State.setTri_m]⟩

theorem closeWindow (cl : Fin 2) (s : State) : Aside cl s (s.closeWindow cl) := by
  unfold State.closeWindow
  dsimp only
  split
  · exact refl cl s
  · exact putTri cl s _ (Mach.instant_setKiln _ _ _)

theorem dispatch (cl : Fin 2) (s : State) : Aside cl s (s.dispatch cl) := by
  refine ⟨dispatch_tri_other s cl, ?_⟩
  unfold State.dispatch
  dsimp only
  split
  · exact Mach.instant_showFiring s.m
  · dsimp only
    split <;> simp

theorem endSlice (cl : Fin 2) (s : State) : Aside cl s (s.endSlice cl) :=
  (closeWindow cl s).trans ((put cl _ (Mach.instant_modKiln _ cl _)).trans (dispatch cl _))

theorem charge (cl : Fin 2) (s : State) (cost corr : Nat) : Aside cl s (s.charge cl cost corr) :=
  put cl s (Mach.instant_modKiln _ cl _)

theorem retire (cl : Fin 2) (s : State) (eff : Core → Eff) : Aside cl s (s.retire cl eff) := by
  unfold State.retire
  extract_lets pc cores counted
  have h : Aside cl s counted := (setTri cl s _).trans (put cl cores (Mach.instant_modKiln _ cl _))
  split
  · exact h.trans (closeWindow cl counted)
  · exact h

theorem stepDone (cl : Fin 2) (s : State) : Aside cl s (s.stepDone cl) := by
  unfold State.stepDone
  split
  · exact put cl s (by simp)
  · exact refl cl s

theorem takeException (cl : Fin 2) (s : State) (code : Nat) : Aside cl s (takeException s cl code) := by
  unfold Machine.takeException
  split
  · exact refl cl s
  · extract_lets c recorded counted p selfCaused
    have hcounted : counted.instant = s.m.instant := by simp [counted, recorded]
    have hself : selfCaused.instant = s.m.instant := by
      unfold selfCaused
      split
      · exact hcounted
      · exact hcounted
    exact (put cl s (by rw [Mach.instant_faultPolicy, hself])).trans (endSlice cl _)

theorem clusterFault (cl : Fin 2) (s : State) : Aside cl s (s.mod fun m => m.clusterFault cl) :=
  put cl s (Mach.instant_clusterFault s.m cl)

theorem budgetExc (cl : Fin 2) (s : State) (sl : Slice) : Aside cl s (budgetExc s cl sl) :=
  (put cl s (Mach.instant_budgetCount s.m sl)).trans (takeException cl _ 1)

theorem budgetRunOn (cl : Fin 2) (s : State) (sl : Slice) : Aside cl s (budgetRunOn s cl sl) := by
  unfold Machine.budgetRunOn
  split
  · exact put cl s (by simp)
  · exact refl cl s

theorem finish (cl : Fin 2) (s : State) {o : StepOut} (h : o.m.instant = s.m.instant) : Aside cl s (s.finish cl o) := by
  unfold State.finish
  extract_lets s1
  have h1 : Aside cl s s1 := put cl s h
  have hcharge := h1.trans (charge cl s1 o.cost o.corr)
  split
  · exact (hcharge.trans (retire cl _ _)).trans (stepDone cl _)
  · exact hcharge.trans (takeException cl _ _)
  · exact h1.trans (clusterFault cl s1)
  · exact (hcharge.trans (retire cl _ _)).trans (endSlice cl _)

/-- An instruction leaves the other cluster and the instant alone when its own part moves no instant. -/
theorem execInstr (cl : Fin 2) (reserved sysOnly : Bool) {body : Mach → Tri → Core → StepOut}
    (h : ∀ m t lead, (body m t lead).m.instant = m.instant) (s : State) :
    Aside cl s (execInstr cl reserved sysOnly body s) := by
  unfold Machine.execInstr
  split
  · exact refl cl s
  · rename_i sl _
    split
    · exact refl cl s
    · extract_lets lead s1
      split
      · exact budgetExc cl s sl
      · have h1 : Aside cl s s1 := budgetRunOn cl s sl
        have hv := Mach.instant_voted s1.m cl lead.pc.toNat (s1.tri cl) fun c => some ⟨c.pc.setWidth 64, 0⟩
        split
        rename_i acc bad m2 hvoted
        rw [hvoted] at hv
        extract_lets s2 pc lead'
        have h2 : Aside cl s s2 := h1.trans (put cl s1 hv)
        split
        · exact h2.trans (clusterFault cl s2)
        · split
          · exact (h2.trans (charge cl s2 1 0)).trans (takeException cl _ 3)
          · split
            · exact ((h2.trans (put cl s2 (Mach.instant_mpuReport _ _ _ _ _ _ _))).trans (charge cl _ 1 0)).trans
                (takeException cl _ 4)
            · have he := Mach.instant_eccRead s2.m pc 4 cl
              split
              rename_i corr unc m3 hread
              rw [hread] at he
              extract_lets s3 o
              have h3 : Aside cl s s3 := h2.trans (put cl s2 he)
              have hexc : ∀ code, Aside cl s (Machine.takeException (s3.charge cl 1 corr) cl code) := fun code =>
                (h3.trans (charge cl s3 1 corr)).trans (takeException cl _ code)
              split
              · exact hexc 15
              · split
                · exact hexc 9
                · split
                  · exact hexc 10
                  · exact h3.trans (finish cl s3 (h _ _ _))

/-- As `execInstr`, for an RR instruction (R97). -/
theorem execRR (cl : Fin 2) (r : RR) (d a b : FieldUse) {body : Mach → Tri → Core → StepOut}
    (h : ∀ m t lead, (body m t lead).m.instant = m.instant) (s : State) :
    Aside cl s (execRR cl r d a b body s) := by
  refine execInstr cl _ _ ?_ s
  intro m t lead
  dsimp only
  split
  · split <;> exact h m t lead
  · rfl

/-- As `execInstr`, for an IMGR instruction (R107). -/
theorem execImgr (cl : Fin 2) (space : BitVec 2) (bad : Bool) (d : FieldUse) (r : RR)
    {body : Mach → Tri → Core → StepOut} (h : ∀ m t lead, (body m t lead).m.instant = m.instant) (s : State) :
    Aside cl s (execImgr cl space bad d r body s) := by
  refine execInstr cl _ _ ?_ s
  intro m t lead
  dsimp only
  split
  · split <;> exact h m t lead
  · rfl

end Aside
end Sys2Proof.Machine
end

section
/-! SUPPORT. The own parts of the instructions move no instant. -/

namespace Sys2Proof.Machine

theorem instant_loadBody (cl : Fin 2) (n : Nat) (r : MemForm) (ext : Nat → Word) (m : Mach) (t : Tri) (lead : Core) :
    (loadBody cl n r ext m t lead).m.instant = m.instant := by
  unfold loadBody
  split
  rename_i acc bad m1 hvoted
  have hv : m1.instant = m.instant := by rw [← Mach.instant_voted m cl, hvoted]
  split
  · extract_lets
    split
    rename_i e m2 hchecked
    have hd : m2.instant = m.instant := by rw [← hv, ← Mach.instant_dataCheck m1, hchecked]
    split
    · exact hd
    · split
      rename_i corr unc m3 hread
      have hr : m3.instant = m.instant := by rw [← hd, ← Mach.instant_eccRead m2, hread]
      split <;> exact hr
  · exact hv

theorem instant_storeBody (cl : Fin 2) (n : Nat) (r : MemForm) (m : Mach) (t : Tri) (lead : Core) :
    (storeBody cl n r m t lead).m.instant = m.instant := by
  unfold storeBody
  extract_lets data
  split
  rename_i acc bad m1 hvoted
  have hv : m1.instant = m.instant := by rw [← Mach.instant_voted m cl, hvoted]
  split
  · exact hv
  · extract_lets
    split
    rename_i e m2 hchecked
    have hd : m2.instant = m.instant := by rw [← hv, ← Mach.instant_dataCheck m1, hchecked]
    split
    · exact hd
    · split
      · exact hd
      · exact (Mach.instant_kilnStore m2 cl _ _).trans hd

theorem instant_blockBody (cl : Fin 2) (n cost : Nat) (r : BlockForm) (scan : Scan) (m : Mach) (t : Tri) (lead : Core) :
    (blockBody cl n cost r scan m t lead).m.instant = m.instant := by
  unfold blockBody
  split
  rename_i acc bad m1 hvoted
  have hv : m1.instant = m.instant := by rw [← Mach.instant_voted m cl, hvoted]
  split
  · extract_lets
    split
    rename_i e m2 hchecked
    have hd : m2.instant = m.instant := by rw [← hv, ← Mach.instant_blockCheck m1, hchecked]
    split
    · exact hd
    · split
      rename_i corr unc m3 hread
      have hr : m3.instant = m.instant := by rw [← hd, ← Mach.instant_readWords m2, hread]
      split
      · exact hr
      · extract_lets
        split
        rename_i ws bad' m4 hwords
        have hw : m4.instant = m.instant := by rw [← hr, ← Mach.instant_voteWords m3 cl, hwords]
        split
        rename_i e' m5 hwritten
        show m5.instant = m.instant
        rw [← hw, ← Mach.instant_writeWords m4, hwritten]
  · exact hv

theorem instant_bitBody (cl : Fin 2) (sp : Space) (op : BitOp) (c : BitVec 3) (idx : Core → Word) (present : Core → Bool)
    (m : Mach) (t : Tri) (lead : Core) : (bitBody cl sp op c idx present m t lead).m.instant = m.instant := by
  unfold bitBody
  split
  rename_i acc bad m1 hvoted
  have hv : m1.instant = m.instant := by rw [← Mach.instant_voted m cl, hvoted]
  split
  · exact hv
  · extract_lets i exc at_ stored
    have hstored : stored.instant = m.instant := by
      unfold stored
      split
      · exact hv
      · exact (Mach.instant_imageStore m1 _ _ _ _).trans hv
    split
    · exact hv
    · split
      · exact hv
      · split
        · exact hstored
        · split
          · exact hv
          · split
            rename_i corr unc m2 hread
            have hr : m2.instant = m.instant := by rw [← hv, ← Mach.instant_eccRead m1, hread]
            split <;> exact hr

theorem instant_wordLoadBody (cl : Fin 2) (sp : Space) (ext : Bool) (w : BitVec 2) (r : RR) (m : Mach) (t : Tri)
    (lead : Core) : (wordLoadBody cl sp ext w r m t lead).m.instant = m.instant := by
  unfold wordLoadBody
  extract_lets n cost
  split
  rename_i acc bad m1 hvoted
  have hv : m1.instant = m.instant := by rw [← Mach.instant_voted m cl, hvoted]
  split
  · extract_lets
    split
    · exact hv
    · split
      · exact hv
      · split
        rename_i corr unc m2 hread
        have hr : m2.instant = m.instant := by rw [← hv, ← Mach.instant_imageWords m1, hread]
        split <;> exact hr
  · exact hv

theorem instant_wordStoreBody (cl : Fin 2) (sp : Space) (w : BitVec 2) (r : RR) (m : Mach) (t : Tri) (lead : Core) :
    (wordStoreBody cl sp w r m t lead).m.instant = m.instant := by
  unfold wordStoreBody
  extract_lets n cost
  split
  rename_i acc bad m1 hvoted
  have hv : m1.instant = m.instant := by rw [← Mach.instant_voted m cl, hvoted]
  split
  · exact hv
  · extract_lets
    split
    · exact hv
    · split
      · exact hv
      · exact (Mach.instant_imageStore m1 _ _ _ _).trans hv

theorem instant_ucallBody (cl : Fin 2) (f : BitVec 5) (unit : Core → Nat) (m : Mach) (t : Tri) (lead : Core) :
    (ucallBody cl f unit m t lead).m.instant = m.instant := by
  unfold ucallBody
  extract_lets pc
  split
  rename_i acc bad m1 hvoted
  have hv : m1.instant = m.instant := by rw [← Mach.instant_voted m cl, hvoted]
  split
  · exact hv
  · exact hv
  · extract_lets
    split
    rename_i corr unc m2 hread
    have hr : m2.instant = m.instant := by rw [← hv, ← Mach.instant_eccRead m1, hread]
    extract_lets
    split
    · exact hr
    · split
      · exact hr
      · split
        · exact hr
        · split
          · exact hr
          · split
            · exact hr
            · split
              rename_i e m3 hchecked
              have hd : m3.instant = m.instant := by rw [← hr, ← Mach.instant_blockCheck m2, hchecked]
              split
              · exact hd
              · split
                rename_i ws bad' m4 hwords
                have hw : m4.instant = m.instant := by rw [← hd, ← Mach.instant_voteWords m3 cl, hwords]
                split
                rename_i e' m5 hwritten
                show m5.instant = m.instant
                rw [← hw, ← Mach.instant_writeWords m4, hwritten]

theorem instant_uretBody (cl : Fin 2) (m : Mach) (t : Tri) (lead : Core) :
    (uretBody cl m t lead).m.instant = m.instant := by
  unfold uretBody
  extract_lets top
  split
  rename_i acc bad m1 hvoted
  have hv : m1.instant = m.instant := by rw [← Mach.instant_voted m cl, hvoted]
  split
  · exact hv
  · exact hv
  · extract_lets
    split
    rename_i e m2 hchecked
    have hd : m2.instant = m.instant := by rw [← hv, ← Mach.instant_blockCheck m1, hchecked]
    split
    · exact hd
    · split
      rename_i corr unc m3 hread
      have hr : m3.instant = m.instant := by rw [← hd, ← Mach.instant_readWords m2, hread]
      split
      · exact hr
      · dsimp only
        split <;> exact hr

theorem instant_acqBody (cl : Fin 2) (d a : BitVec 5) (m : Mach) (t : Tri) (lead : Core) :
    (acqBody cl d a m t lead).m.instant = m.instant := by
  unfold acqBody
  split
  rename_i acc bad m1 hvoted
  have hv : m1.instant = m.instant := by rw [← Mach.instant_voted m cl, hvoted]
  split
  · extract_lets
    split
    rename_i e m2 hchecked
    have hd : m2.instant = m.instant := by rw [← hv, ← Mach.instant_blockCheck m1, hchecked]
    split
    · exact hd
    · split
      · exact hd
      · dsimp only
        split
        · exact hd
        · exact ((Mach.instant_fetchAcc _ cl _).trans (Mach.instant_kilnStore m2 cl _ _)).trans hd
  · exact hv

theorem instant_acmpBody (cl : Fin 2) (d a b : BitVec 5) (m : Mach) (t : Tri) (lead : Core) :
    (acmpBody cl d a b m t lead).m.instant = m.instant := by
  unfold acmpBody
  split
  rename_i acc bad m1 hvoted
  have hv : m1.instant = m.instant := by rw [← Mach.instant_voted m cl, hvoted]
  split
  · exact hv
  · dsimp only
    split
    · exact (Mach.instant_modKiln m1 cl _).trans hv
    · exact hv

theorem instant_requestBody (cl : Fin 2) (op : ReqOp) (d a : BitVec 5) (m : Mach) (t : Tri) (lead : Core) :
    (requestBody cl op d a m t lead).m.instant = m.instant := by
  unfold requestBody
  extract_lets cost size
  split
  rename_i acc bad m1 hvoted
  have hv : m1.instant = m.instant := by rw [← Mach.instant_voted m cl, hvoted]
  split
  · extract_lets
    split
    rename_i e m2 hchecked
    have hd : m2.instant = m.instant := by rw [← hv, ← Mach.instant_blockCheck m1, hchecked]
    split
    · exact hd
    · split
      rename_i corr unc m3 hread
      have hr : m3.instant = m.instant := by rw [← hd, ← Mach.instant_readWords m2, hread]
      extract_lets blk collect
      split
      · exact hr
      · split
        rename_i e' m4 harea
        have ha : m4.instant = m.instant := by
          have := congrArg (fun p : Option Nat × Mach => p.2.instant) harea
          dsimp only at this
          rw [← this]
          split
          · exact (Mach.instant_blockCheck m3 _ _ _ _ _).trans hr
          · exact hr
        split
        · exact ha
        · dsimp only
          split
          · exact ha
          · split
            · exact (Mach.instant_modKiln m4 cl _).trans ha
            · split
              · exact ha
              · split
                · exact ha
                · exact ((Mach.instant_modKiln _ cl _).trans (Mach.instant_kilnStore m4 cl _ _)).trans ha
  · exact hv

end Sys2Proof.Machine
end

section
/-! SUPPORT. Every instruction of a cluster, by the shape of its meaning, leaves the other cluster and the instant alone. -/

namespace Sys2Proof.Machine

namespace Aside

variable {cl : Fin 2} {s : State}

theorem ofInstr {reserved sysOnly : Bool} {body : Mach → Tri → Core → StepOut}
    (h : ∀ m t lead, (body m t lead).m.instant = m.instant) :
    Completes (.next (Machine.execInstr cl reserved sysOnly body s)) (Aside cl s) :=
  ⟨_, rfl, execInstr cl reserved sysOnly h s⟩

theorem ofRR {r : RR} {d a b : FieldUse} {body : Mach → Tri → Core → StepOut}
    (h : ∀ m t lead, (body m t lead).m.instant = m.instant) :
    Completes (.next (Machine.execRR cl r d a b body s)) (Aside cl s) :=
  ⟨_, rfl, execRR cl r d a b h s⟩

theorem ofImgr {space : BitVec 2} {bad : Bool} {d : FieldUse} {r : RR} {body : Mach → Tri → Core → StepOut}
    (h : ∀ m t lead, (body m t lead).m.instant = m.instant) :
    Completes (.next (Machine.execImgr cl space bad d r body s)) (Aside cl s) :=
  ⟨_, rfl, execImgr cl space bad d r h s⟩

end Aside

/-! The own parts that stand in the meaning of their instruction itself. -/

theorem instant_pureStep (cost : Nat) (eff : Core → Eff) (m : Mach) (t : Tri) (lead : Core) :
    (pureStep cost eff m t lead).m.instant = m.instant := rfl

theorem aluDiv_aside (cl : Fin 2) (r : RR) (cost : Nat) (zero : Word → Bool) (f : Word → Word → Word) (s : State) :
    Completes (aluDiv cl r cost zero f s) (Aside cl s) := by
  refine Aside.ofRR fun m t lead => ?_
  split <;> rfl

theorem execJr_aside (cl : Fin 2) (r : RR) (s : State) : Completes (execJr cl r s) (Aside cl s) := by
  refine Aside.ofRR fun m t lead => ?_
  split <;> rfl

theorem execBc_aside (cl : Fin 2) (c : BitVec 3) (sense : Bool) (disp : BitVec 22) (s : State) :
    Completes (execBc cl c sense disp s) (Aside cl s) := by
  refine Aside.ofInstr fun m t lead => ?_
  dsimp only
  split <;> rfl

theorem execBrk_aside (cl : Fin 2) (code : BitVec 16) (s : State) : Completes (execBrk cl code s) (Aside cl s) := by
  refine Aside.ofInstr fun m t lead => ?_
  unfold pureStep
  dsimp only
  split
  · simp
  · rfl

theorem execIllegalEncoding_aside (cl : Fin 2) (w : BitVec 32) (s : State) :
    Completes (execIllegalEncoding cl w s) (Aside cl s) := by
  unfold execIllegalEncoding
  split
  · exact Aside.ofInstr fun _ _ _ => rfl
  · exact ⟨s, rfl, Aside.refl cl s⟩

theorem exec_aside (i : Instr) (cl : Fin 2) (s : State) (h : clusterOf i = some cl) :
    Completes (exec i s) (Aside cl s) := by
  cases i
  case add | sub | andR | orR | xorR | andn | orn | xnor | shl | shr | sar | ror | mul | mulh | mulhu | min | max
      | minu | maxu | addw | subw | shlw | shrw | sarw | rorw | mulw | clz | ctz | popc | bswap | sxb | sxh | sxw
      | zxb | zxh | zxw => cases h; exact Aside.ofRR (instant_pureStep _ _)
  case ceq | clt | cltu | ctst | ceqw | cltw | cltuw | cand | cor | cxor | candn | corn | cnot | mfc | mtc =>
    cases h; exact Aside.ofRR (instant_pureStep _ _)
  case fadd | fsub | fmul | fdiv | fsqrt | fmin | fmax | fmac | fabs | fneg | fcpys | fceq | fclt | fcle | fcun
      | ftoi | ftou | itof | utof | fcvt | frflg | fcflg => cases h; exact Aside.ofRR (instant_pureStep _ _)
  case div | divu | rem | remu | divw | divuw | remw | remuw => cases h; exact aluDiv_aside cl _ _ _ _ s
  case jr => cases h; exact execJr_aside cl _ s
  case addi | addiw | andi | ori | xori | shi | shin | shinw | ceqi | clti | cltui | msync =>
    cases h; exact Aside.ofInstr (instant_pureStep _ _)
  case bc => cases h; exact execBc_aside cl _ _ _ s
  case ldb | ldbu | ldh | ldhu | ldw | ldwu | ldd => cases h; exact Aside.ofInstr (instant_loadBody cl _ _ _)
  case stb | sth | stw | std => cases h; exact Aside.ofInstr (instant_storeBody cl _ _)
  case ibld | ibldn | obld | obldn | obst | obstn | obset | obclr | mbld | mbldn | mbst | mbstn | mbset | mbclr =>
    cases h; exact Aside.ofInstr (instant_bitBody cl _ _ _ _ _)
  case imgrLoad | imgrLoadInverted | imgrStore | imgrStoreInverted | imgrSet | imgrClear =>
    cases h; exact Aside.ofImgr (instant_bitBody cl _ _ _ _ _)
  case imgrWordLoad => cases h; exact Aside.ofImgr (instant_wordLoadBody cl _ _ _ _)
  case imgrWordStore => cases h; exact Aside.ofImgr (instant_wordStoreBody cl _ _ _)
  case edgRise | edgFall | edgEither | ton | tof | tp | ctu | ctd | crs | cld =>
    cases h; exact Aside.ofInstr fun m => instant_blockBody cl _ _ _ _ m
  case ucall | ucallr => cases h; exact Aside.ofInstr (instant_ucallBody cl _ _)
  case uret => cases h; exact Aside.ofInstr (instant_uretBody cl)
  case slice | sinf => cases h; exact Aside.ofInstr fun _ _ _ => rfl
  case acq => cases h; exact Aside.ofInstr (instant_acqBody cl _ _)
  case acmp => cases h; exact Aside.ofInstr (instant_acmpBody cl _ _ _)
  case tactAtTime | tactAtPosition | tactCancel | trkuCreate | trkuCorrect | trkuRelease | trkqTrackQuery
      | trkqActionQuery | trkqCollect => cases h; exact Aside.ofInstr (instant_requestBody cl _ _ _)
  case brk => cases h; exact execBrk_aside cl _ s
  case illegalEncoding => cases h; exact execIllegalEncoding_aside cl _ s
  all_goals exact nomatch h

end Sys2Proof.Machine
end

section
open Sys2Proof Sys2Proof.Machine

/-- Settles O58: the own part of every instruction moves no instant, and what the instructions share touches the
cores of their own cluster alone. -/
theorem instructionsKeepToTheirCluster : Obligations.InstructionsKeepToTheirCluster := by
  unfold Obligations.InstructionsKeepToTheirCluster
  intro i cl s hcl
  obtain ⟨t, hexec, haside⟩ := exec_aside i cl s hcl
  obtain ⟨hmode, hnow, hphase⟩ := Mach.eq_of_instant haside.instant
  refine ⟨t, hexec, fun k _ => ?_, hmode, hnow, hphase⟩
  rw [State.core, State.core, ← haside.other]
end

section
/-! SUPPORT. The clock of a tick boundary (R21, R36). -/

namespace Sys2Proof.Machine

namespace Mach

/-- The registers of the tick length in effect (R36, R38, R61). -/
def lenRegs : List Nat :=
  [KLN_RESERVE, KLN_PH_INCLOSE, KLN_PH_FIRESTART, KLN_PH_ACTEMIT, KLN_PH_FIREEND, KLN_PH_APPLY]

theorem rg_lenTake (m : Mach) (len a : Nat) (h : a ∉ lenRegs) : (m.lenTake len).rg a = m.rg a := by
  simp only [lenRegs, List.mem_cons, List.not_mem_nil, or_false, not_or] at h
  obtain ⟨hreserve, hclose, hfire, hemit, hend, happly⟩ := h
  unfold lenTake
  dsimp only
  rw [rg_wr_other _ _ _ _ happly, rg_wr_other _ _ _ _ hend, rg_wr_other _ _ _ _ hemit, rg_wr_other _ _ _ _ hfire,
    rg_wr_other _ _ _ _ hclose, rg_wr_other _ _ _ _ hreserve]
  rfl

theorem rg_lenAdopt (m : Mach) (a : Nat) (h : a ∉ lenRegs) : m.lenAdopt.rg a = m.rg a := by
  unfold lenAdopt
  dsimp only
  split
  · rfl
  · exact rg_lenTake m _ a h

@[simp] theorem lenAdopt_now (m : Mach) : m.lenAdopt.tick.now = m.tick.now := by
  unfold lenAdopt
  dsimp only
  split <;> rfl

@[simp] theorem lenAdopt_pair (m : Mach) : m.lenAdopt.pair = m.pair := by
  unfold lenAdopt
  dsimp only
  split <;> rfl

/-- The plant time that a boundary reaches (R21). -/
def nextTime (m : Mach) : Nat := (m.tick.now / m.tickNs + 1) * m.tickNs

@[simp] theorem clockAdvance_now (m : Mach) : m.clockAdvance.tick.now = m.nextTime :=
  lenAdopt_now _

@[simp] theorem clockAdvance_start (m : Mach) : m.clockAdvance.tick.start = m.nextTime := rfl

@[simp] theorem clockAdvance_pair (m : Mach) : m.clockAdvance.pair = m.pair := lenAdopt_pair _

/-- The clock changes the registers of plant time, of the tick's number and of its length alone. -/
theorem rg_clockAdvance (m : Mach) (a : Nat) (hlen : a ∉ lenRegs) (htime : a ≠ TMB_TIME) (htime' : a ≠ TMB_TIME + 4)
    (hno : a ≠ KLN_TICKNO) (hno' : a ≠ KLN_TICKNO + 4) : m.clockAdvance.rg a = m.rg a := by
  unfold clockAdvance
  dsimp only
  rw [rg_wr64_other _ _ _ _ hno hno']
  refine (rg_lenAdopt _ a hlen).trans ?_
  rw [rg_wr64_other _ _ _ _ htime htime']
  rfl

@[simp] theorem clockAdvance_mode (m : Mach) : m.clockAdvance.mode = m.mode := by
  rw [mode, fld, rg_clockAdvance m CUR_MODE (by decide) (by decide) (by decide) (by decide) (by decide)]; rfl

theorem rg64_congr {m m' : Mach} {a : Nat} (h : m'.rg a = m.rg a) (h' : m'.rg (a + 4) = m.rg (a + 4)) :
    m'.rg64 a = m.rg64 a := by rw [rg64, h, h', rg64]

theorem clockAdvance_time (m : Mach) : m.clockAdvance.rg64 TMB_TIME = m.nextTime % 2 ^ 64 :=
  calc m.clockAdvance.rg64 TMB_TIME
    _ = (({ m with tick := { m.tick with now := m.nextTime, frac := 0 } } : Mach).wr64 TMB_TIME m.nextTime).lenAdopt.rg64
          TMB_TIME := rg64_congr (rg_wr64_other _ _ _ _ (by decide) (by decide)) (rg_wr64_other _ _ _ _ (by decide) (by decide))
    _ = (({ m with tick := { m.tick with now := m.nextTime, frac := 0 } } : Mach).wr64 TMB_TIME m.nextTime).rg64
          TMB_TIME := rg64_congr (rg_lenAdopt _ _ (by decide)) (rg_lenAdopt _ _ (by decide))
    _ = m.nextTime % 2 ^ 64 := rg64_wr64 _ _ _

theorem clockAdvance_tickNo (m : Mach) :
    m.clockAdvance.rg64 KLN_TICKNO = m.nextTime / m.clockAdvance.tickNs % 2 ^ 64 := rg64_wr64 _ _ _

/-- A boundary in RECOVERY, or in BOOT before the claim stage, changes no mode (R333, R476). -/
theorem turn_of_boot {m : Mach} (h : m.mode = 2 ∨ m.mode = 1 ∧ m.pair.claim = 0) : m.turn = m := by
  rcases h with h | ⟨h, hclaim⟩
  · simp [turn, h]
  · simp [turn, h, turnClaim, hclaim]

end Mach

/-- What a tick of BOOT or RECOVERY is at once: its firing has ended (R476). -/
def Mach.endedTick (m : Mach) : Mach := { m with tick := { m.tick with phase := 3, ended := true } }

theorem bootBoundary_eq {s : State} (h : s.m.mode = 2 ∨ s.m.mode = 1 ∧ s.m.pair.claim = 0) :
    s.bootBoundary = s.mod fun m => m.clockAdvance.endedTick := by
  have hclock : s.m.clockAdvance.mode = 2 ∨ s.m.clockAdvance.mode = 1 ∧ s.m.clockAdvance.pair.claim = 0 := by simpa using h
  have hturn : (s.mod fun m => m.clockAdvance.turn) = s.mod fun m => m.clockAdvance := by
    simp only [State.mod, Mach.turn_of_boot hclock]
  unfold State.bootBoundary
  rw [hturn]
  exact if_pos (by show s.m.clockAdvance.mode = 1 ∨ s.m.clockAdvance.mode = 2; omega)

/-- A boundary in RECOVERY or before the claim stage moves plant time to the next multiple of the tick length (R21). -/
theorem tickBoundary_completes {s : State} (hdead : s.m.dead = false) (mis : Bool)
    (h : s.m.mode = 2 ∨ s.m.mode = 1 ∧ s.m.pair.claim = 0) :
    Completes (exec (.tickBoundary mis) s) fun t => t.m.tick.now = s.m.nextTime ∧ t.m.tick.start = s.m.nextTime ∧
      t.m.rg64 TMB_TIME = s.m.nextTime % 2 ^ 64 ∧ t.m.rg64 KLN_TICKNO = s.m.nextTime / t.m.tickNs % 2 ^ 64 ∧
      SameCores s t := by
  have hexec : exec (.tickBoundary mis) s = .next (s.mod fun m => m.clockAdvance.endedTick) := by
    show execTickBoundary mis s = _
    rw [execTickBoundary, hdead, if_neg Bool.false_ne_true, if_pos (by omega), bootBoundary_eq h]
  exact ⟨_, hexec, s.m.clockAdvance_now, s.m.clockAdvance_start, s.m.clockAdvance_time, s.m.clockAdvance_tickNo,
    rfl, rfl, rfl⟩

end Sys2Proof.Machine
end

section
/-! SUPPORT. The limits of a tick: three overruns in a row, and a slice that has used its budget (R54, R58, R119). -/

namespace Sys2Proof.Machine

/-- What changes beside the cores and the queue leaves them as they are. -/
theorem sameCores_mod (s : State) (f : Mach → Mach) : SameCores s (s.mod f) := ⟨rfl, rfl, rfl⟩

/-- A command that reaches only a module that serves completes there with its change. -/
theorem completes_live {s : State} (hdead : s.m.dead = false) {f : Mach → Mach} {P : State → Prop} (h : P (s.mod f)) :
    Completes (.next (s.live f)) P := ⟨_, by rw [s.live_of f hdead], h⟩

/-- The limit of consecutive overruns, once it is reached (R58). -/
theorem Mach.overrunLimit_reached {m : Mach} (hcount : m.fld KLN_OVRCNT 1 0 = 3) (hfirst : m.tick.ovrLimit = false) :
    m.overrunLimit.tick.ovrLimit = true ∧
    (∀ a, a ∉ [KLN_SCHCTL, KLN_SCHSTAT] → m.overrunLimit.rg a = m.rg a) ∧
    (m.mode = 3 → m.overrunLimit.bit KLN_SCHCTL 0 = false ∧ m.overrunLimit.bit KLN_SCHSTAT 8 = true) := by
  unfold Mach.overrunLimit
  rw [if_neg (by simp [hcount, hfirst])]
  dsimp only
  split
  · refine ⟨rfl, fun a ha => ?_, fun _ => ⟨?_, ?_⟩⟩
    · simp only [List.mem_cons, List.not_mem_nil, or_false, not_or] at ha
      rw [rg_setBit_other _ _ _ _ _ ha.2, rg_setBit_other _ _ _ _ _ ha.1]; rfl
    · rw [bit_setBit_other _ _ _ _ _ _ (by decide), bit_setBit_same _ _ _ _ (by decide)]
    · rw [bit_setBit_same _ _ _ _ (by decide)]
  · rename_i hmode
    exact ⟨rfl, fun _ _ => rfl, fun h => absurd h hmode⟩

theorem overrunLimit_completes {s : State} (hdead : s.m.dead = false) (hcount : s.m.fld KLN_OVRCNT 1 0 = 3)
    (hfirst : s.m.tick.ovrLimit = false) : Completes (exec .overrunLimit s) fun t =>
      t.m.tick.ovrLimit = true ∧ KeepsRegs s t [KLN_SCHCTL, KLN_SCHSTAT] ∧ SameCores s t ∧
      (s.m.mode = 3 → t.m.bit KLN_SCHCTL 0 = false ∧ t.m.bit KLN_SCHSTAT 8 = true) := by
  obtain ⟨hlimit, hregs, hbench⟩ := Mach.overrunLimit_reached hcount hfirst
  exact completes_live hdead ⟨hlimit, fun a ha _ => hregs a ha, sameCores_mod s _, hbench⟩

/-! ### A slice at its budget -/

@[simp] theorem Mach.budgetCount_kiln (m : Mach) (sl : Slice) (cl : Nat) : (m.budgetCount sl).kiln cl = m.kiln cl := rfl

theorem Mach.rg_budgetCount (m : Mach) (sl : Slice) (a : Nat) (h : a ≠ KLN_OVRSTAT) (h' : a ≠ KLN_TSTAT sl.task) :
    (m.budgetCount sl).rg a = m.rg a := by
  rw [budgetCount, rg_incFld_other _ _ _ _ _ h', rg_setBit_other _ _ _ _ _ h]

/-- BUDEXC stands once a slice has reached its budget (R54). -/
theorem Mach.budgetCount_budexc (m : Mach) (sl : Slice) : (m.budgetCount sl).bit KLN_OVRSTAT 3 = true := by
  have hne : KLN_OVRSTAT ≠ KLN_TSTAT sl.task := by simp only [KLN_OVRSTAT, KLN_TSTAT]; omega
  rw [budgetCount, bit_incFld_other _ _ _ _ _ _ hne, bit_setBit_same _ _ _ _ (by decide)]

/-- Under OVRPOL = 0 a slice at its budget ends with SLICE_BUDGET (R54, R85). -/
theorem budgetExc_raised {cl : Fin 2} {s : State} {sl : Slice} (hsl : (s.m.kiln cl).slice = some sl) (ht : sl.task < 16) :
    Raised cl s sl 1 (budgetExc s cl sl) := by
  have h : Raised cl (s.mod fun m => m.budgetCount sl) sl 1 (budgetExc s cl sl) :=
    takeException_raised (s := s.mod fun m => m.budgetCount sl) hsl ht (by decide)
  have hcount : (s.m.budgetCount sl).fld (KLN_TFLT sl.task) 31 16 = s.m.fld (KLN_TFLT sl.task) 31 16 := by
    have hne : KLN_TFLT sl.task ≠ KLN_OVRSTAT := by simp only [KLN_OVRSTAT, KLN_TFLT]; omega
    have hne' : KLN_TFLT sl.task ≠ KLN_TSTAT sl.task := by simp only [KLN_TSTAT, KLN_TFLT]; omega
    rw [Mach.fld, Mach.rg_budgetCount _ _ _ hne hne', Mach.fld]
  exact { h with count := h.count.trans (by rw [← hcount]; rfl) }

/-- Under OVRPOL = 1 a slice at its budget runs on, once recorded (R54). -/
theorem budgetRunOn_first {cl : Fin 2} {s : State} {sl : Slice} (hsl : (s.m.kiln cl).slice = some sl)
    (hbudget : sl.budget ≤ sl.count) (hpolicy : s.m.bit (KLN_TCFG sl.task) 6 = true) (hfirst : sl.runOn = false) :
    ((budgetRunOn s cl sl).m.kiln cl).slice = some { sl with runOn := true } ∧
    (budgetRunOn s cl sl).m.bit KLN_OVRSTAT 3 = true ∧ SameCores s (budgetRunOn s cl sl) := by
  rw [budgetRunOn, if_pos (by simp [hbudget, hpolicy, hfirst])]
  refine ⟨?_, ?_, sameCores_mod s _⟩
  · have hkept : ∀ m : Mach, ∀ a b c d e, (m.ledger a b c d e).kiln cl = m.kiln cl := fun m a b c d e => by
      simp [Mach.kiln]
    simp [State.mod, Mach.exceptionRecord, hkept, hsl]
  · simp only [State.mod, Mach.exceptionRecord, Mach.bit, Mach.rg_modKiln]
    rw [Mach.rg_ledger _ _ _ _ _ _ _ (by decide) (by decide) (by decide) (by decide) (by decide)]
    exact Mach.budgetCount_budexc s.m sl

theorem sliceBudget_completes {s : State} (cl : Fin 2) {sl : Slice} (hsl : (s.m.kiln cl).slice = some sl)
    (ht : sl.task < 16) (hbudget : sl.budget ≤ sl.count) :
    (s.m.bit (KLN_TCFG sl.task) 6 = false → Completes (exec (.sliceBudget cl) s) (Raised cl s sl 0x01)) ∧
    (s.m.bit (KLN_TCFG sl.task) 6 = true → sl.runOn = false → Completes (exec (.sliceBudget cl) s) fun t =>
      (t.m.kiln cl).slice = some { sl with runOn := true } ∧ t.m.bit KLN_OVRSTAT 3 = true ∧ SameCores s t) := by
  have hexec : exec (.sliceBudget cl) s =
      .next (if overBudget s cl sl then budgetExc s cl sl else budgetRunOn s cl sl) := by
    show execSliceBudget cl s = _
    rw [execSliceBudget, hsl]
  refine ⟨fun hpolicy => ⟨_, hexec, ?_⟩, fun hpolicy hfirst => ⟨_, hexec, ?_⟩⟩
  · rw [if_pos (by simp [overBudget, hbudget, hpolicy])]
    exact budgetExc_raised hsl ht
  · rw [if_neg (by simp [overBudget, hpolicy])]
    exact budgetRunOn_first hsl hbudget hpolicy hfirst

end Sys2Proof.Machine
end

section
/-! SUPPORT. The apply instant of the module's own channels (R454 to R456, R462), the release of an action record (R269)
and the loss of an axis (R253). -/

namespace Sys2Proof.Machine

namespace Mach

/-! ### The apply instant -/

@[simp] theorem setCan_lio (m : Mach) (p : Nat) (c : Can) : (m.setCan p c).lio = m.lio := by
  unfold setCan; split <;> rfl

@[simp] theorem canOffer_lio (m : Mach) (p : Nat) : (m.canOffer p).lio = m.lio := by
  unfold canOffer; split <;> rfl

@[simp] theorem canTxLost_lio (m : Mach) (p n : Nat) : (m.canTxLost p n).lio = m.lio := wr_lio m _ _

@[simp] theorem canShow_lio (m : Mach) (p : Nat) : (m.canShow p).lio = m.lio := wr_lio m _ _

/-- The CAN ports do not touch the local channels. -/
@[simp] theorem canApply_lio (m : Mach) (p : Nat) : (m.canApply p).lio = m.lio := by
  unfold canApply
  dsimp only
  split
  · rfl
  · split
    · rfl
    · split
      · simp
      · split
        · simp
        · split <;> simp

@[simp] theorem drive_missed (m : Mach) (n : Nat) (v : Bool) : (m.drive n v).lio.missed = m.lio.missed := by
  unfold drive
  dsimp only
  split <;> rfl

@[simp] theorem lioApplyCh_missed (m : Mach) (n : Nat) : (m.lioApplyCh n).lio.missed = m.lio.missed := by
  unfold lioApplyCh
  dsimp only
  split
  · rfl
  · rw [drive_missed]
    split
    · split <;> rfl
    · rfl

@[simp] theorem schedRefuse_lio (m : Mach) (n status : Nat) : (m.schedRefuse n status).lio = m.lio := by
  unfold schedRefuse
  rw [ledger_lio]
  split <;> exact wr_lio m _ _

@[simp] theorem schedTake_missed (m : Mach) (n at_ : Nat) : (m.schedTake n at_).lio.missed = m.lio.missed := by
  unfold schedTake
  dsimp only
  split
  · rfl
  · split
    · rw [schedRefuse_lio]
    · split
      · rw [schedRefuse_lio]
      · split
        · rw [schedRefuse_lio]
        · rfl

/-- An apply instant counts the tick as missed, or ends the count (R454). -/
theorem lioApply_missed {m : Mach} (hen : m.bit LIO_CTL 0 = true) :
    m.lioApply.lio.missed = if m.tick.prevEmit then 0 else m.lio.missed + 1 := by
  unfold lioApply
  rw [hen, if_neg (by simp)]
  by_cases hemit : m.tick.prevEmit = true
  · rw [if_pos hemit, if_pos hemit]
    dsimp only
    rw [foldl_keeps fun m : Mach => m.lio.missed]
    intro m n
    rw [schedTake_missed, lioApplyCh_missed]
  · rw [if_neg hemit, if_neg hemit]

end Mach

theorem moduleApplyInstant_completes {s : State} (hdead : s.m.dead = false) (hmode : 3 ≤ s.m.mode)
    (hen : s.m.bit LIO_CTL 0 = true) : Completes (exec .moduleApplyInstant s) fun t => SameCores s t ∧
      t.m.lio.missed = if s.m.tick.prevEmit then 0 else s.m.lio.missed + 1 := by
  refine completes_live hdead ⟨sameCores_mod s _, ?_⟩
  show (if s.m.mode < 3 then s.m else (countFrom 0 4).foldl Mach.canApply s.m.lioApply).lio.missed = _
  rw [if_neg (by omega), foldl_keeps Mach.lio Mach.canApply_lio, Mach.lioApply_missed hen]

/-- What an association list holds after a put. -/
theorem assocGet_assocPut_same {α : Type} (t : List (Nat × α)) (a : Nat) (v : α) : assocGet (assocPut t a v) a = some v := by
  induction t with
  | nil => simp [assocPut, assocGet]
  | cons e t ih =>
    obtain ⟨k, w⟩ := e
    simp only [assocPut]
    split
    · simp [assocGet]
    · split
      · simp [assocGet]
      · rename_i hne _
        simp [assocGet, hne, ih]

/-! ### Records and axes of the Deadline Engine -/

namespace Mach

@[simp] theorem recPut_dle (m : Mach) (k o n v : Nat) : (m.recPut k o n v).dle = m.dle := rfl

theorem recF_recPut_same (m : Mach) (k o n v : Nat) : (m.recPut k o n v).recF k o n = v % 2 ^ (8 * n) :=
  Memory.ldN_stN m.mem _ n v

@[simp] theorem staleAxis_dle (m : Mach) (a : Nat) : (m.staleAxis a).dle = m.dle :=
  foldl_keeps dle (fun m k => by split <;> rfl) _ _

theorem axis_setAxis (m : Mach) (a : Nat) (x : Axis) : (m.setAxis a x).axis a = x := by
  show (assocGet (assocPut m.dle.axes a x) a).getD {} = x
  rw [assocGet_assocPut_same]
  rfl

/-- A lost axis is in LOST (R253). -/
theorem axisLose_state (m : Mach) (a : Nat) : ((m.axisLose a).axis a).state = 5 := by
  unfold axisLose
  dsimp only
  split
  · assumption
  · rw [axis, ledger_dle, staleAxis_dle, ← axis, axis_setAxis]

end Mach

/-- An ended record whose tick is reached becomes free (R258, R269). -/
theorem recordFree_completes {s : State} (hdead : s.m.dead = false) (r : Fin 65536) (hact : s.m.firstAct ≤ r)
    (hended : s.m.recF r 0 1 = 3) (huntil : s.m.recF r 48 8 ≤ s.m.tickNo) :
    Completes (exec (.recordFree r) s) fun t =>
      t.m.recF r 0 1 = 0 ∧ KeepsRegs s t [DLE_TRKCNT, DLE_ACTCNT] ∧ SameCores s t := by
  refine completes_live hdead ?_
  simp only [State.mod, if_pos (And.intro hact (And.intro hended huntil))]
  refine ⟨(Mach.recF_recPut_same _ _ _ _ _).trans (by decide), fun a ha _ => ?_, rfl, rfl, rfl⟩
  simp only [List.mem_cons, List.not_mem_nil, or_false, not_or] at ha
  rw [Mach.dleShow, Mach.rg_wr_other _ _ _ _ ha.2, Mach.rg_wr_other _ _ _ _ ha.1]
  rfl

/-- An axis that missed more records than COAST allows is lost (R251, R253). -/
theorem axisLost_completes {s : State} (hdead : s.m.dead = false) (a : Fin 1024) (hruns : s.m.dleRuns = true)
    (hmiss : s.m.fld (DLE_AXCFG a) 13 6 < (s.m.axis a).miss) :
    Completes (exec (.axisLost a) s) fun t => (t.m.axis a).state = 5 ∧ SameCores s t := by
  refine completes_live hdead ⟨?_, sameCores_mod s _⟩
  simp only [State.mod, hruns, hmiss, decide_true, Bool.and_self, if_true]
  exact s.m.axisLose_state a

end Sys2Proof.Machine
end

section
/-! SUPPORT. Where a tick stands: its phase, its buffers, and how far it has gone. Only the instants of the tick
themselves move it (R22, R61); one lemma for each operation that they share. -/

namespace Sys2Proof.Machine

/-- Where a tick stands: its phase, its input and output buffers, whether its input is adopted, its firing ended and its
tick overrun, whether FILL is done, and the module's own action digest. -/
structure Stand where
  phase : Nat
  inBuf : Nat
  outBuf : Nat
  adopted : Bool
  ended : Bool
  overrun : Bool
  filled : Bool
  ownAct : Option Digest

namespace Mach

/-- Where the tick of a module stands. -/
def stand (m : Mach) : Stand :=
  ⟨m.tick.phase, m.tick.inBuf, m.tick.outBuf, m.tick.adopted, m.tick.ended, m.tick.overrun, m.pair.filled, m.pair.ownAct⟩

theorem stand_congr {m m' : Mach} (ht : m'.tick = m.tick) (hp : m'.pair = m.pair) : m'.stand = m.stand := by
  simp only [stand, ht, hp]

/-! Parts of the module that have no part in where its tick stands. -/

theorem stand_withLabel (m : Mach) (x : Label) : ({ m with label := x } : Mach).stand = m.stand := stand_congr rfl rfl
theorem stand_withJrn (m : Mach) (x : Jrn) : ({ m with jrn := x } : Mach).stand = m.stand := stand_congr rfl rfl
theorem stand_withDle (m : Mach) (x : Dle) : ({ m with dle := x } : Mach).stand = m.stand := stand_congr rfl rfl
theorem stand_withGx (m : Mach) (x : Gx) : ({ m with gx := x } : Mach).stand = m.stand := stand_congr rfl rfl
theorem stand_withPgm (m : Mach) (x : Pgm) : ({ m with pgm := x } : Mach).stand = m.stand := stand_congr rfl rfl
theorem stand_withTmb (m : Mach) (x : Tmb) : ({ m with tmb := x } : Mach).stand = m.stand := stand_congr rfl rfl

/-- What the pair keeps beside FILL and the own action digest has no part in it either. -/
theorem stand_withPair (m : Mach) (x : Pair) (hf : x.filled = m.pair.filled) (ho : x.ownAct = m.pair.ownAct) :
    ({ m with pair := x } : Mach).stand = m.stand := by simp only [stand, hf, ho]

/-! ### Registers, memory and the Ledger -/

@[simp] theorem stand_wr (m : Mach) (a v : Nat) : (m.wr a v).stand = m.stand := stand_congr rfl rfl
@[simp] theorem stand_setFld (m : Mach) (a hi lo v : Nat) : (m.setFld a hi lo v).stand = m.stand := stand_congr rfl rfl
@[simp] theorem stand_setBit (m : Mach) (a k : Nat) (v : Bool) : (m.setBit a k v).stand = m.stand := stand_congr rfl rfl
@[simp] theorem stand_incFld (m : Mach) (a hi lo : Nat) : (m.incFld a hi lo).stand = m.stand := stand_congr rfl rfl
@[simp] theorem stand_wr64 (m : Mach) (a v : Nat) : (m.wr64 a v).stand = m.stand := stand_congr rfl rfl
@[simp] theorem stand_emit (m : Mach) (o : Out) : (m.emit o).stand = m.stand := stand_congr rfl rfl
@[simp] theorem stand_putWords (m : Mach) (a : Nat) (bs : List Byte) : (m.putWords a bs).stand = m.stand := stand_congr rfl rfl
@[simp] theorem stand_copyWords (m : Mach) (src dst n : Nat) : (m.copyWords src dst n).stand = m.stand := stand_congr rfl rfl

@[simp] theorem stand_ledger (m : Mach) (code src arg0 arg1 arg2 : Nat) :
    (m.ledger code src arg0 arg1 arg2).stand = m.stand := stand_congr (ledger_tick m _ _ _ _ _) (ledger_pair m _ _ _ _ _)

@[simp] theorem stand_ledgerFlush (m : Mach) : m.ledgerFlush.stand = m.stand :=
  stand_congr (ledgerFlush_frame m).tick (ledgerFlush_frame m).pair

@[simp] theorem stand_eccRecord (m : Mach) (a cls : Nat) (poison patrol : Bool) :
    (m.eccRecord a cls poison patrol).stand = m.stand := by
  simp [eccRecord]

@[simp] theorem stand_eccWriteWord (m : Mach) (w cls : Nat) (whole : Bool) :
    (m.eccWriteWord w cls whole).stand = m.stand := by
  unfold eccWriteWord
  split
  · rfl
  · split
    · rfl
    · rfl
    · exact stand_eccRecord m _ cls false false
    · exact stand_eccRecord m _ cls true false

@[simp] theorem stand_store (m : Mach) (a : Nat) (bs : List Byte) (cls : Nat) : (m.store a bs cls).stand = m.stand :=
  foldl_keeps stand (fun m w => stand_eccWriteWord m w cls _) _ m

@[simp] theorem stand_mpuReport (m : Mach) (cls inst a kind : Nat) (priv : Bool) (region : Nat) :
    (m.mpuReport cls inst a kind priv region).stand = m.stand := by
  unfold mpuReport
  rw [stand_ledger]
  split <;> simp

@[simp] theorem stand_masterCheck (m : Mach) (cls inst a kind : Nat) :
    (m.masterCheck cls inst a kind).2.stand = m.stand := by
  unfold masterCheck
  split
  · rfl
  · split
    · rfl
    · split
      · split
        · rfl
        · exact stand_mpuReport m _ _ _ _ _ _
      · rfl

@[simp] theorem stand_masterWrite (m : Mach) (cls inst a : Nat) (bs : List Byte) :
    (m.masterWrite cls inst a bs).2.stand = m.stand := by
  unfold masterWrite
  refine foldl_keeps (fun r : Bool × Mach => r.2.stand) ?_ _ _
  rintro ⟨ok, m⟩ x
  dsimp only
  split
  · exact (stand_store _ _ _ _).trans (stand_masterCheck m cls inst x 1)
  · exact stand_masterCheck m cls inst x 1

/-! ### Clusters and the link -/

@[simp] theorem stand_setKiln (m : Mach) (cl : Nat) (k : Kiln) : (m.setKiln cl k).stand = m.stand :=
  stand_congr (setKiln_tick m cl k) (setKiln_pair m cl k)

@[simp] theorem stand_modKiln (m : Mach) (cl : Nat) (f : Kiln → Kiln) : (m.modKiln cl f).stand = m.stand :=
  stand_setKiln m cl _

@[simp] theorem stand_showFiring (m : Mach) : m.showFiring.stand = m.stand := stand_congr rfl rfl

@[simp] theorem stand_sendLink (m : Mach) (type : Nat) (payload : List Byte) : (m.sendLink type payload).stand = m.stand := by
  unfold sendLink
  split <;> rfl

@[simp] theorem stand_notice (m : Mach) (reason : Nat) : (m.notice reason).stand = m.stand := by
  unfold notice
  split
  · exact stand_sendLink m _ _
  · rfl

@[simp] theorem stand_restoreDelta (m : Mach) : m.restoreDelta.stand = m.stand :=
  foldl_keeps stand (f := fun m (e : Nat × Word) => m.putWords (8 * e.1) (leBytes 8 e.2.toNat))
    (fun m _ => stand_putWords m _ _) m.tick.delta m

@[simp] theorem stand_undoTick (m : Mach) : m.undoTick.stand = m.stand := stand_restoreDelta m

@[simp] theorem stand_losePeriod (m : Mach) (t : Nat) : (m.losePeriod t).stand = m.stand := by
  unfold losePeriod
  split <;> rfl

/-! ### Admission and the label (R441, R466) -/

@[simp] theorem stand_labelStart (m : Mach) : m.labelStart.stand = m.stand := by
  unfold labelStart
  split
  · dsimp only
    simp only [stand_setFld, stand_setBit]
    split
    · exact stand_putWords m _ _
    · rfl
  · simp

@[simp] theorem stand_labelWrite (m : Mach) : m.labelWrite.stand = m.stand := by
  unfold labelWrite
  split
  · rfl
  · exact (stand_withLabel _ _).trans ((stand_putWords _ _ _).trans (stand_putWords m _ _))

@[simp] theorem stand_admShow (m : Mach) : m.admShow.stand = m.stand := by
  unfold admShow
  extract_lets totalled frozen
  have hfrozen : frozen.stand = m.stand := by simp [frozen, totalled]
  refine (foldl_keeps stand (fun m c => ?_) _ frozen).trans hfrozen
  simp

@[simp] theorem stand_admStart (m : Mach) (q : AdmReq) : (m.admStart q).stand = m.stand := by
  unfold admStart
  split
  · exact stand_ledgerFlush m
  · exact stand_labelStart m
  · exact stand_labelWrite m
  · rfl
  · rfl

@[simp] theorem stand_admTry (boundary : Bool) (m : Mach) (q : AdmReq) : (admTry boundary m q).stand = m.stand := by
  unfold admTry
  split
  · exact stand_admStart _ q
  · rfl

@[simp] theorem stand_admEvaluate (m : Mach) (boundary : Bool) : (m.admEvaluate boundary).stand = m.stand :=
  (stand_admShow _).trans
    (foldl_keeps stand (fun m _ => foldl_keeps stand (fun m q => stand_admTry boundary m q) _ m) _ m)

/-! ### The journal and the commit of a tick (R351 to R353, R363) -/

@[simp] theorem stand_jst (m : Mach) (a : Nat) (bs : List Byte) : (m.jst a bs).stand = m.stand := stand_store m a bs 5

@[simp] theorem stand_acjShow (m : Mach) : m.acjShow.stand = m.stand :=
  (stand_setBit _ _ _ _).trans ((stand_setBit _ _ _ _).trans
    ((stand_setFld _ _ _ _ _).trans ((stand_setFld _ _ _ _ _).trans (stand_setFld m _ _ _ _))))

@[simp] theorem stand_setDelivery (m : Mach) (l : List Nat) : (m.setDelivery l).stand = m.stand := by
  simp [setDelivery]

@[simp] theorem stand_fixDelivery (m : Mach) : m.fixDelivery.stand = m.stand := stand_setDelivery m _

@[simp] theorem stand_sendComplete (m : Mach) (slot : Nat) : (m.sendComplete slot).stand = m.stand := stand_congr rfl rfl

@[simp] theorem stand_completesDue (m : Mach) : m.completesDue.stand = m.stand := by
  unfold completesDue
  split
  · rfl
  · refine foldl_keeps stand (fun m n => ?_) _ _
    split
    · exact stand_sendComplete m _
    · rfl

@[simp] theorem stand_sendCommit (m : Mach) (c : Commit) : (m.sendCommit c).stand = m.stand :=
  foldl_keeps stand (fun m _ => stand_sendLink m 0x10 _) _ m

@[simp] theorem stand_commitWrite (m : Mach) : m.commitWrite.stand = m.stand := by
  unfold commitWrite
  extract_lets entries header stored c jrn opened
  have hopened : opened.stand = m.stand := (stand_withJrn stored _).trans (by simp [stored])
  split
  · exact (stand_sendCommit _ c).trans hopened
  · exact hopened

@[simp] theorem stand_bankGranule (m : Mach) (g : Nat) (v : List Byte) : (m.bankGranule g v).stand = m.stand := by
  unfold bankGranule
  dsimp only
  split
  · split
    · rfl
    · split <;> rfl
  · rfl

@[simp] theorem stand_setRecState (m : Mach) (n v : Nat) : (m.setRecState n v).stand = m.stand := stand_congr rfl rfl

@[simp] theorem stand_deliverRec (m : Mach) (n : Nat) : (m.deliverRec n).stand = m.stand :=
  (stand_jst _ _ _).trans (stand_setRecState m n 3)

@[simp] theorem stand_completeRec (m : Mach) (tick : Nat) (e : Nat × Nat) : (m.completeRec tick e).stand = m.stand := by
  unfold completeRec
  exact (stand_withJrn _ _).trans ((stand_jst _ _ _).trans (stand_setRecState m _ _))

@[simp] theorem stand_pairRecord (m : Mach) (tick : Nat) : (m.pairRecord tick).stand = m.stand := rfl

@[simp] theorem stand_commitDone (m : Mach) (c : Commit) : (m.commitDone c).stand = m.stand := by
  unfold commitDone
  extract_lets jrn closed delta banked pointed delivered completed counted slots jrn' lagged
  have hbanked : banked.stand = m.stand := foldl_keeps stand (fun m e => stand_bankGranule m _ _) _ closed
  have hdelivered : delivered.stand = m.stand := (foldl_keeps stand stand_deliverRec _ pointed).trans hbanked
  have hcompleted : completed.stand = m.stand :=
    (foldl_keeps stand (fun m e => stand_completeRec m c.tick e) _ delivered).trans hdelivered
  have hlagged : lagged.stand = m.stand :=
    (stand_withJrn counted _).trans ((stand_wr completed _ _).trans hcompleted)
  exact ((stand_acjShow _).trans (stand_pairRecord lagged c.tick)).trans hlagged

@[simp] theorem stand_commitTry (m : Mach) : m.commitTry.stand = m.stand := by
  unfold commitTry
  split
  · split
    · exact stand_commitDone m _
    · rfl
  · rfl

@[simp] theorem stand_commitMap (m : Mach) (tick : Nat) (f : Commit → Commit) : (m.commitMap tick f).stand = m.stand := stand_congr rfl rfl

end Mach
end Sys2Proof.Machine
end

section
/-! SUPPORT. The Deadline Engine does not move where the tick stands (R250 to R273). -/

namespace Sys2Proof.Machine

namespace Mach

/-! ### Records and axes -/

@[simp] theorem stand_recPut (m : Mach) (k o n v : Nat) : (m.recPut k o n v).stand = m.stand := stand_congr rfl rfl

@[simp] theorem stand_setChain (m : Mach) (k : Nat) (l : List Nat) : (m.setChain k l).stand = m.stand := by
  unfold setChain
  rw [foldl_keeps stand (fun m e => stand_recPut m _ _ _ _)]
  simp

@[simp] theorem stand_bindAct (m : Mach) (r k : Nat) : (m.bindAct r k).stand = m.stand := stand_setChain m k _

@[simp] theorem stand_unbindAct (m : Mach) (r : Nat) : (m.unbindAct r).stand = m.stand := by
  unfold unbindAct
  dsimp only
  split
  · simp
  · rfl

@[simp] theorem stand_dleShow (m : Mach) : m.dleShow.stand = m.stand := by simp [dleShow]

@[simp] theorem stand_dleOther (m : Mach) : m.dleOther.stand = m.stand := stand_incFld m _ _ _

@[simp] theorem stand_endAct (m : Mach) (r outcome : Nat) : (m.endAct r outcome).stand = m.stand := by
  unfold endAct
  extract_lets unbound written dle ended
  have hended : ended.stand = m.stand := (stand_withDle written _).trans (by simp [written, unbound])
  split
  · exact (stand_incFld ended _ _ _).trans hended
  · exact hended

@[simp] theorem stand_setAxis (m : Mach) (a : Nat) (x : Axis) : (m.setAxis a x).stand = m.stand := by
  unfold setAxis
  extract_lets dle kept shown
  have hkept : kept.stand = m.stand := stand_withDle m _
  simp [shown, hkept]

@[simp] theorem stand_staleAxis (m : Mach) (a : Nat) : (m.staleAxis a).stand = m.stand := by
  refine foldl_keeps stand (fun m k => ?_) m.trks m
  split
  · exact stand_recPut m _ _ _ _
  · rfl

@[simp] theorem stand_axisLose (m : Mach) (a : Nat) : (m.axisLose a).stand = m.stand := by
  unfold axisLose
  dsimp only
  split
  · rfl
  · simp

@[simp] theorem stand_axisCoast (m : Mach) (a : Nat) (x : Axis) : (m.axisCoast a x).stand = m.stand := by
  unfold axisCoast
  extract_lets missed kept
  have hkept : kept.stand = m.stand := stand_setAxis m a missed
  split
  · exact (stand_axisLose kept a).trans hkept
  · exact hkept

@[simp] theorem stand_axisTake (m : Mach) (a : Nat) (x : Axis) (pn tn v : Int) (c : Nat) :
    (m.axisTake a x pn tn v c).stand = m.stand := by
  unfold axisTake
  extract_lets st back kept
  have hkept : kept.stand = m.stand := stand_setAxis m a _
  split
  · exact (stand_ledger kept _ _ _ _ _).trans hkept
  · exact hkept

@[simp] theorem stand_axisUpdate (m : Mach) (a : Nat) (present : Bool) : (m.axisUpdate a present).stand = m.stand := by
  unfold axisUpdate
  extract_lets
  split
  · exact stand_axisCoast m a _
  · split
    · exact stand_setAxis m a _
    · split
      · split
        · exact stand_setAxis m a _
        · exact stand_axisTake m a _ _ _ _ _
      · split
        · exact stand_axisCoast m a _
        · exact stand_axisTake m a _ _ _ _ _

@[simp] theorem stand_axesOff (m : Mach) : m.axesOff.stand = m.stand := by
  refine foldl_keeps stand (fun m e => ?_) m.dle.axes m
  split
  · rfl
  · simp

@[simp] theorem stand_axesUpdate (m : Mach) : m.axesUpdate.stand = m.stand := by
  unfold axesUpdate
  extract_lets off buf
  exact (foldl_keeps stand (fun m _ => stand_axisUpdate m _ _) _ off).trans (stand_axesOff m)

/-! ### Actions and requests -/

@[simp] theorem stand_candPut (m : Mach) (c : Cand) : (m.candPut c).stand = m.stand := stand_congr rfl rfl

@[simp] theorem stand_candCancel (m : Mach) (aid station output : Nat) :
    (m.candCancel aid station output).stand = m.stand := stand_congr rfl rfl

@[simp] theorem stand_candReady (m : Mach) (r : Nat) (sup again : Bool) : (m.candReady r sup again).stand = m.stand :=
  stand_candPut m _

@[simp] theorem stand_candClear (m : Mach) (r : Nat) : (m.candClear r).stand = m.stand := stand_congr rfl rfl

@[simp] theorem stand_candDrop (m : Mach) (c : Cand) : (m.candDrop c).stand = m.stand := stand_congr rfl rfl

@[simp] theorem stand_actTime (m : Mach) (r : Nat) (sup : Bool) : (m.actTime r sup).stand = m.stand := by
  unfold actTime
  split
  · simp
  · split <;> simp
  · simp

@[simp] theorem stand_actFields (m : Mach) (r : Nat) (q : TactReq) : (m.actFields r q).stand = m.stand := by
  unfold actFields
  dsimp only
  split <;> simp

@[simp] theorem stand_actNew (m : Mach) (r : Nat) (q : TactReq) : (m.actNew r q).stand = m.stand := by
  unfold actNew
  extract_lets dle taken cleared
  have htaken : taken.stand = m.stand := stand_withDle m _
  simp [cleared, htaken]

@[simp] theorem stand_actFail (m : Mach) (q : TactReq) (outcome : Nat) : (m.actFail q outcome).stand = m.stand := by
  unfold actFail
  dsimp only
  split <;> simp

@[simp] theorem stand_actCancel (m : Mach) (q : TactReq) : (m.actCancel q).stand = m.stand := by
  unfold actCancel
  split
  · simp
  · split <;> simp

@[simp] theorem stand_actSupersede (m : Mach) (r : Nat) (q : TactReq) : (m.actSupersede r q).stand = m.stand := by
  unfold actSupersede
  split
  · simp
  · split <;> simp

@[simp] theorem stand_takeTact (m : Mach) (b : List Byte) : (m.takeTact b).stand = m.stand := by
  unfold takeTact
  extract_lets q held
  clear_value held
  split
  · simp
  · split
    · simp
    · split
      · simp
      · split
        · simp
        · split
          · simp
          · split
            · simp
            · split
              · simp
              · split <;> simp

@[simp] theorem stand_takeTrku (m : Mach) (b : List Byte) : (m.takeTrku b).stand = m.stand := by
  unfold takeTrku
  extract_lets k op a tref st x bound ended first placed
  split
  · simp
  · split
    · split
      · rfl
      · have hended : ended.stand = m.stand := foldl_keeps stand (fun m r => stand_endAct m r 0x04) _ m
        simp [hended]
    · split
      · simp
      · split
        · simp
        · split <;> simp [placed, first]

@[simp] theorem stand_takeReq (m : Mach) (r : Req) : (m.takeReq r).stand = m.stand := by
  unfold takeReq
  split
  · exact stand_takeTact m _
  · exact stand_takeTrku m _
  · rfl

/-- Drawing a free value changes the count of draws alone. -/
theorem stand_free (m : Mach) : m.free.2.stand = m.stand := stand_congr rfl rfl

@[simp] theorem stand_trackAnswer (m : Mach) (key qtag time : Nat) :
    (m.trackAnswer key qtag time).2.stand = m.stand := by
  unfold trackAnswer
  extract_lets x st outcome
  split
  · rfl
  · exact (stand_free _).trans ((stand_free _).trans (stand_free m))

@[simp] theorem stand_actAnswer (m : Mach) (key qtag time : Nat) : (m.actAnswer key qtag time).2.stand = m.stand := by
  unfold actAnswer
  extract_lets found
  clear_value found
  split
  · rfl
  · exact stand_free m

@[simp] theorem stand_answerReq (m : Mach) (cl : Nat) (r : Req) : (m.answerReq cl r).stand = m.stand := by
  unfold answerReq
  split
  · rfl
  · rfl
  · rw [stand_modKiln]
    split
    · exact stand_trackAnswer m _ _ _
    · exact stand_actAnswer m _ _ _

/-! ### Entries, the fault of the engine, and the two phases -/

@[simp] theorem stand_candPlace (emits : Bool) (m : Mach) (c : Cand) : (candPlace emits m c).stand = m.stand := by
  unfold candPlace
  split
  · exact stand_candDrop m c
  · extract_lets room put r f ahead sent sup level b entered dle listed marked
    have hput : ∀ b, (put (m.candDrop c) b).stand = m.stand := fun b => (stand_withDle _ _).trans (stand_candDrop m c)
    have hmarked : marked.stand = m.stand := by
      have hlisted : listed.stand = m.stand := (stand_withDle entered _).trans (hput b)
      simp [marked, hlisted]
    split
    · split
      · rfl
      · split
        · exact hput _
        · exact stand_incFld m _ _ _
    · split
      · split
        · simp
        · exact stand_endAct m r _
      · split
        · rfl
        · split
          · exact stand_incFld m _ _ _
          · split
            · simp [hmarked]
            · exact hmarked

@[simp] theorem stand_assemble (m : Mach) (emits : Bool) : (m.assemble emits).stand = m.stand :=
  foldl_keeps stand (fun m c => stand_candPlace emits m c) _ m

@[simp] theorem stand_dleFault (m : Mach) (thisTick : Bool) : (m.dleFault thisTick).stand = m.stand := by
  unfold dleFault
  extract_lets faulty recorded dle t stopped undone
  have hrecorded : recorded.stand = m.stand := by simp [recorded, faulty]
  have hundone : undone.stand = m.stand := by
    have hstopped : stopped.stand = m.stand := hrecorded
    unfold undone
    split
    · exact hstopped
    · exact (stand_undoTick stopped).trans hstopped
  split
  · exact (stand_withDle recorded _).trans hrecorded
  · simp [hundone]

@[simp] theorem stand_requestPhase (m : Mach) (mis : Option Nat) (emits : Bool) :
    (m.requestPhase mis emits).stand = m.stand := by
  unfold requestPhase
  extract_lets turn q0 q1 dle opened updated reqs n taken loaded
  have hopened : opened.stand = m.stand := stand_congr rfl rfl
  have hloaded : loaded.stand = m.stand := by
    have htaken : taken.stand = updated.stand := foldl_keeps stand (fun m (e : Nat × Req) => stand_takeReq m e.2) _ updated
    simp [loaded, htaken, updated, hopened]
  split
  · exact hopened
  · split
    · simp [hloaded]
    · rw [stand_dleShow, foldl_keeps stand (fun m (e : Nat × Req) => stand_answerReq m e.1 e.2), stand_assemble, hloaded]

@[simp] theorem stand_recompute (m : Mach) (r : Nat) : (m.recompute r).stand = m.stand := by
  unfold recompute
  extract_lets sv st fsent k kind1 f a held note noted tol withdrawn
  clear_value f
  have hnoted : noted.stand = m.stand := by
    unfold noted note
    split
    · exact stand_recPut m _ _ _ _
    · rfl
  have hwithdrawn : withdrawn.stand = m.stand := by simp [withdrawn]
  split
  · exact stand_endAct m r _
  · split
    · rfl
    · split
      · split
        · exact stand_endAct m r _
        · exact stand_candClear m r
        · split
          · simp [hnoted]
          · exact hnoted
      · split
        · split
          · simp [hnoted]
          · exact hnoted
        · split
          · rfl
          · split
            · simp [hwithdrawn]
            · split
              · rfl
              · simp

@[simp] theorem stand_recomputePhase (m : Mach) (mis : Option Nat) : (m.recomputePhase mis).stand = m.stand := by
  unfold recomputePhase
  extract_lets live key le all reached recomputed loaded
  have hloaded : loaded.stand = m.stand := by
    have hrecomputed : recomputed.stand = m.stand := foldl_keeps stand stand_recompute _ m
    simp [loaded, hrecomputed]
  split
  · rfl
  · split <;> simp [hloaded]

end Mach
end Sys2Proof.Machine
end

section
/-! SUPPORT. Ring ports, programs, the pair and the standby's tests do not move where the tick stands. -/

namespace Sys2Proof.Machine

namespace Mach

/-! ### Ring ports (R225 to R227, R246 to R249) -/

@[simp] theorem stand_captureEnd (m : Mach) (p : Nat) : (m.captureEnd p).stand = m.stand := by
  unfold captureEnd
  split
  · exact stand_withGx m _
  · exact stand_setBit m _ _ _

@[simp] theorem stand_capture (m : Mach) (p : Nat) (f : List Byte) (sent bad : Bool) :
    (m.capture p f sent bad).stand = m.stand := by
  unfold capture
  split
  · rfl
  · extract_lets rcd wrapped a
    have hwrapped : wrapped.stand = m.stand := by unfold wrapped; split <;> simp
    split
    · exact hwrapped
    · split
      rename_i written hwritten
      have hstand : written.stand = m.stand := by rw [← hwrapped, ← stand_masterWrite wrapped 3 p a rcd, hwritten]
      exact (stand_setFld _ _ _ _ _).trans ((stand_withGx written _).trans hstand)

@[simp] theorem stand_gxOut (m : Mach) (p : Nat) (f : List Byte) : (m.gxOut p f).stand = m.stand := by simp [gxOut]

@[simp] theorem stand_gxOuts (m : Mach) (l : List (Nat × List Byte)) : (m.gxOuts l).stand = m.stand :=
  foldl_keeps stand (fun m (e : Nat × List Byte) => stand_gxOut m e.1 e.2) l m

@[simp] theorem stand_outTrains (m : Mach) : m.outTrains.2.stand = m.stand := by
  unfold outTrains
  refine foldl_keeps (fun r : List (Nat × List Byte) × Mach => r.2.stand) ?_ _ _
  rintro ⟨l, m⟩ p
  dsimp only
  split
  · rfl
  · exact stand_wr m _ _

@[simp] theorem stand_actTrains (m : Mach) : m.actTrains.2.stand = m.stand := by
  unfold actTrains
  refine foldl_keeps (fun r : List (Nat × List Byte) × Mach => r.2.stand) ?_ _ _
  rintro ⟨l, m⟩ p
  dsimp only
  split
  · rfl
  · exact stand_wr m _ _

@[simp] theorem stand_statusTelegrams (m : Mach) (reason : Nat) : (m.statusTelegrams reason).stand = m.stand := by
  refine foldl_keeps stand (fun m p => ?_) _ m
  split
  · rfl
  · exact stand_gxOut m p _

@[simp] theorem stand_gxClose (m : Mach) : m.gxClose.stand = m.stand := by
  unfold gxClose
  extract_lets shown
  exact (foldl_keeps stand (fun m p => stand_setFld m _ _ _ _) _ shown).trans (stand_setFld m _ _ _ _)

@[simp] theorem stand_presence1 (m : Mach) (p : Nat) (leaves : List CatEnt) (e : CatEnt) :
    (m.presence1 p leaves e).stand = m.stand := by
  unfold presence1
  extract_lets was now key shown gx conf back known
  have hshown : shown.stand = m.stand := stand_setBit m _ _ _
  have hknown : known.stand = m.stand := (stand_withGx shown _).trans hshown
  split
  · exact (stand_ledger _ _ _ _ _ _).trans ((stand_withGx shown _).trans hshown)
  · split
    · split
      · exact (stand_ledger known _ _ _ _ _).trans hknown
      · exact hknown
    · exact hshown

@[simp] theorem stand_presence (m : Mach) : m.presence.stand = m.stand := by
  refine foldl_keeps stand (fun m p => ?_) _ m
  exact (stand_setFld _ _ _ _ _).trans (foldl_keeps stand (fun m e => stand_presence1 m p _ e) _ m)

/-! ### Events, changes and restarts of the program (R198, R204, R321, R332) -/

@[simp] theorem stand_eventPut (m : Mach) (tick kind : Nat) : (m.eventPut tick kind).stand = m.stand :=
  stand_withPair m _ rfl rfl

@[simp] theorem stand_changeReady (m : Mach) : m.changeReady.stand = m.stand := by
  unfold changeReady
  split
  · rfl
  · split
    · exact (stand_setFld _ _ _ _ _).trans (stand_withPgm m _)
    · rfl

@[simp] theorem stand_switchAt (m : Mach) (c : Change) (lo : Nat) : (m.switchAt c lo).stand = m.stand := by
  simp [switchAt]

@[simp] theorem stand_switchFix (m : Mach) : m.switchFix.stand = m.stand := by
  unfold switchFix
  split
  · rfl
  · split
    · rfl
    · split
      · exact stand_switchAt m _ _
      · split
        · simp
        · rfl

@[simp] theorem stand_restartFix (m : Mach) : m.restartFix.stand = m.stand := by
  unfold restartFix
  split
  · rfl
  · dsimp only
    split
    · rfl
    · exact stand_withPgm m _

@[simp] theorem stand_showRestarted (m : Mach) : m.showRestarted.stand = m.stand := stand_withPgm m _

@[simp] theorem stand_swapCancel (m : Mach) : m.swapCancel.stand = m.stand := by
  unfold swapCancel
  split
  · exact (stand_ledger _ _ _ _ _ _).trans (stand_withPair m _ rfl rfl)
  · rfl

/-! ### Reconcile (R323, R354) -/

@[simp] theorem stand_ownDelivery (m : Mach) : m.ownDelivery.stand = m.stand := by
  unfold ownDelivery
  split
  · exact stand_fixDelivery m
  · exact stand_setDelivery m _

@[simp] theorem stand_healthForm (m : Mach) : m.healthForm.stand = m.stand := stand_wr m _ _

@[simp] theorem stand_sendInput (m : Mach) : m.sendInput.stand = m.stand := by
  unfold sendInput
  extract_lets shown
  have hshown : shown.stand = m.stand := by unfold shown; split <;> simp
  split
  · exact (stand_withTmb _ _).trans ((stand_sendLink shown _ _).trans hshown)
  · exact hshown

@[simp] theorem stand_sendDeltas (m : Mach) : m.sendDeltas.stand = m.stand := by
  unfold sendDeltas
  extract_lets ds l sent
  have hsent : sent.stand = m.stand := foldl_keeps stand (fun m k => stand_sendLink m 0x03 _) _ m
  simp [hsent]

@[simp] theorem stand_inputForces (m : Mach) : m.inputForces.stand = m.stand := by
  refine foldl_keeps stand (fun m f => ?_) _ m
  dsimp only
  split
  · exact stand_store m _ _ _
  · exact stand_store m _ _ _

@[simp] theorem stand_snapshots (m : Mach) : m.snapshots.stand = m.stand := by
  refine foldl_keeps stand (fun m r => ?_) _ m
  split
  · exact stand_copyWords m _ _ _
  · rfl

@[simp] theorem stand_diverge (m : Mach) (cmp : Nat) : (m.diverge cmp).stand = m.stand := by
  unfold diverge
  split
  · rfl
  · extract_lets shown recent t p parted
    have hshown : shown.stand = m.stand := by simp [shown]
    clear_value shown
    have hparted : parted.stand = shown.stand := by simp only [stand, parted, p, t]
    exact (stand_ledger _ _ _ _ _ _).trans ((stand_showFiring parted).trans (hparted.trans hshown))

@[simp] theorem stand_partnerDiverged (m : Mach) (cmp : Nat) : (m.partnerDiverged cmp).stand = m.stand := by
  unfold partnerDiverged
  split
  · rfl
  · rw [stand_ledger]
    exact stand_withPair m _ rfl rfl

@[simp] theorem stand_adoptJudge (m : Mach) : m.adoptJudge.stand = m.stand := by
  unfold adoptJudge
  split
  · rfl
  · extract_lets ok fail stepped p failed
    have hfail : (fail m).stand = m.stand := by simp [fail]
    split
    · split
      · split
        · rfl
        · exact stand_setBit m _ _ _
      · exact (stand_diverge _ _).trans hfail
    · split
      · exact (stand_withPair stepped _ rfl rfl).trans (stand_setBit m _ _ _)
      · exact (stand_withPair failed _ rfl rfl).trans ((stand_setBit _ _ _ _).trans hfail)

@[simp] theorem stand_loseAll (m : Mach) : m.loseAll.stand = m.stand := by
  unfold loseAll
  refine foldl_keeps stand (fun m t => ?_) _ m
  split
  · exact stand_losePeriod m t
  · rfl

@[simp] theorem stand_cutFailed (m : Mach) : m.cutFailed.stand = m.stand := by
  unfold cutFailed
  extract_lets noted counted t p
  have hcounted : counted.stand = m.stand := by simp [counted, noted]
  clear_value counted
  exact hcounted

/-! ### The time step and the serving primary (R286, R336 to R339) -/

@[simp] theorem stand_stepTime (m : Mach) (d : Int) : (m.stepTime d).stand = m.stand := by
  unfold stepTime
  extract_lets t clock moved v
  have hmoved : moved.stand = m.stand := stand_wr64 _ _ _
  exact (stand_ledger moved _ _ _ _ _).trans hmoved

@[simp] theorem stand_stepGuard (m : Mach) : m.stepGuard.stand = m.stand := by
  unfold stepGuard
  split
  · rfl
  · split
    · rfl
    · exact (stand_stepTime _ _).trans ((stand_setBit _ _ _ _).trans (stand_withTmb m _))

@[simp] theorem stand_sendPage (m : Mach) (p : Nat) : (m.sendPage p).stand = m.stand := stand_sendLink m _ _

@[simp] theorem stand_showPass (m : Mach) (phase pages : Nat) : (m.showPass phase pages).stand = m.stand := by
  simp [showPass]

@[simp] theorem stand_mirrorSync (m : Mach) : m.mirrorSync.stand = m.stand := by
  unfold mirrorSync
  extract_lets recs sent
  have hsent : sent.stand = m.stand := foldl_keeps stand (fun m k => stand_sendLink m 0x41 _) _ m
  exact (stand_withPair sent _ rfl rfl).trans hsent

@[simp] theorem stand_sendPages (m : Mach) (ps : List Nat) : (m.sendPages ps).stand = m.stand := by
  unfold sendPages
  extract_lets sent
  have hsent : sent.stand = m.stand := (foldl_keeps stand stand_sendPage ps m.mirrorSync).trans (stand_mirrorSync m)
  exact (stand_withPair sent _ rfl rfl).trans hsent

@[simp] theorem stand_passFirst (m : Mach) : m.passFirst.stand = m.stand := by
  unfold passFirst
  split
  · rfl
  · rw [stand_sendPages, stand_showPass]
    exact stand_withPair m _ rfl rfl

@[simp] theorem stand_passNext (m : Mach) : m.passNext.stand = m.stand := by
  rw [passNext, stand_sendPages, stand_showPass]
  exact stand_withPair m _ rfl rfl

@[simp] theorem stand_cutAbandon (m : Mach) : m.cutAbandon.stand = m.stand := by
  rw [cutAbandon, stand_passNext, stand_incFld]
  exact stand_withPair m _ rfl rfl

@[simp] theorem stand_blocksSync (m : Mach) : m.blocksSync.stand = m.stand := by
  unfold blocksSync sendBlocks
  refine foldl_keeps stand (fun m k => ?_) _ m
  exact (stand_sendLink _ _ _).trans (stand_withPair m _ rfl rfl)

@[simp] theorem stand_sendCut (m : Mach) (c : Nat) : (m.sendCut c).stand = m.stand := by
  simp [sendCut]

@[simp] theorem stand_serveTick (m : Mach) : m.serveTick.stand = m.stand := by
  unfold serveTick
  split
  · rfl
  · extract_lets synced mirrored p
    have hsynced : synced.stand = m.stand := by simp [synced]
    split
    · split
      · exact (stand_cutAbandon synced).trans hsynced
      · exact (stand_sendCut synced _).trans hsynced
    · split
      · exact hsynced
      · exact (stand_withPair mirrored _ rfl rfl).trans ((stand_mirrorSync synced).trans hsynced)

/-! ### The standby's tests and the role (R177, R274, R311, R341) -/

@[simp] theorem stand_inject (m : Mach) (cl v : Nat) (observed : Option Nat) : (m.inject cl v observed).stand = m.stand := by
  unfold inject
  extract_lets ctl point res answered write sig differs written signed shown
  have hwritten : written.stand = m.stand := by unfold written; split <;> simp [answered]
  have hsigned : signed.stand = m.stand := by unfold signed; split <;> simp [hwritten]
  have hshown : shown.stand = m.stand := by unfold shown; split <;> simp [hsigned]
  exact (stand_wr shown _ _).trans hshown

@[simp] theorem stand_injectionResult (m : Mach) (cl : Nat) (fail : Option InjFail) :
    (m.injectionResult cl fail).stand = m.stand := by
  unfold injectionResult
  split <;> simp

@[simp] theorem stand_injTest (m : Mach) (k : Nat) (observed : Option Nat) : (m.injTest k observed).stand = m.stand := by
  unfold injTest
  split
  simp

@[simp] theorem stand_cmpTest (m : Mach) (k : Nat) (observed : Option Nat) : (m.cmpTest k observed).stand = m.stand := by
  unfold cmpTest
  dsimp only
  split <;> simp

@[simp] theorem stand_cmpFailed (m : Mach) (point half mask res : Nat) :
    (m.cmpFailed point half mask res).stand = m.stand := by simp [cmpFailed]

@[simp] theorem stand_standbyTests (m : Mach) (t : SelfTest) : (m.standbyTests t).stand = m.stand := by
  unfold standbyTests
  extract_lets k p turned injected judged compared
  have hinjected : injected.stand = m.stand := (stand_injTest turned _ _).trans (stand_withPair m _ rfl rfl)
  have hjudged : judged.stand = m.stand := by
    unfold judged
    split
    · exact (stand_injectionResult injected _ _).trans hinjected
    · exact hinjected
  have hcompared : compared.stand = m.stand := (stand_cmpTest judged _ _).trans hjudged
  split
  · exact (stand_cmpFailed compared _ _ _ _).trans hcompared
  · exact hcompared

@[simp] theorem stand_lineRelease (m : Mach) : m.lineRelease.stand = m.stand :=
  (stand_setFld _ _ _ _ _).trans (stand_withPair m _ rfl rfl)

@[simp] theorem stand_giveUp (m : Mach) : m.giveUp.stand = m.stand := by
  unfold giveUp
  split
  · rfl
  · split
    · rfl
    · split
      · exact stand_lineRelease m
      · split
        · rfl
        · rw [stand_lineRelease, stand_notice]
          exact stand_withPair m _ rfl rfl
    · split
      · rw [stand_lineRelease, stand_notice]
        exact stand_withPair m _ rfl rfl
      · rfl
    · split
      · exact stand_lineRelease m
      · rfl
    · split
      · simp
      · rfl

end Mach
end Sys2Proof.Machine
end

section
/-! SUPPORT. Digests, what leaves a module, and the ends of a firing: where each leaves the tick (R22, R55, R324). -/

namespace Sys2Proof.Machine

namespace Mach

/-! ### Digests (R324 to R327) -/

@[simp] theorem stand_sendDigest (m : Mach) (type : Nat) (d : Digest) : (m.sendDigest type d).stand = m.stand :=
  stand_sendLink m type _

@[simp] theorem stand_sendAct (m : Mach) : m.sendAct.stand = m.stand := by
  rw [sendAct, stand_gxOuts]
  exact stand_withPair m _ rfl rfl

@[simp] theorem stand_sendOut (m : Mach) : m.sendOut.stand = m.stand := by
  rw [sendOut, stand_gxOuts]
  rfl

@[simp] theorem stand_judge (m : Mach) (out : Bool) : (m.judge out).stand = m.stand := by
  unfold judge
  split
  · rfl
  · extract_lets own part held go
    have hgo : ∀ m : Mach, (go m).stand = m.stand := fun m => by
      unfold go
      split
      · rfl
      · split
        · exact stand_sendOut m
        · exact stand_sendAct m
    clear_value own part go
    split
    · split
      · rfl
      · split
        · exact hgo m
        · split
          · exact (hgo _).trans (stand_withPair m _ rfl rfl)
          · split
            · exact hgo m
            · split
              · rfl
              · exact stand_diverge m _
    · rfl

/-- An output digest leaves where the tick stands. -/
@[simp] theorem stand_ownDigest_out (m : Mach) (kind value : Nat) (self : Bool) :
    (m.ownDigest true kind value self).stand = m.stand := by
  rw [ownDigest, stand_judge, stand_sendDigest]
  exact stand_withPair m _ rfl rfl

/-- An action digest is kept with the tick's number. -/
theorem stand_ownDigest_act (m : Mach) (kind value : Nat) (self : Bool) :
    (m.ownDigest false kind value self).stand = { m.stand with ownAct := some ⟨m.tickNo, value, kind, self⟩ } := by
  rw [ownDigest, stand_judge, stand_sendDigest]
  rfl

/-! ### The commit in the standby (R319, R327) -/

@[simp] theorem stand_sendConfirm (m : Mach) (result check : Nat) : (m.sendConfirm result check).stand = m.stand :=
  stand_sendLink m _ _

@[simp] theorem stand_commitCompare (m : Mach) (tick : Nat) (bs : List Byte) : (m.commitCompare tick bs).stand = m.stand := by
  unfold commitCompare
  extract_lets check marked
  have hmarked : marked.stand = m.stand := by simp [marked]
  split
  · split
    · rw [stand_commitTry]
      split
      · exact (stand_sendConfirm _ _ _).trans hmarked
      · exact hmarked
    · simp
  · split
    · rfl
    · simp

@[simp] theorem stand_commitEarly (m : Mach) : m.commitEarly.stand = m.stand := by
  unfold commitEarly
  split
  · rfl
  · extract_lets p taken
    have htaken : taken.stand = m.stand := stand_withPair m _ rfl rfl
    split
    · exact (stand_commitCompare taken _ _).trans htaken
    · exact htaken

/-! ### The clusters at the start and the end of a firing (R51, R71, R183) -/

@[simp] theorem stand_openKiln (m : Mach) (cl : Nat) : (m.openKiln cl).stand = m.stand := stand_modKiln m cl _

@[simp] theorem stand_exchangeLine (m : Mach) (l : Nat) : (m.exchangeLine l).stand = m.stand := stand_congr rfl rfl

@[simp] theorem stand_closeKiln (m : Mach) (cl : Nat) : (m.closeKiln cl).stand = m.stand := by
  unfold closeKiln
  rw [stand_modKiln, foldl_keeps stand stand_exchangeLine, stand_wr, stand_wr]

@[simp] theorem stand_cutKiln (m : Mach) (cl : Nat) : (m.cutKiln cl).stand = m.stand := stand_modKiln m cl _

@[simp] theorem stand_outRefill (m : Mach) : m.outRefill.stand = m.stand := stand_copyWords m _ _ _

/-- The phase entered is the tick's, and nothing else moves. -/
theorem stand_enterPhase (m : Mach) (n : Nat) : (m.enterPhase n).stand = { m.stand with phase := n } :=
  stand_setFld _ _ _ _ _

/-- The firing of the tick has ended. -/
theorem stand_tickEnded (m : Mach) : m.tickEnded.stand = { m.stand with ended := true } := by
  unfold tickEnded
  dsimp only
  split
  · exact stand_setBit _ _ _ _
  · rfl

/-- The output buffers swap once the output image is emitted. -/
theorem stand_outEmit (m : Mach) : m.outEmit.stand = { m.stand with outBuf := 1 - m.tick.outBuf } := by
  unfold outEmit
  extract_lets t swapped refilled p
  have hrefilled : refilled.stand = { m.stand with outBuf := 1 - m.tick.outBuf } := (stand_outRefill swapped).trans rfl
  split
  · exact hrefilled
  · split
    rename_i frames sequenced hsequenced
    have hstand : sequenced.stand = refilled.stand := by rw [← stand_outTrains refilled, hsequenced]
    split
    · rw [stand_ownDigest_out, stand_gxOuts, ← hrefilled]
      exact hstand
    · rw [stand_ownDigest_out, ← hrefilled]
      exact (stand_withPair sequenced _ rfl rfl).trans hstand

/-! ### The deadline (R54 to R57, R227) -/

/-- The tick counts as an overrun. -/
theorem stand_overrunCount (m : Mach) (task : Nat) : (m.overrunCount task).stand = { m.stand with overrun := true } := by
  unfold overrunCount
  simp only [stand_ledger, stand_setFld, stand_incFld, stand_wr, stand_setBit]
  rfl

/-- The work of an overrun tick is undone, and its firing has ended. -/
theorem stand_overrunWork (m : Mach) : m.overrunWork.stand = { m.stand with ended := true, overrun := true } := by
  unfold overrunWork
  simp only [stand_showFiring, stand_outRefill, stand_overrunCount, stand_tickEnded, stand_cutKiln, stand_undoTick]
  rw [foldl_keeps stand stand_losePeriod]

theorem stand_overrunTick (m : Mach) : m.overrunTick.stand = { m.stand with ended := true, overrun := true } := by
  unfold overrunTick
  extract_lets self undone p judged
  have hjudged : judged.stand = { m.stand with ended := true, overrun := true } :=
    (stand_withPair undone _ rfl rfl).trans (stand_overrunWork m)
  split
  · exact (stand_commitEarly _).trans ((stand_ownDigest_out judged _ _ _).trans hjudged)
  · exact hjudged

@[simp] theorem stand_deadDigest (m : Mach) : m.deadDigest.stand = m.stand := by
  unfold deadDigest
  split
  · rfl
  · split
    · exact stand_ownDigest_out m _ _ _
    · split
      · exact stand_ownDigest_out m _ _ _
      · rfl

@[simp] theorem stand_statusPhase (m : Mach) : m.statusPhase.stand = m.stand := by
  unfold statusPhase
  split
  · exact stand_statusTelegrams m _
  · split
    · rfl
    · split
      · exact stand_statusTelegrams m _
      · split
        · exact stand_statusTelegrams m _
        · split
          · exact stand_statusTelegrams m _
          · rfl

end Mach
end Sys2Proof.Machine
end

section
/-! SUPPORT. The number of the tick stands while a module sends and captures telegrams (R226, R249, R385). -/

namespace Sys2Proof.Machine

namespace Mach

/-- The number of the tick is a matter of the registers alone. -/
theorem tickNo_of_regs {m m' : Mach} (h : m'.regs = m.regs) : m'.tickNo = m.tickNo := by
  rw [tickNo, rg64, rg_of_regs h, rg_of_regs h, tickNo, rg64]

/-- A register above the number's two words leaves it. -/
theorem tickNo_wr (m : Mach) (a v : Nat) (h : KLN_TICKNO + 4 < a) : (m.wr a v).tickNo = m.tickNo := by
  rw [tickNo, rg64, rg_wr_other _ _ _ _ (by omega), rg_wr_other _ _ _ _ (by omega), tickNo, rg64]

theorem tickNo_setFld (m : Mach) (a hi lo v : Nat) (h : KLN_TICKNO + 4 < a) : (m.setFld a hi lo v).tickNo = m.tickNo :=
  tickNo_wr m a _ h

theorem tickNo_wr64 (m : Mach) (a v : Nat) (h : KLN_TICKNO + 4 < a) : (m.wr64 a v).tickNo = m.tickNo := by
  rw [wr64, tickNo_wr _ _ _ (by omega), tickNo_wr _ _ _ h]

/-! The registers that sending writes lie above it. -/

theorem tickNo_lt_ecccnt (n : Nat) : KLN_TICKNO + 4 < DDC_ECCCNT n := by simp only [KLN_TICKNO, DDC_ECCCNT]; omega
theorem tickNo_lt_vinfo (c : Nat) : KLN_TICKNO + 4 < MPU_VINFO c := by simp only [KLN_TICKNO, MPU_VINFO]; omega
theorem tickNo_lt_vaddr (c : Nat) : KLN_TICKNO + 4 < MPU_VADDR c := by simp only [KLN_TICKNO, MPU_VADDR]; omega
theorem tickNo_lt_aseq (p : Nat) : KLN_TICKNO + 4 < GXP_ASEQ p := by simp only [KLN_TICKNO, GXP_ASEQ, gxpBase]; omega
theorem tickNo_lt_capstat (p : Nat) : KLN_TICKNO + 4 < GXP_CAPSTAT p := by simp only [KLN_TICKNO, GXP_CAPSTAT, gxpBase]; omega

@[simp] theorem tickNo_ledger (m : Mach) (code src arg0 arg1 arg2 : Nat) :
    (m.ledger code src arg0 arg1 arg2).tickNo = m.tickNo := by
  rw [tickNo, rg64, rg_ledger _ _ _ _ _ _ _ (by decide) (by decide) (by decide) (by decide) (by decide),
    rg_ledger _ _ _ _ _ _ _ (by decide) (by decide) (by decide) (by decide) (by decide), tickNo, rg64]

theorem tickNo_eccRecord (m : Mach) (a cls : Nat) (poison patrol : Bool) :
    (m.eccRecord a cls poison patrol).tickNo = m.tickNo := by
  unfold eccRecord
  dsimp only
  rw [tickNo_ledger, tickNo_wr _ _ _ (by decide), tickNo_wr64 _ _ _ (by decide)]
  exact tickNo_setFld _ _ _ _ _ (tickNo_lt_ecccnt _)

theorem tickNo_eccWriteWord (m : Mach) (w cls : Nat) (whole : Bool) : (m.eccWriteWord w cls whole).tickNo = m.tickNo := by
  unfold eccWriteWord
  split
  · rfl
  · split
    · rfl
    · exact (tickNo_of_regs rfl).trans (tickNo_setFld m _ _ _ _ (tickNo_lt_ecccnt _))
    · exact (tickNo_of_regs rfl).trans (tickNo_eccRecord m _ cls false false)
    · exact tickNo_eccRecord m _ cls true false

@[simp] theorem tickNo_store (m : Mach) (a : Nat) (bs : List Byte) (cls : Nat) : (m.store a bs cls).tickNo = m.tickNo :=
  (tickNo_of_regs rfl).trans (foldl_keeps tickNo (fun m w => tickNo_eccWriteWord m w cls _) _ m)

@[simp] theorem tickNo_mpuReport (m : Mach) (cls inst a kind : Nat) (priv : Bool) (region : Nat) :
    (m.mpuReport cls inst a kind priv region).tickNo = m.tickNo := by
  unfold mpuReport
  dsimp only
  rw [tickNo_ledger]
  split
  · exact tickNo_setFld m _ _ _ _ (tickNo_lt_vinfo cls)
  · rw [tickNo_wr _ _ _ (tickNo_lt_vinfo cls), tickNo_wr64 _ _ _ (tickNo_lt_vaddr cls)]

@[simp] theorem tickNo_masterCheck (m : Mach) (cls inst a kind : Nat) : (m.masterCheck cls inst a kind).2.tickNo = m.tickNo := by
  unfold masterCheck
  split
  · rfl
  · split
    · rfl
    · split
      · split
        · rfl
        · exact tickNo_mpuReport m _ _ _ _ _ _
      · rfl

@[simp] theorem tickNo_masterWrite (m : Mach) (cls inst a : Nat) (bs : List Byte) :
    (m.masterWrite cls inst a bs).2.tickNo = m.tickNo := by
  unfold masterWrite
  refine foldl_keeps (fun r : Bool × Mach => r.2.tickNo) ?_ _ _
  rintro ⟨ok, m⟩ x
  dsimp only
  split
  · exact (tickNo_store _ _ _ _).trans (tickNo_masterCheck m cls inst x 1)
  · exact tickNo_masterCheck m cls inst x 1

theorem tickNo_captureEnd (m : Mach) (p : Nat) : (m.captureEnd p).tickNo = m.tickNo := by
  unfold captureEnd
  split
  · exact tickNo_of_regs rfl
  · exact tickNo_setFld m _ _ _ _ (tickNo_lt_capstat p)

theorem tickNo_capture (m : Mach) (p : Nat) (f : List Byte) (sent bad : Bool) :
    (m.capture p f sent bad).tickNo = m.tickNo := by
  unfold capture
  split
  · rfl
  · extract_lets rcd wrapped a
    have hwrapped : wrapped.tickNo = m.tickNo := by
      unfold wrapped
      split
      · exact tickNo_captureEnd m p
      · rfl
    split
    · exact hwrapped
    · split
      rename_i written hwritten
      have hnumber : written.tickNo = m.tickNo := by rw [← hwrapped, ← tickNo_masterWrite wrapped 3 p a rcd, hwritten]
      exact (tickNo_setFld _ _ _ _ _ (tickNo_lt_capstat p)).trans ((tickNo_of_regs rfl).trans hnumber)

@[simp] theorem tickNo_gxOuts (m : Mach) (l : List (Nat × List Byte)) : (m.gxOuts l).tickNo = m.tickNo :=
  foldl_keeps tickNo (f := fun m (e : Nat × List Byte) => m.gxOut e.1 e.2)
    (fun m e => (tickNo_of_regs rfl).trans (tickNo_capture m e.1 e.2 true false)) l m

@[simp] theorem tickNo_actTrains (m : Mach) : m.actTrains.2.tickNo = m.tickNo := by
  unfold actTrains
  refine foldl_keeps (fun r : List (Nat × List Byte) × Mach => r.2.tickNo) ?_ _ _
  rintro ⟨l, m⟩ p
  dsimp only
  split
  · rfl
  · exact tickNo_wr m _ _ (tickNo_lt_aseq p)

/-- An action emit keeps its own digest under the number of the tick (R324). -/
theorem ownAct_actEmit (m : Mach) : ∃ d, m.actEmit.pair.ownAct = some d ∧ d.tick = m.tickNo := by
  unfold actEmit
  split
  rename_i frames sequenced hsequenced
  have hnumber : sequenced.tickNo = m.tickNo := by rw [← tickNo_actTrains m, hsequenced]
  extract_lets p sent
  have hsent : sent.tickNo = m.tickNo := by
    unfold sent
    split
    · exact (tickNo_gxOuts _ _).trans hnumber
    · exact hnumber
  exact ⟨_, congrArg Stand.ownAct (stand_ownDigest_act sent _ _ _), hsent⟩

end Mach
end Sys2Proof.Machine
end

section
/-! SUPPORT. The instants of a tick from the input close to the output deadline: where each leaves it (R22, R54,
R323). -/

namespace Sys2Proof.Machine

namespace Mach

theorem tick_phase_eq (m : Mach) : m.tick.phase = m.stand.phase := rfl

/-! ### The input close (R22, R54) -/

/-- A commit that is late leaves the phase. -/
theorem phase_commitLate (m : Mach) : m.commitLate.stand.phase = m.stand.phase := by
  unfold commitLate
  split
  · rfl
  · extract_lets recorded t blocked
    have hrecorded : recorded.stand = m.stand := by simp [recorded]
    have hblocked : blocked.stand.phase = m.stand.phase := by
      unfold blocked
      rw [stand_loseAll, stand_overrunCount]
      exact (congrArg Stand.phase hrecorded :)
    split
    · rw [stand_partnerDiverged, stand_diverge]
      exact hblocked
    · exact hblocked

theorem phase_closeChecks (m : Mach) : m.closeChecks.stand.phase = m.stand.phase := by
  unfold closeChecks
  extract_lets checked
  have hchecked : checked.stand.phase = m.stand.phase := by
    unfold checked
    split
    · exact phase_commitLate m
    · rfl
  split
  · rw [stand_cutFailed]
    exact hchecked
  · exact hchecked

/-- At the input close the tick enters RECONCILE. -/
theorem phase_inputClose (m : Mach) : m.inputClose.tick.phase = 1 := by
  rw [tick_phase_eq]
  unfold inputClose
  dsimp only
  rw [stand_admEvaluate, stand_sendInput, stand_healthForm, stand_changeReady, stand_ownDelivery, stand_showRestarted,
    phase_closeChecks, stand_gxClose, stand_enterPhase]

/-! ### The exchange (R323, R330) -/

/-- What a module does that FILL has not reached by its deadline. -/
def fillMissed (m : Mach) : Mach :=
  if m.pair.heard then (if m.mode = 6 then (m.setFld PTL_ADOPT 31 16 0).sendDeltas else m)
  else if m.mode = 5 then (({ m with pair := { m.pair with silent := m.pair.silent + 1 } }).swapCancel).wr TMB_PAIROFS 0
  else if m.mode = 4 then ({ m with pair := { m.pair with goodTicks := 0 } }).wr TMB_PAIROFS 0
  else if m.mode = 6 then (m.swapCancel).wr TMB_PAIROFS 0
  else m

theorem stand_fillMissed (m : Mach) : m.fillMissed.stand = m.stand := by
  unfold fillMissed
  split
  · split
    · simp
    · rfl
  · split
    · rw [stand_wr, stand_swapCancel]
      exact stand_withPair m _ rfl rfl
    · split
      · rw [stand_wr]
        exact stand_withPair m _ rfl rfl
      · split
        · simp
        · rfl

theorem swapCancel_silent (m : Mach) : m.swapCancel.pair.silent = m.pair.silent := by
  unfold swapCancel
  split
  · rw [ledger_pair]
  · rfl

/-- A standby counts a tick in which it has not heard its partner. -/
theorem fillMissed_silent {m : Mach} (hmode : m.mode = 5) (hheard : m.pair.heard = false) :
    m.fillMissed.pair.silent = m.pair.silent + 1 ∧ m.fillMissed.rg TMB_PAIROFS = 0 := by
  rw [fillMissed, if_neg (by simp [hheard]), if_pos hmode]
  exact ⟨swapCancel_silent _, rg_wr_same _ _ _⟩

/-! ### The adoption (R22, R46, R323) -/

/-- At its adoption the input buffers swap. -/
theorem stand_adoption (m : Mach) :
    m.adoption.stand = { m.stand with inBuf := 1 - m.tick.inBuf, adopted := true } := by
  unfold adoption
  extract_lets forced t adopted
  have hforced : forced.stand = m.stand := by simp [forced]
  have hbuf : forced.tick.inBuf = m.tick.inBuf := congrArg Stand.inBuf hforced
  have hadopted : adopted.stand = { forced.stand with inBuf := 1 - forced.tick.inBuf, adopted := true } := rfl
  rw [stand_switchFix, stand_restartFix, stand_presence, stand_snapshots, hadopted, hforced, hbuf]

/-! ### The firing (R22, R45) -/

theorem stand_firingPhase (m : Mach) (mis : Option Nat) : (m.firingPhase mis).stand = { m.stand with phase := 2 } := by
  unfold firingPhase
  extract_lets entered served t
  have hserved : served.stand = { m.stand with phase := 2 } := by
    unfold served
    split
    · exact (stand_requestPhase _ _ _).trans (stand_enterPhase m 2)
    · exact stand_enterPhase m 2
  split
  · rw [stand_openKiln, stand_openKiln]
    exact hserved
  · exact hserved

/-- The module's action digest of the tick, once it has emitted its action telegrams (R324). -/
theorem ownAct_actionEmit {m : Mach} (mis : Option Nat) (hemits : m.emitsActs = true) (hpair : m.pair.diverged = false)
    (hfirst : ∀ d, m.pair.ownAct = some d → d.tick ≠ m.tickNo) :
    ∃ d, (m.actionEmit mis).pair.ownAct = some d ∧ d.tick = m.tickNo := by
  have hdone : (m.pair.ownAct.any fun d => d.tick = m.tickNo) = false := by
    cases howned : m.pair.ownAct with
    | none => rfl
    | some d => simpa using hfirst d howned
  have hstand : (m.actionEmit mis).stand = m.actEmit.stand := by
    unfold actionEmit
    extract_lets done emitted
    have hemitted : emitted = m.actEmit := if_pos (by simp [done, hemits, hpair, hdone])
    rw [hemitted]
    split
    · exact stand_recomputePhase _ _
    · rfl
  obtain ⟨d, hd, htick⟩ := ownAct_actEmit m
  exact ⟨d, (congrArg Stand.ownAct hstand).trans hd, htick⟩

/-- At the end of a firing without overrun the output buffers swap. -/
theorem stand_firingEnd (m : Mach) :
    m.firingEnd.stand = { m.stand with ended := true, outBuf := 1 - m.tick.outBuf } := by
  unfold firingEnd
  extract_lets ended emitted
  have hended : ended.stand = { m.stand with ended := true } := stand_tickEnded m
  have hclosed : ((ended.closeKiln 0).closeKiln 1).stand = { m.stand with ended := true } := by simp [hended]
  have hbuf : ((ended.closeKiln 0).closeKiln 1).tick.outBuf = m.tick.outBuf := congrArg Stand.outBuf hclosed
  have hemitted : emitted.stand = { m.stand with ended := true, outBuf := 1 - m.tick.outBuf } := by
    rw [show emitted = _ from rfl, stand_showFiring, stand_outEmit, hclosed, hbuf]
  split
  · rw [stand_completesDue, stand_commitWrite, hemitted]
  · split
    · rw [stand_commitEarly, stand_commitWrite, hemitted]
    · exact hemitted

/-! ### The output deadline (R22, R54 to R57) -/

/-- What every output deadline does once its tick has ended or counts as an overrun: digests, status, the serving of
a partner, the standby's tests, and the role (R227, R286, R329, R341). -/
def guardWork (m : Mach) (t : SelfTest) : Mach :=
  let m := (m.deadDigest).statusPhase
  let m := if m.mode = 6 then (m.completesDue).serveTick else m
  let m := if m.mode = 5 then m.standbyTests t else m
  let m := if m.mode = 5 ∧ m.pfw then m.notice 3 else m
  (m.stepGuard).giveUp

theorem stand_guardWork (m : Mach) (t : SelfTest) : (m.guardWork t).stand = m.stand := by
  unfold guardWork
  extract_lets shown served tested noticed
  have hshown : shown.stand = m.stand := by simp [shown]
  have hserved : served.stand = m.stand := by unfold served; split <;> simp [hshown]
  have htested : tested.stand = m.stand := by unfold tested; split <;> simp [hserved]
  have hnoticed : noticed.stand = m.stand := by unfold noticed; split <;> simp [htested]
  simp [hnoticed]

/-- The end of a tick at its output deadline: an overrun, a stop, or nothing left to end (R54 to R57). -/
def deadlineEnd (m : Mach) : Mach :=
  let m := if m.tick.fires ∧ !m.tick.ended ∧ !m.tick.stopped then m.overrunTick else m
  if m.tick.stopped ∧ !m.tick.ended then
    ({ m with tick := { m.tick with ended := true, single := false } }).outRefill else m

theorem outDeadline_eq (m : Mach) (t : SelfTest) : m.outDeadline t = (m.enterPhase 3).deadlineEnd.guardWork t := rfl

/-- A tick that is still open at its deadline has overrun (R54). -/
theorem stand_deadlineEnd_open {m : Mach} (hopen : m.tick.fires ∧ !m.tick.ended ∧ !m.tick.stopped) :
    m.deadlineEnd.stand = { m.stand with ended := true, overrun := true } := by
  have hended : m.overrunTick.tick.ended = true := congrArg Stand.ended (stand_overrunTick m)
  rw [deadlineEnd, if_pos hopen]
  dsimp only
  rw [if_neg (by simp [hended]), stand_overrunTick]

theorem phase_deadlineEnd (m : Mach) : m.deadlineEnd.stand.phase = m.stand.phase := by
  by_cases hopen : m.tick.fires ∧ !m.tick.ended ∧ !m.tick.stopped
  · rw [stand_deadlineEnd_open hopen]
  · rw [deadlineEnd, if_neg hopen]
    dsimp only
    split
    · rw [stand_outRefill]
      rfl
    · rfl

/-- At the output deadline the tick enters GUARD. -/
theorem phase_outDeadline (m : Mach) (t : SelfTest) : (m.outDeadline t).tick.phase = 3 := by
  rw [tick_phase_eq, outDeadline_eq, stand_guardWork, phase_deadlineEnd, stand_enterPhase]

theorem outDeadline_overrun {m : Mach} (t : SelfTest) (hfires : m.tick.fires = true) (hended : m.tick.ended = false)
    (hstopped : m.tick.stopped = false) : (m.outDeadline t).tick.overrun = true ∧ (m.outDeadline t).tick.ended = true := by
  have hopen : (m.enterPhase 3).tick.fires ∧ !(m.enterPhase 3).tick.ended ∧ !(m.enterPhase 3).tick.stopped := by
    simp [enterPhase, setFld, wr, hfires, hended, hstopped]
  have hstand : (m.outDeadline t).stand = { (m.enterPhase 3).stand with ended := true, overrun := true } := by
    rw [outDeadline_eq, stand_guardWork, stand_deadlineEnd_open hopen]
  exact ⟨congrArg Stand.overrun hstand, congrArg Stand.ended hstand⟩

end Mach
end Sys2Proof.Machine
end

section
/-! SUPPORT. The cycles that a firing shows, and the commands of the tick from the input close to the output deadline
(R22, R45, R61). -/

namespace Sys2Proof.Machine

namespace Mach

/-! ### The cycles of a firing (R61) -/

theorem rg_exchangeLines (m : Mach) (ls : List Nat) (a : Nat) : (ls.foldl exchangeLine m).rg a = m.rg a :=
  foldl_keeps (fun m => m.rg a) (f := exchangeLine) (fun _ _ => rg_of_regs rfl a) ls m

theorem kiln_exchangeLines (m : Mach) (ls : List Nat) (cl : Nat) : (ls.foldl exchangeLine m).kiln cl = m.kiln cl :=
  foldl_keeps (fun m => m.kiln cl) (f := exchangeLine) (fun _ _ => rfl) ls m

/-- A cluster that closes its firing shows its cycles. -/
theorem rg_closeKiln_cycles (m : Mach) (cl : Nat) : (m.closeKiln cl).rg (KLN_FIRECYC cl) = (m.kiln cl).cyc % 2 ^ 20 := by
  have hmax : KLN_FIRECYC cl ≠ KLN_FIREMAX cl := by simp only [KLN_FIRECYC, KLN_FIREMAX]; omega
  unfold closeKiln
  rw [rg_modKiln, rg_exchangeLines, rg_wr_other _ _ _ _ hmax, rg_wr_same]
  omega

theorem rg_closeKiln_other (m : Mach) (cl a : Nat) (h : a ≠ KLN_FIRECYC cl) (h' : a ≠ KLN_FIREMAX cl) :
    (m.closeKiln cl).rg a = m.rg a := by
  unfold closeKiln
  rw [rg_modKiln, rg_exchangeLines, rg_wr_other _ _ _ _ h', rg_wr_other _ _ _ _ h]

/-- Cluster 0 closes its firing apart from cluster 1's. -/
theorem kiln_one_closeKiln_zero (m : Mach) : (m.closeKiln 0).kiln 1 = m.kiln 1 := by
  unfold closeKiln
  exact kiln_exchangeLines _ _ 1

theorem mode_closeKiln (m : Mach) (cl : Nat) : (m.closeKiln cl).mode = m.mode := by
  have hcyc : CUR_MODE ≠ KLN_FIRECYC cl := by simp only [CUR_MODE, KLN_FIRECYC]; omega
  have hmax : CUR_MODE ≠ KLN_FIREMAX cl := by simp only [CUR_MODE, KLN_FIREMAX]; omega
  rw [mode, fld, rg_closeKiln_other _ _ _ hcyc hmax, mode, fld]

/-- Once both clusters have closed their firings, both show their cycles. -/
theorem rg_closed_cycles (m : Mach) (cl : Fin 2) :
    ((m.closeKiln 0).closeKiln 1).rg (KLN_FIRECYC cl) = (m.kiln cl).cyc % 2 ^ 20 := by
  match cl with
  | 0 => rw [rg_closeKiln_other _ _ _ (by decide) (by decide)]; exact rg_closeKiln_cycles m 0
  | 1 => refine (rg_closeKiln_cycles _ 1).trans ?_; rw [kiln_one_closeKiln_zero]; rfl

theorem mode_tickEnded (m : Mach) : m.tickEnded.mode = m.mode := by
  unfold tickEnded
  dsimp only
  split
  · exact fld_setBit_other _ _ _ _ _ _ _ (by decide)
  · rfl

theorem kiln_tickEnded (m : Mach) (cl : Nat) : m.tickEnded.kiln cl = m.kiln cl := by
  unfold tickEnded
  dsimp only
  split <;> rfl

/-- In BENCH no telegram leaves with the output image. -/
theorem rg_outEmit_bench {m : Mach} (h : m.mode = 3) (a : Nat) : m.outEmit.rg a = m.rg a := by
  unfold outEmit
  extract_lets t swapped refilled
  have hmode : refilled.mode = 3 := h
  rw [if_pos (by simp [hmode])]
  exact rg_of_regs rfl a

/-- In BENCH nothing is committed, and the firing shows the cycles of each cluster. -/
theorem rg_firingEnd_cycles {m : Mach} (hmode : m.mode = 3) (cl : Fin 2) :
    m.firingEnd.rg (KLN_FIRECYC cl) = (m.kiln cl).cyc % 2 ^ 20 := by
  have hshown : KLN_FIRECYC cl ≠ KLN_SCHSTAT := by simp only [KLN_FIRECYC, KLN_SCHSTAT]; omega
  unfold firingEnd
  extract_lets ended emitted
  have hclosed : ((ended.closeKiln 0).closeKiln 1).mode = 3 := by
    rw [mode_closeKiln, mode_closeKiln]
    exact (mode_tickEnded m).trans hmode
  have hbench : emitted.mode = 3 := by
    refine (fld_setBit_other _ _ _ _ _ _ _ (by decide)).trans ?_
    rw [fld, rg_outEmit_bench hclosed]
    exact hclosed
  rw [if_neg (by simp [hbench]), if_neg (by simp [hbench])]
  calc emitted.rg (KLN_FIRECYC cl)
    _ = ((ended.closeKiln 0).closeKiln 1).outEmit.rg (KLN_FIRECYC cl) := rg_setBit_other _ _ _ _ _ hshown
    _ = ((ended.closeKiln 0).closeKiln 1).rg (KLN_FIRECYC cl) := rg_outEmit_bench hclosed _
    _ = (ended.kiln cl).cyc % 2 ^ 20 := rg_closed_cycles ended cl
    _ = (m.kiln cl).cyc % 2 ^ 20 := by rw [show ended = m.tickEnded from rfl, kiln_tickEnded]

end Mach

/-! ### Slices that start and windows that close leave the tick (R45, R164) -/

theorem stand_dispatch (s : State) (cl : Nat) : (s.dispatch cl).m.stand = s.m.stand := by
  unfold State.dispatch
  dsimp only
  split
  · exact Mach.stand_showFiring s.m
  · dsimp only
    split <;> simp

theorem closeWindow_tick (s : State) (cl : Nat) : (s.closeWindow cl).m.tick = s.m.tick := by
  unfold State.closeWindow
  dsimp only
  split
  · rfl
  · exact Mach.setKiln_tick _ _ _

/-- The first slices of a firing, where one takes place: one for each idle cluster. -/
def startSlices (s : State) : State :=
  if !s.m.tick.fires then s
  else [0, 1].foldl (fun s cl => if (s.m.kiln cl).slice.isSome then s else s.dispatch cl) s

theorem stand_startSlices (s : State) : (startSlices s).m.stand = s.m.stand := by
  unfold startSlices
  split
  · rfl
  · exact foldl_keeps (fun s : State => s.m.stand) (fun s cl => by split; exacts [rfl, stand_dispatch s cl]) [0, 1] s

theorem startSlices_pending (s : State) : (startSlices s).pending = s.pending := by
  unfold startSlices
  split
  · rfl
  · exact foldl_keeps State.pending (fun s cl => by split; exacts [rfl, dispatch_pending s cl]) [0, 1] s

/-- The windows that the deadline of an open firing closes: those of the clusters that the debugger has not stopped. -/
def deadlineWindows (s : State) : State :=
  if s.m.tick.fires && !s.m.tick.ended && !s.m.tick.stopped then
    [0, 1].foldl (fun s cl => if s.m.bit (KLN_DBGSTAT cl) 0 then s else s.closeWindow cl) s
  else s

theorem deadlineWindows_tick (s : State) : (deadlineWindows s).m.tick = s.m.tick := by
  unfold deadlineWindows
  split
  · exact foldl_keeps (fun s : State => s.m.tick) (fun s cl => by split; exacts [rfl, closeWindow_tick s cl]) [0, 1] s
  · rfl

theorem deadlineWindows_pending (s : State) : (deadlineWindows s).pending = s.pending := by
  unfold deadlineWindows
  split
  · exact foldl_keeps State.pending (fun s cl => by split; exacts [rfl, closeWindow_pending s cl]) [0, 1] s
  · rfl

/-! ### Where a command leaves the tick -/

section
variable {m : Mach} {x : Stand} (h : m.stand = x)
include h

theorem phase_of_stand : m.tick.phase = x.phase := h ▸ rfl
theorem inBuf_of_stand : m.tick.inBuf = x.inBuf := h ▸ rfl
theorem outBuf_of_stand : m.tick.outBuf = x.outBuf := h ▸ rfl
theorem adopted_of_stand : m.tick.adopted = x.adopted := h ▸ rfl
theorem ended_of_stand : m.tick.ended = x.ended := h ▸ rfl
theorem filled_of_stand : m.pair.filled = x.filled := h ▸ rfl

end

/-! ### The commands -/

/-- What a command makes of the module after the work of its clusters. -/
theorem completes_mod {s : State} {o : Host.Outcome State Fault Refusal} {f : Mach → Mach} {P : State → Prop}
    (ho : o = .next (s.mod f)) (h : P { s with m := f s.m }) : Completes o P := ⟨_, ho, h⟩

section
variable {s : State} (hdead : s.m.dead = false)
include hdead

/-- A command completes with what its change makes of the module, the cores and the queue as they are. -/
theorem completes_change {f : Mach → Mach} {m : Mach} {P : State → Prop} (hf : f s.m = m) (h : P { s with m := m }) :
    Completes (.next (s.live f)) P :=
  completes_live hdead (by rw [State.mod, hf]; exact h)

theorem inputClose_completes (hmode : 3 ≤ s.m.mode) (hphase : s.m.tick.phase = 0) :
    Completes (exec .inputClose s) fun t => t.m.tick.phase = 1 ∧ SameCores s t :=
  completes_change hdead (if_neg (by omega)) ⟨Mach.phase_inputClose s.m, rfl, rfl, rfl⟩

theorem fillDeadline_completes (hphase : s.m.tick.phase = 1) (hfilled : s.m.pair.filled = false)
    (hadopted : s.m.tick.adopted = false) : Completes (exec .fillDeadline s) fun t =>
      t.m.pair.filled = true ∧ t.m.tick.phase = 1 ∧ SameCores s t ∧
      (s.m.mode = 5 → s.m.pair.heard = false → t.m.pair.silent = s.m.pair.silent + 1 ∧ t.m.rg TMB_PAIROFS = 0) := by
  have hstand := Mach.stand_fillMissed { s.m with pair := { s.m.pair with filled := true } }
  exact completes_change hdead (if_neg (by simp [hphase, hfilled, hadopted]))
    ⟨filled_of_stand hstand, (phase_of_stand hstand).trans hphase, ⟨rfl, rfl, rfl⟩,
      fun hmode hheard => Mach.fillMissed_silent hmode hheard⟩

theorem adoptionDeadline_completes (hphase : s.m.tick.phase = 1) (hadopted : s.m.tick.adopted = false) :
    Completes (exec .adoptionDeadline s) fun t =>
      t.m.tick.adopted = true ∧ t.m.tick.inBuf = 1 - s.m.tick.inBuf ∧ SameCores s t :=
  have hstand := Mach.stand_adoption s.m
  completes_change hdead (if_neg (by simp [hphase, hadopted]))
    ⟨adopted_of_stand hstand, inBuf_of_stand hstand, rfl, rfl, rfl⟩

theorem firingStart_completes (mis : Option (BitVec 16)) (hphase : s.m.tick.phase = 1) (hadopted : s.m.tick.adopted = true) :
    Completes (exec (.firingStart mis) s) fun t => t.m.tick.phase = 2 ∧ t.pending = s.pending := by
  let fired := s.mod fun m => m.firingPhase (mis.map (·.toNat))
  have hexec : exec (.firingStart mis) s = .next ((startSlices fired).mod fun m => m.admEvaluate false) := by
    show execFiringStart mis s = _
    rw [execFiringStart, if_neg (by simp [hdead, hphase, hadopted])]
    rfl
  have hstand : ((startSlices fired).m.admEvaluate false).stand = { s.m.stand with phase := 2 } :=
    (Mach.stand_admEvaluate _ _).trans ((stand_startSlices fired).trans (Mach.stand_firingPhase s.m _))
  have hfiring : ((startSlices fired).m.admEvaluate false).tick.phase = 2 := phase_of_stand hstand
  exact completes_mod hexec ⟨hfiring, startSlices_pending fired⟩

theorem actionEmit_completes (mis : Option (BitVec 16)) (hphase : s.m.tick.phase = 2) (hemits : s.m.emitsActs = true)
    (hpair : s.m.pair.diverged = false) (hfirst : ∀ d, s.m.pair.ownAct = some d → d.tick ≠ s.m.tickNo) :
    Completes (exec (.actionEmit mis) s) fun t =>
      (∃ d, t.m.pair.ownAct = some d ∧ d.tick = s.m.tickNo) ∧ SameCores s t :=
  completes_change hdead (if_neg (by simp [hphase]))
    ⟨Mach.ownAct_actionEmit _ hemits hpair hfirst, rfl, rfl, rfl⟩

theorem firingEnd_completes (hphase : s.m.tick.phase = 2) (hfires : s.m.tick.fires = true)
    (hended : s.m.tick.ended = false) (hstopped : s.m.tick.stopped = false) (hidle : Mach.idleKiln s.m.k0 = true)
    (hidle' : Mach.idleKiln s.m.k1 = true) : Completes (exec .firingEnd s) fun t =>
      t.m.tick.ended = true ∧ t.m.tick.outBuf = 1 - s.m.tick.outBuf ∧ SameCores s t ∧
      (s.m.mode = 3 → ∀ cl : ClusterId, t.m.rg (KLN_FIRECYC cl) = (s.m.kiln cl).cyc % 2 ^ 20) :=
  have hstand := Mach.stand_firingEnd s.m
  completes_change hdead (if_pos (by simp [hphase, hfires, hended, hstopped, hidle, hidle']))
    ⟨ended_of_stand hstand, outBuf_of_stand hstand, ⟨rfl, rfl, rfl⟩, fun hmode cl => Mach.rg_firingEnd_cycles hmode cl⟩

theorem outputDeadline_completes (x : SelfTest) (hphase : s.m.tick.phase = 2) :
    Completes (exec (.outputDeadline x) s) fun t => t.m.tick.phase = 3 ∧ t.pending = s.pending ∧
      (s.m.tick.fires = true → s.m.tick.ended = false → s.m.tick.stopped = false →
        t.m.tick.overrun = true ∧ t.m.tick.ended = true) := by
  have hexec : exec (.outputDeadline x) s = .next ((deadlineWindows s).mod fun m => m.outDeadline x) := by
    show execOutputDeadline x s = _
    rw [execOutputDeadline, if_neg (by simp [hdead, hphase])]
    rfl
  refine completes_mod hexec ⟨Mach.phase_outDeadline _ x, deadlineWindows_pending s, fun hfires hended hstopped => ?_⟩
  rw [← deadlineWindows_tick s] at hfires hended hstopped
  exact Mach.outDeadline_overrun x hfires hended hstopped

end

end Sys2Proof.Machine
end

section
open Sys2Proof Sys2Proof.Machine

/-- Settles O36: each instant is followed once through where it leaves the tick, `Mach.stand`, which every operation
that the instants share keeps. -/
theorem tickPhaseCommands : Obligations.TickPhaseCommands := by
  unfold Obligations.TickPhaseCommands
  intro s hdead
  exact ⟨fun mis hmode => tickBoundary_completes hdead mis hmode,
    inputClose_completes hdead,
    fillDeadline_completes hdead,
    adoptionDeadline_completes hdead,
    fun mis => firingStart_completes hdead mis,
    fun mis => actionEmit_completes hdead mis,
    firingEnd_completes hdead,
    fun x => outputDeadline_completes hdead x,
    overrunLimit_completes hdead,
    moduleApplyInstant_completes hdead,
    fun r => recordFree_completes hdead r,
    fun a => axisLost_completes hdead a,
    fun cl _ hslice htask hbudget => sliceBudget_completes cl hslice htask hbudget⟩

end

section
/-! SUPPORT. An entry of a ring at its own instants: what keeping one entry leaves of the others, and what the sample,
the apply instant, the fallback, an action, a pulse end and a train of its own leave of the entry (R40, R217, R243,
R245, R267). -/

namespace Sys2Proof.Machine

/-! ### The table of entries -/

/-- An association list reads as before under every key but the one put. -/
theorem assocGet_assocPut_other {α : Type} (t : List (Nat × α)) {a b : Nat} (v : α) (h : b ≠ a) :
    assocGet (assocPut t a v) b = assocGet t b := by
  induction t with
  | nil => simp [assocPut, assocGet, h]
  | cons e t ih =>
    obtain ⟨k, w⟩ := e
    simp only [assocPut]
    split
    case isTrue hak => subst hak; simp [assocGet, h]
    case isFalse =>
      split
      · simp [assocGet, h]
      · simp [assocGet, ih]

namespace Mach

@[simp] theorem stn_setStn (m : Mach) (k : StnKey) (x : Station) : (m.setStn k x).stn k = x := by
  simp [stn, setStn, assocGet_assocPut_same]

/-- Another key in the table of entries does not concern an entry. -/
theorem stn_putOther (m : Mach) {k : StnKey} {a : Nat} (x : Station) (h : a ≠ stnKey k) :
    ({ m with stns := assocPut m.stns a x } : Mach).stn k = m.stn k := by
  simp only [stn, assocGet_assocPut_other _ _ h.symm]

/-- The entries beneath a direct entry have keys of their own: their paths are longer than its own (R233). -/
theorem key_of_mem_stnsUnder {m : Mach} {k : StnKey} (hdirect : keyDirect k = true) {e : Nat × Station}
    (he : e ∈ m.stnsUnder k) : e.1 ≠ stnKey k := by
  simp only [stnsUnder, List.mem_filter, Bool.and_eq_true, decide_eq_true_eq] at he
  simp only [keyDirect, decide_eq_true_eq] at hdirect
  obtain ⟨-, -, hpath⟩ := he
  intro heq
  rw [heq, stnKey] at hpath
  omega

end Mach

/-- An entry that is kept alone leaves every other one, the registers, memory and the cores. -/
theorem onlyStation_setStn (k : StnKey) (x : Station) (s : State) :
    OnlyStation k s { s with m := s.m.setStn k x } where
  regs := rfl
  mem := rfl
  cores := ⟨rfl, rfl, rfl⟩
  others _ hkey := assocGet_assocPut_other _ _ hkey

/-- A command that does nothing but keep an entry completes with that entry. -/
theorem completes_setStn {k : StnKey} {s : State} {f : Mach → Mach} {x : Station} {P : State → Prop}
    (hf : f s.m = s.m.setStn k x) (h : ∀ t, OnlyStation k s t → t.m.stn k = x → P t) :
    Completes (.next (s.mod f)) P :=
  ⟨_, rfl, by rw [State.mod, hf]; exact h _ (onlyStation_setStn k x s) (s.m.stn_setStn k x)⟩

/-! ### The sample instant (R40) -/

/-- The refusal that an entry has shown is cleared (R266). -/
def Mach.clearRefused (m : Mach) (e : Nat × Station) : Mach :=
  { m with stns := assocPut m.stns e.1 { e.2 with refused := false } }

/-- An entry that is not among those cleared stays. -/
theorem Mach.stn_clearRefused (m : Mach) {l : List (Nat × Station)} {k : StnKey} (h : ∀ e ∈ l, e.1 ≠ stnKey k) :
    (l.foldl clearRefused m).stn k = m.stn k :=
  List.foldlRecOn l clearRefused (motive := fun r => Mach.stn r k = m.stn k) rfl
    fun r hr e he => (r.stn_putOther _ (h e he)).trans hr

/-- The entries of which the sample of an entry takes the status: those beneath a direct entry (R266). -/
def Mach.beneath (m : Mach) (k : StnKey) : List (Nat × Station) := if keyDirect k then m.stnsUnder k else []

theorem Mach.key_of_mem_beneath {m : Mach} {k : StnKey} {e : Nat × Station} (he : e ∈ m.beneath k) :
    e.1 ≠ stnKey k := by
  unfold Mach.beneath at he
  split at he
  case isTrue hdirect => exact key_of_mem_stnsUnder hdirect he
  case isFalse => exact absurd he List.not_mem_nil

/-- What an entry with both links up latches at its sample instant. -/
def Mach.sampled (m : Mach) (k : StnKey) (io : Bool) (data : List Byte) : Station :=
  { m.stn k with
    joined := (m.stn k).cfg.isSome
    west := true, east := true, ioFault := io, latched := data, sampleTick := m.tickNo
    fbShown := (m.stn k).fallen || (m.beneath k).any fun e => e.2.fallen
    ovfShown := (m.stn k).refused || (m.beneath k).any fun e => e.2.refused
    refused := false }

theorem stationSample_bothUp (k : StnKey) (io : Bool) (data : List Byte) (s : State) :
    exec (.stationSample k true true io data) s =
      .next (s.mod fun m => (m.beneath k).foldl Mach.clearRefused (m.setStn k (m.sampled k io data))) := by
  show execStationSample k true true io data s = _
  simp only [execStationSample, Bool.not_true, Bool.false_eq_true, or_self, and_false, if_false]
  rfl

theorem stationSample_completes (k : StnKey) (io : Bool) (data : List Byte) (s : State) :
    Completes (exec (.stationSample k true true io data) s) fun t =>
      let y := t.m.stn k
      y.latched = data ∧ y.sampleTick = s.m.tickNo ∧ y.west = true ∧ y.east = true ∧ y.ioFault = io ∧
      y.refused = false ∧ y.cfg = (s.m.stn k).cfg ∧ t.m.regs = s.m.regs ∧ t.m.mem = s.m.mem ∧ SameCores s t := by
  refine ⟨_, stationSample_bothUp k io data s, ?_⟩
  have hstn : ((s.m.beneath k).foldl Mach.clearRefused (s.m.setStn k (s.m.sampled k io data))).stn k =
      s.m.sampled k io data :=
    (Mach.stn_clearRefused _ fun _ => Mach.key_of_mem_beneath).trans (s.m.stn_setStn k _)
  simp only [State.mod_m, hstn]
  exact ⟨rfl, rfl, rfl, rfl, rfl, rfl, rfl, foldl_keeps Mach.regs (f := Mach.clearRefused) (fun _ _ => rfl) _ _,
    foldl_keeps Mach.mem (f := Mach.clearRefused) (fun _ _ => rfl) _ _, sameCores_mod s _⟩

/-! ### The apply instant and the fallback (R243, R245) -/

/-- Outputs that an entry holds for a tick take effect at its apply instant. -/
theorem Mach.applyTick_held {x : Station} {tick : Nat} {e : Nat × Nat × List Byte} (hcfg : x.cfg ≠ none)
    (hheld : x.held.find? (fun e => e.1 = tick) = some e) :
    (applyTick x tick).outs = e.2.2 ∧ (applyTick x tick).missed = 0 ∧ (applyTick x tick).fallen = false := by
  simp [applyTick, hcfg, hheld]

/-- A tick without outputs counts as missed. -/
theorem Mach.applyTick_missed {x : Station} {tick : Nat} (hcfg : x.cfg ≠ none)
    (hheld : x.held.find? (fun e => e.1 = tick) = none) :
    (applyTick x tick).outs = x.outs ∧ (applyTick x tick).missed = x.missed + 1 ∧
      (applyTick x tick).fallen = x.fallen := by
  simp [applyTick, hcfg, hheld]

theorem stationApply_completes (k : StnKey) (tick : BitVec 64) {s : State} (hcfg : (s.m.stn k).cfg ≠ none) :
    Completes (exec (.stationApply k tick) s) fun t => OnlyStation k s t ∧
      let y := t.m.stn k
      match (s.m.stn k).held.find? (fun e => e.1 = tick.toNat) with
      | some e => y.outs = e.2.2 ∧ y.missed = 0 ∧ y.fallen = false
      | none => y.outs = (s.m.stn k).outs ∧ y.missed = (s.m.stn k).missed + 1 ∧ y.fallen = (s.m.stn k).fallen := by
  refine completes_setStn rfl fun t honly hstn => ⟨honly, ?_⟩
  simp only [hstn]
  split
  case h_1 _ e hheld => exact Mach.applyTick_held hcfg hheld
  case h_2 _ hheld => exact Mach.applyTick_missed hcfg hheld

/-- The numbers from `a` on, one by one. -/
theorem getElem_countFrom {a n i : Nat} (h : i < (countFrom a n).length) : (countFrom a n)[i] = a + i := by
  induction n generalizing a i with
  | zero => exact absurd h (Nat.not_lt_zero i)
  | succ n ih =>
    cases i with
    | zero => rfl
    | succ i => simp only [countFrom, List.getElem_cons_succ, ih]; omega

/-- A digital byte of the fallback: the fallback value under its MODE bits, the output as it was under the others
(R234). -/
theorem StnCfg.fallback_digital (c : StnCfg) (outs : List Byte) {i : Nat} (hi : i < c.douts) :
    (c.fallback outs).getD i 0 = (c.fb.getD i 0 &&& c.fb.getD (c.douts + i) 0) ||| (~~~c.fb.getD i 0 &&& outs.getD i 0) := by
  have hlen : i < (countFrom 0 c.douts).length := by rwa [countFrom_length]
  unfold StnCfg.fallback
  rw [List.getD_append _ _ _ _ (by simpa using hlen), List.getD_eq_getElem _ _ (by simpa using hlen), List.getElem_map,
    getElem_countFrom hlen, Nat.zero_add]

/-- A bit under a mask, and the old one where the mask is 0. -/
theorem getLsbD_masked (mask new old : Byte) {b : Nat} (hb : b < 8) :
    ((mask &&& new) ||| (~~~mask &&& old)).getLsbD b = if mask.getLsbD b = true then new.getLsbD b else old.getLsbD b := by
  rw [BitVec.getLsbD_or, BitVec.getLsbD_and, BitVec.getLsbD_and, BitVec.getLsbD_not]
  cases mask.getLsbD b <;> simp [hb]

theorem stationFallback_completes {k : StnKey} {s : State} {c : StnCfg} (hcfg : (s.m.stn k).cfg = some c)
    (hmissed : c.wdog ≤ (s.m.stn k).missed) (hfallen : (s.m.stn k).fallen = false) :
    Completes (exec (.stationFallback k) s) fun t =>
      OnlyStation k s t ∧ (t.m.stn k).fallen = true ∧ ∀ i < c.douts, ∀ b < 8,
        ((t.m.stn k).outs.getD i 0).getLsbD b = if (c.fb.getD i 0).getLsbD b = true
          then (c.fb.getD (c.douts + i) 0).getLsbD b else ((s.m.stn k).outs.getD i 0).getLsbD b := by
  refine completes_setStn (x := { s.m.stn k with fallen := true, outs := c.fallback (s.m.stn k).outs }) ?_
    fun t honly hstn => ⟨honly, by rw [hstn], fun i hi b hb => ?_⟩
  · simp only [hcfg, hfallen, Bool.false_eq_true, or_false, if_neg (Nat.not_lt.mpr hmissed)]
  · rw [hstn, c.fallback_digital _ hi, getLsbD_masked _ _ _ hb]

/-! ### Actions and pulses (R267) -/

/-- A driven output has its value. -/
theorem Station.actOuts_drive (x : Station) (output : Nat) (v : Bool) :
    assocGet (x.drive output v).actOuts output = some v := assocGet_assocPut_same _ _ _

theorem stationActionFire_completes {k : StnKey} {aid now : BitVec 32} {s : State} {a : HeldAct}
    (hheld : (s.m.stn k).acts.find? (fun a => a.aid = aid.toNat) = some a) (hdue : diff32 a.fire now.toNat ≤ 0)
    (hfirst : (s.m.stn k).earlier a.output a.fire a.order = false) :
    Completes (exec (.stationActionFire k aid now) s) fun t => OnlyStation k s t ∧
      let y := t.m.stn k
      assocGet y.actOuts a.output = some (decide (a.level ≠ 0)) ∧ a ∉ y.acts ∧
      y.pulses = if a.level = 2 then
        (s.m.stn k).pulses ++ [⟨a.output, (a.fire + 1000 * a.width) % 2 ^ 32, a.order⟩] else (s.m.stn k).pulses := by
  refine completes_setStn (x := Station.drive { s.m.stn k with
      acts := (s.m.stn k).acts.filter (· ≠ a)
      pulses := if a.level = 2 then
          (s.m.stn k).pulses ++ [⟨a.output, (a.fire + 1000 * a.width) % 2 ^ 32, a.order⟩] else (s.m.stn k).pulses }
      a.output (decide (a.level ≠ 0))) ?_ fun t honly hstn => ⟨honly, ?_⟩
  · simp only [hheld, hfirst, Bool.false_eq_true, or_false, if_neg (Int.not_lt.mpr hdue)]
  · simp only [hstn]
    exact ⟨Station.actOuts_drive _ _ _, by simp [Station.drive], rfl⟩

theorem stationPulseEnd_completes {k : StnKey} {output : BitVec 16} {now : BitVec 32} {s : State} {q : PulseEnd}
    (hpulses : (s.m.stn k).pulses = [q]) (houtput : q.output = output.toNat) (hdue : diff32 q.at_ now.toNat ≤ 0)
    (hfirst : (s.m.stn k).earlier q.output q.at_ q.order = false) :
    Completes (exec (.stationPulseEnd k output now) s) fun t => OnlyStation k s t ∧
      assocGet (t.m.stn k).actOuts output.toNat = some false ∧ (t.m.stn k).pulses = [] := by
  refine completes_setStn (x := Station.drive { s.m.stn k with pulses := [] } q.output false) ?_
    fun t honly hstn => ⟨honly, ?_⟩
  · simp [hpulses, hdue, ← houtput, hfirst]
  · rw [hstn, ← houtput]
    exact ⟨Station.actOuts_drive _ _ _, rfl⟩

/-! ### The loss of Sync and a train of its own (R217, R297) -/

theorem stationSyncTimeout_completes (k : StnKey) (s : State) :
    Completes (exec (.stationSyncTimeout k) s) fun t => OnlyStation k s t ∧
      (t.m.stn k).unsync = true ∧ (t.m.stn k).primQuiet = true :=
  completes_setStn rfl fun t honly hstn => ⟨honly, by rw [hstn], by rw [hstn]⟩

/-- Frames leave an entry by a port whose link is up, in their order. -/
theorem Mach.entryOuts_up {k : StnKey} {west : Bool} (ts : List Tel) {m : Mach}
    (hup : (if west then (m.stn k).west else (m.stn k).east) = true) :
    ts.foldl (fun m t => m.entryOut k west t.bytes) m =
      { m with out := m.out ++ ts.map fun g => .entry k.ring k.path.toNat west g.bytes } := by
  induction ts generalizing m with
  | nil => simp
  | cons t ts ih =>
    have hone : m.entryOut k west t.bytes = m.emit (.entry k.ring k.path.toNat west t.bytes) := if_pos hup
    rw [List.foldl_cons, hone, ih (m := m.emit _) hup]
    simp [Mach.emit]

/-- Where the ring is cut on one side, an entry starts its train on the other; the train's payload is as long as the
port's GXP_PAYIN says (log entry 33). -/
theorem collectorOriginate_completes {k : StnKey} {west : Bool} {s : State} {c : StnCfg}
    (hcfg : (s.m.stn k).cfg = some c) (hdirect : keyDirect k = true) (hwest : (s.m.stn k).west = west)
    (heast : (s.m.stn k).east = !west) :
    Completes (exec (.collectorOriginate (.entry k west)) s) fun t => OnlyStation k s t ∧
      t.m.out = s.m.out ++ (s.m.entryTrains k (s.m.stn k) c).map fun g => .entry k.ring k.path.toNat west g.bytes := by
  have hcut : ¬(!keyDirect k ∨ (if west then (s.m.stn k).east else (s.m.stn k).west)) := by
    cases west <;> simp [hdirect, hwest, heast]
  have hup : (if west then (s.m.stn k).west else (s.m.stn k).east) = true := by
    cases west <;> simp [hwest, heast]
  have hexec : exec (.collectorOriginate (.entry k west)) s =
      .next (s.mod fun m => { m with
        out := m.out ++ (s.m.entryTrains k (s.m.stn k) c).map fun g => .entry k.ring k.path.toNat west g.bytes }) := by
    show execCollectorOriginate (.entry k west) s = _
    simp only [execCollectorOriginate, State.mod, hcfg, if_neg hcut, Mach.entryOuts_up _ hup]
  exact ⟨_, hexec, ⟨rfl, rfl, ⟨rfl, rfl, rfl⟩, fun _ _ => rfl⟩, rfl⟩

end Sys2Proof.Machine
end

section
open Sys2Proof Sys2Proof.Machine

/-- Settles O43: but for the sample, which also clears what the entries beneath have shown, and the train of its own,
each instant keeps one entry and nothing else. -/
theorem stationInstants : Obligations.StationInstants := by
  unfold Obligations.StationInstants
  intro k s
  exact ⟨fun io data => stationSample_completes k io data s,
    fun tick hcfg => stationApply_completes k tick hcfg,
    fun _ hcfg hmissed hfallen => stationFallback_completes hcfg hmissed hfallen,
    fun _ _ _ hheld hdue hfirst => stationActionFire_completes hheld hdue hfirst,
    fun _ _ _ hpulses houtput hdue hfirst => stationPulseEnd_completes hpulses houtput hdue hfirst,
    stationSyncTimeout_completes k s,
    fun _ _ hcfg hdirect hwest heast => collectorOriginate_completes hcfg hdirect hwest heast⟩

end

section
/-! SUPPORT. The scheduler's own commands and the force table: what they leave of the registers, and the table and its
generation after a batch (R61, R209 to R211). -/

namespace Sys2Proof.Machine

/-- A register access completes on a module that serves with its change. -/
theorem completes_access {s : State} (hdead : s.m.dead = false) {w : Nat} {f : Mach → Mach} {m : Mach}
    {P : State → Prop} (hf : f s.m = m) (h : P { s with m := m }) : Completes (.next (s.access w f)) P :=
  ⟨_, by rw [s.access_of w f hdead, State.mod, hf], h⟩

/-! ### The scheduler (R36, R61) -/

section
variable {s : State} (hdead : s.m.dead = false)
include hdead

theorem schctlRun_completes (on : Bool) (w : Writer) : Completes (exec (.schctlRun on w) s) fun t =>
    t.m.bit KLN_SCHCTL 0 = on ∧ (on = true → t.m.bit KLN_SCHSTAT 8 = false) ∧
      KeepsRegs s t [KLN_SCHCTL, KLN_SCHSTAT] ∧ SameCores s t := by
  refine completes_access hdead rfl ?_
  have hrun : (s.m.setBit KLN_SCHCTL 0 on).bit KLN_SCHCTL 0 = on := s.m.bit_setBit_same _ _ _ (by decide)
  cases on with
  | false => exact ⟨hrun, nofun, fun a ha _ => s.m.rg_setBit_other _ _ _ _ (List.ne_of_not_mem_cons ha), rfl, rfl, rfl⟩
  | true =>
    refine ⟨?_, fun _ => Mach.bit_setBit_same _ _ _ _ (by decide), fun a ha _ => ?_, rfl, rfl, rfl⟩
    · exact (Mach.bit_setBit_other _ _ _ _ _ _ (by decide)).trans hrun
    · have hstat : a ≠ KLN_SCHSTAT := List.ne_of_not_mem_cons (List.not_mem_of_not_mem_cons ha)
      exact (Mach.rg_setBit_other _ _ _ _ _ hstat).trans (Mach.rg_setBit_other _ _ _ _ _ (List.ne_of_not_mem_cons ha))

theorem schctlStep_completes (w : Writer) (hmode : s.m.mode = 3) (hrun : s.m.bit KLN_SCHCTL 0 = false) :
    Completes (exec (.schctlStep w) s) fun t =>
      t.m.bit KLN_SCHCTL 1 = true ∧ KeepsRegs s t [KLN_SCHCTL] ∧ SameCores s t := by
  have hstep : s.m.stepBit true w 2 = s.m.setBit KLN_SCHCTL 1 true := by simp [Mach.stepBit, hmode, hrun]
  exact completes_access hdead hstep
    ⟨s.m.bit_setBit_same _ _ _ (by decide), keepsRegs_setFld s _ _ _ _, rfl, rfl, rfl⟩

/-- A refused register access leaves a record and nothing else (R422). -/
theorem completes_refused {w cls code addr value : Nat} {f : Mach → Mach}
    (hf : f s.m = s.m.refuse code cls addr value) :
    Completes (.next (s.access w f)) fun t => SameCores s t ∧ KeepsRegs s t [] :=
  completes_access hdead hf ⟨⟨rfl, rfl, rfl⟩, keepsRegs_of_ledgerFrame s (s.m.ledger_frame _ _ _ _ _)⟩

theorem tickLengthSelect_completes (len : BitVec 3) (w : Writer) :
    Completes (exec (.tickLengthSelect len w) s) fun t => SameCores s t ∧
      if s.m.mode = 3 ∧ len.toNat ≤ 4 then t.m.fld KLN_TICKSEL 2 0 = len.toNat ∧ KeepsRegs s t [KLN_TICKSEL]
      else KeepsRegs s t [] := by
  show Completes (execTickLengthSelect len w s) _
  unfold execTickLengthSelect
  by_cases hmode : s.m.mode = 3
  case pos =>
    by_cases hlen : len.toNat ≤ 4
    case pos =>
      simp only [hmode, hlen, and_self, if_true]
      refine completes_access hdead ((if_neg (not_not.mpr hmode)).trans (if_neg (Nat.not_lt.mpr hlen)))
        ⟨⟨rfl, rfl, rfl⟩, ?_, keepsRegs_setFld s _ _ _ _⟩
      rw [Mach.fld_setFld_same _ _ _ _ _ (by decide) (by decide), Nat.mod_eq_of_lt len.isLt]
    case neg =>
      simp only [hlen, and_false, if_false]
      exact completes_refused hdead ((if_neg (not_not.mpr hmode)).trans (if_pos (Nat.lt_of_not_le hlen)))
  case neg =>
    simp only [hmode, false_and, if_false]
    by_cases hsame : s.m.fld KLN_TICKSEL 2 0 = len.toNat
    case pos => exact completes_access hdead ((if_pos hmode).trans (if_pos hsame)) ⟨⟨rfl, rfl, rfl⟩, fun _ _ _ => rfl⟩
    case neg => exact completes_refused hdead ((if_pos hmode).trans (if_neg hsame))

end

/-! ### The force table (R210, R211) -/

namespace Mach

/-- A batch counts a generation or changes nothing (R211). -/
theorem forceBatch_sameGen {e : List Force × Nat} {items : List FItem} (h : (forceBatch e items).2 = e.2) :
    forceBatch e items = e := by
  unfold forceBatch at h ⊢
  dsimp only at h ⊢
  split
  case isTrue => rfl
  case isFalse hchanged =>
    rw [if_neg hchanged] at h
    exact absurd h (Nat.succ_ne_self _)

/-- Showing a provenance slot writes registers only (R418). -/
theorem psShow_keeps {α : Type} (g : Mach → α) (h : ∀ m a v, g (Mach.wr m a v) = g m) (m : Mach) :
    g m.psShow = g m := by
  unfold psShow
  refine foldl_keeps g ?_ _ m
  exact fun _ _ => h _ _ _

/-- An extension of a provenance slot is no matter of the force table (R399). -/
theorem psExtend_forces (m : Mach) (n source : Nat) (bs : List Byte) : (m.psExtend n source bs).forces = m.forces := by
  unfold psExtend
  dsimp only
  rw [psShow_keeps Mach.forces wr_forces]
  split <;> rfl

theorem psExtend_pgm (m : Mach) (n source : Nat) (bs : List Byte) : (m.psExtend n source bs).pgm = m.pgm := by
  unfold psExtend
  dsimp only
  rw [psShow_keeps Mach.pgm wr_pgm]
  split <;> rfl

/-- The module with other batches that wait. -/
def withBatches (m : Mach) (bs : List (Nat × List FItem)) : Mach := { m with pgm := { m.pgm with batches := bs } }

/-- A batch that is applied leaves the table and the generation that it makes, and the batches that wait (R211). -/
theorem forceApply_table (m : Mach) (items : List FItem) :
    ((m.forceApply items).forces, (m.forceApply items).pgm.frcGen) = forceBatch (m.forces, m.pgm.frcGen) items ∧
      (m.forceApply items).pgm.batches = m.pgm.batches := by
  unfold forceApply
  dsimp only
  split
  case isTrue hgen => exact ⟨(forceBatch_sameGen hgen).symm, rfl⟩
  case isFalse => rw [psExtend_forces, psExtend_pgm]; exact ⟨rfl, rfl⟩

/-- A status of a command is no matter of a register but KLN_PGMSTAT (R213). -/
theorem rg_pgmDone (m : Mach) (code a : Nat) (h : a ≠ KLN_PGMSTAT) : (m.pgmDone code).rg a = m.rg a :=
  m.rg_setFld_other _ _ _ _ _ h

end Mach

section
variable {s : State} (hdead : s.m.dead = false)
include hdead

theorem forceWrite_refused {items : List ForceItem} {k code : Nat} (hmode : s.m.mode = 3) (hitems : items ≠ [])
    (hfail : s.m.forceFail 0 (items.map ForceItem.item) = some (k, code)) :
    Completes (exec (.forceWrite true items) s) fun t =>
      t.m.out = s.m.out ++ [.data (leBytes 4 k), .status (pgmName code)] ∧ t.m.pgm.batches = s.m.pgm.batches ∧
        KeepsRegs s t [KLN_PGMSTAT] ∧ SameCores s t := by
  refine completes_change hdead (m := (s.m.emit (.data (leBytes 4 k))).pgmDone code) ?_
    ⟨by simp [Mach.pgmDone], rfl, fun a ha _ => Mach.rg_pgmDone _ _ _ (List.ne_of_not_mem_cons ha), rfl, rfl, rfl⟩
  simp [hmode, hitems, hfail]

theorem forceWrite_waits {items : List ForceItem} (hmode : s.m.mode = 3) (hitems : items ≠ [])
    (hgood : s.m.forceFail 0 (items.map ForceItem.item) = none) (hfirst : s.m.pgm.batches = [])
    (hroom : (Mach.forceBatch (s.m.forces, s.m.pgm.frcGen) (items.map ForceItem.item)).1.length ≤ 8192) :
    Completes (exec (.forceWrite true items) s) fun t =>
      t.m.pgm.batches = [(s.m.tickNo + 1, items.map ForceItem.item)] ∧ t.m.out = s.m.out ++ [.status "OK"] ∧
        t.m.forces = s.m.forces ∧ KeepsRegs s t [KLN_PGMSTAT] ∧ SameCores s t := by
  refine completes_change hdead (m := (s.m.withBatches [(s.m.tickNo + 1, items.map ForceItem.item)]).pgmDone 0) ?_
    ⟨rfl, rfl, rfl, fun a ha _ => Mach.rg_pgmDone _ _ _ (List.ne_of_not_mem_cons ha), rfl, rfl, rfl⟩
  simp [hmode, hitems, hgood, hfirst, hroom, Mach.withBatches]

theorem forceBatchApply_completes {tick : Nat} {l : List FItem} (hphase : s.m.tick.phase = 0)
    (hwaits : s.m.pgm.batches = [(tick, l)]) (hdue : tick ≤ s.m.tickNo) :
    Completes (exec .forceBatchApply s) fun t => t.m.pgm.batches = [] ∧ SameCores s t ∧
      (t.m.forces, t.m.pgm.frcGen) = Mach.forceBatch (s.m.forces, s.m.pgm.frcGen) l := by
  obtain ⟨htable, hbatches⟩ := (s.m.withBatches []).forceApply_table l
  refine completes_change hdead (m := (s.m.withBatches []).forceApply l) ?_ ⟨hbatches, ⟨rfl, rfl, rfl⟩, htable⟩
  simp [hphase, hwaits, hdue, Nat.not_lt.mpr hdue, Mach.withBatches]

end

end Sys2Proof.Machine
end

section
open Sys2Proof Sys2Proof.Machine

/-- Settles O50: the commands of the scheduler write one register each, and a batch that waits is applied as
`Mach.forceBatch` says. -/
theorem forcesAndScheduler : Obligations.ForcesAndScheduler := by
  unfold Obligations.ForcesAndScheduler
  intro w items s hdead
  exact ⟨fun hmode hitems => ⟨fun _ _ hfail => forceWrite_refused hdead hmode hitems hfail,
      fun hgood hfirst hroom => forceWrite_waits hdead hmode hitems hgood hfirst hroom⟩,
    fun _ hphase hwaits hdue => forceBatchApply_completes hdead hphase hwaits hdue,
    fun on => schctlRun_completes hdead on w,
    fun hmode hrun => schctlStep_completes hdead w hmode hrun,
    fun len => tickLengthSelect_completes hdead len w⟩

end

section
/-! SUPPORT. The wired registers of the cores (R63): every write of a core keeps them, and so does everything that
instructions and the other commands do to the cores. -/

namespace Sys2Proof.Machine

/-! ### One core -/

namespace Core.Hardwired

variable {c c' : Core}

/-- Only the general registers and the condition bits matter. -/
theorem congr (h : c.Hardwired) (hg : c'.g = c.g) (hc : c'.c = c.c) : c'.Hardwired := by
  obtain ⟨hzero, hone⟩ := h
  exact ⟨by rw [Core.rd, hg]; exact hzero, by rw [Core.cb, hc]; exact hone⟩

theorem next (h : c.Hardwired) : c.next.Hardwired := h.congr rfl rfl

theorem wr (h : c.Hardwired) (d : BitVec 5) (v : Word) : (c.wr d v).Hardwired := by
  obtain ⟨hzero, hone⟩ := h
  refine ⟨?_, ?_⟩
  · rw [Core.rd_wr, if_neg (fun hd => hd.2 hd.1.symm), hzero]
  · unfold Core.wr; split <;> exact hone

theorem wrC (h : c.Hardwired) (d : BitVec 3) (v : Bool) : (c.wrC d v).Hardwired := by
  obtain ⟨hzero, hone⟩ := h
  refine ⟨?_, ?_⟩
  · unfold Core.wrC; split <;> exact hzero
  · rw [Core.cb_wrC, if_neg (fun hd => hd.2 hd.1.symm), hone]

theorem wrCs (h : c.Hardwired) (v : BitVec 8) : (c.wrCs v).Hardwired :=
  ⟨h.1, by simp [Core.cb, Core.wrCs]⟩

theorem newSig (h : c.Hardwired) : c.newSig.Hardwired := h.congr rfl rfl

theorem retire (eff : Core → Eff) (h : (eff c).core.Hardwired) : (c.retire eff).Hardwired := h.congr rfl rfl

theorem dispatched (top frame entry : Nat) (sys : Bool) (unit : Nat) (c : Core) :
    (c.dispatched top frame entry sys unit).Hardwired := by
  exact ⟨by simp [Core.rd_eq, Core.dispatched], by simp [Core.cb, Core.dispatched]⟩

theorem reset : Core.reset.Hardwired := ⟨by simp [Core.rd_eq, Core.reset], rfl⟩

end Core.Hardwired

/-! ### The cores of a cluster -/

/-- The wired registers of the three cores of a cluster read as R63 says. -/
def Tri.Hardwired (t : Tri) : Prop := ∀ k, (t.get k).Hardwired

theorem Tri.Hardwired.reset : Tri.reset.Hardwired := by
  intro k
  unfold Tri.get
  split_ifs <;> exact Core.Hardwired.reset

theorem Tri.Hardwired.set {t : Tri} (h : t.Hardwired) (j : Nat) {c : Core} (hc : c.Hardwired) : (t.set j c).Hardwired := by
  have h0 := h 0
  have h1 := h 1
  have h2 := h 2
  intro k
  unfold Tri.set
  split_ifs <;> (unfold Tri.get; split_ifs <;> assumption)

theorem Tri.Hardwired.mapOn {t : Tri} (h : t.Hardwired) (ks : List Nat) {f : Core → Core}
    (hf : ∀ c, c.Hardwired → (f c).Hardwired) : (t.mapOn ks f).Hardwired :=
  List.foldlRecOn ks _ (motive := Tri.Hardwired) h fun _ ht k _ => ht.set k (hf _ (ht k))

/-! ### The state -/

namespace State

theorem hardwired_iff (s : State) : s.Hardwired ↔ s.c0.Hardwired ∧ s.c1.Hardwired := by
  constructor
  · intro h
    have lift : ∀ (cl : ClusterId), (s.tri cl).Hardwired := by
      intro cl k
      have := h cl
      have h0 := h cl 0
      have h1 := h cl 1
      have h2 := h cl 2
      unfold Tri.get
      split_ifs
      exacts [h0, h1, h2]
    exact ⟨lift 0, lift 1⟩
  · rintro ⟨h0, h1⟩ cl k
    unfold State.core State.tri
    split
    · exact h0 k
    · exact h1 k

namespace Hardwired

variable {s : State}

theorem tri (h : s.Hardwired) (cl : Nat) : (s.tri cl).Hardwired := by
  obtain ⟨h0, h1⟩ := s.hardwired_iff.mp h
  unfold State.tri
  split
  · exact h0
  · exact h1

theorem setTri (h : s.Hardwired) (cl : Nat) {t : Tri} (ht : t.Hardwired) : (s.setTri cl t).Hardwired := by
  obtain ⟨h0, h1⟩ := s.hardwired_iff.mp h
  rw [hardwired_iff]
  unfold State.setTri
  split
  · exact ⟨ht, h1⟩
  · exact ⟨h0, ht⟩

/-- A change beside the cores. -/
theorem put (h : s.Hardwired) (m : Mach) : ({ s with m := m } : State).Hardwired := h

theorem mod (h : s.Hardwired) (f : Mach → Mach) : (s.mod f).Hardwired := h

theorem live (h : s.Hardwired) (f : Mach → Mach) : (s.live f).Hardwired := by
  unfold State.live; split <;> exact h

theorem access (h : s.Hardwired) (w : Nat) (f : Mach → Mach) : (s.access w f).Hardwired := by
  unfold State.access; split <;> exact h

theorem ite {p : Prop} [Decidable p] {t : State} (h : s.Hardwired) (ht : t.Hardwired) : (if p then s else t).Hardwired := by
  split <;> assumption

/-- A fold over clusters keeps what each of its steps keeps. -/
theorem foldl {α : Type} {f : State → α → State} (hf : ∀ s x, s.Hardwired → (f s x).Hardwired) (l : List α)
    (h : s.Hardwired) : (l.foldl f s).Hardwired :=
  List.foldlRecOn l f (motive := State.Hardwired) h fun s hs x _ => hf s x hs

/-! ### What instructions share (R84, R114, R163) -/

theorem closeWindow (h : s.Hardwired) (cl : Nat) : (s.closeWindow cl).Hardwired := by
  unfold State.closeWindow
  dsimp only
  split
  · exact h
  · exact put (setTri h cl (Tri.Hardwired.mapOn (h.tri cl) _ fun _ => Core.Hardwired.newSig)) _

theorem dispatch (h : s.Hardwired) (cl : Nat) : (s.dispatch cl).Hardwired := by
  unfold State.dispatch
  dsimp only
  split
  · exact h
  · exact put (setTri h cl (Tri.Hardwired.mapOn (h.tri cl) _ fun c _ => Core.Hardwired.dispatched _ _ _ _ _ c)) _

theorem endSlice (h : s.Hardwired) (cl : Nat) : (s.endSlice cl).Hardwired :=
  ((h.closeWindow cl).mod _).dispatch cl

theorem takeException (h : s.Hardwired) (cl code : Nat) : (takeException s cl code).Hardwired := by
  unfold Machine.takeException
  split
  · exact h
  · extract_lets c recorded counted p selfCaused
    exact endSlice (put h _) cl

theorem retire (h : s.Hardwired) (cl : Nat) {eff : Core → Eff} (he : ∀ c, c.Hardwired → (eff c).core.Hardwired) :
    (s.retire cl eff).Hardwired := by
  unfold State.retire
  extract_lets pc cores counted
  have hcounted : counted.Hardwired := h.setTri cl ((h.tri cl).mapOn _ fun c hc => (he c hc).congr rfl rfl)
  split
  · exact hcounted.closeWindow cl
  · exact hcounted

theorem stepDone (h : s.Hardwired) (cl : Nat) : (s.stepDone cl).Hardwired := by
  unfold State.stepDone
  split <;> exact h

theorem budgetRunOn (h : s.Hardwired) (cl : Nat) (sl : Slice) : (budgetRunOn s cl sl).Hardwired := by
  unfold Machine.budgetRunOn
  split <;> exact h

end Hardwired
end State

/-! ### Instructions -/

/-- The effect of an instruction that retires keeps the wired registers of every core. -/
def StepRes.Wired : StepRes → Prop
  | .ok eff => ∀ c, c.Hardwired → (eff c).core.Hardwired
  | _ => True

namespace State.Hardwired

variable {s : State}

theorem finish (h : s.Hardwired) (cl : Nat) {o : StepOut} (ho : o.res.Wired) : (s.finish cl o).Hardwired := by
  unfold State.finish
  extract_lets s1
  have hcharge : (s1.charge cl o.cost o.corr).Hardwired := h
  split
  · rename_i eff hres
    rw [hres] at ho
    exact (hcharge.retire cl ho).stepDone cl
  · exact hcharge.takeException cl _
  · exact h
  · exact (hcharge.retire cl fun c hc => hc.next).endSlice cl

/-- An instruction keeps the wired registers when its own part does. -/
theorem execInstr (h : s.Hardwired) (cl : Nat) (reserved sysOnly : Bool) {body : Mach → Tri → Core → StepOut}
    (hb : ∀ m t lead, (body m t lead).res.Wired) : (execInstr cl reserved sysOnly body s).Hardwired := by
  unfold Machine.execInstr
  split
  · exact h
  · rename_i sl _
    split
    · exact h
    · extract_lets lead s1
      have hexc : ∀ (m : Mach) (cost corr code : Nat),
          (Machine.takeException (({ s1 with m := m } : State).charge cl cost corr) cl code).Hardwired := by
        intro m cost corr code
        refine takeException ?_ cl code
        exact budgetRunOn h cl sl
      split
      · refine takeException ?_ cl 1
        exact h
      · split
        extract_lets s2 pc lead'
        split
        · exact (budgetRunOn h cl sl).put _
        · split
          · exact hexc _ 1 0 3
          · split
            · exact hexc _ 1 0 4
            · split
              rename_i corr unc m3 _
              extract_lets s3 o
              split
              · exact hexc _ 1 corr 15
              · split
                · exact hexc _ 1 corr 9
                · split
                  · exact hexc _ 1 corr 10
                  · exact finish ((budgetRunOn h cl sl).put m3) cl (hb _ _ _)

/-- As `execInstr`, for an RR instruction (R97). -/
theorem execRR (h : s.Hardwired) (cl : Nat) (r : RR) (d a b : FieldUse) {body : Mach → Tri → Core → StepOut}
    (hb : ∀ m t lead, (body m t lead).res.Wired) : (execRR cl r d a b body s).Hardwired := by
  refine execInstr h cl _ _ ?_
  intro m t lead
  dsimp only
  split
  · have hlead := hb m t lead
    split
    · rename_i eff hres
      rw [hres] at hlead
      intro c hc
      dsimp only
      split
      · exact hlead c hc
      · exact hc.next
    · exact hlead
  · intro c hc
    have hown := hb m t c
    dsimp only
    split
    · split
      · rename_i eff hres
        rw [hres] at hown
        exact hown c hc
      · exact hc.next
    · exact hc.next

/-- As `execInstr`, for an IMGR instruction (R107). -/
theorem execImgr (h : s.Hardwired) (cl : Nat) (space : BitVec 2) (bad : Bool) (d : FieldUse) (r : RR)
    {body : Mach → Tri → Core → StepOut} (hb : ∀ m t lead, (body m t lead).res.Wired) :
    (execImgr cl space bad d r body s).Hardwired := by
  refine execInstr h cl _ _ ?_
  intro m t lead
  dsimp only
  split
  · have hlead := hb m t lead
    split
    · rename_i eff hres
      rw [hres] at hlead
      intro c hc
      dsimp only
      split
      · exact hlead c hc
      · exact hc.next
    · exact hlead
  · exact fun c hc => hc.next

end State.Hardwired

end Sys2Proof.Machine
end

section
/-! SUPPORT. The own parts of the instructions keep the wired registers (R63). -/

namespace Sys2Proof.Machine

/-! ### Effects -/

/-- A call or return leaves a core at another place. -/
theorem Core.Hardwired.enter {c : Core} (h : c.Hardwired) (pc : BitVec 32) (sys : Bool) (unit : BitVec 16) :
    ({ c with pc := pc, sys := sys, unit := unit } : Core).Hardwired := h.congr rfl rfl

theorem wired_effG (d : BitVec 5) (f : Core → Word) : (StepRes.ok (effG d f)).Wired := fun _ hc => (hc.wr d _).next

theorem wired_effC (d : BitVec 3) (f : Core → Bool) : (StepRes.ok (effC d f)).Wired := fun _ hc => (hc.wrC d _).next

theorem wired_effF (d : BitVec 5) (f : Core → Word × FFlags) : (StepRes.ok (effF d f)).Wired :=
  fun _ hc => (hc.wr d _).next.congr rfl rfl

theorem wired_effFC (d : BitVec 3) (f : Core → Bool × FFlags) : (StepRes.ok (effFC d f)).Wired :=
  fun _ hc => (hc.wrC d _).next.congr rfl rfl

theorem wired_effStatus (d : BitVec 5) (status : Nat) (addr : Core → BitVec 32) :
    (StepRes.ok (effStatus d status addr)).Wired := fun _ hc => (hc.wr d _).next

/-- A result that a cluster fault replaces. -/
theorem StepRes.Wired.orFault {res : StepRes} (h : res.Wired) (bad : Bool) : (if bad then .fault else res : StepRes).Wired := by
  split
  · trivial
  · exact h

/-- A result that a cluster fault replaces is an exception. -/
theorem wired_excOrFault (bad : Bool) (code : Nat) : (if bad then .fault else .exc code : StepRes).Wired := by
  split <;> trivial

/-! ### Loads, stores and blocks (R126 to R128, R135) -/

theorem wired_loadBody (cl n : Nat) (r : MemForm) (ext : Nat → Word) (m : Mach) (t : Tri) (lead : Core) :
    (loadBody cl n r ext m t lead).res.Wired := by
  unfold loadBody
  split
  split
  · extract_lets
    split
    split
    · trivial
    · split
      split
      · trivial
      · exact fun c hc => (hc.wr r.r _).next
  · trivial

theorem wired_storeBody (cl n : Nat) (r : MemForm) (m : Mach) (t : Tri) (lead : Core) :
    (storeBody cl n r m t lead).res.Wired := by
  unfold storeBody
  extract_lets data
  split
  split
  · trivial
  · extract_lets
    split
    split
    · exact wired_excOrFault _ _
    · split
      · exact wired_excOrFault _ _
      · exact StepRes.Wired.orFault (fun c hc => hc.next) _

theorem wired_blockBody (cl n cost : Nat) (r : BlockForm) (scan : Scan) (m : Mach) (t : Tri) (lead : Core) :
    (blockBody cl n cost r scan m t lead).res.Wired := by
  unfold blockBody
  split
  split
  · extract_lets
    split
    split
    · trivial
    · split
      split
      · trivial
      · extract_lets
        split
        split
        refine StepRes.Wired.orFault ?_ _
        split
        · trivial
        · exact fun c hc => (hc.wrC r.c _).next
  · trivial

/-! ### Image accesses (R106, R107, R133) -/

theorem wired_bitBody (cl : Nat) (sp : Space) (op : BitOp) (c : BitVec 3) (idx : Core → Word) (present : Core → Bool)
    (m : Mach) (t : Tri) (lead : Core) : (bitBody cl sp op c idx present m t lead).res.Wired := by
  unfold bitBody
  split
  split
  · trivial
  · extract_lets i exc at_ stored
    have hexc : ∀ code, (exc code).res.Wired := wired_excOrFault _
    split
    · exact hexc 6
    · split
      · exact hexc _
      · split
        · exact StepRes.Wired.orFault (fun x hx => hx.next) _
        · split
          · trivial
          · split
            split
            · trivial
            · exact fun x hx => (hx.wrC c _).next

theorem wired_wordLoadBody (cl : Nat) (sp : Space) (ext : Bool) (w : BitVec 2) (r : RR) (m : Mach) (t : Tri)
    (lead : Core) : (wordLoadBody cl sp ext w r m t lead).res.Wired := by
  unfold wordLoadBody
  extract_lets n cost
  split
  split
  · extract_lets
    split
    · trivial
    · split
      · trivial
      · split
        split
        · trivial
        · exact fun x hx => (hx.wr r.d _).next
  · trivial

theorem wired_wordStoreBody (cl : Nat) (sp : Space) (w : BitVec 2) (r : RR) (m : Mach) (t : Tri) (lead : Core) :
    (wordStoreBody cl sp w r m t lead).res.Wired := by
  unfold wordStoreBody
  extract_lets n cost
  split
  split
  · trivial
  · extract_lets i exc
    have hexc : ∀ code, (exc code).res.Wired := wired_excOrFault _
    split
    · exact hexc 6
    · split
      · exact hexc _
      · exact StepRes.Wired.orFault (fun x hx => hx.next) _

/-! ### Calls (R81, R83) -/

theorem wired_ucallBody (cl : Nat) (f : BitVec 5) (unit : Core → Nat) (m : Mach) (t : Tri) (lead : Core) :
    (ucallBody cl f unit m t lead).res.Wired := by
  unfold ucallBody
  extract_lets pc
  split
  split
  · trivial
  · trivial
  · extract_lets
    split
    extract_lets
    split
    · trivial
    · split
      · trivial
      · split
        · trivial
        · split
          · trivial
          · split
            · trivial
            · split
              split
              · trivial
              · split
                split
                refine StepRes.Wired.orFault ?_ _
                split
                · trivial
                · exact fun c hc => Core.Hardwired.enter ((hc.wr 29 _).wr 30 _) _ _ _

theorem wired_uretBody (cl : Nat) (m : Mach) (t : Tri) (lead : Core) : (uretBody cl m t lead).res.Wired := by
  unfold uretBody
  extract_lets top
  split
  split
  · trivial
  · trivial
  · extract_lets
    split
    split
    · trivial
    · split
      split
      · trivial
      · extract_lets w
        split
        · trivial
        · exact fun c hc => Core.Hardwired.enter (((hc.wr 30 _).wr 29 _).wrCs _) _ _ _

/-! ### Accessions and requests of the Deadline Engine (R143 to R153) -/

theorem wired_acqBody (cl : Nat) (d a : BitVec 5) (m : Mach) (t : Tri) (lead : Core) :
    (acqBody cl d a m t lead).res.Wired := by
  unfold acqBody
  split
  split
  · extract_lets b eff
    split
    split
    · trivial
    · split
      · exact wired_effStatus d _ _
      · extract_lets
        split
        · trivial
        · exact wired_effStatus d _ _
  · trivial

theorem wired_acmpBody (cl : Nat) (d a b : BitVec 5) (m : Mach) (t : Tri) (lead : Core) :
    (acmpBody cl d a b m t lead).res.Wired := by
  unfold acmpBody
  split
  split
  · trivial
  · exact StepRes.Wired.orFault (wired_effStatus d _ _) _

theorem wired_requestBody (cl : Nat) (op : ReqOp) (d a : BitVec 5) (m : Mach) (t : Tri) (lead : Core) :
    (requestBody cl op d a m t lead).res.Wired := by
  unfold requestBody
  extract_lets cost size
  split
  split
  · extract_lets
    split
    split
    · trivial
    · split
      extract_lets blk collect
      split
      · trivial
      · split
        split
        · trivial
        · extract_lets
          split
          · exact wired_effStatus d _ _
          · split
            · exact wired_effStatus d _ _
            · split
              · exact wired_effStatus d _ _
              · split
                · trivial
                · exact wired_effStatus d _ _
  · trivial

/-! ### Every instruction -/

theorem execJr_wired (cl : ClusterId) (r : RR) {s : State} (h : s.Hardwired) : Completes (execJr cl r s) State.Hardwired := by
  refine ⟨_, rfl, h.execRR cl _ _ _ _ fun m t lead => ?_⟩
  split
  · trivial
  · exact fun c hc => hc.congr rfl rfl

theorem execBc_wired (cl : ClusterId) (k : BitVec 3) (sense : Bool) (disp : BitVec 22) {s : State} (h : s.Hardwired) :
    Completes (execBc cl k sense disp s) State.Hardwired := by
  refine ⟨_, rfl, h.execInstr cl _ _ fun m t lead => ?_⟩
  dsimp only
  split
  · trivial
  · intro c hc
    dsimp only
    split
    · exact hc.congr rfl rfl
    · exact hc.next

theorem aluDiv_wired (cl : ClusterId) (r : RR) (cost : Nat) (zero : Word → Bool) (f : Word → Word → Word) {s : State}
    (h : s.Hardwired) : Completes (aluDiv cl r cost zero f s) State.Hardwired := by
  refine ⟨_, rfl, h.execRR cl _ _ _ _ fun m t lead => ?_⟩
  split
  · trivial
  · exact wired_effG _ _

theorem execIllegalEncoding_wired (cl : ClusterId) (w : BitVec 32) {s : State} (h : s.Hardwired) :
    Completes (execIllegalEncoding cl w s) State.Hardwired :=
  ⟨_, rfl, State.Hardwired.ite (h.execInstr cl _ _ fun _ _ _ => trivial) h⟩

theorem instr_wired (i : Instr) (cl : ClusterId) {s : State} (hcl : clusterOf i = some cl) (h : s.Hardwired) :
    Completes (exec i s) State.Hardwired := by
  cases i
  case add | sub | andR | orR | xorR | andn | orn | xnor | shl | shr | sar | ror | mul | mulh | mulhu | min | max
      | minu | maxu | addw | subw | shlw | shrw | sarw | rorw | mulw | clz | ctz | popc | bswap | sxb | sxh | sxw
      | zxb | zxh | zxw | mfc | frflg => exact ⟨_, rfl, h.execRR _ _ _ _ _ fun _ _ _ => wired_effG _ _⟩
  case ceq | clt | cltu | ctst | ceqw | cltw | cltuw | cand | cor | cxor | candn | corn | cnot =>
    exact ⟨_, rfl, h.execRR _ _ _ _ _ fun _ _ _ => wired_effC _ _⟩
  case mtc => exact ⟨_, rfl, h.execRR _ _ _ _ _ fun _ _ _ _ hc => (hc.wrCs _).next⟩
  case fcflg => exact ⟨_, rfl, h.execRR _ _ _ _ _ fun _ _ _ _ hc => hc.congr rfl rfl⟩
  case fadd | fsub | fmul | fdiv | fsqrt | fmin | fmax | fmac | fabs | fneg | fcpys | ftoi | ftou | itof | utof | fcvt =>
    exact ⟨_, rfl, h.execRR _ _ _ _ _ fun _ _ _ => wired_effF _ _⟩
  case fceq | fclt | fcle | fcun => exact ⟨_, rfl, h.execRR _ _ _ _ _ fun _ _ _ => wired_effFC _ _⟩
  case div | divu | rem | remu | divw | divuw | remw | remuw => exact aluDiv_wired _ _ _ _ _ h
  case jr => exact execJr_wired _ _ h
  case addi | addiw | andi | ori | xori | shi | shin | shinw | sinf =>
    exact ⟨_, rfl, h.execInstr _ _ _ fun _ _ _ => wired_effG _ _⟩
  case ceqi | clti | cltui => exact ⟨_, rfl, h.execInstr _ _ _ fun _ _ _ => wired_effC _ _⟩
  case msync | brk => exact ⟨_, rfl, h.execInstr _ _ _ fun _ _ _ _ hc => hc.next⟩
  case bc => exact execBc_wired _ _ _ _ h
  case ldb | ldbu | ldh | ldhu | ldw | ldwu | ldd => exact ⟨_, rfl, h.execInstr _ _ _ (wired_loadBody _ _ _ _)⟩
  case stb | sth | stw | std => exact ⟨_, rfl, h.execInstr _ _ _ (wired_storeBody _ _ _)⟩
  case ibld | ibldn | obld | obldn | obst | obstn | obset | obclr | mbld | mbldn | mbst | mbstn | mbset | mbclr =>
    exact ⟨_, rfl, h.execInstr _ _ _ (wired_bitBody _ _ _ _ _ _)⟩
  case imgrLoad | imgrLoadInverted | imgrStore | imgrStoreInverted | imgrSet | imgrClear =>
    exact ⟨_, rfl, h.execImgr _ _ _ _ _ (wired_bitBody _ _ _ _ _ _)⟩
  case imgrWordLoad => exact ⟨_, rfl, h.execImgr _ _ _ _ _ (wired_wordLoadBody _ _ _ _ _)⟩
  case imgrWordStore => exact ⟨_, rfl, h.execImgr _ _ _ _ _ (wired_wordStoreBody _ _ _ _)⟩
  case edgRise | edgFall | edgEither | ton | tof | tp | ctu | ctd | crs | cld =>
    exact ⟨_, rfl, h.execInstr _ _ _ fun m => wired_blockBody _ _ _ _ _ m⟩
  case ucall | ucallr => exact ⟨_, rfl, h.execInstr _ _ _ (wired_ucallBody _ _ _)⟩
  case uret => exact ⟨_, rfl, h.execInstr _ _ _ (wired_uretBody _)⟩
  case slice => exact ⟨_, rfl, h.execInstr _ _ _ fun _ _ _ => trivial⟩
  case acq => exact ⟨_, rfl, h.execInstr _ _ _ (wired_acqBody _ _ _)⟩
  case acmp => exact ⟨_, rfl, h.execInstr _ _ _ (wired_acmpBody _ _ _ _)⟩
  case tactAtTime | tactAtPosition | tactCancel | trkuCreate | trkuCorrect | trkuRelease | trkqTrackQuery
      | trkqActionQuery | trkqCollect => exact ⟨_, rfl, h.execInstr _ _ _ (wired_requestBody _ _ _ _)⟩
  case illegalEncoding => exact execIllegalEncoding_wired _ _ h
  all_goals exact nomatch hcl

end Sys2Proof.Machine
end

section
/-! SUPPORT. The commands beside the instructions keep the wired registers (R63): most of them reach no core; a reset
puts every core at its reset values, a rebuild copies what no wire fixes, and a debugger's write goes through the
writes of a core. -/

namespace Sys2Proof.Machine

/-- A rebuilt core has the privilege, the unit and the signature of a healthy one (R167). -/
theorem Core.Hardwired.rebuilt {c : Core} (h : c.Hardwired) (sys : Bool) (unit : BitVec 16) (sig : BitVec 32) :
    ({ c with sys := sys, unit := unit, sig := sig } : Core).Hardwired := h.congr rfl rfl

namespace State.Hardwired

variable {s : State}

/-! ### Resets, boundaries and the debugger (R167, R174, R181, R481) -/

theorem resetCluster (h : s.Hardwired) (cl : Nat) (afterFault : Bool) : (s.resetCluster cl afterFault).Hardwired :=
  mod (h.setTri cl Tri.Hardwired.reset) _

theorem faultResets (h : s.Hardwired) : s.faultResets.Hardwired :=
  foldl (fun _ cl hs => ite (hs.resetCluster cl true) hs) _ h

theorem boundary (h : s.Hardwired) (mis : Bool) : (s.boundary mis).Hardwired := by
  unfold State.boundary
  extract_lets ended overran turned
  have hturned : turned.Hardwired := (h.mod _).mod _
  exact ite ((h.mod _).mod _) (hturned.faultResets.mod _)

theorem bootBoundary (h : s.Hardwired) : s.bootBoundary.Hardwired := by
  unfold State.bootBoundary
  exact ite ((h.mod _).mod _) ((h.mod _).mod _)

theorem resetModule (s : State) (cause : Nat) : (s.resetModule cause).Hardwired :=
  (hardwired_iff _).mpr ⟨Tri.Hardwired.reset, Tri.Hardwired.reset⟩

theorem resetBoot (s : State) (cause : Nat) (e : BootEnv) : (s.resetBoot cause e).Hardwired := by
  exact ite ((resetModule s cause).mod _) ((resetModule s cause).mod _)

theorem moduleReset (h : s.Hardwired) (cause : Nat) (e : BootEnv) : (s.moduleReset cause e).Hardwired :=
  ite h (resetBoot s cause e)

theorem resume (h : s.Hardwired) (cl : Nat) : (s.resume cl).Hardwired := h.mod _

theorem debugWrite (h : s.Hardwired) (cl : Nat) (t : DbgTarget) (w : Nat) : (s.debugWrite cl t w).Hardwired := by
  have hall : ∀ f : Core → Core, (∀ c, c.Hardwired → (f c).Hardwired) →
      (s.setTri cl ((s.tri cl).mapOn [0, 1, 2] f)).Hardwired := fun _ hf => h.setTri cl (Tri.Hardwired.mapOn (h.tri cl) _ hf)
  unfold State.debugWrite
  extract_lets all stopped
  cases t with
  | data v => exact ite (h.mod _) (hall _ fun c hc => hc.wr _ _)
  | pc v => exact ite (h.mod _) (ite (h.mod _) (hall _ fun c hc => hc.congr rfl rfl))
  | cond v => exact ite (h.mod _) (hall _ fun c hc => (hc.wrCs _).congr rfl rfl)

theorem rebuildResult (h : s.Hardwired) (cl : ClusterId) (r : RebuildEnd) :
    Completes (execRebuildResult cl r s) State.Hardwired := by
  refine ⟨_, rfl, ?_⟩
  split
  · exact h
  · extract_lets s1
    have h1 : s1.Hardwired := h.mod _
    cases r with
    | healthyDiffer => exact h1.mod _
    | coreDiffers => exact h1.mod _
    | pass => exact mod (h1.setTri cl (Tri.Hardwired.set (h1.tri cl) _ (Core.Hardwired.rebuilt (h1.tri cl _) _ _ _))) _

theorem kilnClusterReset (h : s.Hardwired) (w : Writer) (key : BitVec 16) (sel : BitVec 2) :
    Completes (execKilnClusterReset w key sel s) State.Hardwired := by
  refine ⟨_, rfl, ite h (ite (h.mod _) (ite (h.mod _) (foldl ?_ _ h)))⟩
  intro s cl hs
  exact ite hs (ite (hs.resetCluster cl false) (hs.mod _))

/-! ### Register writes (R6, R7, R520) -/

/-- A meaning that a write starts. -/
theorem also {f : State → Result} (hf : Completes (f s) State.Hardwired) : (s.also f).Hardwired := by
  obtain ⟨t, hnext, ht⟩ := hf
  unfold State.also
  rw [hnext]
  exact ht

theorem alsoIf (h : s.Hardwired) (b : Bool) {f : State → Result} (hf : ∀ s, s.Hardwired → Completes (f s) State.Hardwired) :
    (s.alsoIf b f).Hardwired := ite (also (hf s h)) h

/-- A meaning that only an event of a module that serves has. -/
theorem next_live (f : Mach → Mach) (s : State) (h : s.Hardwired) : Completes (.next (s.live f)) State.Hardwired :=
  ⟨_, rfl, h.live f⟩

theorem next_access (w : Nat) (f : Mach → Mach) (s : State) (h : s.Hardwired) :
    Completes (.next (s.access w f)) State.Hardwired := ⟨_, rfl, h.access w f⟩

theorem next_mod (f : Mach → Mach) (s : State) (h : s.Hardwired) : Completes (.next (s.mod f)) State.Hardwired :=
  ⟨_, rfl, h.mod f⟩

theorem debugResume (cl : ClusterId) (w : Writer) (s : State) (h : s.Hardwired) :
    Completes (execDebugResume cl w s) State.Hardwired := ⟨_, rfl, ite (h.resume cl) (h.mod _)⟩

theorem clusterCmd (h : s.Hardwired) (cl a v : Nat) (w : Writer) : (s.clusterCmd cl a v w).Hardwired := by
  unfold State.clusterCmd
  extract_lets c lo s1
  have h1 : s1.Hardwired := h.mod _
  refine ite (h.alsoIf _ (next_access _ _)) (ite ?_ (ite (h.debugWrite _ _ _) (ite (h.debugWrite _ _ _)
    (ite (h1.debugWrite _ _ _) h))))
  exact ((h.alsoIf _ (next_live _)).alsoIf _ (debugResume c w)).alsoIf _ (next_access _ _)

theorem updCmd (h : s.Hardwired) (v : Nat) : (s.updCmd v).Hardwired := by
  unfold State.updCmd
  split
  · exact also (next_live _ s h)
  · exact also (next_live _ s h)
  · exact also (next_live _ s h)
  · exact also (next_live _ s h)
  · exact also (next_live _ s h)
  · exact h

theorem modeCmd (h : s.Hardwired) (v : Nat) : (s.modeCmd v).Hardwired := by
  unfold State.modeCmd
  split
  · exact also (next_live _ s h)
  · exact also (next_live _ s h)
  · exact also (next_live _ s h)
  · exact also (next_live _ s h)
  · exact h

theorem blockCmd (h : s.Hardwired) (a v : Nat) (w : Writer) : (s.blockCmd a v w).Hardwired := by
  unfold State.blockCmd
  refine ite ((h.alsoIf _ (next_live _)).alsoIf _ (next_live _)) (ite ?_ (ite (h.alsoIf _ (next_live _))
    (ite (h.alsoIf _ (next_access _ _)) (ite (h.alsoIf _ (next_access _ _)) (ite (h.alsoIf _ (next_access _ _))
    (ite ((h.alsoIf _ (next_access _ _)).alsoIf _ (next_live _)) (ite (h.alsoIf _ (next_access _ _)) (ite (h.updCmd v)
    (ite (h.modeCmd v) (ite (also (h.kilnClusterReset w _ _)) (ite (h.alsoIf _ fun s hs => next_live _ s hs)
    (ite (h.mod _) (ite (h.alsoIf _ (next_mod _)) (ite (h.alsoIf _ (next_mod _)) h))))))))))))))
  exact (((h.alsoIf _ (next_access _ _)).alsoIf _ (next_access _ _)).alsoIf _ (next_access _ _)).alsoIf _ (next_access _ _)

theorem portCmd (h : s.Hardwired) (a v : Nat) (w : Writer) : (s.portCmd a v w).Hardwired := by
  unfold State.portCmd
  split
  · exact h.alsoIf _ (next_access _ _)
  · exact h.alsoIf _ (next_access _ _)
  · exact h.alsoIf _ (next_live _)
  · split
    · exact h.alsoIf _ (next_access _ _)
    · exact h.alsoIf _ (next_access _ _)
    · exact h

theorem writeStarts (h : s.Hardwired) (a v : Nat) (w : Writer) : (s.writeStarts a v w).Hardwired :=
  (((h.clusterCmd 0 a v w).clusterCmd 1 a v w).blockCmd a v w).portCmd a v w

theorem regPut (h : s.Hardwired) (a v : Nat) (w : Writer) : (s.regPut a v w).Hardwired := by
  unfold State.regPut
  split
  · exact h
  · split
    · exact h
    · split
      · exact ite (h.mod _) (h.mod _)
      · refine ite (ite h (h.mod _)) (ite (also (next_access _ _ s h)) (ite (h.mod _)
          (ite (mod (also (next_access _ _ s h)) _) (ite (also (next_access _ _ s h)) (ite (h.mod _) (ite (h.mod _)
          (ite (h.mod _) ?_)))))))
        extract_lets lock
        split
        rename_i ok m _
        exact ite (writeStarts (h.put _) a v w) (h.put m)

theorem regWrite (h : s.Hardwired) (a v size inst : Nat) (w : Writer) : (s.regWrite a v size inst w).Hardwired := by
  unfold State.regWrite
  extract_lets err
  refine ite h (ite (h.mod _) (ite (h.mod _) ?_))
  split
  rename_i ok m _
  exact ite (regPut (h.put m) _ _ _) ((h.put m).mod _)

theorem regRead (h : s.Hardwired) (a : Nat) : (s.regRead a).Hardwired := by
  unfold State.regRead
  refine ite ?_ (ite (also (next_live _ s h)) ?_)
  · split
    rename_i x m _
    exact also (next_live _ _ (h.put m))
  · split
    · exact h.mod _
    · exact h.mod _

theorem debugAccess (h : s.Hardwired) (inst a n : Nat) (data : Option (List Byte)) :
    (s.debugAccess inst a n data).Hardwired := by
  unfold State.debugAccess
  extract_lets len
  refine ite (h.mod _) (ite ?_ (h.mod _))
  split
  · exact h.regWrite _ _ _ _ _
  · unfold State.debugReg
    extract_lets zero
    have hzero : ∀ s, s.Hardwired → (zero s).Hardwired := fun s hs => hs.mod _
    refine ite (hzero s h) ?_
    split
    rename_i ok m _
    exact ite (regRead (h.put m) _) (hzero _ (h.put m))

/-! ### The firing and its end (R45, R51) -/

theorem firingStart (h : s.Hardwired) (mis : Option (BitVec 16)) : Completes (execFiringStart mis s) State.Hardwired := by
  refine ⟨_, rfl, ite h (mod (ite (h.mod _) ?_) _)⟩
  exact foldl (fun s cl hs => ite hs (hs.dispatch cl)) _ (h.mod _)

theorem outputDeadline (h : s.Hardwired) (t : SelfTest) : Completes (execOutputDeadline t s) State.Hardwired := by
  refine ⟨_, rfl, ite h (mod (ite ?_ h) _)⟩
  exact foldl (fun s cl hs => ite hs (hs.closeWindow cl)) _ h

theorem sliceBudget (h : s.Hardwired) (cl : ClusterId) : Completes (execSliceBudget cl s) State.Hardwired := by
  refine ⟨_, rfl, ?_⟩
  split
  · exact h
  · exact ite (takeException (h.mod _) cl 1) (h.budgetRunOn cl _)

theorem collectorOriginate (h : s.Hardwired) (o : Origin) : Completes (execCollectorOriginate o s) State.Hardwired := by
  refine ⟨_, rfl, ?_⟩
  split
  · exact h.live _
  · exact h.mod _

theorem resetNRise (h : s.Hardwired) (busGood : Bool) (e : BootEnv) : Completes (execResetNRise busGood e s) State.Hardwired := by
  refine ⟨_, rfl, ?_⟩
  extract_lets s1
  split
  · exact ite (h.mod _) (resetBoot s1 _ e)
  · exact ite (resetBoot s1 0 e) (h.mod _)

end State.Hardwired

/-! ### Every command -/

open State.Hardwired in
/-- Every command completes and keeps the wired registers. -/
theorem exec_wired (i : Instr) {s : State} (h : s.Hardwired) : Completes (exec i s) State.Hardwired := by
  cases hcl : clusterOf i with
  | some cl => exact instr_wired i cl hcl h
  | none => ?_
  cases i
  case seedingComplete | claimWaitExpiry | detectOnly | roleSamplePoint | keeperRelease | roleLost | roleContention
      | collectorReceive | inputClose | inputMessage | fillMessage | fillDeadline | partnerLinkLost | deltaMessage |
      finalMessage | adoptionDeadline | axisLost | windowClose | signatureComparison | actionEmit | recordFree |
      firingEnd | overrunLimit | roleGateTest | moduleApplyInstant | lioFallback | scheduleFire | pulseEnd |
      edgeAccept | shortDetect | openloadDetect | foreignDetect | shortClear | canFrameReceive | canFrameTransmitted
      | canTxError | canBusoff | canRecover | canRecovered | enumerateReceive | enumeratePeriodic | ringStateChange
      | captureFull | gexiaSync | pdelayMeasure | ptpMessage | ptpLockChange | ptpWaitExpiry | timeSet | timeStep |
      timestampPop | pairTimeLimit | timeokLimit | ppsPulse | rtcHaltSet | rtcRelease | rtcShadowRead | vlostClear |
      actdigMessage | outdigMessage | digestTimeout | rejoinLimit | noticeMessage | commitMessage | confirmMessage |
      orderMessage | orderackMessage | imageMessage | forceMessage | sessionMessage | outblkMessage | reqMessage |
      reqAnswer | reqRetry | pageMessage | mirrorMessage | resyncPassEnd | cutMessage | lackMessage |
      frameResendTimeout | linkLane | maintenanceSwap | hostOrder | orderAckDeadline | hostCack | hostQuery |
      completeRetry | clientStateWrite | imageLoad | onlineChange | stagingComplete | onlineChangeSwitch |
      warmRestart | coldRestart | cancelChange | restartSectionsWritten | restartFirstFiring | forceWrite |
      forceBatchApply | debugBrken | debugHalt | injectionTestComplete | drainComplete | patrolScrub | fullScrubEnd
      | psExtend | provenanceReport | logPart | certificate | begin | abort | updateBodyComplete | activate |
      confirm | recover | disarm | trialAutoConfirm | trialExpiry | configurationCommit | ledgerFlush |
      ledgerHwmFlush | ledgerFlushComplete | rateWindowEnd | windowChange | injectedSequence | powerFailWarning |
      holdokChange | admSliceEnd | admOverload | admOverloadClear | labelAbort | labelPictureWrite | labelPassEnd |
      labelDeferResume | startWarm | startCold | halt | bench | leverOpen | partnerLinkStart |
      dleComparatorTestComplete | mirrorWriteComplete | programStoreWritten =>
    exact next_live _ s h
  case enumreq | captureGo | addendWrite | alarmRearm | swap | rsreq | claim | rsabort | schctlRun | schctlStep |
      tickLengthSelect | retry | debugAttach | debugStep | injectionGo | dleCmpinjGo | mpuApply | fullScrub |
      svaInjectGo | admRequest | admRelease | labelRedraw =>
    exact next_access _ _ s h
  case stationSample | collectorInsert | stationOutputReceive | stationActionReceive | stationApply |
      stationFallback | stationActionFire | stationPulseEnd | stationConfigure | stationEnumerate | stationSync |
      rtcSecond | rtcTrimWindow | shadowRelease | backupSupplyLost | supplyLost | presenceMated | withdrawal |
      stationSyncTimeout =>
    exact next_mod _ s h
  case powerOnReset e => exact ⟨_, rfl, ite (resetBoot s 0 e) h⟩
  case backplaneReset => exact ⟨_, rfl, ite (h.mod _) (mod (resetModule _ 1) _)⟩
  case watchdogExpiry e => exact ⟨_, rfl, ite (h.moduleReset 2 e) h⟩
  case wdkick key w e => exact ⟨_, rfl, ite h (ite (h.mod _) (ite (h.moduleReset 2 e) h))⟩
  case moduleSoftwareReset key go w e => exact ⟨_, rfl, ite h (ite (h.mod _) (h.moduleReset 3 e))⟩
  case kilnClusterReset w key sel => exact h.kilnClusterReset w key sel
  case tickBoundary mis => exact ⟨_, rfl, ite h (ite h.bootBoundary (h.boundary mis))⟩
  case rebuildResult cl r => exact h.rebuildResult cl r
  case firingStart mis => exact h.firingStart mis
  case sliceBudget cl => exact h.sliceBudget cl
  case outputDeadline t => exact h.outputDeadline t
  case collectorOriginate o => exact h.collectorOriginate o
  case debugResume cl w => exact debugResume cl w s h
  case debugRegisterWrite cl t w => exact ⟨_, rfl, h.debugWrite cl t w⟩
  case debugMemoryAccess inst a n data => exact ⟨_, rfl, ite h (h.debugAccess _ _ _ data)⟩
  case recoveryDownload slot header body e => exact ⟨_, rfl, ite h (ite (moduleReset (h.put _) 3 e) (h.put _))⟩
  case shutdownHoldEnd e => exact ⟨_, rfl, ite h (resetBoot s 0 e)⟩
  case registerWrite a v size w => exact ⟨_, rfl, ite h (ite (h.mod _) (h.regWrite _ _ _ _ w))⟩
  case resetNRise busGood e => exact h.resetNRise busGood e
  all_goals exact nomatch hcl

end Sys2Proof.Machine
end

section
open Sys2Proof Sys2Proof.Machine

/-- Settles O57: a step runs the command at the front of the queue, and every command keeps the wired registers; an
empty queue leaves the state as it is. -/
theorem everyStepKeepsTheWiredRegisters : Obligations.EveryStepKeepsTheWiredRegisters := by
  unfold Obligations.EveryStepKeepsTheWiredRegisters
  intro s h
  unfold step
  split
  · exact ⟨s, rfl, h⟩
  · exact exec_wired _ h
end

section
/-! SUPPORT. How an instruction of a ready cluster raises an exception (R114, R115), and how the instructions of one
register form and of the image forms retire. -/

namespace Sys2Proof.Machine

/-! ### Exceptions of an instruction's own part -/

/-- What `Raised` says of the state before depends on the slices, the task's register, the other cluster's cores and
the queue alone. -/
theorem Raised.of_before {cl : Nat} {s s1 t : State} {sl sl1 : Slice} {code : Nat} (h : Raised cl s1 sl1 code t)
    (htask : sl1.task = sl.task) (hfld : s1.m.fld (KLN_TFLT sl.task) 31 16 = s.m.fld (KLN_TFLT sl.task) 31 16)
    (hdue : (s1.m.kiln cl).due = (s.m.kiln cl).due) (hcore : ∀ k < 3, s1.core (1 - cl) k = s.core (1 - cl) k)
    (hq : s1.pending = s.pending) : Raised cl s sl code t where
  last := htask ▸ h.last
  count := by rw [← hfld, ← htask]; exact h.count
  ended := hdue ▸ h.ended
  due := hdue ▸ h.due
  other k hk := (h.other k hk).trans (hcore k hk)
  queue := h.queue.trans hq

/-- The state after cycles have been charged (R119). -/
theorem charge_kiln (s : State) (cl cost corr : Nat) : ((s.charge cl cost corr).m.kiln cl) = { s.m.kiln cl with
    cyc := (s.m.kiln cl).cyc + cost + 4 * corr
    slice := (s.m.kiln cl).slice.map fun sl => { sl with count := sl.count + cost } } := by
  simp [State.charge]

/-- An exception in a state that differs from `s` in the machine alone, after cycles have been charged. -/
theorem charged_raised {cl : Fin 2} {s : State} {m : Mach} {sl : Slice} {code cost corr : Nat}
    (hk : m.kiln cl = s.m.kiln cl) (hf : m.fld (KLN_TFLT sl.task) 31 16 = s.m.fld (KLN_TFLT sl.task) 31 16)
    (hsl : (s.m.kiln cl).slice = some sl) (ht : sl.task < 16) (hc : code < 256) :
    Raised cl s sl code (takeException (({ s with m := m } : State).charge cl cost corr) cl code) := by
  have hkiln := charge_kiln ({ s with m := m } : State) cl cost corr
  refine Raised.of_before (takeException_raised (sl := { sl with count := sl.count + cost }) ?_ ht hc) rfl ?_ ?_
    (fun k _ => rfl) rfl
  · rw [hkiln]; simp [hk, hsl]
  · rw [← hf]; simp [State.charge, Mach.fld]
  · rw [hkiln]; simp [hk]

theorem finish_raised {cl : Fin 2} {s : State} {m : Mach} {sl : Slice} {code cost corr : Nat}
    (hk : m.kiln cl = s.m.kiln cl) (hf : m.fld (KLN_TFLT sl.task) 31 16 = s.m.fld (KLN_TFLT sl.task) 31 16)
    (hsl : (s.m.kiln cl).slice = some sl) (ht : sl.task < 16) (hc : code < 256) :
    Raised cl s sl code (s.finish cl ⟨m, corr, cost, .exc code⟩) := charged_raised hk hf hsl ht hc

/-- The own part of an instruction raises `code` on the machine of `s`, or on one with a violation reported. -/
def RaisesIn (cl : Nat) (s : State) (sl : Slice) (code : Nat) (o : StepOut) : Prop :=
  o.res = .exc code ∧ o.m.kiln cl = s.m.kiln cl ∧ o.m.fld (KLN_TFLT sl.task) 31 16 = s.m.fld (KLN_TFLT sl.task) 31 16

theorem RaisesIn.same {cl : Nat} {s : State} {sl : Slice} {code : Nat} (corr cost : Nat) :
    RaisesIn cl s sl code ⟨s.m, corr, cost, .exc code⟩ := ⟨rfl, rfl, rfl⟩

theorem RaisesIn.finish {cl : Fin 2} {s : State} {sl : Slice} {code : Nat} {o : StepOut} (h : RaisesIn cl s sl code o)
    (hsl : (s.m.kiln cl).slice = some sl) (ht : sl.task < 16) (hc : code < 256) : Raised cl s sl code (s.finish cl o) := by
  obtain ⟨hres, hk, hf⟩ := h
  obtain ⟨m, corr, cost, res⟩ := o
  cases hres
  exact finish_raised hk hf hsl ht hc

section raises
variable {cl : Fin 2} {s : State} {c : Core} {sl : Slice} {code : Nat} {body : Mach → Tri → Core → StepOut}

/-- A ready cluster raises what the instruction's own part raises. -/
theorem ready_raises (h : Ready cl s c) (hsl : (s.m.kiln cl).slice = some sl) (ht : sl.task < 16) (hc : code < 256)
    (hb : RaisesIn cl s sl code (body s.m (s.tri cl) c)) : Raised cl s sl code (execInstr cl false false body s) := by
  rw [execInstr_ready h false body (by simp)]
  exact hb.finish hsl ht hc

/-- An RR instruction whose predicate holds raises what its own part raises. -/
theorem ready_rr_raises (h : Ready cl s c) {r : RR} {d a b : FieldUse} (hr : rrReserved d a b r = false)
    (hp : predicate c r = true) (hsl : (s.m.kiln cl).slice = some sl) (ht : sl.task < 16) (hc : code < 256)
    (hb : RaisesIn cl s sl code (body s.m (s.tri cl) c)) : Raised cl s sl code (execRR cl r d a b body s) := by
  unfold execRR
  rw [hr]
  refine ready_raises h hsl ht hc ?_
  simpa only [hp, if_true, hb.1] using hb

/-- Some running core of a ready cluster has a predicate that holds in each. -/
theorem Ready.any_predicate (h : Ready cl s c) {r : RR} (hp : predicate c r = true) :
    (s.m.actives cl).any (fun k => predicate ((s.tri cl).get k) r) = true := by
  rw [List.any_eq_true]
  exact ⟨_, headD_mem h.runs, by rw [h.lead]; exact hp⟩

/-- An IMGR instruction whose fields are not reserved and whose predicate holds retires. -/
theorem ready_imgr (h : Ready cl s c) {r : RR} {space : BitVec 2} {d : FieldUse}
    (hr : (rrReserved d .greg .zero r || decide (space = 3) || false) = false) (hp : predicate c r = true) {m : Mach}
    {cost : Nat} {eff : Core → Eff} (hb : body s.m (s.tri cl) c = ⟨m, 0, cost, .ok eff⟩)
    (hm : m.actives cl = s.m.actives cl) (hk : (m.kiln cl).slice = (s.m.kiln cl).slice)
    (hst : (m.kiln cl).stepping = false) :
    Retired cl s m (eff c).core cost (execImgr cl space false d r body s) := by
  obtain ⟨sl, hsl, _⟩ := h.slice
  have key : ∀ e : Core → Eff, (e c).core = (eff c).core →
      Retired cl s m (eff c).core cost (s.finish cl ⟨m, 0, cost, .ok e⟩) :=
    fun e he => he ▸ finish_ok hm h.agree (hk.trans hsl) hst
  unfold execImgr
  rw [hr, execInstr_ready h false _ (by simp)]
  simp only [h.any_predicate hp, if_true, hb]
  apply key
  simp [hp]

/-- An IMGR instruction whose predicate holds raises what its own part raises. -/
theorem ready_imgr_raises (h : Ready cl s c) {r : RR} {space : BitVec 2} {d : FieldUse}
    (hr : (rrReserved d .greg .zero r || decide (space = 3) || false) = false) (hp : predicate c r = true)
    (hsl : (s.m.kiln cl).slice = some sl) (ht : sl.task < 16) (hc : code < 256)
    (hb : RaisesIn cl s sl code (body s.m (s.tri cl) c)) : Raised cl s sl code (execImgr cl space false d r body s) := by
  unfold execImgr
  rw [hr]
  refine ready_raises h hsl ht hc ?_
  simpa only [h.any_predicate hp, if_true, hb.1] using hb

/-- A ready cluster without the system right raises PRIVILEGE for an instruction that needs it (R110, R114). -/
theorem ready_privilege (h : Ready cl s c) (hc : c.sys = false) (hsl : (s.m.kiln cl).slice = some sl)
    (ht : sl.task < 16) : Raised cl s sl 10 (execInstr cl false true body s) := by
  obtain ⟨sl', hsl', hb⟩ := h.slice
  have hov : overBudget s cl sl' = false := by simp [overBudget, Nat.not_le.mpr hb]
  have hrun : budgetRunOn s cl sl' = s := by simp [budgetRunOn, Nat.not_le.mpr hb]
  have hv : s.m.voted cl c.pc.toNat (s.tri cl) (fun c => some ⟨c.pc.setWidth 64, 0⟩) =
      (some ⟨c.pc.setWidth 64, 0⟩, false, s.m) :=
    s.m.voted_agree cl _ _ _ _ h.runs (fun k hk => by rw [show (s.tri cl).get k = c from h.agree k hk])
  have hpc : (c.pc.setWidth 64 : Word).toNat = c.pc.toNat := by
    simp [BitVec.toNat_setWidth]; exact Nat.lt_of_lt_of_le c.pc.isLt (by norm_num)
  have hpermit : s.m.kilnDenied cl c.pc.toNat 2 false = none := hc ▸ h.permit
  have he : execInstr cl false true body s = takeException (s.charge cl 1 0) cl 10 := by
    unfold execInstr
    simp only [hsl', h.going, Bool.false_and, Bool.false_eq_true, if_false, h.lead, hov, hrun, hv, Option.map_some,
      Option.getD_some, hpc, h.range, Bool.not_true, hc, hpermit, s.m.eccRead_clean c.pc.toNat 4 cl h.intact,
      Bool.not_false, Bool.and_true, if_true]
  rw [he]
  exact charged_raised rfl rfl hsl ht (by decide)

end raises

/-! ### The vote of a ready cluster -/

/-- The vote of a ready cluster whose cores ask for an access. -/
theorem Ready.voted {cl : Nat} {s : State} {c : Core} (h : Ready cl s c) {req : Core → Option VReq} {x : VReq} (pc : Nat)
    (hx : req c = some x) : s.m.voted cl pc (s.tri cl) req = (some x, false, s.m) :=
  s.m.voted_agree cl pc _ _ _ h.runs fun k hk => by rw [show (s.tri cl).get k = c from h.agree k hk, hx]

/-- The vote of a ready cluster whose cores ask for nothing. -/
theorem Ready.voted_none {cl : Nat} {s : State} {c : Core} (h : Ready cl s c) {req : Core → Option VReq} (pc : Nat)
    (hx : req c = none) : s.m.voted cl pc (s.tri cl) req = (none, false, s.m) :=
  s.m.voted_none cl pc _ _ h.runs fun k hk => by rw [show (s.tri cl).get k = c from h.agree k hk, hx]

theorem Ready.machLead {cl : Nat} {s : State} {c : Core} (h : Ready cl s c) : s.m.lead cl (s.tri cl) = c := h.lead

/-! ### Which words are not reserved -/

theorem Fires.predicate {c : Core} {r : RR} (h : Fires c r) : Machine.predicate c r = true := h.2

theorem Fires.predReserved {c : Core} {r : RR} (h : Fires c r) : Machine.predReserved r = false := by
  obtain ⟨hpc | hpn, _⟩ := h
  · rw [Machine.predReserved, decide_eq_false hpc, Bool.false_and]
  · rw [Machine.predReserved, hpn, Bool.and_false]

theorem Fires.rr_greg {c : Core} {r : RR} (h : Fires c r) : rrReserved .greg .greg .greg r = false := by
  simp [rrReserved, h.predReserved, FieldUse.bad]

theorem Fires.imgr_greg {c : Core} {r : RR} {sp : BitVec 2} (h : Fires c r) (hb : r.b = 0) (hsp : sp ≠ 3) :
    (rrReserved .greg .greg .zero r || decide (sp = 3) || false) = false := by
  rw [decide_eq_false hsp]; simp [rrReserved, h.predReserved, FieldUse.bad, hb]

theorem Fires.imgr_cond {c : Core} {r : RR} {sp : BitVec 2} (h : Fires c r) (hb : r.b = 0) (hd : r.d.toNat < 8)
    (hsp : sp ≠ 3) : (rrReserved .cond .greg .zero r || decide (sp = 3) || false) = false := by
  rw [decide_eq_false hsp]; simp [rrReserved, h.predReserved, FieldUse.bad, condOk, hb, hd]

theorem Completes.next {t : State} {P : State → Prop} (h : P t) : Completes (.next t) P := ⟨t, rfl, h⟩

end Sys2Proof.Machine
end

section
/-! SUPPORT. The integer functions of the ALU as integer arithmetic (R103, R120). -/

namespace Sys2Proof.Machine

/-! ### Words of any width -/

theorem sub_eq_ofInt {w : Nat} (a b : BitVec w) : a - b = BitVec.ofInt w ((a.toNat : Int) - b.toNat) := by
  rw [← BitVec.toInt_inj, BitVec.toInt_sub, BitVec.toInt_ofInt, BitVec.toInt_eq_toNat_bmod, BitVec.toInt_eq_toNat_bmod,
    Int.bmod_sub_bmod, Int.sub_bmod_bmod]

theorem mul_eq_ofNat {w : Nat} (a b : BitVec w) : a * b = BitVec.ofNat w (a.toNat * b.toNat) := by
  apply BitVec.eq_of_toNat_eq
  rw [BitVec.toNat_mul, BitVec.toNat_ofNat]

theorem shiftLeft_eq_ofNat {w : Nat} (a : BitVec w) (n : Nat) : a <<< n = BitVec.ofNat w (a.toNat * 2 ^ n) := by
  apply BitVec.eq_of_toNat_eq
  rw [BitVec.toNat_shiftLeft, BitVec.toNat_ofNat, Nat.shiftLeft_eq]

theorem ushiftRight_eq_ofNat {w : Nat} (a : BitVec w) (n : Nat) : a >>> n = BitVec.ofNat w (a.toNat / 2 ^ n) := by
  apply BitVec.eq_of_toNat_eq
  rw [BitVec.toNat_ushiftRight, BitVec.toNat_ofNat, Nat.shiftRight_eq_div_pow,
    Nat.mod_eq_of_lt (lt_of_le_of_lt (Nat.div_le_self _ _) a.isLt)]

theorem sshiftRight_eq_ofInt {w : Nat} (a : BitVec w) (n : Nat) : a.sshiftRight n = BitVec.ofInt w (a.toInt / 2 ^ n) := by
  rw [BitVec.sshiftRight, Int.shiftRight_eq_div_pow]; norm_num

/-- A rotation is the sum of the two parts that it moves. -/
theorem rotateRight_eq_ofNat {w : Nat} (a : BitVec w) {n : Nat} (h : n < w) :
    a.rotateRight n = BitVec.ofNat w (a.toNat / 2 ^ n + a.toNat * 2 ^ (w - n)) := by
  apply BitVec.eq_of_toNat_eq
  have hw : 2 ^ w = 2 ^ n * 2 ^ (w - n) := by rw [← pow_add]; congr 1; omega
  have hlow : a.toNat / 2 ^ n < 2 ^ (w - n) := by
    rw [Nat.div_lt_iff_lt_mul (by positivity), mul_comm, ← hw]; exact a.isLt
  have hhigh : a.toNat * 2 ^ (w - n) % 2 ^ w = a.toNat % 2 ^ n * 2 ^ (w - n) := by rw [hw, Nat.mul_mod_mul_right]
  have hsum : a.toNat % 2 ^ n * 2 ^ (w - n) + a.toNat / 2 ^ n < 2 ^ w := by
    have := Nat.mul_le_mul_right (2 ^ (w - n)) (Nat.succ_le_of_lt (Nat.mod_lt a.toNat (show 0 < 2 ^ n by positivity)))
    rw [Nat.succ_mul, ← hw] at this
    omega
  rw [BitVec.toNat_rotateRight, Nat.mod_eq_of_lt h, Nat.shiftRight_eq_div_pow, Nat.shiftLeft_eq, hhigh, BitVec.toNat_ofNat,
    Nat.or_comm, ← Nat.shiftLeft_eq, ← Nat.shiftLeft_add_eq_or_of_lt hlow, Nat.shiftLeft_eq, ← Nat.add_mod_mod, hhigh,
    Nat.add_comm (a.toNat / 2 ^ n), Nat.mod_eq_of_lt hsum]

/-- A bit-vector that holds an integer, extended with its sign. -/
theorem signExtend_ofInt {w v : Nat} (z : Int) : (BitVec.ofInt w z).signExtend v = BitVec.ofInt v (Int.bmod z (2 ^ w)) := by
  rw [BitVec.signExtend, BitVec.toInt_ofInt]

theorem signExtend_ofNat {w v : Nat} (n : Nat) :
    (BitVec.ofNat w n).signExtend v = BitVec.ofInt v (Int.bmod (n : Int) (2 ^ w)) := by
  rw [← BitVec.ofInt_natCast, signExtend_ofInt]

/-- The low bits of a word, as the integer that the word holds. -/
theorem setWidth_eq_ofInt {w v : Nat} (a : BitVec w) : a.setWidth v = BitVec.ofInt v (a.toNat : Int) := by
  rw [BitVec.ofInt_natCast, BitVec.ofNat_toNat]

theorem ofNat_mod_mul (w n k : Nat) : BitVec.ofNat w (n % 2 ^ w * k) = BitVec.ofNat w (n * k) := by
  apply BitVec.eq_of_toNat_eq
  rw [BitVec.toNat_ofNat, BitVec.toNat_ofNat, Nat.mod_mul_mod]

theorem ofNat_add_mod_mul (w m n k : Nat) : BitVec.ofNat w (m + n % 2 ^ w * k) = BitVec.ofNat w (m + n * k) := by
  rw [BitVec.ofNat_add, ofNat_mod_mul, ← BitVec.ofNat_add]

/-! ### The smaller and the larger of two words -/

theorem min_eq_of_toInt {w : Nat} (a b : BitVec w) :
    (if a.slt b then a else b) = if a.toInt ≤ b.toInt then a else b := by
  by_cases hlt : a.toInt < b.toInt
  · rw [if_pos (BitVec.slt_iff_toInt_lt.mpr hlt), if_pos hlt.le]
  · rw [if_neg (by rwa [BitVec.slt_iff_toInt_lt])]
    split_ifs with hle
    · exact (BitVec.eq_of_toInt_eq (le_antisymm hle (not_lt.mp hlt))).symm
    · rfl

theorem max_eq_of_toInt {w : Nat} (a b : BitVec w) :
    (if a.slt b then b else a) = if a.toInt ≤ b.toInt then b else a := by
  by_cases hlt : a.toInt < b.toInt
  · rw [if_pos (BitVec.slt_iff_toInt_lt.mpr hlt), if_pos hlt.le]
  · rw [if_neg (by rwa [BitVec.slt_iff_toInt_lt])]
    split_ifs with hle
    · exact BitVec.eq_of_toInt_eq (le_antisymm hle (not_lt.mp hlt))
    · rfl

theorem min_eq_of_toNat {w : Nat} (a b : BitVec w) :
    (if a.ult b then a else b) = if a.toNat ≤ b.toNat then a else b := by
  by_cases hlt : a.toNat < b.toNat
  · rw [if_pos (BitVec.ult_iff_toNat_lt.mpr hlt), if_pos hlt.le]
  · rw [if_neg (by rwa [BitVec.ult_iff_toNat_lt])]
    split_ifs with hle
    · exact (BitVec.eq_of_toNat_eq (le_antisymm hle (not_lt.mp hlt))).symm
    · rfl

theorem max_eq_of_toNat {w : Nat} (a b : BitVec w) :
    (if a.ult b then b else a) = if a.toNat ≤ b.toNat then b else a := by
  by_cases hlt : a.toNat < b.toNat
  · rw [if_pos (BitVec.ult_iff_toNat_lt.mpr hlt), if_pos hlt.le]
  · rw [if_neg (by rwa [BitVec.ult_iff_toNat_lt])]
    split_ifs with hle
    · exact BitVec.eq_of_toNat_eq (le_antisymm hle (not_lt.mp hlt))
    · rfl

/-! ### The high word of a product -/

theorem mulHighU_eq (a b : Word) : mulHighU a b = BitVec.ofNat 64 (a.toNat * b.toNat / 2 ^ 64) := by
  have ha := a.isLt
  have hb := b.isLt
  have hmul : a.toNat * b.toNat < 2 ^ 128 := by
    calc a.toNat * b.toNat < 2 ^ 64 * 2 ^ 64 := Nat.mul_lt_mul'' ha hb
      _ = 2 ^ 128 := by norm_num
  apply BitVec.eq_of_toNat_eq
  rw [mulHighU, BitVec.toNat_setWidth, BitVec.toNat_ushiftRight, BitVec.toNat_mul, BitVec.toNat_setWidth,
    BitVec.toNat_setWidth, Nat.mod_eq_of_lt (ha.trans (by norm_num)), Nat.mod_eq_of_lt (hb.trans (by norm_num)),
    Nat.mod_eq_of_lt hmul, Nat.shiftRight_eq_div_pow, BitVec.toNat_ofNat]

theorem mulHigh_eq (a b : Word) : mulHigh a b = BitVec.ofInt 64 (a.toInt * b.toInt / 2 ^ 64) := by
  have hprod : a.signExtend 128 * b.signExtend 128 = BitVec.ofInt 128 (a.toInt * b.toInt) := by
    rw [BitVec.signExtend, BitVec.signExtend, BitVec.ofInt_mul]
  apply BitVec.eq_of_toNat_eq
  rw [mulHigh, hprod, BitVec.toNat_setWidth, BitVec.toNat_ushiftRight, BitVec.toNat_ofInt, BitVec.toNat_ofInt,
    Nat.shiftRight_eq_div_pow]
  generalize a.toInt * b.toInt = z
  omega

/-! ### The 32-bit forms -/

theorem low32_add (a b : Word) :
    low32 (· + ·) a b = BitVec.ofInt 64 (Int.bmod ((a.toNat : Int) + b.toNat) (2 ^ 32)) := by
  rw [low32, setWidth_eq_ofInt, setWidth_eq_ofInt, ← BitVec.ofInt_add, signExtend_ofInt]

theorem low32_sub (a b : Word) :
    low32 (· - ·) a b = BitVec.ofInt 64 (Int.bmod ((a.toNat : Int) - b.toNat) (2 ^ 32)) := by
  rw [low32, setWidth_eq_ofInt, setWidth_eq_ofInt, sub_eq_add_neg (BitVec.ofInt 32 _), ← BitVec.ofInt_neg, ← BitVec.ofInt_add,
    signExtend_ofInt, sub_eq_add_neg]

theorem low32_mul (a b : Word) :
    low32 (· * ·) a b = BitVec.ofInt 64 (Int.bmod ((a.toNat : Int) * b.toNat) (2 ^ 32)) := by
  rw [low32, setWidth_eq_ofInt, setWidth_eq_ofInt, ← BitVec.ofInt_mul, signExtend_ofInt]

theorem low32_shl (a b : Word) (n : Nat) :
    low32 (fun x _ => x <<< n) a b = BitVec.ofInt 64 (Int.bmod ((a.toNat * 2 ^ n : Nat) : Int) (2 ^ 32)) := by
  rw [low32, shiftLeft_eq_ofNat, BitVec.toNat_setWidth, ofNat_mod_mul, signExtend_ofNat]

theorem low32_shr (a b : Word) (n : Nat) :
    low32 (fun x _ => x >>> n) a b = BitVec.ofInt 64 (Int.bmod ((a.toNat % 2 ^ 32 / 2 ^ n : Nat) : Int) (2 ^ 32)) := by
  rw [low32, ushiftRight_eq_ofNat, BitVec.toNat_setWidth, signExtend_ofNat]

theorem low32_sar (a b : Word) (n : Nat) :
    low32 (fun x _ => x.sshiftRight n) a b = BitVec.ofInt 64 (Int.bmod (a.toNat : Int) (2 ^ 32) / 2 ^ n) := by
  rw [low32, BitVec.signExtend, BitVec.toInt_sshiftRight, BitVec.toInt_setWidth, Int.shiftRight_eq_div_pow]
  norm_num

theorem low32_ror (a b : Word) {n : Nat} (h : n < 32) :
    low32 (fun x _ => x.rotateRight n) a b = BitVec.ofInt 64 (Int.bmod ((a.toNat % 2 ^ 32 / 2 ^ n +
      a.toNat * 2 ^ (32 - n) : Nat) : Int) (2 ^ 32)) := by
  rw [low32, rotateRight_eq_ofNat _ h, BitVec.toNat_setWidth, ofNat_add_mod_mul, signExtend_ofNat]

/-! ### The instructions -/

/-- A function of two registers writes its value and retires (R120). -/
theorem alu2_completes {cl : ClusterId} {r : RR} {s : State} {c : Core} (h : Ready cl s c) (hf : Fires c r) {cost : Nat}
    {i : Instr} {g : Word → Word → Word} (he : ∃ f, exec i s = alu2 cl r cost f s ∧ ∀ a b, f a b = g a b) :
    Completes (exec i s) fun t =>
      ∃ c', WritesG r.d (g (c.rd r.a) (c.rd r.b)) c c' ∧ Retired cl s s.m c' cost t := by
  obtain ⟨f, hexec, hfg⟩ := he
  rw [hexec, ← hfg]
  exact .next ⟨_, effG_writes r.d (fun c => f (c.rd r.a) (c.rd r.b)) c,
    ready_rr h hf.rr_greg hf.predicate rfl rfl rfl h.single⟩

end Sys2Proof.Machine
end

section
open Sys2Proof Sys2Proof.Machine

/-- Settles O3: every function is its integer arithmetic, and the instruction retires with the value. -/
theorem twoOperandIntegerResults : Obligations.TwoOperandIntegerResults := by
  unfold Obligations.TwoOperandIntegerResults
  intro cl r s c h hf e he
  refine alu2_completes h hf ?_
  have h64 (b : Word) : b.toNat % 64 < 64 := Nat.mod_lt _ (by decide)
  have h32 (b : Word) : b.toNat % 32 < 32 := Nat.mod_lt _ (by decide)
  revert e
  simp only [List.forall_mem_cons, List.not_mem_nil, false_imp_iff, implies_true, and_true]
  exact ⟨⟨(· + ·), rfl, BitVec.add_def⟩, ⟨(· - ·), rfl, sub_eq_ofInt⟩, ⟨(· &&& ·), rfl, fun _ _ => rfl⟩,
    ⟨(· ||| ·), rfl, fun _ _ => rfl⟩, ⟨(· ^^^ ·), rfl, fun _ _ => rfl⟩, ⟨fun a b => a &&& ~~~b, rfl, fun _ _ => rfl⟩,
    ⟨fun a b => a ||| ~~~b, rfl, fun _ _ => rfl⟩, ⟨fun a b => ~~~(a ^^^ b), rfl, fun _ _ => rfl⟩,
    ⟨fun a b => a <<< (b.toNat % 64), rfl, fun a b => shiftLeft_eq_ofNat a (b.toNat % 64)⟩,
    ⟨fun a b => a >>> (b.toNat % 64), rfl, fun a b => ushiftRight_eq_ofNat a (b.toNat % 64)⟩,
    ⟨fun a b => a.sshiftRight (b.toNat % 64), rfl, fun a b => sshiftRight_eq_ofInt a (b.toNat % 64)⟩,
    ⟨fun a b => a.rotateRight (b.toNat % 64), rfl, fun a b => rotateRight_eq_ofNat a (h64 b)⟩,
    ⟨(· * ·), rfl, mul_eq_ofNat⟩, ⟨mulHigh, rfl, mulHigh_eq⟩, ⟨mulHighU, rfl, mulHighU_eq⟩,
    ⟨fun a b => if a.slt b then a else b, rfl, min_eq_of_toInt⟩, ⟨fun a b => if a.slt b then b else a, rfl, max_eq_of_toInt⟩,
    ⟨fun a b => if a.ult b then a else b, rfl, min_eq_of_toNat⟩, ⟨fun a b => if a.ult b then b else a, rfl, max_eq_of_toNat⟩,
    ⟨low32 (· + ·), rfl, low32_add⟩, ⟨low32 (· - ·), rfl, low32_sub⟩,
    ⟨fun a b => low32 (fun x _ => x <<< (b.toNat % 32)) a b, rfl, fun a b => low32_shl a b (b.toNat % 32)⟩,
    ⟨fun a b => low32 (fun x _ => x >>> (b.toNat % 32)) a b, rfl, fun a b => low32_shr a b (b.toNat % 32)⟩,
    ⟨fun a b => low32 (fun x _ => x.sshiftRight (b.toNat % 32)) a b, rfl, fun a b => low32_sar a b (b.toNat % 32)⟩,
    ⟨fun a b => low32 (fun x _ => x.rotateRight (b.toNat % 32)) a b, rfl, fun a b => low32_ror a b (h32 b)⟩,
    ⟨low32 (· * ·), rfl, low32_mul⟩⟩
end

section
/-! SUPPORT. Division and remainder as integer arithmetic (R65, R103, R120). -/

namespace Sys2Proof.Machine

/-! ### Quotients and remainders -/

theorem sdiv_eq_ofInt {w : Nat} (a b : BitVec w) : a.sdiv b = BitVec.ofInt w (Int.tdiv a.toInt b.toInt) := by
  rw [← BitVec.toInt_inj, BitVec.toInt_sdiv, BitVec.toInt_ofInt]

theorem srem_eq_ofInt {w : Nat} (a b : BitVec w) : a.srem b = BitVec.ofInt w (Int.tmod a.toInt b.toInt) := by
  rw [← BitVec.toInt_srem, BitVec.ofInt_toInt]

theorem udiv_eq_ofNat {w : Nat} (a b : BitVec w) : a.udiv b = BitVec.ofNat w (a.toNat / b.toNat) := by
  apply BitVec.eq_of_toNat_eq
  rw [BitVec.toNat_ofNat, Nat.mod_eq_of_lt (lt_of_le_of_lt (Nat.div_le_self _ _) a.isLt)]
  exact BitVec.toNat_udiv

theorem umod_eq_ofNat {w : Nat} (a b : BitVec w) : a.umod b = BitVec.ofNat w (a.toNat % b.toNat) := by
  apply BitVec.eq_of_toNat_eq
  rw [BitVec.toNat_ofNat, Nat.mod_eq_of_lt (lt_of_le_of_lt (Nat.mod_le _ _) a.isLt)]
  exact BitVec.toNat_umod

/-- The low word of a register, as a signed number. -/
theorem low_eq_toInt (a : Word) : low a = (a.setWidth 32).toInt := (BitVec.toInt_setWidth a).symm

theorem low_eq_zero (b : Word) : low b = 0 ↔ b.setWidth 32 = (0 : BitVec 32) := by
  rw [low_eq_toInt, ← BitVec.toInt_inj]
  rfl

theorem low32_sdiv (a b : Word) :
    low32 BitVec.sdiv a b = BitVec.ofInt 64 (Int.bmod (Int.tdiv (low a) (low b)) (2 ^ 32)) := by
  rw [low32, sdiv_eq_ofInt, signExtend_ofInt, low_eq_toInt, low_eq_toInt]

theorem low32_srem (a b : Word) : low32 BitVec.srem a b = BitVec.ofInt 64 (Int.tmod (low a) (low b)) := by
  rw [low32, BitVec.signExtend, BitVec.toInt_srem, low_eq_toInt, low_eq_toInt]

theorem low32_udiv (a b : Word) : low32 BitVec.udiv a b =
    BitVec.ofInt 64 (Int.bmod ((a.toNat % 2 ^ 32 / (b.toNat % 2 ^ 32) : Nat) : Int) (2 ^ 32)) := by
  rw [low32, udiv_eq_ofNat, signExtend_ofNat, BitVec.toNat_setWidth, BitVec.toNat_setWidth]

theorem low32_umod (a b : Word) : low32 BitVec.umod a b =
    BitVec.ofInt 64 (Int.bmod ((a.toNat % 2 ^ 32 % (b.toNat % 2 ^ 32) : Nat) : Int) (2 ^ 32)) := by
  rw [low32, umod_eq_ofNat, signExtend_ofNat, BitVec.toNat_setWidth, BitVec.toNat_setWidth]

theorem zero64_false {b : Word} : zero64 b = false ↔ b ≠ 0 := decide_eq_false_iff_not

theorem zero32_false {b : Word} : zero32 b = false ↔ low b ≠ 0 := by
  rw [zero32, decide_eq_false_iff_not, ← low_eq_zero]

/-! ### The instructions -/

section divisions
variable {cl : ClusterId} {r : RR} {s : State} {c : Core} {cost : Nat} {i : Instr}

/-- A division whose divisor is not 0 writes its value and retires (R120). -/
theorem aluDiv_completes (h : Ready cl s c) (hf : Fires c r) {p : Word → Prop} {g : Word → Word → Word}
    (he : ∃ zero f, exec i s = aluDiv cl r cost zero f s ∧ (∀ b, p b → zero b = false) ∧ ∀ a b, f a b = g a b)
    (hp : p (c.rd r.b)) : Completes (exec i s) fun t =>
      ∃ c', WritesG r.d (g (c.rd r.a) (c.rd r.b)) c c' ∧ Retired cl s s.m c' cost t := by
  obtain ⟨zero, f, hexec, hzero, hfg⟩ := he
  rw [hexec, ← hfg]
  refine .next ⟨_, effG_writes r.d (fun c => f (c.rd r.a) (c.rd r.b)) c,
    ready_rr h hf.rr_greg hf.predicate ?_ rfl rfl h.single⟩
  rw [hzero _ hp]
  rfl

/-- A division by 0 raises DIV_ZERO (R65). -/
theorem aluDiv_raises (h : Ready cl s c) (hf : Fires c r) {sl : Slice} (hsl : (s.m.kiln cl).slice = some sl)
    (ht : sl.task < 16) (he : ∃ cost zero f, exec i s = aluDiv cl r cost zero f s ∧ zero (c.rd r.b) = true) :
    Completes (exec i s) (Raised cl s sl 0x0B) := by
  obtain ⟨cost, zero, f, hexec, hzero⟩ := he
  rw [hexec]
  refine .next (ready_rr_raises h hf.rr_greg hf.predicate hsl ht (by decide) ?_)
  rw [hzero]
  exact .same 0 cost

end divisions

end Sys2Proof.Machine
end

section
open Sys2Proof Sys2Proof.Machine

/-- Settles O5: with a divisor other than 0 each function is its integer division; with 0 it raises DIV_ZERO. -/
theorem divisionResults : Obligations.DivisionResults := by
  unfold Obligations.DivisionResults
  intro cl r s c h hf
  have h64 (b : Word) (hb : b ≠ 0) : zero64 b = false := zero64_false.mpr hb
  have h32 (b : Word) (hb : low b ≠ 0) : zero32 b = false := zero32_false.mpr hb
  refine ⟨fun e he => aluDiv_completes h hf ?_, fun sl hsl ht => ⟨fun hb i hi => aluDiv_raises h hf hsl ht ?_,
    fun hb i hi => aluDiv_raises h hf hsl ht ?_⟩⟩
  · revert e
    simp only [List.forall_mem_cons, List.not_mem_nil, false_imp_iff, implies_true, and_true]
    exact ⟨⟨zero64, BitVec.sdiv, rfl, h64, sdiv_eq_ofInt⟩, ⟨zero64, BitVec.udiv, rfl, h64, udiv_eq_ofNat⟩,
      ⟨zero64, BitVec.srem, rfl, h64, srem_eq_ofInt⟩, ⟨zero64, BitVec.umod, rfl, h64, umod_eq_ofNat⟩,
      ⟨zero32, low32 BitVec.sdiv, rfl, h32, low32_sdiv⟩, ⟨zero32, low32 BitVec.udiv, rfl, h32, low32_udiv⟩,
      ⟨zero32, low32 BitVec.srem, rfl, h32, low32_srem⟩, ⟨zero32, low32 BitVec.umod, rfl, h32, low32_umod⟩⟩
  · have hz : zero64 (c.rd r.b) = true := decide_eq_true hb
    revert i
    simp only [List.forall_mem_cons, List.not_mem_nil, false_imp_iff, implies_true, and_true]
    exact ⟨⟨34, zero64, BitVec.sdiv, rfl, hz⟩, ⟨34, zero64, BitVec.udiv, rfl, hz⟩, ⟨34, zero64, BitVec.srem, rfl, hz⟩,
      ⟨34, zero64, BitVec.umod, rfl, hz⟩⟩
  · have hz : zero32 (c.rd r.b) = true := decide_eq_true ((low_eq_zero _).mp hb)
    revert i
    simp only [List.forall_mem_cons, List.not_mem_nil, false_imp_iff, implies_true, and_true]
    exact ⟨⟨18, zero32, low32 BitVec.sdiv, rfl, hz⟩, ⟨18, zero32, low32 BitVec.udiv, rfl, hz⟩,
      ⟨18, zero32, low32 BitVec.srem, rfl, hz⟩, ⟨18, zero32, low32 BitVec.umod, rfl, hz⟩⟩
end

section
/-! SUPPORT. Little-endian values as sums, and the loads of the data space (R70, R71, R126). -/

namespace Sys2Proof.Machine

/-! ### Values of bytes -/

/-- The numbers from `a` up, as an index range moved. -/
theorem countFrom_eq_map (a n : Nat) : countFrom a n = (List.range n).map (a + ·) := by
  refine List.ext_getElem (by simp [countFrom_length]) fun i hi _ => ?_
  rw [List.getElem_map, List.getElem_range, getElem_countFrom hi]

/-- A little-endian number is the sum of its bytes by their weights. -/
theorem leNat_map_range (f : Nat → Byte) (n : Nat) :
    leNat ((List.range n).map f) = ((List.range n).map fun i => (f i).toNat * 256 ^ i).sum := by
  induction n generalizing f with
  | zero => rfl
  | succ n ih =>
    rw [List.range_succ_eq_map, List.map_cons, List.map_map, List.map_cons, List.map_map, List.sum_cons, leNat, ih,
      Nat.pow_zero, Nat.mul_one, ← List.sum_map_mul_left]
    congr 2
    refine List.map_congr_left fun i _ => ?_
    simp only [Function.comp_apply, Nat.pow_succ]
    ring

theorem Memory.ldBytes_eq_map (m : Memory) (a n : Nat) : m.ldBytes a n = (List.range n).map fun i => m.ld8 (a + i) := by
  induction n generalizing a with
  | zero => rfl
  | succ n ih =>
    rw [Memory.ldBytes, ih, List.range_succ_eq_map, List.map_cons, List.map_map]
    refine congrArg₂ _ rfl (List.map_congr_left fun i _ => ?_)
    rw [Function.comp_apply, Nat.succ_eq_add_one, Nat.add_comm i, Nat.add_assoc]

theorem Memory.ldN_eq_sum (m : Memory) (a n : Nat) :
    m.ldN a n = ((List.range n).map fun i => (m.ld8 (a + i)).toNat * 256 ^ i).sum := by
  rw [Memory.ldN, Memory.ldBytes_eq_map, leNat_map_range]

/-- A number read as two's complement is its balanced remainder (R65). -/
theorem signed_eq_bmod (n v : Nat) : signed (8 * (n + 1)) v = Int.bmod (v : Int) (256 ^ (n + 1)) := by
  have hpow : 2 ^ (8 * (n + 1)) = 256 ^ (n + 1) := by rw [pow_mul]; norm_num
  have hhalf : 256 ^ (n + 1) = 2 * 2 ^ (8 * (n + 1) - 1) := by rw [← hpow, ← pow_succ']; rfl
  unfold signed Int.bmod
  simp only [hpow]
  rw [← Int.natCast_emod]
  generalize 256 ^ (n + 1) = p at *
  generalize 2 ^ (8 * (n + 1) - 1) = q at *
  generalize v % p = u
  split_ifs <;> omega

theorem sx_eq {n : Nat} (hn : n ≠ 0) (v : Nat) : sx n v = BitVec.ofInt 64 (Int.bmod (v : Int) (256 ^ n)) := by
  obtain ⟨k, rfl⟩ := Nat.exists_eq_succ_of_ne_zero hn
  rw [sx, signed_eq_bmod]

/-! ### The checks of a data access -/

/-- An access that passes its checks (R70, R114). -/
theorem dataCheck_ok {m : Mach} {cl a n kind : Nat} {priv : Bool} (hr : inData a = true) (ha : a % n = 0)
    (hp : m.kilnDenied cl a kind priv = none) : m.dataCheck cl a n kind priv = (none, m) := by
  simp [Mach.dataCheck, hr, ha, hp]

theorem dataCheck_range {m : Mach} {cl a n kind : Nat} {priv : Bool} (hr : inData a = false) :
    m.dataCheck cl a n kind priv = (some 3, m) := by
  simp [Mach.dataCheck, hr]

theorem dataCheck_align {m : Mach} {cl a n kind : Nat} {priv : Bool} (hr : inData a = true) (ha : a % n ≠ 0) :
    m.dataCheck cl a n kind priv = (some 5, m) := by
  simp [Mach.dataCheck, hr, ha]

theorem dataCheck_denied {m : Mach} {cl a n kind : Nat} {priv : Bool} {k : Nat} (hr : inData a = true) (ha : a % n = 0)
    (hp : m.kilnDenied cl a kind priv = some k) :
    m.dataCheck cl a n kind priv = (some 4, m.mpuReport cl 0 a kind priv k) := by
  simp [Mach.dataCheck, hr, ha, hp]

/-! ### Loads -/

/-- The effect of a load of `v` on a core. -/
def loadEff (r : MemForm) (v : Word) (c : Core) : Eff :=
  { core := (c.wr r.r v).next, val := v, addr := (effAddr c r.base r.off).setWidth 32 }

theorem loadEff_writes (r : MemForm) (v : Word) (c : Core) : WritesG r.r v c (loadEff r v c).core :=
  effG_writes r.r (fun _ => v) c

/-- A load whose checks pass and whose words are free of errors reads the extended value (R126). -/
theorem loadBody_ok {cl : Nat} {s : State} {c : Core} (h : Ready cl s c) {r : MemForm} {a n : Nat} (ext : Nat → Word)
    (he : (effAddr c r.base r.off).toNat = a) (hr : inData a = true) (ha : a % n = 0)
    (hp : s.m.kilnDenied cl a 0 c.sys = none) (hc : s.m.clean (readAddr cl a) n) :
    loadBody cl n r ext s.m (s.tri cl) c =
      ⟨s.m, 0, 4, .ok (loadEff r (ext (s.m.mem.ldN (readAddr cl a) n)))⟩ := by
  subst he
  unfold loadBody
  simp only [h.voted c.pc.toNat (req := fun c => some ⟨effAddr c r.base r.off, 0⟩) rfl, h.machLead, dataCheck_ok hr ha hp,
    Mach.eccRead_clean _ _ _ _ hc, Bool.false_eq_true, if_false]
  rfl

theorem load_completes {cl : ClusterId} {s : State} {c : Core} (h : Ready cl s c) {r : MemForm} {a n : Nat} {i : Instr}
    {x : Nat → Word} (hi : ∃ ext, exec i s = load cl n r ext s ∧ ∀ v, ext v = x v)
    (he : (effAddr c r.base r.off).toNat = a) (hr : inData a = true) (ha : a % n = 0)
    (hp : s.m.kilnDenied cl a 0 c.sys = none) (hc : s.m.clean (readAddr cl a) n) :
    Completes (exec i s) fun t => ∃ c', WritesG r.r (x (s.m.mem.ldN (readAddr cl a) n)) c c' ∧ Retired cl s s.m c' 4 t := by
  obtain ⟨ext, hexec, hx⟩ := hi
  rw [hexec, ← hx]
  exact .next ⟨_, loadEff_writes r _ c, ready_retires h false _ (by simp) (loadBody_ok h ext he hr ha hp hc) rfl rfl h.single⟩

end Sys2Proof.Machine
end

section
open Sys2Proof Sys2Proof.Machine

/-- Settles O15: a load whose checks pass reads the little-endian bytes at its address and extends them. -/
theorem loadResults : Obligations.LoadResults := by
  unfold Obligations.LoadResults
  intro cl r s c h a e he hr ha hp hc
  have hsum := s.m.mem.ldN_eq_sum (readAddr cl a) e.2.1
  have key := load_completes (x := fun v => if e.2.2 then BitVec.ofInt 64 (Int.bmod v (256 ^ e.2.1)) else BitVec.ofNat 64 v)
    h (i := e.1) (r := r) (a := a) ?_ rfl hr ha hp hc
  · rw [hsum] at key; exact key
  · clear hr ha hp hc hsum
    revert e
    simp only [List.forall_mem_cons, List.not_mem_nil, false_imp_iff, implies_true, and_true, if_true, if_false,
      Bool.false_eq_true]
    exact ⟨⟨sx 1, rfl, sx_eq (by decide)⟩, ⟨zx, rfl, fun _ => rfl⟩, ⟨sx 2, rfl, sx_eq (by decide)⟩,
      ⟨zx, rfl, fun _ => rfl⟩, ⟨sx 4, rfl, sx_eq (by decide)⟩, ⟨zx, rfl, fun _ => rfl⟩, ⟨zx, rfl, fun _ => rfl⟩⟩
end

section
/-! SUPPORT. The exceptions of loads and stores in their order (R70, R114). -/

namespace Sys2Proof.Machine

/-! ### The report of a violation -/

theorem tflt_ne_vinfo (t c : Nat) : KLN_TFLT t ≠ MPU_VINFO c := by
  simp only [KLN_TFLT, MPU_VINFO]; omega

theorem tflt_ne_vaddr {t : Nat} (ht : t < 16) (c : Nat) : KLN_TFLT t ≠ MPU_VADDR c ∧ KLN_TFLT t ≠ MPU_VADDR c + 4 := by
  simp only [KLN_TFLT, MPU_VADDR]; constructor <;> omega

/-- The fault register of a task is no register that a Ledger record changes. -/
theorem tflt_ledger (m : Mach) (code src arg0 arg1 arg2 hi lo : Nat) {t : Nat} (ht : t < 16) :
    (m.ledger code src arg0 arg1 arg2).fld (KLN_TFLT t) hi lo = m.fld (KLN_TFLT t) hi lo := by
  apply Mach.fld_ledger <;> simp only [KLN_TFLT, LDG_HEAD, LDG_FLUSHED, LDG_LOSTCNT, LDG_SUPCNT, LDG_STAT] <;> omega

/-- A reported violation changes registers of the protection and what a Ledger record changes (R385, R386): no task's
fault register. -/
theorem tflt_mpuReport (m : Mach) (cls inst a kind : Nat) (priv : Bool) (region hi lo : Nat) {t : Nat} (ht : t < 16) :
    (m.mpuReport cls inst a kind priv region).fld (KLN_TFLT t) hi lo = m.fld (KLN_TFLT t) hi lo := by
  unfold Mach.mpuReport
  dsimp only
  rw [tflt_ledger _ _ _ _ _ _ _ _ ht]
  split
  · exact Mach.fld_setFld_other _ _ _ _ _ _ _ _ (tflt_ne_vinfo t cls)
  · rw [Mach.fld_wr_other _ _ _ _ _ _ (tflt_ne_vinfo t cls), Mach.wr64,
      Mach.fld_wr_other _ _ _ _ _ _ (tflt_ne_vaddr ht cls).2, Mach.fld_wr_other _ _ _ _ _ _ (tflt_ne_vaddr ht cls).1]

theorem mpuReport_kiln (m : Mach) (cls inst a kind : Nat) (priv : Bool) (region cl : Nat) :
    (m.mpuReport cls inst a kind priv region).kiln cl = m.kiln cl := by
  unfold Mach.mpuReport
  dsimp only
  split <;>
    · rw [Mach.kiln, Mach.ledger_k0, Mach.ledger_k1]
      rfl

/-! ### The exceptions -/

/-- A data access that fails its first check raises that check's exception, and leaves what `Raised` speaks of. -/
def Refuses (m : Mach) (cl a n kind : Nat) (priv : Bool) (code : Nat) : Prop :=
  ∃ m', m.dataCheck cl a n kind priv = (some code, m') ∧ m'.kiln cl = m.kiln cl ∧
    ∀ t hi lo, t < 16 → m'.fld (KLN_TFLT t) hi lo = m.fld (KLN_TFLT t) hi lo

section refuses
variable {m : Mach} {cl a n kind : Nat} {priv : Bool}

theorem refuses_range (hr : inData a = false) : Refuses m cl a n kind priv 3 :=
  ⟨m, dataCheck_range hr, rfl, fun _ _ _ _ => rfl⟩

theorem refuses_align (hr : inData a = true) (ha : a % n ≠ 0) : Refuses m cl a n kind priv 5 :=
  ⟨m, dataCheck_align hr ha, rfl, fun _ _ _ _ => rfl⟩

theorem refuses_denied {k : Nat} (hr : inData a = true) (ha : a % n = 0) (hp : m.kilnDenied cl a kind priv = some k) :
    Refuses m cl a n kind priv 4 :=
  ⟨_, dataCheck_denied hr ha hp, mpuReport_kiln m _ _ _ _ _ _ _, fun _ hi lo ht => tflt_mpuReport m _ _ _ _ _ _ hi lo ht⟩

end refuses

section accesses
variable {cl : ClusterId} {s : State} {c : Core} {sl : Slice} {r : MemForm} {a n code : Nat}

theorem loadBody_raises (h : Ready cl s c) (ht : sl.task < 16) (ext : Nat → Word)
    (he : (effAddr c r.base r.off).toNat = a) (hx : Refuses s.m cl a n 0 c.sys code) :
    RaisesIn cl s sl code (loadBody cl n r ext s.m (s.tri cl) c) := by
  subst he
  obtain ⟨m', hcheck, hk, hf⟩ := hx
  unfold loadBody
  simp only [h.voted c.pc.toNat (req := fun c => some ⟨effAddr c r.base r.off, 0⟩) rfl, h.machLead, hcheck]
  exact ⟨rfl, hk, hf _ _ _ ht⟩

theorem storeBody_raises (h : Ready cl s c) (ht : sl.task < 16)
    (he : (effAddr c r.base r.off).toNat = a) (hx : Refuses s.m cl a n 1 c.sys code) :
    RaisesIn cl s sl code (storeBody cl n r s.m (s.tri cl) c) := by
  subst he
  obtain ⟨m', hcheck, hk, hf⟩ := hx
  unfold storeBody
  simp only [h.voted c.pc.toNat
    (req := fun c => some ⟨effAddr c r.base r.off, BitVec.ofNat 64 (lowBytes n (c.rd r.r))⟩) rfl, h.machLead, hcheck,
    Bool.false_eq_true, if_false]
  exact ⟨rfl, hk, hf _ _ _ ht⟩

/-- An instruction is a load of `n` bytes (kind 0) or a store of them (kind 1). -/
def IsAccess (cl : ClusterId) (r : MemForm) (s : State) (i : Instr) (n kind : Nat) : Prop :=
  kind = 0 ∧ (∃ ext, exec i s = load cl n r ext s) ∨ kind = 1 ∧ exec i s = store cl n r s

/-- A load or store that fails its first check raises that check's exception. -/
theorem access_raises (h : Ready cl s c) (hsl : (s.m.kiln cl).slice = some sl) (ht : sl.task < 16) {i : Instr} {kind : Nat}
    (hi : IsAccess cl r s i n kind) (he : (effAddr c r.base r.off).toNat = a) (hc : code < 256)
    (hx : Refuses s.m cl a n kind c.sys code) : Completes (exec i s) (Raised cl s sl code) := by
  obtain ⟨rfl, ext, hexec⟩ | ⟨rfl, hexec⟩ := hi
  · rw [hexec]
    exact .next (ready_raises h hsl ht hc (loadBody_raises h ht ext he hx))
  · rw [hexec]
    exact .next (ready_raises h hsl ht hc (storeBody_raises h ht he hx))

end accesses

end Sys2Proof.Machine
end

section
open Sys2Proof Sys2Proof.Machine

/-- Settles O17: the first check that fails, in the order range, alignment, protection, gives the exception. -/
theorem dataAccessExceptions : Obligations.DataAccessExceptions := by
  unfold Obligations.DataAccessExceptions
  intro cl r s c sl h hsl ht a e he
  have hi : IsAccess cl r s e.1 e.2.1 e.2.2 := by
    revert e
    simp only [List.forall_mem_cons, List.not_mem_nil, false_imp_iff, implies_true, and_true]
    exact ⟨.inl ⟨rfl, sx 1, rfl⟩, .inl ⟨rfl, zx, rfl⟩, .inl ⟨rfl, sx 2, rfl⟩, .inl ⟨rfl, zx, rfl⟩, .inl ⟨rfl, sx 4, rfl⟩,
      .inl ⟨rfl, zx, rfl⟩, .inl ⟨rfl, zx, rfl⟩, .inr ⟨rfl, rfl⟩, .inr ⟨rfl, rfl⟩, .inr ⟨rfl, rfl⟩, .inr ⟨rfl, rfl⟩⟩
  exact ⟨fun hr => access_raises h hsl ht hi rfl (by decide) (refuses_range hr),
    fun hr ha => access_raises h hsl ht hi rfl (by decide) (refuses_align hr ha),
    fun _ hr ha hp => access_raises h hsl ht hi rfl (by decide) (refuses_denied hr ha hp)⟩
end

section
/-! SUPPORT. A partial write of an uncorrectable word leaves a record in the Ledger's ring (R374, R375, R424), so a
store of part of such a word changes bytes of memory beyond its own. -/

namespace Sys2Proof.Machine

/-- A byte of memory after a command. -/
def byteAfter (o : Host.Outcome State Fault Refusal) (x : Nat) : Option Byte :=
  match o with
  | .next t => some (t.m.mem.ld8 x)
  | _ => none

theorem byteAfter_next {o : Host.Outcome State Fault Refusal} {t : State} (h : o = .next t) {x : Nat} {b : Byte}
    (hb : byteAfter o x = some b) : t.m.mem.ld8 x = b := by
  subst h
  exact Option.some.inj hb

/-- A module in which a slice of task 0 runs on cluster 0, with its three cores healthy, plant time, and a Ledger that
has recovered. -/
def working : Mach := { State.reset.m with
  regs := [(KLN_CLSTAT 0, 0xE1), (KLN_DBGSTAT 0, 0), (TMB_STAT, 1), (LDG_STAT, 8), (LDG_HEAD, 0), (LDG_FLUSHED, 0)]
  k0 := { State.reset.m.k0 with slice := some ⟨0, 0, 0, 1000, false⟩ } }

theorem working_actives : working.actives 0 = [0, 1, 2] := by decide +kernel

theorem working_going : working.bit (KLN_DBGSTAT 0) 0 = false := by decide +kernel

/-- The module with the three cores at `c` and word `w` uncorrectable. -/
def damaged (c : Core) (w : Nat) : State := { State.reset with
  c0 := ⟨c, c, c⟩
  m := { working with ecc := [(w, .uncorr)] } }

/-- A core in system code at address 0. -/
def systemCore : Core := { Core.reset with sys := true }

/-- A core that stores the byte in g1 at 0x1000. -/
def storing : Core := (systemCore.wr 1 0xAB).wr 4 0x1000

/-- The second byte of the code of the first record in the Ledger's ring. -/
def firstCode : Nat := 0x03A00005

/-- A damaged word other than the one that is fetched keeps no cluster from its instruction. -/
theorem ready_damaged {c : Core} {w : Nat} (hw : w ≠ 0) (hpc : c.pc = 0)
    (hp : (damaged c w).m.kilnDenied 0 c.pc.toNat 2 c.sys = none) : Ready 0 (damaged c w) c where
  slice := ⟨_, rfl, by decide⟩
  going := working_going
  single := rfl
  runs := by
    show working.actives 0 ≠ []
    rw [working_actives]
    exact List.cons_ne_nil _ _
  agree k _ := by
    show (⟨c, c, c⟩ : Tri).get k = c
    unfold Tri.get
    split_ifs <;> rfl
  range := by rw [hpc]; rfl
  permit := hp
  intact := by
    intro x _ hx
    have hx0 : x = 0 := by rw [hpc] at hx; simpa using hx
    subst hx0
    exact if_neg hw.symm

/-- The byte store records the damage of its word. -/
theorem stb_records : byteAfter (exec (.stb 0 ⟨1, 4, 0⟩) (damaged storing 0x200)) firstCode = some 0x0A := by
  decide +kernel

/-- A store of marker bit 0 records the damage of its word. -/
theorem mbst_records : byteAfter (exec (.mbst 0 0 0) (damaged systemCore 0x440000)) firstCode = some 0x0A := by
  decide +kernel

/-- A store of marker byte 0 records the damage of its word. -/
theorem imgrWordStore_records :
    byteAfter (exec (.imgrWordStore 0 2 false 0 ⟨0, 0, 0, 0, false⟩) (damaged systemCore 0x440000)) firstCode =
      some 0x0A := by decide +kernel

end Sys2Proof.Machine
end

section
open Sys2Proof Sys2Proof.Machine

/-- Refutes O16: a byte store into an uncorrectable word also enters a record of it into the Ledger's ring. -/
theorem not_storeResults : ¬ Obligations.StoreResults := by
  unfold Obligations.StoreResults
  intro h
  obtain ⟨t, hexec, _, _, _, hmem⟩ := h 0 ⟨1, 4, 0⟩ (damaged storing 0x200) storing (ready_damaged (by decide) rfl rfl)
    (.stb 0 ⟨1, 4, 0⟩, 1) (by simp) rfl rfl rfl rfl
  have hbyte := hmem firstCode
  rw [byteAfter_next hexec stb_records] at hbyte
  exact absurd hbyte (by decide)

/-- Refutes O18: a bit store into an uncorrectable marker word also enters a record of it into the Ledger's ring. -/
theorem not_imageBits : ¬ Obligations.ImageBits := by
  unfold Obligations.ImageBits
  intro h
  obtain ⟨hbits, _⟩ := h.2 0 (damaged systemCore 0x440000) systemCore (ready_damaged (by decide) rfl rfl)
  obtain ⟨t, hexec, _, _, _, _, _, hmem⟩ := hbits 0 0 (.mbst 0 0 0, .marker, some (systemCore.cb 0)) (by simp) rfl
    (by simp)
  have hbit := hmem firstCode 1
  rw [byteAfter_next hexec mbst_records] at hbit
  exact absurd hbit (by decide)

/-- Refutes O19: a byte store into an uncorrectable marker word also enters a record of it into the Ledger's ring. -/
theorem not_imageWords : ¬ Obligations.ImageWords := by
  unfold Obligations.ImageWords
  intro h
  obtain ⟨_, hstore⟩ := h 0 (damaged systemCore 0x440000) systemCore ⟨0, 0, 0, 0, false⟩ 2 0
    (ready_damaged (by decide) rfl rfl) ⟨.inr rfl, rfl⟩ rfl (by decide) rfl (by decide) rfl
  obtain ⟨t, hexec, _, _, _, _, _, hmem⟩ := hstore (by decide) (by decide)
  have hbyte := hmem firstCode
  rw [byteAfter_next hexec imgrWordStore_records] at hbyte
  exact absurd hbyte (by decide)
end

section
/-! SUPPORT. A call of cores that disagree: the checks look at the block of the lead core, and the words are written at
the address of the majority (R81, R159, R160), which a region may let them write outside the data space (R383). -/

namespace Sys2Proof.Machine

/-- The module with a program of one unit, a system unit at 0x2000; the lead core of cluster 0 has a good stack pointer,
the other two share one beyond every memory of the module, and a region of 16 MiB lets system code write there. -/
def stray : State := { State.reset with
  c0 := ⟨systemCore.wr 29 0x4020, systemCore.wr 29 0x40001020, systemCore.wr 29 0x40001020⟩
  m := { working with
    prog := { units := 1, unitBase := 0x1000, tasks := [⟨0, 0, 1, 0, 0, 0x8000, 0x4000, 0, 1000, 0⟩] }
    mem := [(0x1001, 0x20), (0x1008, 1)]
    mpu := [(0, ⟨0x40000000, 0x5810⟩)] } }

/-- The first byte of the call record that the majority writes. -/
theorem ucall_writes_stray : byteAfter (exec (.ucall 0 0 0) stray) 0x40001000 = some 4 := by decide +kernel

/-- The pool cell of a record lies within 16 bits of cells. -/
theorem recCell_lt (m : Mach) (n : Nat) : m.recCell n < 2 ^ 16 := by
  have h := leNat_lt (m.mem.ldBytes (Mach.recordAt n + 8) 2)
  rwa [Memory.ldBytes_length] at h

/-- Nothing beyond the MRAM is memory of an instruction. -/
theorem not_reachable_of_le {m : Mach} {x : Nat} (h : 0x11000000 ≤ x) : ¬ Reachable m x := by
  intro hx
  obtain hx | hx | hx | hx | hx | ⟨n, hx | hx⟩ := hx
  · omega
  · omega
  · omega
  · omega
  · omega
  · rw [Mach.recordAt] at hx; omega
  · have := recCell_lt m n
    rw [Mach.cellAt] at hx; omega

end Sys2Proof.Machine
end

section
open Sys2Proof Sys2Proof.Machine

/-- Refutes O59: the call record of a majority whose stack pointer differs from the lead core's is written where only the
protection of each word is looked at, here outside the data space. -/
theorem not_instructionsAreConfined : ¬ Obligations.InstructionsAreConfined := by
  unfold Obligations.InstructionsAreConfined
  intro h
  obtain ⟨t, hexec, _, _, hkept⟩ := h (.ucall 0 0 0) 0 stray rfl (by decide) (fun _ he => absurd he List.not_mem_nil)
  have hbyte := hkept 0x40001000 (not_reachable_of_le (by decide))
  rw [byteAfter_next hexec ucall_writes_stray] at hbyte
  exact absurd hbyte (by decide)
end

section
open Sys2Proof Sys2Proof.Machine

/-- Settles O56: the reset state holds no memory and no work, the registers listed read the values of their tables, and
the wired registers read as R63 says. -/
theorem resetState : Obligations.ResetState := by
  unfold Obligations.ResetState
  have hwired : State.reset.Hardwired := State.reset.hardwired_iff.mpr ⟨Tri.Hardwired.reset, Tri.Hardwired.reset⟩
  have hdelta : DeltaInData State.reset.m := fun _ he => absurd he List.not_mem_nil
  have hregs : State.reset.m.rg64 TMB_ADDEND = 2 ^ 34 ∧ State.reset.m.rg TMB_JUMPMAX = 1000 ∧
      State.reset.m.rg TMB_PAIRLIM = 2000 ∧ State.reset.m.rg TMB_GXSYNC = 8 ∧ State.reset.m.rg64 TMB_TIME = 0 ∧
      State.reset.m.rg DLE_SPLIT = 32768 ∧ State.reset.m.rg DLE_LEAD = 2 ∧ State.reset.m.rg DLE_HORIZON = 2000 ∧
      State.reset.m.rg DLE_KEEP = 16 ∧ State.reset.m.rg ACJ_LIMIT = 512 ∧ State.reset.m.rg ACJ_CFG = 20 ∧
      ∀ p : PortId, State.reset.m.rg (GXP_ACTRES p) = 1024 ∧ State.reset.m.rg (GXP_WDOG p) = 3 ∧
        State.reset.m.rg (CFD_QSTAT p) = 0 := by decide +kernel
  exact ⟨rfl, by decide +kernel, rfl, fun _ => rfl, hwired, by decide +kernel, hdelta, hregs⟩
end

section
/-! SUPPORT. The exceptions of image accesses in their order (R72 to R77, R114). -/

namespace Sys2Proof.Machine

/-! ### The checks of an image access -/

/-- An access of `w` bits at index `i` raises `code` by its first check that fails. -/
def ImageRefuses (m : Mach) (cl : Nat) (sp : Space) (i w : Nat) (writes : Bool) (code : Nat) : Prop :=
  2 ^ 23 ≤ i ∧ code = 6 ∨ ¬ 2 ^ 23 ≤ i ∧ m.imageCheck cl sp i w writes = some code

theorem mapped_lt {sp : Space} {i : Nat} (h : mapped sp i = true) : i < 2 ^ 23 := by
  cases sp <;>
    · have := of_decide_eq_true h
      omega

/-- The bounds of the spaces are multiples of every width of a word. -/
theorem mapped_last {sp : Space} {i n : Nat} (h : mapped sp i = true) (hn : n ∈ [1, 2, 4, 8]) (hi : i % (8 * n) = 0) :
    mapped sp (i + 8 * n - 1) = true := by
  simp only [List.mem_cons, List.not_mem_nil, or_false] at hn
  obtain rfl | rfl | rfl | rfl := hn <;> cases sp <;>
    · have := of_decide_eq_true h
      exact decide_eq_true (by omega)

section checks
variable {m : Mach} {cl : Nat} {sp : Space} {i w : Nat} {writes : Bool}

theorem imageRefuses_unmapped (h : mapped sp i = false) : ImageRefuses m cl sp i w writes 6 := by
  by_cases hi : 2 ^ 23 ≤ i
  · exact .inl ⟨hi, rfl⟩
  · exact .inr ⟨hi, by simp [Mach.imageCheck, h]⟩

theorem imageRefuses_align (h : mapped sp i = true) (hi : i % w ≠ 0) : ImageRefuses m cl sp i w writes 5 :=
  .inr ⟨by have := mapped_lt h; omega, by simp [Mach.imageCheck, h, hi]⟩

/-- An access whose index is mapped and aligned is refused for what it would write. -/
theorem imageRefuses_write (h : mapped sp i = true) (hl : mapped sp (i + w - 1) = true) (hi : i % w = 0) (hw : 0 < w)
    {code : Nat} (hc : sp = .input ∧ code = 7 ∨ sp = .output ∧ m.owns cl (i / 8) = false ∧ code = 8) :
    ImageRefuses m cl sp i w true code := by
  refine .inr ⟨by have := mapped_lt h; omega, ?_⟩
  obtain ⟨rfl, rfl⟩ | ⟨rfl, hown, rfl⟩ := hc
  · simp [Mach.imageCheck, h, hl, hi]
  · have hall : (countFrom (i / 8) ((w + 7) / 8)).all (m.owns cl) = false := by
      rw [List.all_eq_false]
      exact ⟨_, mem_countFrom (le_refl _) (by omega), by simp [hown]⟩
    simp [Mach.imageCheck, h, hl, hi, hall]

end checks

/-! ### The accesses -/

section accesses
variable {cl : ClusterId} {s : State} {c : Core} {sl : Slice} {r : RR} {sp : Space} {i code : Nat}

/-- A bit access that fails its first check raises that check's exception. -/
theorem bitBody_raises (h : Ready cl s c) {op : BitOp} {k : BitVec 3} {idx : Core → Word} {present : Core → Bool}
    (hp : present c = true) (hi : (idx c).toNat = i) (hx : ImageRefuses s.m cl sp i 1 op.writes code) :
    RaisesIn cl s sl code (bitBody cl sp op k idx present s.m (s.tri cl) c) := by
  subst hi
  unfold bitBody
  rw [h.voted (x := ?asked) c.pc.toNat ?same]
  case same => exact if_pos hp
  simp only [Bool.false_eq_true, if_false]
  obtain ⟨hge, rfl⟩ | ⟨hlt, hcheck⟩ := hx
  · rw [if_pos hge]; exact .same 0 5
  · simp only [if_neg hlt, hcheck]; exact .same 0 5

/-- A word load that fails its first check raises that check's exception. -/
theorem wordLoadBody_raises (h : Ready cl s c) {ext : Bool} {w : BitVec 2} (hp : predicate c r = true)
    (hx : ImageRefuses s.m cl sp (c.rd r.a).toNat (8 * widthBytes w) false code) :
    RaisesIn cl s sl code (wordLoadBody cl sp ext w r s.m (s.tri cl) c) := by
  unfold wordLoadBody
  simp only [h.voted c.pc.toNat (req := fun x => if predicate x r then some ⟨x.rd r.a, 0⟩ else none) (if_pos hp)]
  obtain ⟨hge, rfl⟩ | ⟨hlt, hcheck⟩ := hx
  · rw [if_pos hge]; exact .same 0 _
  · simp only [if_neg hlt, hcheck]; exact .same 0 _

/-- A word store that fails its first check raises that check's exception. -/
theorem wordStoreBody_raises (h : Ready cl s c) {w : BitVec 2} (hp : predicate c r = true)
    (hx : ImageRefuses s.m cl sp (c.rd r.a).toNat (8 * widthBytes w) true code) :
    RaisesIn cl s sl code (wordStoreBody cl sp w r s.m (s.tri cl) c) := by
  unfold wordStoreBody
  simp only [h.voted c.pc.toNat (req := fun x => if predicate x r then
    some ⟨x.rd r.a, BitVec.ofNat 64 (lowBytes (widthBytes w) (x.rd r.d))⟩ else none) (if_pos hp), Bool.false_eq_true,
    if_false]
  obtain ⟨hge, rfl⟩ | ⟨hlt, hcheck⟩ := hx
  · rw [if_pos hge]; exact .same 0 _
  · simp only [if_neg hlt, hcheck]; exact .same 0 _

variable (h : Ready cl s c) (hsl : (s.m.kiln cl).slice = some sl) (ht : sl.task < 16) (hc : code < 256)
include h hsl ht hc

theorem imgBit_raises {op : BitOp} {k : BitVec 3} {j : BitVec 23} {e : Instr} (he : exec e s = imgBit cl sp op k j s)
    (hx : ImageRefuses s.m cl sp j.toNat 1 op.writes code) : Completes (exec e s) (Raised cl s sl code) := by
  rw [he]
  refine .next (ready_raises h hsl ht hc (bitBody_raises h rfl ?_ hx))
  rw [BitVec.toNat_setWidth, Nat.mod_eq_of_lt (j.isLt.trans (by norm_num))]

theorem imgrBit_raises {space : BitVec 2} {op : BitOp} {e : Instr} (hf : Fires c r) (hb : r.b = 0) (hd : r.d.toNat < 8)
    (hsp : space ≠ 3) (he : exec e s = imgrBit cl space op r s)
    (hx : ImageRefuses s.m cl (spaceOf space) (c.rd r.a).toNat 1 op.writes code) :
    Completes (exec e s) (Raised cl s sl code) := by
  rw [he]
  exact .next (ready_imgr_raises h (hf.imgr_cond hb hd hsp) hf.predicate hsl ht hc (bitBody_raises h hf.predicate rfl hx))

theorem imgrWordLoad_raises {space w : BitVec 2} {ext : Bool} (hf : Fires c r) (hb : r.b = 0) (hsp : space ≠ 3)
    (hx : ImageRefuses s.m cl (spaceOf space) (c.rd r.a).toNat (8 * widthBytes w) false code) :
    Completes (exec (.imgrWordLoad cl space ext w r) s) (Raised cl s sl code) :=
  .next (ready_imgr_raises h (hf.imgr_greg hb hsp) hf.predicate hsl ht hc (wordLoadBody_raises h hf.predicate hx))

theorem imgrWordStore_raises {space w : BitVec 2} (hf : Fires c r) (hb : r.b = 0) (hsp : space ≠ 3)
    (hx : ImageRefuses s.m cl (spaceOf space) (c.rd r.a).toNat (8 * widthBytes w) true code) :
    Completes (exec (.imgrWordStore cl space false w r) s) (Raised cl s sl code) :=
  .next (ready_imgr_raises h (hf.imgr_greg hb hsp) hf.predicate hsl ht hc (wordStoreBody_raises h hf.predicate hx))

end accesses

theorem widthBytes_mem : ∀ w : BitVec 2, widthBytes w ∈ [1, 2, 4, 8] := by decide

end Sys2Proof.Machine
end

section
open Sys2Proof Sys2Proof.Machine

/-- Settles O20: the first check that fails, in the order range, alignment, input space, ownership, gives the
exception. -/
theorem imageExceptions : Obligations.ImageExceptions := by
  unfold Obligations.ImageExceptions
  intro cl s c sl h hsl ht
  refine ⟨fun k i => ⟨fun hm e he => ?_, fun hm e he => ?_, fun hm hown e he => ?_⟩, fun r sp w ext hf hb hsp => ?_⟩
  · have hop : ∃ op, exec e s = imgBit cl .input op k i s := by
      revert e
      simp only [List.forall_mem_cons, List.not_mem_nil, false_imp_iff, implies_true, and_true]
      exact ⟨⟨.load, rfl⟩, ⟨.loadN, rfl⟩⟩
    obtain ⟨op, hexec⟩ := hop
    exact imgBit_raises h hsl ht (by decide) hexec (imageRefuses_unmapped hm)
  · have hop : ∃ op, exec e s = imgBit cl .output op k i s := by
      revert e
      simp only [List.forall_mem_cons, List.not_mem_nil, false_imp_iff, implies_true, and_true]
      exact ⟨⟨.load, rfl⟩, ⟨.loadN, rfl⟩, ⟨.store, rfl⟩, ⟨.storeN, rfl⟩, ⟨.set, rfl⟩, ⟨.clear, rfl⟩⟩
    obtain ⟨op, hexec⟩ := hop
    exact imgBit_raises h hsl ht (by decide) hexec (imageRefuses_unmapped hm)
  · have hop : ∃ op, exec e s = imgBit cl .output op k i s ∧ op.writes = true := by
      revert e
      simp only [List.forall_mem_cons, List.not_mem_nil, false_imp_iff, implies_true, and_true]
      exact ⟨⟨.store, rfl, rfl⟩, ⟨.storeN, rfl, rfl⟩, ⟨.set, rfl, rfl⟩, ⟨.clear, rfl, rfl⟩⟩
    obtain ⟨op, hexec, hw⟩ := hop
    refine imgBit_raises h hsl ht (by decide) hexec ?_
    rw [hw]
    exact imageRefuses_write hm hm (Nat.mod_one _) (by decide) (.inr ⟨rfl, hown, rfl⟩)
  have hn := widthBytes_mem w
  refine ⟨fun hm => ⟨fun hd e he => ?_, ?_, ?_⟩, fun hm hi => ⟨?_, ?_⟩, fun hbad => ?_⟩
  · have hop : ∃ op, exec e s = imgrBit cl sp op r s := by
      revert e
      simp only [List.forall_mem_cons, List.not_mem_nil, false_imp_iff, implies_true, and_true]
      exact ⟨⟨.load, rfl⟩, ⟨.loadN, rfl⟩, ⟨.store, rfl⟩, ⟨.storeN, rfl⟩, ⟨.set, rfl⟩, ⟨.clear, rfl⟩⟩
    obtain ⟨op, hexec⟩ := hop
    exact imgrBit_raises h hsl ht (by decide) hf hb hd hsp hexec (imageRefuses_unmapped hm)
  · exact imgrWordLoad_raises h hsl ht (by decide) hf hb hsp (imageRefuses_unmapped hm)
  · exact imgrWordStore_raises h hsl ht (by decide) hf hb hsp (imageRefuses_unmapped hm)
  · exact imgrWordLoad_raises h hsl ht (by decide) hf hb hsp (imageRefuses_align hm hi)
  · exact imgrWordStore_raises h hsl ht (by decide) hf hb hsp (imageRefuses_align hm hi)
  · have hcode : (if sp = 0 then 0x07 else 0x08) < 256 := by split <;> decide
    have hmap : mapped (spaceOf sp) (c.rd r.a).toNat = true := by
      obtain ⟨rfl, hm⟩ | ⟨rfl, hm, _⟩ := hbad <;> exact hm
    have hwhy : spaceOf sp = .input ∧ (if sp = 0 then 0x07 else 0x08) = 7 ∨
        spaceOf sp = .output ∧ s.m.owns cl ((c.rd r.a).toNat / 8) = false ∧ (if sp = 0 then 0x07 else 0x08) = 8 := by
      obtain ⟨rfl, _⟩ | ⟨rfl, _, hown⟩ := hbad
      · exact .inl ⟨rfl, rfl⟩
      · exact .inr ⟨rfl, hown, rfl⟩
    refine ⟨fun hd e he => ?_, fun hi => ?_⟩
    · have hop : ∃ op, exec e s = imgrBit cl sp op r s ∧ op.writes = true := by
        revert e
        simp only [List.forall_mem_cons, List.not_mem_nil, false_imp_iff, implies_true, and_true]
        exact ⟨⟨.store, rfl, rfl⟩, ⟨.storeN, rfl, rfl⟩, ⟨.set, rfl, rfl⟩, ⟨.clear, rfl, rfl⟩⟩
      obtain ⟨op, hexec, hw⟩ := hop
      refine imgrBit_raises h hsl ht hcode hf hb hd hsp hexec ?_
      rw [hw]
      exact imageRefuses_write hmap hmap (Nat.mod_one _) (by decide) hwhy
    · have hpos : 0 < 8 * widthBytes w := by
        have : 0 < widthBytes w := Nat.two_pow_pos _
        omega
      exact imgrWordStore_raises h hsl ht hcode hf hb hsp
        (imageRefuses_write hmap (mapped_last hmap hn hi) hi hpos hwhy)
end

section
/-! SUPPORT. The exceptions of calls and returns in their order (R81, R83, R110, R114). -/

namespace Sys2Proof.Machine

/-! ### The unit table -/

theorem Memory.ldN_one (m : Memory) (a : Nat) : m.ldN a 1 = (m.ld8 a).toNat := by
  simp [Memory.ldN, Memory.ldBytes, leNat]

theorem testBit_one_eq (n : Nat) : n.testBit 1 = decide (n / 2 % 2 = 1) := by
  rw [Nat.testBit_succ, Nat.testBit_zero]

/-- The entry of the unit table entry at `ua` is no address of an instruction (R81). -/
def badEntry (m : Mach) (ua : Nat) : Bool :=
  !inData (m.mem.ldN ua 4) || decide (m.mem.ldN ua 4 % 4 ≠ 0)

/-- The frame at `frame` does not suit the unit table entry at `ua` (R81). -/
def badFrame (m : Mach) (ua frame : Nat) : Bool :=
  decide (0 < m.mem.ldN (ua + 4) 4) &&
    (decide (frame % 64 ≠ 0) || decide (0x017E0000 < frame + m.mem.ldN (ua + 4) 4))

/-- The unit at `ua` is a system unit without a gate, called at user privilege (R81). -/
def noGate (m : Mach) (sys : Bool) (ua : Nat) : Bool :=
  !sys && decide ((m.mem.ld8 (ua + 8)).toNat % 2 = 1) && !decide ((m.mem.ld8 (ua + 8)).toNat / 2 % 2 = 1)

/-- The exception of the first check that fails in a call of the unit at `ua` with its frame in `f`, if any (R81). -/
def callFault (m : Mach) (c : Core) (floor : Nat) (f : BitVec 5) (ua : Nat) : Option Nat :=
  if badEntry m ua = true then some 14
  else if badFrame m ua (c.rd f).toNat = true then some 14
  else if noGate m c.sys ua = true then some 10
  else if (c.rd 29).toNat < floor + 32 then some 12
  else none

theorem badEntry_false {m : Mach} {ua : Nat} (hd : inData (m.mem.ldN ua 4) = true) (ha : m.mem.ldN ua 4 % 4 = 0) :
    badEntry m ua = false := by simp [badEntry, hd, ha]

theorem badEntry_true {m : Mach} {ua : Nat} (h : inData (m.mem.ldN ua 4) = false ∨ m.mem.ldN ua 4 % 4 ≠ 0) :
    badEntry m ua = true := by
  obtain hd | ha := h
  · simp [badEntry, hd]
  · simp [badEntry, ha]

theorem noGate_eq (m : Mach) (sys : Bool) (ua : Nat) : noGate m sys ua =
    (!sys && decide ((m.mem.ld8 (ua + 8)).toNat % 2 = 1) && decide ((m.mem.ld8 (ua + 8)).toNat / 2 % 2 = 0)) := by
  rw [noGate, ← decide_not, decide_eq_decide.mpr Nat.mod_two_ne_one]

section calls
variable {cl : ClusterId} {s : State} {c : Core} {sl : Slice}

/-- A call of a unit beyond the table raises UNIT_BAD. -/
theorem ucallBody_beyond (h : Ready cl s c) {f : BitVec 5} {unit : Core → Nat} (hu : s.m.prog.units ≤ unit c) :
    RaisesIn cl s sl 14 (ucallBody cl f unit s.m (s.tri cl) c) := by
  unfold ucallBody
  extract_lets pc
  rw [h.voted_none pc ?none]
  case none => exact if_neg (by omega)
  exact .same 0 12

/-- A call that fails a check of its unit raises that check's exception. -/
theorem ucallBody_raises (h : Ready cl s c) (hsl : (s.m.kiln cl).slice = some sl) {f : BitVec 5} {unit : Core → Nat}
    {code ua : Nat} (hu : unit c < s.m.prog.units) (hua : s.m.unitAt (unit c) = ua) (hr : ua + 16 ≤ 0x01800000)
    (hclean : s.m.clean ua 16) (hx : callFault s.m c (s.m.taskEnt sl.task).floor f ua = some code) :
    RaisesIn cl s sl code (ucallBody cl f unit s.m (s.tri cl) c) := by
  have haddr : (BitVec.ofNat 64 (s.m.unitAt (unit c))).toNat = ua := by
    rw [BitVec.toNat_ofNat, hua, Nat.mod_eq_of_lt (by omega)]
  unfold ucallBody
  extract_lets pc
  rw [h.voted pc ?asked]
  case asked => exact if_pos hu
  simp only [haddr, Mach.eccRead_clean _ _ _ _ hclean, h.machLead, hsl, Memory.ldN_one, Nat.testBit_zero, testBit_one_eq,
    Bool.false_eq_true, if_false]
  unfold callFault badEntry badFrame noGate at hx
  split_ifs at hx with hentry hframe hgate hroom <;> cases hx
  · rw [if_pos hentry]; exact .same 0 12
  · rw [if_neg hentry, if_pos hframe]; exact .same 0 12
  · rw [if_neg hentry, if_neg hframe, if_pos hgate]; exact .same 0 12
  · rw [if_neg hentry, if_neg hframe, if_neg hgate, if_pos hroom]; exact .same 0 12

/-- A return at the top of the stack raises RET_EMPTY. -/
theorem uretBody_empty (h : Ready cl s c) (hsl : (s.m.kiln cl).slice = some sl)
    (htop : (s.m.taskEnt sl.task).top ≤ (c.rd 29).toNat) :
    RaisesIn cl s sl 13 (uretBody cl s.m (s.tri cl) c) := by
  unfold uretBody
  extract_lets top
  rw [h.voted_none c.pc.toNat ?none]
  case none => exact if_neg (by simp only [top, hsl]; omega)
  exact .same 0 10

end calls

end Sys2Proof.Machine
end

section
open Sys2Proof Sys2Proof.Machine

/-- Settles O23: the first check that fails, in the order of R81 and R83, gives the exception. -/
theorem callExceptions : Obligations.CallExceptions := by
  unfold Obligations.CallExceptions
  intro cl f u s c sl h hsl ht
  refine ⟨fun hu => ?_, fun n hn => ?_, fun htop => ?_, fun n hn => ?_, fun hsys => ?_⟩
  · exact .next (ready_raises h hsl ht (by decide) (ucallBody_beyond h hu))
  · exact .next (ready_raises h hsl ht (by decide) (ucallBody_beyond h hn))
  · exact .next (ready_raises h hsl ht (by decide) (uretBody_empty h hsl htop))
  · extract_lets ua entry size flags frame bad refused
    intro hua hclean
    have key {code : Nat} (hc : code < 256) (hx : callFault s.m c (s.m.taskEnt sl.task).floor f ua = some code) :
        Completes (exec (.ucall cl f n) s) (Raised cl s sl code) :=
      .next (ready_raises h hsl ht hc (ucallBody_raises h hsl hn rfl hua hclean hx))
    have hframe : badFrame s.m ua (c.rd f).toNat = bad := rfl
    have hgate : noGate s.m c.sys ua = refused := noGate_eq s.m c.sys ua
    refine ⟨fun hbad => key (by decide) ?_, fun hd ha hf hr => key (by decide) ?_, fun hd ha hf hr hroom => key (by decide) ?_⟩
    · unfold callFault
      split_ifs with hentry hframe'
      · rfl
      · rfl
      all_goals
        rw [hframe] at hframe'
        obtain hd | ha | hf := hbad
        · exact absurd (badEntry_true (.inl hd)) hentry
        · exact absurd (badEntry_true (.inr ha)) hentry
        · exact absurd hf hframe'
    · simp only [callFault, badEntry_false hd ha, hframe, hf, hgate, hr, Bool.false_eq_true, if_false, if_true]
    · simp only [callFault, badEntry_false hd ha, hframe, hf, hgate, hr, Bool.false_eq_true, if_false, if_pos hroom]
  · exact .next (ready_privilege h hsys hsl ht)
end

section
/-! SUPPORT. Words stored whole, and the call record and the return (R81 to R83, R130). -/

namespace Sys2Proof.Machine

/-! ### Stores of whole words -/

/-- A store of a whole word writes its bytes with fresh check bits and does nothing else (R375). -/
theorem store_word (m : Mach) {a : Nat} {bs : List Byte} (cls : Nat) (ha : a % 8 = 0) (hb : bs.length = 8) :
    m.store a bs cls = { m with mem := m.mem.stBytes a bs, ecc := tabPut Ecc.good m.ecc (a / 8) .good } := by
  have hone : countFrom (a / 8) ((a + 8 + 7) / 8 - a / 8) = [a / 8] := by
    rw [show (a + 8 + 7) / 8 - a / 8 = 1 by omega]; rfl
  have hwhole : (decide (a ≤ 8 * (a / 8)) && decide (8 * (a / 8) + 8 ≤ a + 8)) = true := by
    simp only [Bool.and_eq_true, decide_eq_true_eq]; omega
  simp only [Mach.store, hb, hone, List.foldl_cons, List.foldl_nil, hwhole, Mach.eccWriteWord, if_true]

section kilnStores
variable (m : Mach) (cl : Nat) {a : Nat} {bs : List Byte} (ha : a % 8 = 0) (hb : bs.length = 8)
include ha hb

theorem kilnStore_word_regs : (m.kilnStore cl a bs).regs = m.regs := by
  unfold Mach.kilnStore
  rw [store_word _ _ ha hb]
  split
  · exact Mach.modKiln_regs _ _ _
  · rfl

theorem kilnStore_word_mem : (m.kilnStore cl a bs).mem = m.mem.stBytes a bs := by
  unfold Mach.kilnStore
  rw [store_word _ _ ha hb]
  split
  · rw [Mach.modKiln_mem]; rfl
  · rfl

theorem kilnStore_word_kiln : ((m.kilnStore cl a bs).kiln cl).slice = (m.kiln cl).slice ∧
    ((m.kilnStore cl a bs).kiln cl).stepping = (m.kiln cl).stepping := by
  unfold Mach.kilnStore
  rw [store_word _ _ ha hb]
  split
  · show (((Mach.modKiln _ cl _)).kiln cl).slice = _ ∧ ((Mach.modKiln _ cl _).kiln cl).stepping = _
    simp only [Mach.modKiln, Mach.kiln_setKiln]
    exact ⟨rfl, rfl⟩
  · exact ⟨rfl, rfl⟩

end kilnStores

section words
variable (cl : Nat) {ws : List (Nat × Nat)} (hws : ∀ w ∈ ws, w.1 % 8 = 0)
include hws

theorem storeWords_regs (m : Mach) : (m.storeWords cl ws).regs = m.regs := by
  induction ws generalizing m with
  | nil => rfl
  | cons w ws ih =>
    obtain ⟨hw, hrest⟩ := List.forall_mem_cons.mp hws
    exact (ih hrest _).trans (kilnStore_word_regs m cl hw (leBytes_length _ _))

theorem storeWords_kiln (m : Mach) : ((m.storeWords cl ws).kiln cl).slice = (m.kiln cl).slice ∧
    ((m.storeWords cl ws).kiln cl).stepping = (m.kiln cl).stepping := by
  induction ws generalizing m with
  | nil => exact ⟨rfl, rfl⟩
  | cons w ws ih =>
    obtain ⟨hw, hrest⟩ := List.forall_mem_cons.mp hws
    obtain ⟨hslice, hstep⟩ := kilnStore_word_kiln m cl (bs := leBytes 8 w.2) hw (leBytes_length _ _)
    exact ⟨(ih hrest _).1.trans hslice, (ih hrest _).2.trans hstep⟩

/-- A byte of none of the words reads as before. -/
theorem storeWords_ld8 (m : Mach) {x : Nat} (hx : ∀ w ∈ ws, x < w.1 ∨ w.1 + 8 ≤ x) :
    (m.storeWords cl ws).mem.ld8 x = m.mem.ld8 x := by
  induction ws generalizing m with
  | nil => rfl
  | cons w ws ih =>
    obtain ⟨hw, hrest⟩ := List.forall_mem_cons.mp hws
    obtain ⟨hxw, hxrest⟩ := List.forall_mem_cons.mp hx
    refine (ih hrest _ hxrest).trans ?_
    rw [kilnStore_word_mem m cl hw (leBytes_length _ _),
      Memory.ld8_stBytes_other _ _ _ _ (by rw [leBytes_length]; exact hxw)]

end words

theorem actives_of_regs {m m' : Mach} (h : m'.regs = m.regs) (cl : Nat) : m'.actives cl = m.actives cl := by
  simp only [Mach.actives, Mach.bit, Mach.rg, h]

/-! ### Blocks that are read and written -/

/-- A fold that adds one element for each index and keeps the rest collects the elements. -/
theorem foldl_collect {α β σ : Type} {f : List β × Bool × σ → α → List β × Bool × σ} {x : α → β} {m : σ}
    (hf : ∀ l i, f (l, false, m) i = (l ++ [x i], false, m)) (is : List α) (before : List β) :
    is.foldl f (before, false, m) = (before ++ is.map x, false, m) := by
  induction is generalizing before with
  | nil => simp
  | cons i is ih => rw [List.foldl_cons, hf, ih]; simp

/-- Cores that agree ask for the same words. -/
theorem Ready.voteWords {cl : Nat} {s : State} {c : Core} (h : Ready cl s c) {n pc : Nat}
    {req : Core → Nat → Option VReq} {x : Nat → VReq} (hx : ∀ i, req c i = some (x i)) :
    s.m.voteWords cl pc (s.tri cl) n req = ((countFrom 0 n).map x, false, s.m) := by
  refine (foldl_collect (x := x) (fun l i => ?_) (countFrom 0 n) []).trans (by rw [List.nil_append])
  simp only [h.voted pc (req := fun c => req c i) (hx i)]
  rfl

theorem blockCheck_ok {m : Mach} {cl a n kind : Nat} {priv : Bool} (hr : blockInData a n = true) (ha : a % 8 = 0)
    (hp : m.kilnDeniedBlock cl a n kind priv = none) : m.blockCheck cl a n kind priv = (none, m) := by
  simp [Mach.blockCheck, hr, ha, hp]

theorem readWords_clean {m : Mach} {cl : Nat} {addrs : List Nat} (h : ∀ a ∈ addrs, m.clean (readAddr cl a) 8) :
    m.readWords cl addrs = (0, false, m) := by
  unfold Mach.readWords
  induction addrs with
  | nil => rfl
  | cons a addrs ih =>
    obtain ⟨ha, hrest⟩ := List.forall_mem_cons.mp h
    rw [List.foldl_cons]
    simp only [m.eccRead_clean _ _ _ ha]
    exact ih hrest

/-- A word counts at most one granule. -/
theorem newGranules_word (m : Mach) {a : Nat} (ha : a % 8 = 0) : (m.newGranules a 8).length ≤ 1 := by
  have h := List.length_filter_le (fun g => m.retained g && (assocGet m.tick.delta g).isNone)
    (countFrom (a / 8) ((a + 8 + 7) / 8 - a / 8))
  rw [countFrom_length] at h
  exact h.trans (by omega)

/-- Words that may be written and fit the retained delta are stored. -/
theorem writeWords_ok {m : Mach} {cl : Nat} {priv : Bool} {ws : List VReq} (ha : ∀ w ∈ ws, w.addr.toNat % 8 = 0)
    (hp : ∀ w ∈ ws, m.kilnDenied cl w.addr.toNat 1 priv = none) (hd : m.tick.delta.length + ws.length ≤ 1024) :
    m.writeWords cl priv ws = (none, m.storeWords cl (ws.map fun w => (w.addr.toNat, w.data.toNat))) := by
  have hfind : (ws.findSome? fun w => (m.kilnDenied cl w.addr.toNat 1 priv).map fun r => (w.addr.toNat, r)) = none := by
    rw [List.findSome?_eq_none_iff]
    intro w hw
    rw [hp w hw]; rfl
  have hlen : (ws.flatMap fun w => m.newGranules w.addr.toNat 8).length ≤ ws.length := by
    rw [List.length_flatMap]
    calc (ws.map fun w => (m.newGranules w.addr.toNat 8).length).sum ≤ (ws.map fun _ => 1).sum :=
          List.sum_le_sum fun w hw => newGranules_word m (ha w hw)
      _ = ws.length := by simp
  have hfull : m.deltaFull (ws.flatMap fun w => m.newGranules w.addr.toNat 8) = false := by
    rw [Mach.deltaFull, decide_eq_false_iff_not]; omega
  simp only [Mach.writeWords, hfind, hfull, Bool.false_eq_true, if_false, Mach.storeWords, List.foldl_map]

end Sys2Proof.Machine
end

section
/-! SUPPORT. A call that passes its checks, and the return from it (R81 to R83, R130). -/

namespace Sys2Proof.Machine

/-! ### The call record -/

/-- The call record of a core: addresses and words (R82). -/
def callRecord (c : Core) : List (Nat × Nat) :=
  [((c.rd 29).toNat - 32, c.pc.toNat + 4), ((c.rd 29).toNat - 24, (c.rd 30).toNat),
    ((c.rd 29).toNat - 16, c.unit.toNat + c.c.toNat / 2 * 2 * 2 ^ 16 + b2n c.sys * 2 ^ 24), ((c.rd 29).toNat - 8, 0)]

/-- The words that a core asks to write for its call. -/
def callReq (c : Core) (i : Nat) : VReq :=
  ⟨c.rd 29 - 32 + BitVec.ofNat 64 (8 * i), BitVec.ofNat 64 (callWord c i)⟩

theorem callReq_addr {c : Core} {i : Nat} (hlo : 32 ≤ (c.rd 29).toNat) (hi : i < 4) :
    (callReq c i).addr.toNat = (c.rd 29).toNat - 32 + 8 * i := by
  have hlt := (c.rd 29).isLt
  have h32 : (32 : Word).toNat = 32 := rfl
  simp only [callReq, BitVec.toNat_add, BitVec.toNat_sub, BitVec.toNat_ofNat, h32]
  omega

theorem callWord_lt (c : Core) {i : Nat} (hi : i < 4) : callWord c i < 2 ^ 64 := by
  have hpc := c.pc.isLt
  have hg := (c.rd 30).isLt
  have hu := c.unit.isLt
  have hc := c.c.isLt
  have hs : b2n c.sys ≤ 1 := by unfold b2n; split <;> omega
  interval_cases i <;> simp only [callWord] <;> omega

theorem callReq_data (c : Core) {i : Nat} (hi : i < 4) : (callReq c i).data.toNat = callWord c i := by
  rw [callReq, BitVec.toNat_ofNat, Nat.mod_eq_of_lt (callWord_lt c hi)]

/-- The words that are asked for are the call record. -/
theorem callReq_record {c : Core} (hlo : 32 ≤ (c.rd 29).toNat) :
    ((countFrom 0 4).map (callReq c)).map (fun w => (w.addr.toNat, w.data.toNat)) = callRecord c := by
  have h (i : Nat) (hi : i < 4) : ((callReq c i).addr.toNat, (callReq c i).data.toNat) =
      ((c.rd 29).toNat - 32 + 8 * i, callWord c i) := by rw [callReq_addr hlo hi, callReq_data c hi]
  simp only [countFrom, List.map_cons, List.map_nil, h 0 (by omega), h 1 (by omega), h 2 (by omega), h 3 (by omega),
    callRecord, callWord]
  simp only [List.cons.injEq, Prod.mk.injEq, and_true]
  omega

theorem callRecord_aligned {c : Core} (hlo : 32 ≤ (c.rd 29).toNat) (ha : (c.rd 29).toNat % 8 = 0) :
    ∀ w ∈ callRecord c, w.1 % 8 = 0 := by
  simp only [callRecord, List.forall_mem_cons, List.not_mem_nil, false_imp_iff, implies_true, and_true]
  omega

theorem callRecord_within {c : Core} (hlo : 32 ≤ (c.rd 29).toNat) {x : Nat}
    (hx : x < (c.rd 29).toNat - 32 ∨ (c.rd 29).toNat ≤ x) : ∀ w ∈ callRecord c, x < w.1 ∨ w.1 + 8 ≤ x := by
  simp only [callRecord, List.forall_mem_cons, List.not_mem_nil, false_imp_iff, implies_true, and_true]
  omega

/-- What a call does to a core (R81). -/
def callEff (f : BitVec 5) (entry : Nat) (sys : Bool) (u : Nat) (c : Core) : Eff :=
  { core := { (c.wr 29 (c.rd 29 - 32)).wr 30 (c.rd f) with
      pc := BitVec.ofNat 32 entry, sys := sys, unit := BitVec.ofNat 16 u }
    addr := (c.rd 29 - 32).setWidth 32 }

/-- What a return with the words `w` of the call record does to a core (R83). -/
def retEff (w : Nat → Nat) (c : Core) : Eff :=
  { core := { ((c.wr 30 (BitVec.ofNat 64 (w 1))).wr 29 (c.rd 29 + 32)).wrCs (BitVec.ofNat 8 (bits (w 2) 23 16)) with
      pc := BitVec.ofNat 32 (w 0), sys := bitOf (w 2) 24, unit := BitVec.ofNat 16 (w 2) }
    addr := (c.rd 29).setWidth 32 }

/-- What the stack and the protection must grant a call (R81). -/
structure CallRoom (cl : Nat) (m : Mach) (c : Core) (floor : Nat) : Prop where
  room : floor + 32 ≤ (c.rd 29).toNat
  range : blockInData ((c.rd 29).toNat - 32) 32 = true
  align : (c.rd 29).toNat % 8 = 0
  block : m.kilnDeniedBlock cl ((c.rd 29).toNat - 32) 32 1 true = none
  delta : m.tick.delta.length + 4 ≤ 1024
  words : ∀ i < 4, m.kilnDenied cl ((c.rd 29).toNat - 32 + 8 * i) 1 true = none

section calls
variable {cl : ClusterId} {s : State} {c : Core} {sl : Slice}

/-- The four words of a call with room are stored. -/
theorem CallRoom.written {floor : Nat} (hroom : CallRoom cl s.m c floor) :
    s.m.writeWords cl true ((countFrom 0 4).map (callReq c)) = (none, s.m.storeWords cl (callRecord c)) := by
  obtain ⟨hfloor, _, ha, _, hdelta, hwords⟩ := hroom
  have hlo : 32 ≤ (c.rd 29).toNat := by omega
  have haddr : ∀ w ∈ (countFrom 0 4).map (callReq c), ∃ i < 4, w.addr.toNat = (c.rd 29).toNat - 32 + 8 * i := by
    intro w hw
    obtain ⟨i, hi, rfl⟩ := List.mem_map.mp hw
    have hi4 : i < 4 := by have := (countFrom_mem hi).2; omega
    exact ⟨i, hi4, callReq_addr hlo hi4⟩
  rw [writeWords_ok (fun w hw => ?_) (fun w hw => ?_) (by simpa [countFrom_length] using hdelta), callReq_record hlo]
  · obtain ⟨i, _, hi⟩ := haddr w hw
    omega
  · obtain ⟨i, hi4, hi⟩ := haddr w hw
    rw [hi]
    exact hwords i hi4

/-- A call that passes the checks of its unit and of its stack stores the call record and enters the unit. -/
theorem ucallBody_ok (h : Ready cl s c) (hsl : (s.m.kiln cl).slice = some sl) {f : BitVec 5} {unit : Core → Nat}
    {u ua : Nat} (hunit : unit c = u) (hu : u < s.m.prog.units) (hua : s.m.unitAt u = ua) (hr : ua + 16 ≤ 0x01800000)
    (hclean : s.m.clean ua 16) (hx : callFault s.m c (s.m.taskEnt sl.task).floor f ua = none)
    (hroom : CallRoom cl s.m c (s.m.taskEnt sl.task).floor) :
    ucallBody cl f unit s.m (s.tri cl) c = ⟨s.m.storeWords cl (callRecord c), 0, 12,
      .ok (callEff f (s.m.mem.ldN ua 4) (decide ((s.m.mem.ld8 (ua + 8)).toNat % 2 = 1)) u)⟩ := by
  subst hunit
  have haddr : (BitVec.ofNat 64 (s.m.unitAt (unit c))).toNat = ua := by
    rw [BitVec.toNat_ofNat, hua, Nat.mod_eq_of_lt (by omega)]
  have hindex : (ua - s.m.prog.unitBase) / 16 = unit c := by
    rw [← hua, Mach.unitAt, Nat.add_sub_cancel_left, Nat.mul_div_cancel_left _ (by decide)]
  have hcheck := blockCheck_ok (m := s.m) hroom.range (by have := hroom.align; have := hroom.room; omega) hroom.block
  unfold callFault badEntry badFrame noGate at hx
  split_ifs at hx with hentry hframe hgate hfloor
  unfold ucallBody
  extract_lets pc
  rw [h.voted pc ?asked]
  case asked => exact if_pos hu
  simp only [haddr, Mach.eccRead_clean _ _ _ _ hclean, h.machLead, hsl, Memory.ldN_one, Nat.testBit_zero, testBit_one_eq,
    Bool.false_eq_true, if_false, hindex, hcheck, if_neg hentry, if_neg hframe, if_neg hgate, if_neg hfloor]
  rw [h.voteWords (x := callReq c) fun _ => rfl]
  simp only [hroom.written, Bool.false_eq_true, if_false]
  rfl

/-- A return whose checks pass restores what the call record holds. -/
theorem uretBody_ok (h : Ready cl s c) (hsl : (s.m.kiln cl).slice = some sl)
    (htop : (c.rd 29).toNat < (s.m.taskEnt sl.task).top) (hr : blockInData (c.rd 29).toNat 32 = true)
    (ha : (c.rd 29).toNat % 8 = 0) (hp : s.m.kilnDeniedBlock cl (c.rd 29).toNat 32 0 true = none)
    (hclean : ∀ i < 4, s.m.clean (readAddr cl ((c.rd 29).toNat + 8 * i)) 8)
    (ht : targetCheck (s.m.mem.ldN (readAddr cl (c.rd 29).toNat) 8) = none) :
    uretBody cl s.m (s.tri cl) c =
      ⟨s.m, 0, 10, .ok (retEff fun i => s.m.mem.ldN (readAddr cl ((c.rd 29).toNat + 8 * i)) 8)⟩ := by
  have hwords : ∀ x ∈ [(c.rd 29).toNat, (c.rd 29).toNat + 8, (c.rd 29).toNat + 16, (c.rd 29).toNat + 24],
      s.m.clean (readAddr cl x) 8 := by
    simp only [List.forall_mem_cons, List.not_mem_nil, false_imp_iff, implies_true, and_true]
    exact ⟨hclean 0 (by decide), hclean 1 (by decide), hclean 2 (by decide), hclean 3 (by decide)⟩
  unfold uretBody
  extract_lets top
  rw [h.voted c.pc.toNat ?asked]
  case asked => exact if_pos (by simpa only [top, hsl] using htop)
  simp only [blockCheck_ok hr ha hp, readWords_clean hwords, Bool.false_eq_true, if_false, Nat.mul_zero, Nat.add_zero, ht]
  rfl

end calls

end Sys2Proof.Machine
end

section
/-! SUPPORT. What a call and a return leave in a core (R81, R83). -/

namespace Sys2Proof.Machine

theorem callEff_rd (f : BitVec 5) (entry : Nat) (sys : Bool) (u : Nat) (c : Core) (r : BitVec 5) :
    (callEff f entry sys u c).core.rd r = if r = 29 then c.rd 29 - 32 else if r = 30 then c.rd f else c.rd r := by
  show ((c.wr 29 (c.rd 29 - 32)).wr 30 (c.rd f)).rd r = _
  rw [Core.rd_wr, Core.rd_wr]
  by_cases h29 : r = 29
  · subst h29; rfl
  · by_cases h30 : r = 30
    · subst h30; rfl
    · rw [if_neg (h30 ·.1), if_neg (h29 ·.1), if_neg h29, if_neg h30]

theorem retEff_rd (w : Nat → Nat) (c : Core) (r : BitVec 5) :
    (retEff w c).core.rd r = if r = 29 then c.rd 29 + 32 else if r = 30 then BitVec.ofNat 64 (w 1) else c.rd r := by
  show ((c.wr 30 (BitVec.ofNat 64 (w 1))).wr 29 (c.rd 29 + 32)).rd r = _
  rw [Core.rd_wr, Core.rd_wr]
  by_cases h29 : r = 29
  · subst h29; rfl
  · by_cases h30 : r = 30
    · subst h30; rfl
    · rw [if_neg (h29 ·.1), if_neg (h30 ·.1), if_neg h29, if_neg h30]

theorem wr_conds (c : Core) (r : BitVec 5) (v : Word) : (c.wr r v).c = c.c := by unfold Core.wr; split <;> rfl
theorem wr_flags (c : Core) (r : BitVec 5) (v : Word) : (c.wr r v).fpf = c.fpf := by unfold Core.wr; split <;> rfl

/-- The memory after an instruction has retired is that of its own part. -/
theorem Retired.mem {cl : Nat} {s : State} {m : Mach} {c' : Core} {cost : Nat} {t : State} (h : Retired cl s m c' cost t) :
    t.m.mem = m.mem := by
  obtain ⟨_, _, _, _, hrest⟩ := h.rest
  rw [hrest, Mach.setKiln_mem]

/-- A field is cut by the width it is put into. -/
theorem ofNat_bits (v : Nat) : BitVec.ofNat 8 (bits v 23 16) = BitVec.ofNat 8 (v / 2 ^ 16) := by
  apply BitVec.eq_of_toNat_eq
  rw [BitVec.toNat_ofNat, BitVec.toNat_ofNat, bits, Nat.mod_mod]

theorem targetCheck_ok {a : Nat} (hd : inData a = true) (ha : a % 4 = 0) : targetCheck a = none := by
  simp [targetCheck, hd, ha]

/-- A call whose unit, right and stack suit passes every check (R81). -/
theorem callFault_none {m : Mach} {c : Core} {floor ua : Nat} {f : BitVec 5} (hd : inData (m.mem.ldN ua 4) = true)
    (ha : m.mem.ldN ua 4 % 4 = 0)
    (hf : m.mem.ldN (ua + 4) 4 = 0 ∨ (c.rd f).toNat % 64 = 0 ∧ (c.rd f).toNat + m.mem.ldN (ua + 4) 4 ≤ 0x017E0000)
    (hg : c.sys = true ∨ decide ((m.mem.ld8 (ua + 8)).toNat % 2 = 1) = false ∨ (m.mem.ld8 (ua + 8)).toNat / 2 % 2 = 1)
    (hroom : floor + 32 ≤ (c.rd 29).toNat) : callFault m c floor f ua = none := by
  have hframe : badFrame m ua (c.rd f).toNat = false := by
    obtain hsize | ⟨halign, hend⟩ := hf
    · simp [badFrame, hsize]
    · simp [badFrame, halign, hend]
  have hgate : noGate m c.sys ua = false := by
    obtain hsys | huser | hgate := hg
    · simp [noGate, hsys]
    · rw [noGate, huser, Bool.and_false, Bool.false_and]
    · simp [noGate, hgate]
  simp only [callFault, badEntry_false hd ha, hframe, hgate, Bool.false_eq_true, if_false, if_neg (Nat.not_lt.mpr hroom)]

end Sys2Proof.Machine
end

section
open Sys2Proof Sys2Proof.Machine

/-- Settles O22: a call that passes its checks stores its four words and enters the unit; a return restores them. -/
theorem unitCallsAndReturn : Obligations.UnitCallsAndReturn := by
  unfold Obligations.UnitCallsAndReturn
  refine ⟨fun cl f g s c sl u h hsl hu hu16 => ?_, fun cl s c sl h hsl => ?_⟩
  · extract_lets ua entry size flags system g29 frame made
    intro hua hclean hd ha hf hg hfloor hrange halign hblock hdelta hwords
    have hroom : CallRoom cl s.m c (s.m.taskEnt sl.task).floor := ⟨hfloor, hrange, halign, hblock, hdelta, hwords⟩
    have hlo : 32 ≤ (c.rd 29).toNat := by omega
    have hpass := callFault_none hd ha hf hg hfloor
    have haligned := callRecord_aligned hlo halign
    have hregs := storeWords_regs cl haligned s.m
    obtain ⟨hslice, hstep⟩ := storeWords_kiln cl haligned s.m
    have key {i : Instr} {unit : Core → Nat} (hi : exec i s = .next (execInstr cl false false (ucallBody cl f unit) s))
        (hunit : unit c = u) : made i := by
      have hret := ready_retires h false (ucallBody cl f unit) (by simp)
        (ucallBody_ok h hsl hunit hu rfl hua hclean hpass hroom) (actives_of_regs hregs cl) hslice (hstep.trans h.single)
      refine ⟨_, hi, _, fun r => callEff_rd f entry system u c r, ?_, ?_, rfl, rfl, rfl, hret, fun x hx => ?_⟩
      · exact (wr_conds _ _ _).trans (wr_conds _ _ _)
      · exact (wr_flags _ _ _).trans (wr_flags _ _ _)
      · rw [hret.mem]
        exact storeWords_ld8 cl haligned s.m (callRecord_within hlo hx)
    exact ⟨key rfl (by rw [BitVec.toNat_ofNat]; omega), fun hgu => key rfl hgu⟩
  · extract_lets g29 w
    intro htop hrange halign hblock hclean hd ha
    have hbody := uretBody_ok h hsl htop hrange halign hblock hclean (targetCheck_ok hd ha)
    refine .next ⟨_, fun r => retEff_rd w c r, ?_, ?_, rfl, ?_, rfl,
      ready_retires h false (uretBody cl) (by simp) hbody rfl rfl h.single⟩
    · show BitVec.ofNat 8 (bits (w 2) 23 16) ||| 1 = _
      rw [ofNat_bits]
    · exact (wr_flags _ _ _).trans (wr_flags _ _ _)
    · exact Nat.testBit_eq_decide_div_mod_eq
end

section
/-! SUPPORT. How an RR instruction is passed over, refused or retired by the shape of its word (R95, R97, R98, R111). -/

namespace Sys2Proof.Machine

/-! ### Which RR words are reserved -/

theorem FieldUse.bad_cond {x : BitVec 5} : FieldUse.cond.bad x = false ↔ x.toNat < 8 := by
  simp [FieldUse.bad, condOk]

theorem FieldUse.bad_zero {x : BitVec 5} : FieldUse.zero.bad x = false ↔ x = 0 := by
  simp [FieldUse.bad]

theorem predReserved_eq_false {r : RR} (h : r.pc ≠ 0 ∨ r.pn = false) : predReserved r = false := by
  obtain hpc | hpn := h
  · rw [predReserved, decide_eq_false hpc, Bool.false_and]
  · rw [predReserved, hpn, Bool.and_false]

/-- A word whose predicate and whose fields are in range is not reserved. -/
theorem rrReserved_eq_false {d a b : FieldUse} {r : RR} (hp : r.pc ≠ 0 ∨ r.pn = false) (hd : d.bad r.d = false)
    (ha : a.bad r.a = false) (hb : b.bad r.b = false) : rrReserved d a b r = false := by
  simp [rrReserved, predReserved_eq_false hp, hd, ha, hb]

theorem rrReserved_of_pred {d a b : FieldUse} {r : RR} (hpc : r.pc = 0) (hpn : r.pn = true) :
    rrReserved d a b r = true := by
  simp [rrReserved, predReserved, hpc, hpn]

theorem rrReserved_of_cond {a b : FieldUse} {r : RR} (hd : 8 ≤ r.d.toNat) : rrReserved .cond a b r = true := by
  simp [rrReserved, FieldUse.bad, condOk, hd]

theorem rrReserved_of_zero {d a : FieldUse} {r : RR} (hb : r.b ≠ 0) : rrReserved d a .zero r = true := by
  have hbad : FieldUse.zero.bad r.b = true := decide_eq_true hb
  rw [rrReserved, hbad, Bool.or_true]

/-! ### What a ready cluster makes of them -/

theorem movesPc_next (c : Core) : MovesPc (c.pc + 4) c c.next := ⟨fun _ => rfl, rfl, rfl, rfl, rfl, rfl⟩

theorem movesPc_set (c : Core) (target : BitVec 32) : MovesPc target c { c with pc := target } :=
  ⟨fun _ => rfl, rfl, rfl, rfl, rfl, rfl⟩

section forms
variable {cl : ClusterId} {s : State} {c : Core} {r : RR} {i : Instr} {d a b : FieldUse}

/-- An RR instruction whose predicate fails moves the pc on and does nothing else (R97, R98). -/
theorem rr_passes_over (h : Ready cl s c) (hp : xor (c.cb r.pc) r.pn = false) (hr : rrReserved d a b r = false)
    (he : ∃ body, exec i s = .next (execRR cl r d a b body s)) :
    Completes (exec i s) fun t => ∃ c', MovesPc (c.pc + 4) c c' ∧ Retired cl s s.m c' 1 t := by
  obtain ⟨body, hexec⟩ := he
  rw [hexec]
  exact .next ⟨c.next, movesPc_next c, ready_rr_skip h hr hp⟩

/-- A reserved word raises ILLEGAL (R111). -/
theorem reserved_raises (h : Ready cl s c) {sl : Slice} (hsl : (s.m.kiln cl).slice = some sl) (ht : sl.task < 16)
    (body : Mach → Tri → Core → StepOut) :
    Completes (.next (execInstr cl true false body s)) (Raised cl s sl 0x09) := by
  rw [execInstr_reserved h]
  exact .next (charged_raised (m := s.m) rfl rfl hsl ht (by decide))

theorem rr_reserved_raises (h : Ready cl s c) {sl : Slice} (hsl : (s.m.kiln cl).slice = some sl) (ht : sl.task < 16)
    (he : ∃ d a b body, exec i s = .next (execRR cl r d a b body s) ∧ rrReserved d a b r = true) :
    Completes (exec i s) (Raised cl s sl 0x09) := by
  obtain ⟨d, a, b, body, hexec, hr⟩ := he
  rw [hexec, execRR, hr]
  exact reserved_raises h hsl ht _

/-- An RR instruction that only computes retires with its effect when its predicate holds. -/
theorem rr_computes (h : Ready cl s c) (hf : Fires c r) (hd : d.bad r.d = false) (ha : a.bad r.a = false)
    (hb : b.bad r.b = false) {W : Core → Prop} {cost : Nat}
    (he : ∃ eff, exec i s = .next (execRR cl r d a b (pureStep cost eff) s) ∧ W (eff c).core) :
    Completes (exec i s) fun t => ∃ c', W c' ∧ Retired cl s s.m c' cost t := by
  obtain ⟨eff, hexec, hw⟩ := he
  rw [hexec]
  exact .next ⟨_, hw, ready_rr h (rrReserved_eq_false hf.1 hd ha hb) hf.predicate rfl rfl rfl h.single⟩

/-- An instruction of another form that only computes retires with its effect. -/
theorem instr_computes (h : Ready cl s c) {sysOnly : Bool} (hs : sysOnly = true → c.sys = true) {W : Core → Prop}
    {cost : Nat} (he : ∃ eff, exec i s = .next (execInstr cl false sysOnly (pureStep cost eff) s) ∧ W (eff c).core) :
    Completes (exec i s) fun t => ∃ c', W c' ∧ Retired cl s s.m c' cost t := by
  obtain ⟨eff, hexec, hw⟩ := he
  rw [hexec]
  exact .next ⟨_, hw, ready_retires h sysOnly _ hs rfl rfl rfl h.single⟩

end forms

end Sys2Proof.Machine
end

section
open Sys2Proof Sys2Proof.Machine

/-- Settles O6: every instruction listed has the RR form, whose predicate is looked at before the own part acts. -/
theorem failedPredicatePassesOver : Obligations.FailedPredicatePassesOver := by
  unfold Obligations.FailedPredicatePassesOver
  intro cl f r s c h hp hres
  have hgreg : rrReserved .greg .greg .greg r = false := rrReserved_eq_false hres rfl rfl rfl
  have hcond (hd : r.d.toNat < 8) : rrReserved .cond .greg .greg r = false :=
    rrReserved_eq_false hres (FieldUse.bad_cond.mpr hd) rfl rfl
  refine ⟨fun i hi => rr_passes_over h hp hgreg ?_, fun hd i hi => rr_passes_over h hp (hcond hd) ?_⟩
  all_goals
    revert i
    simp only [List.forall_mem_cons, List.not_mem_nil, false_imp_iff, implies_true, and_true]
    and_intros <;> exact ⟨_, rfl⟩

/-- Settles O7: the word is reserved by its predicate, by its condition field, by its b field or as a whole, and a
reserved word raises ILLEGAL before the instruction acts. -/
theorem reservedFieldsRaiseIllegal : Obligations.ReservedFieldsRaiseIllegal := by
  unfold Obligations.ReservedFieldsRaiseIllegal
  intro cl r s c sl h hsl ht
  refine ⟨fun hpc hpn i hi => rr_reserved_raises (r := r) h hsl ht ?_,
    fun hd i hi => rr_reserved_raises (r := r) h hsl ht ?_,
    fun hb i hi => rr_reserved_raises (r := r) h hsl ht ?_, fun w hw => ?_⟩
  · revert i
    simp only [List.forall_mem_cons, List.not_mem_nil, false_imp_iff, implies_true, and_true]
    and_intros <;> exact ⟨_, _, _, _, rfl, rrReserved_of_pred hpc hpn⟩
  · revert i
    simp only [List.forall_mem_cons, List.not_mem_nil, false_imp_iff, implies_true, and_true]
    and_intros <;> exact ⟨_, _, _, _, rfl, rrReserved_of_cond hd⟩
  · revert i
    simp only [List.forall_mem_cons, List.not_mem_nil, false_imp_iff, implies_true, and_true]
    and_intros <;> exact ⟨_, _, _, _, rfl, rrReserved_of_zero hb⟩
  · have hexec : exec (.illegalEncoding cl w) s =
        .next (execInstr cl true false (fun m _ _ => { m := m, cost := 1, res := .exc 9 }) s) :=
      congrArg Host.Outcome.next (if_pos hw)
    rw [hexec]
    exact reserved_raises h hsl ht _
end

section
/-! SUPPORT. Comparisons into condition bits, and the immediate operands as integer arithmetic (R102, R104, R121). -/

namespace Sys2Proof.Machine

/-! ### Comparisons of the low words -/

theorem setWidth_eq_iff_low (a b : Word) : (a.setWidth 32 = b.setWidth 32) ↔ low a = low b := by
  rw [low_eq_toInt, low_eq_toInt, BitVec.toInt_inj]

theorem slt_low (a b : Word) : (a.setWidth 32).slt (b.setWidth 32) = decide (low a < low b) := by
  rw [low_eq_toInt, low_eq_toInt, BitVec.slt]

theorem ult_low (a b : Word) : (a.setWidth 32).ult (b.setWidth 32) = decide (a.toNat % 2 ^ 32 < b.toNat % 2 ^ 32) := by
  rw [BitVec.ult, BitVec.toNat_setWidth, BitVec.toNat_setWidth]

/-! ### Immediate operands -/

theorem sx16_eq (v : BitVec 16) : sx16 v = BitVec.ofInt 64 v.toInt := rfl

theorem add_sx16 (a : Word) (v : BitVec 16) : a + sx16 v = BitVec.ofInt 64 (a.toInt + v.toInt) := by
  rw [BitVec.ofInt_add, BitVec.ofInt_toInt, sx16_eq]

/-- The low bits of a word that holds an integer. -/
theorem setWidth_ofInt_low (z : Int) : (BitVec.ofInt 64 z).setWidth 32 = BitVec.ofInt 32 z := by
  apply BitVec.eq_of_toNat_eq
  rw [BitVec.toNat_setWidth, BitVec.toNat_ofInt, BitVec.toNat_ofInt]
  omega

theorem add_sx16_low (a : Word) (v : BitVec 16) : ((a + sx16 v).setWidth 32).signExtend 64 =
    BitVec.ofInt 64 (Int.bmod (a.toInt + v.toInt) (2 ^ 32)) := by
  rw [add_sx16, setWidth_ofInt_low, signExtend_ofInt]

/-- A sign-extended halfword is a given word only if the two hold one integer. -/
theorem eq_sx16_iff (a : Word) (v : BitVec 16) : a = sx16 v ↔ a.toInt = v.toInt := by
  rw [← BitVec.toInt_inj, sx16, BitVec.toInt_signExtend_of_le (by decide)]

theorem slt_sx16 (a : Word) (v : BitVec 16) : a.slt (sx16 v) = decide (a.toInt < v.toInt) := by
  rw [BitVec.slt, (eq_sx16_iff _ v).mp rfl]

/-- A halfword inserted below a word moved up (R102). -/
theorem append_eq_ofNat {w : Nat} (a : BitVec w) (v : BitVec 16) :
    a ++ v = BitVec.ofNat (w + 16) (a.toNat * 2 ^ 16 + v.toNat) := by
  apply BitVec.eq_of_toNat_eq
  have ha := a.isLt
  have hv := v.isLt
  have hlt : a.toNat * 2 ^ 16 + v.toNat < 2 ^ (w + 16) := by rw [pow_add]; omega
  rw [BitVec.toNat_append, ← Nat.shiftLeft_add_eq_or_of_lt hv, Nat.shiftLeft_eq, BitVec.toNat_ofNat,
    Nat.mod_eq_of_lt hlt]

theorem shiftLeft_or_eq_ofNat (a : Word) (v : BitVec 16) :
    (a <<< 16) ||| v.setWidth 64 = BitVec.ofNat 64 (a.toNat * 2 ^ 16 + v.toNat) := by
  apply BitVec.eq_of_toNat_eq
  have hv := v.isLt
  have hhigh : a.toNat * 2 ^ 16 % 2 ^ 64 = (a.toNat % 2 ^ 48) <<< 16 := by rw [Nat.shiftLeft_eq]; omega
  rw [BitVec.toNat_or, BitVec.toNat_shiftLeft, Nat.shiftLeft_eq, hhigh, BitVec.toNat_setWidth,
    Nat.mod_eq_of_lt (hv.trans (by decide)), ← Nat.shiftLeft_add_eq_or_of_lt hv, BitVec.toNat_ofNat, ← hhigh]
  omega

theorem append_low_signExtend (a : Word) (v : BitVec 16) : ((a.setWidth 16 ++ v : BitVec 32)).signExtend 64 =
    BitVec.ofInt 64 (Int.bmod ((a.toNat * 2 ^ 16 + v.toNat : Nat) : Int) (2 ^ 32)) := by
  have hlow : (a.toNat % 2 ^ 16 * 2 ^ 16 + v.toNat) % 2 ^ 32 = (a.toNat * 2 ^ 16 + v.toNat) % 2 ^ 32 := by omega
  have hofNat : BitVec.ofNat 32 (a.toNat % 2 ^ 16 * 2 ^ 16 + v.toNat) = BitVec.ofNat 32 (a.toNat * 2 ^ 16 + v.toNat) := by
    apply BitVec.eq_of_toNat_eq
    rw [BitVec.toNat_ofNat, BitVec.toNat_ofNat, hlow]
  rw [append_eq_ofNat, BitVec.toNat_setWidth, hofNat, signExtend_ofNat]

/-! ### Shifts by an immediate -/

/-- The 64-bit shift or rotation of kind `k` by `n` (R102), as integer arithmetic. -/
def shifted (k n : Nat) (a : Word) : Word :=
  if k = 0 then BitVec.ofNat 64 (a.toNat * 2 ^ n)
  else if k = 1 then BitVec.ofNat 64 (a.toNat / 2 ^ n)
  else if k = 2 then BitVec.ofInt 64 (a.toInt / 2 ^ n)
  else BitVec.ofNat 64 (a.toNat / 2 ^ n + a.toNat * 2 ^ (64 - n))

/-- The 32-bit shift or rotation of kind `k` by `n` (R102), as integer arithmetic. -/
def shiftedLow (k n : Nat) (a : Word) : Word :=
  let x := a.toNat % 2 ^ 32
  if k = 0 then BitVec.ofInt 64 (Int.bmod ((x * 2 ^ n : Nat) : Int) (2 ^ 32))
  else if k = 1 then BitVec.ofInt 64 (Int.bmod ((x / 2 ^ n : Nat) : Int) (2 ^ 32))
  else if k = 2 then BitVec.ofInt 64 (low a / 2 ^ n)
  else BitVec.ofInt 64 (Int.bmod ((x / 2 ^ n + x * 2 ^ (32 - n) : Nat) : Int) (2 ^ 32))

theorem shift64_eq (k : Nat) {n : Nat} (hn : n < 64) (a : Word) :
    (if k = 0 then a <<< n else if k = 1 then a >>> n else if k = 2 then a.sshiftRight n else a.rotateRight n) =
      shifted k n a := by
  unfold shifted
  split_ifs
  · exact shiftLeft_eq_ofNat a n
  · exact ushiftRight_eq_ofNat a n
  · exact sshiftRight_eq_ofInt a n
  · exact rotateRight_eq_ofNat a hn

theorem shift32_eq (k : Nat) {n : Nat} (hn : n < 32) (a : Word) :
    (if k = 0 then a.setWidth 32 <<< n else if k = 1 then a.setWidth 32 >>> n
      else if k = 2 then (a.setWidth 32).sshiftRight n else (a.setWidth 32).rotateRight n).signExtend 64 =
      shiftedLow k n a := by
  unfold shiftedLow
  split_ifs
  · rw [shiftLeft_eq_ofNat, BitVec.toNat_setWidth, signExtend_ofNat]
  · rw [ushiftRight_eq_ofNat, BitVec.toNat_setWidth, signExtend_ofNat]
  · rw [BitVec.signExtend, BitVec.toInt_sshiftRight, Int.shiftRight_eq_div_pow, low_eq_toInt]
    norm_num
  · rw [rotateRight_eq_ofNat _ hn, BitVec.toNat_setWidth, signExtend_ofNat]

/-- The shift that SHI makes: bit 8 of its immediate chooses the width (R102). -/
theorem shiftImm_eq {imm : BitVec 16} (h : imm.toNat < 512) (a : Word) : shiftImm imm a =
    if imm.toNat < 256 then shifted (imm.toNat / 64 % 4) (imm.toNat % 64) a
    else shiftedLow (imm.toNat / 64 % 4) (imm.toNat % 64 % 32) a := by
  have hbit : imm.toNat.testBit 8 = decide (¬ imm.toNat < 256) := by
    rw [Nat.testBit_eq_decide_div_mod_eq]
    exact decide_eq_decide.mpr (by omega)
  have hkind : bits imm.toNat 7 6 = imm.toNat / 64 % 4 := rfl
  unfold shiftImm
  rw [hbit, hkind, ← shift64_eq _ (Nat.mod_lt _ (by decide)), ← shift32_eq _ (Nat.mod_lt _ (by decide))]
  by_cases h256 : imm.toNat < 256
  · rw [if_pos h256, decide_eq_false (not_not.mpr h256)]
    rfl
  · rw [if_neg h256, decide_eq_true h256]
    rfl

/-! ### The instructions -/

section forms
variable {cl : ClusterId} {s : State} {c : Core} {i : Instr}

/-- A comparison of two registers writes its condition bit and retires (R104). -/
theorem cndCmp_completes (h : Ready cl s c) {r : RR} (hf : Fires c r) (hd : r.d.toNat < 8) {g : Word → Word → Bool}
    (he : ∃ f, exec i s = cndCmp cl r f s ∧ ∀ a b, f a b = g a b) : Completes (exec i s) fun t =>
      ∃ c', WritesC (r.d.setWidth 3) (g (c.rd r.a) (c.rd r.b)) c c' ∧ Retired cl s s.m c' 1 t := by
  obtain ⟨f, hexec, hfg⟩ := he
  rw [← hfg]
  exact rr_computes h hf (FieldUse.bad_cond.mpr hd) rfl rfl
    ⟨_, hexec, effC_writes (r.d.setWidth 3) (fun c => f (c.rd r.a) (c.rd r.b)) c⟩

/-- A function of two condition bits writes a third and retires (R104). -/
theorem cndLogic_completes (h : Ready cl s c) {r : RR} (hf : Fires c r) (hd : r.d.toNat < 8) (ha : r.a.toNat < 8)
    (hb : r.b.toNat < 8) {g : Bool → Bool → Bool} (he : exec i s = cndLogic cl r g s) : Completes (exec i s) fun t =>
      ∃ c', WritesC (r.d.setWidth 3) (g (c.cb (r.a.setWidth 3)) (c.cb (r.b.setWidth 3))) c c' ∧
        Retired cl s s.m c' 1 t :=
  rr_computes h hf (FieldUse.bad_cond.mpr hd) (FieldUse.bad_cond.mpr ha) (FieldUse.bad_cond.mpr hb)
    ⟨_, he, effC_writes (r.d.setWidth 3) (fun c => g (c.cb (r.a.setWidth 3)) (c.cb (r.b.setWidth 3))) c⟩

/-- A function of a register and the immediate writes its value and retires (R102). -/
theorem immG_completes (h : Ready cl s c) {r : RI} {g : Word → Word}
    (he : ∃ f, exec i s = immG cl r f s ∧ ∀ a, f a = g a) : Completes (exec i s) fun t =>
      ∃ c', WritesG r.d (g (c.rd r.a)) c c' ∧ Retired cl s s.m c' 1 t := by
  obtain ⟨f, hexec, hfg⟩ := he
  rw [← hfg]
  exact instr_computes h (sysOnly := false) (by simp) ⟨_, hexec, effG_writes r.d (fun c => f (c.rd r.a)) c⟩

/-- A comparison with the immediate writes its condition bit and retires (R102). -/
theorem immC_completes (h : Ready cl s c) {r : RI} (hd : r.d.toNat < 8) {g : Word → Bool}
    (he : ∃ f, exec i s = immC cl r f s ∧ ∀ a, f a = g a) : Completes (exec i s) fun t =>
      ∃ c', WritesC (r.d.setWidth 3) (g (c.rd r.a)) c c' ∧ Retired cl s s.m c' 1 t := by
  obtain ⟨f, hexec, hfg⟩ := he
  have hok : condOk r.d = true := decide_eq_true hd
  rw [immC, hok] at hexec
  rw [← hfg]
  exact instr_computes h (sysOnly := false) (by simp) ⟨_, hexec, effC_writes (r.d.setWidth 3) (fun c => f (c.rd r.a)) c⟩

end forms

end Sys2Proof.Machine
end

section
open Sys2Proof Sys2Proof.Machine

/-- Settles O8: every comparison and every function of condition bits writes its bit; MFC and MTC move all of them. -/
theorem conditionResults : Obligations.ConditionResults := by
  unfold Obligations.ConditionResults
  intro cl r s c h hf
  refine ⟨fun hd => ⟨fun e he => cndCmp_completes h hf hd ?_, fun ha hb e he => cndLogic_completes h hf hd ha hb ?_,
    fun ha hb => rr_computes (a := .cond) h hf (FieldUse.bad_cond.mpr hd) (FieldUse.bad_cond.mpr ha)
      (FieldUse.bad_zero.mpr hb) ⟨_, rfl, effC_writes (r.d.setWidth 3) (fun c => !c.cb (r.a.setWidth 3)) c⟩⟩,
    fun hb ha => rr_computes (d := .greg) h hf rfl (FieldUse.bad_zero.mpr ha) (FieldUse.bad_zero.mpr hb)
      ⟨_, rfl, effG_writes r.d (fun c => c.c.setWidth 64) c⟩,
    fun hb hd => rr_computes (a := .greg) h hf (FieldUse.bad_zero.mpr hd) rfl (FieldUse.bad_zero.mpr hb)
      ⟨_, rfl, movesPc_next (c.wrCs ((c.rd r.a).setWidth 8))⟩⟩
  · revert e
    simp only [List.forall_mem_cons, List.not_mem_nil, false_imp_iff, implies_true, and_true]
    exact ⟨⟨fun a b => decide (a = b), rfl, fun _ _ => rfl⟩, ⟨BitVec.slt, rfl, fun _ _ => rfl⟩,
      ⟨BitVec.ult, rfl, fun _ _ => rfl⟩, ⟨fun a b => decide (a &&& b ≠ 0), rfl, fun _ _ => rfl⟩,
      ⟨fun a b => decide (a.setWidth 32 = b.setWidth 32), rfl, fun a b =>
        decide_eq_decide.mpr (setWidth_eq_iff_low a b)⟩,
      ⟨fun a b => (a.setWidth 32).slt (b.setWidth 32), rfl, slt_low⟩,
      ⟨fun a b => (a.setWidth 32).ult (b.setWidth 32), rfl, ult_low⟩⟩
  · revert e
    simp only [List.forall_mem_cons, List.not_mem_nil, false_imp_iff, implies_true, and_true]
    and_intros <;> rfl

/-- Settles O9: every immediate function is its integer arithmetic; SHI is one of eight shifts by its amount. -/
theorem immediateResults : Obligations.ImmediateResults := by
  unfold Obligations.ImmediateResults
  refine ⟨fun cl r s c h => ⟨fun e he => immG_completes h ?_, fun hd e he => immC_completes h hd ?_⟩,
    fun cl r s c h himm => ?_⟩
  · revert e
    simp only [List.forall_mem_cons, List.not_mem_nil, false_imp_iff, implies_true, and_true]
    exact ⟨⟨fun a => a + sx16 r.imm, rfl, fun a => add_sx16 a r.imm⟩,
      ⟨fun a => ((a + sx16 r.imm).setWidth 32).signExtend 64, rfl, fun a => add_sx16_low a r.imm⟩,
      ⟨fun a => a &&& sx16 r.imm, rfl, fun _ => rfl⟩, ⟨fun a => a ||| sx16 r.imm, rfl, fun _ => rfl⟩,
      ⟨fun a => a ^^^ sx16 r.imm, rfl, fun _ => rfl⟩,
      ⟨fun a => (a <<< 16) ||| r.imm.setWidth 64, rfl, fun a => shiftLeft_or_eq_ofNat a r.imm⟩,
      ⟨fun a => ((a.setWidth 16 ++ r.imm : BitVec 32)).signExtend 64, rfl, fun a => append_low_signExtend a r.imm⟩⟩
  · revert e
    simp only [List.forall_mem_cons, List.not_mem_nil, false_imp_iff, implies_true, and_true]
    exact ⟨⟨fun a => decide (a = sx16 r.imm), rfl, fun a => decide_eq_decide.mpr (eq_sx16_iff a r.imm)⟩,
      ⟨fun a => a.slt (sx16 r.imm), rfl, fun a => slt_sx16 a r.imm⟩,
      ⟨fun a => a.ult (sx16 r.imm), rfl, fun _ => rfl⟩⟩
  · have hres : decide (r.imm.toNat / 512 ≠ 0) = false := by
      rw [Nat.div_eq_of_lt himm]
      rfl
    have hexec : exec (.shi cl r) s = .next (execInstr cl (decide (r.imm.toNat / 512 ≠ 0)) false
        (pureStep 1 (effG r.d fun c => shiftImm r.imm (c.rd r.a))) s) := rfl
    rw [hres] at hexec
    have hw := effG_writes r.d (fun c => shiftImm r.imm (c.rd r.a)) c
    rw [shiftImm_eq himm] at hw
    exact instr_computes h (sysOnly := false) (by simp) ⟨_, hexec, hw⟩
end

section
/-! SUPPORT. The functions of one register as arithmetic: counts, byte order and extensions (R103, R120). -/

namespace Sys2Proof.Machine

/-! ### Counts -/

theorem clz64_eq (a : Word) : clz64 a = BitVec.ofNat 64 (64 - Nat.size a.toNat) := by
  unfold clz64
  split_ifs with h0
  · rw [h0]
    rfl
  · have hne : a.toNat ≠ 0 := fun h => h0 (BitVec.eq_of_toNat_eq h)
    have hsize : Nat.size a.toNat = Nat.log2 a.toNat + 1 :=
      le_antisymm (Nat.size_le.mpr Nat.lt_log2_self) (Nat.lt_size.mpr (Nat.log2_self_le hne))
    rw [hsize]
    congr 1
    omega

/-- The place of the lowest set bit is found if it is among those looked at. -/
theorem ctzGo_eq {a p : Nat} (hp : a.testBit p = true) (hlow : ∀ j < p, a.testBit j = false) :
    ∀ n k, k ≤ p → p < k + n → ctzGo a n k = p := by
  intro n
  induction n with
  | zero => intro k _ _; omega
  | succ n ih =>
    intro k hk hn
    rw [ctzGo]
    obtain hlt | rfl := Nat.lt_or_eq_of_le hk
    · rw [hlow k hlt, if_neg Bool.false_ne_true]
      exact ih (k + 1) hlt (by omega)
    · rw [if_pos hp]

theorem ctzGo_zero (n k : Nat) : ctzGo 0 n k = k + n := by
  induction n generalizing k with
  | zero => rfl
  | succ n ih => rw [ctzGo, Nat.zero_testBit, if_neg Bool.false_ne_true, ih]; omega

/-- The lowest set bit of a number is at the exponent of 2 in it. -/
theorem testBit_padicValNat {a : Nat} (ha : a ≠ 0) :
    a.testBit (padicValNat 2 a) = true ∧ ∀ j < padicValNat 2 a, a.testBit j = false := by
  obtain ⟨q, hq⟩ : 2 ^ padicValNat 2 a ∣ a := pow_padicValNat_dvd
  have hodd : ¬ 2 ∣ q := fun ⟨u, hu⟩ =>
    pow_succ_padicValNat_not_dvd (p := 2) ha ⟨u, by rw [pow_succ, mul_assoc, ← hu, ← hq]⟩
  generalize padicValNat 2 a = p at hq
  subst hq
  refine ⟨?_, fun j hj => ?_⟩
  · rw [Nat.testBit_two_pow_mul, Nat.sub_self, Nat.testBit_zero]
    simp only [ge_iff_le, le_refl, decide_true, Bool.true_and, decide_eq_true_eq]
    omega
  · rw [Nat.testBit_two_pow_mul, decide_eq_false (Nat.not_le.mpr hj), Bool.false_and]

theorem ctz64_eq (a : Word) : ctz64 a = if a = 0 then 64 else BitVec.ofNat 64 (padicValNat 2 a.toNat) := by
  unfold ctz64
  split_ifs with h0
  · rw [h0]
    exact congrArg (BitVec.ofNat 64) (ctzGo_zero 64 0)
  · have hne : a.toNat ≠ 0 := fun h => h0 (BitVec.eq_of_toNat_eq h)
    obtain ⟨hset, hlow⟩ := testBit_padicValNat hne
    have hlt : padicValNat 2 a.toNat < 64 := by
      refine (Nat.pow_lt_pow_iff_right (by decide : 1 < 2)).mp ?_
      exact lt_of_le_of_lt (Nat.le_of_dvd (Nat.pos_of_ne_zero hne) pow_padicValNat_dvd) a.isLt
    rw [ctzGo_eq hset hlow 64 0 (Nat.zero_le _) (by omega)]

theorem sum_digits_two (m : Nat) : (Nat.digits 2 m).sum = m % 2 + (Nat.digits 2 (m / 2)).sum := by
  obtain rfl | hm := Nat.eq_zero_or_pos m
  · rfl
  · rw [Nat.digits_def' (by decide) hm, List.sum_cons]

/-- The set bits from place `k` up are the binary digits of what stands there. -/
theorem countP_testBit (a n k : Nat) (h : a < 2 ^ (k + n)) :
    (countFrom k n).countP (fun j => a.testBit j) = (Nat.digits 2 (a / 2 ^ k)).sum := by
  induction n generalizing k with
  | zero =>
    rw [Nat.div_eq_of_lt (by rwa [Nat.add_zero] at h)]
    rfl
  | succ n ih =>
    rw [countFrom, List.countP_cons, ih (k + 1) (by rwa [Nat.add_right_comm]), sum_digits_two (a / 2 ^ k),
      Nat.div_div_eq_div_mul, ← pow_succ, Nat.testBit_eq_decide_div_mod_eq, Nat.add_comm]
    congr 1
    obtain h0 | h1 := Nat.mod_two_eq_zero_or_one (a / 2 ^ k)
    · rw [h0]; rfl
    · rw [h1]; rfl

theorem popc64_eq (a : Word) : popc64 a = BitVec.ofNat 64 (Nat.digits 2 a.toNat).sum := by
  rw [popc64, countP_testBit a.toNat 64 0 a.isLt, pow_zero, Nat.div_one]

/-! ### Byte order and extensions -/

theorem leNat_append (xs ys : List Byte) : leNat (xs ++ ys) = leNat xs + 256 ^ xs.length * leNat ys := by
  induction xs with
  | nil => simp [leNat]
  | cons x xs ih => rw [List.cons_append, leNat, leNat, ih, List.length_cons, pow_succ']; ring

/-- The bytes of a number read from the other end. -/
theorem leNat_reverse_leBytes (n v : Nat) :
    leNat (leBytes n v).reverse = ((List.range n).map fun i => v / 256 ^ i % 256 * 256 ^ (n - 1 - i)).sum := by
  induction n generalizing v with
  | zero => rfl
  | succ n ih =>
    rw [leBytes, List.reverse_cons, leNat_append, ih, List.length_reverse, leBytes_length, List.range_succ_eq_map,
      List.map_cons, List.map_map, List.sum_cons, Nat.add_comm]
    congr 1
    · simp [leNat, mul_comm]
    · congr 1
      refine List.map_congr_left fun i _ => ?_
      rw [Function.comp_apply, Nat.div_div_eq_div_mul, ← pow_succ', show n + 1 - 1 - i.succ = n - 1 - i by omega]

theorem bswap64_eq (a : Word) : bswap64 a =
    BitVec.ofNat 64 ((List.range 8).map fun i => a.toNat / 256 ^ i % 256 * 256 ^ (7 - i)).sum := by
  rw [bswap64, leNat_reverse_leBytes]

/-- The low bits of a word, extended with their sign. -/
theorem signExtend_low_eq (n : Nat) (a : Word) :
    (a.setWidth n).signExtend 64 = BitVec.ofInt 64 (Int.bmod (a.toNat : Int) (2 ^ n)) := by
  rw [setWidth_eq_ofInt, signExtend_ofInt]

/-- The low bits of a word, extended with zeros. -/
theorem zeroExtend_low_eq (n : Nat) (a : Word) : (a.setWidth n).setWidth 64 = BitVec.ofNat 64 (a.toNat % 2 ^ n) := by
  apply BitVec.eq_of_toNat_eq
  rw [BitVec.toNat_setWidth, BitVec.toNat_setWidth, BitVec.toNat_ofNat]

/-- A function of one register writes its value and retires (R103, R120). -/
theorem alu1_completes {cl : ClusterId} {r : RR} {s : State} {c : Core} (h : Ready cl s c) (hf : Fires c r) (hb : r.b = 0)
    {i : Instr} {g : Word → Word} (he : ∃ f, exec i s = alu1 cl r f s ∧ ∀ a, f a = g a) :
    Completes (exec i s) fun t => ∃ c', WritesG r.d (g (c.rd r.a)) c c' ∧ Retired cl s s.m c' 1 t := by
  obtain ⟨f, hexec, hfg⟩ := he
  rw [← hfg]
  exact rr_computes h hf rfl rfl (FieldUse.bad_zero.mpr hb) ⟨_, hexec, effG_writes r.d (fun c => f (c.rd r.a)) c⟩

end Sys2Proof.Machine
end

section
open Sys2Proof Sys2Proof.Machine

/-- Settles O4: the counts, the reversed bytes and the extensions are what the model's functions compute. -/
theorem oneOperandIntegerResults : Obligations.OneOperandIntegerResults := by
  unfold Obligations.OneOperandIntegerResults
  intro cl r s c h hf hb e he
  refine alu1_completes h hf hb ?_
  revert e
  simp only [List.forall_mem_cons, List.not_mem_nil, false_imp_iff, implies_true, and_true]
  exact ⟨⟨clz64, rfl, clz64_eq⟩, ⟨ctz64, rfl, ctz64_eq⟩, ⟨popc64, rfl, popc64_eq⟩, ⟨bswap64, rfl, bswap64_eq⟩,
    ⟨fun a => (a.setWidth 8).signExtend 64, rfl, signExtend_low_eq 8⟩,
    ⟨fun a => (a.setWidth 16).signExtend 64, rfl, signExtend_low_eq 16⟩,
    ⟨fun a => (a.setWidth 32).signExtend 64, rfl, signExtend_low_eq 32⟩,
    ⟨fun a => (a.setWidth 8).setWidth 64, rfl, zeroExtend_low_eq 8⟩,
    ⟨fun a => (a.setWidth 16).setWidth 64, rfl, zeroExtend_low_eq 16⟩,
    ⟨fun a => (a.setWidth 32).setWidth 64, rfl, zeroExtend_low_eq 32⟩⟩
end

section
/-! SUPPORT. The own parts of the jump and of the branch (R99 to R101, R129). -/

namespace Sys2Proof.Machine

theorem targetCheck_range {a : Nat} (hd : inData a = false) : targetCheck a = some 3 := by
  simp [targetCheck, hd]

theorem targetCheck_align {a : Nat} (hd : inData a = true) (ha : a % 4 ≠ 0) : targetCheck a = some 5 := by
  simp [targetCheck, hd, ha]

/-- The own part of JR (R101). -/
def jrBody (a : BitVec 5) (m : Mach) (t : Tri) (lead : Core) : StepOut :=
  match targetCheck (lead.rd a).toNat with
  | some e => { m := m, cost := 3, res := .exc e }
  | none => pureStep 3 (fun c => { core := { c with pc := (c.rd a).setWidth 32 } }) m t lead

theorem exec_jr (cl : ClusterId) (r : RR) (s : State) :
    exec (.jr cl r) s = .next (execRR cl r .zero .greg .zero (jrBody r.a) s) := rfl

/-- The effect of BC on a core (R99, R100). -/
def bcEff (k : BitVec 3) (sense : Bool) (disp : BitVec 22) (x : Core) : Eff :=
  { core := if x.cb k == sense then { x with pc := BitVec.ofInt 32 (branchTarget x disp) } else x.next }

/-- The own part of BC (R99, R100). -/
def bcBody (k : BitVec 3) (sense : Bool) (disp : BitVec 22) (m : Mach) (t : Tri) (lead : Core) : StepOut :=
  if (lead.cb k == sense) && !(decide (0 ≤ branchTarget lead disp) && decide (branchTarget lead disp < 0x01800000)) then
    { m := m, cost := 3, res := .exc 3 }
  else pureStep (if lead.cb k == sense then 3 else 1) (bcEff k sense disp) m t lead

theorem exec_bc (cl : ClusterId) (k : BitVec 3) (sense : Bool) (disp : BitVec 22) (s : State) :
    exec (.bc cl k sense disp) s =
      .next (execInstr cl (decide (k = 0) && !sense) false (bcBody k sense disp) s) := rfl

section branches
variable {c : Core} {k : BitVec 3} {sense : Bool} {disp : BitVec 22} (m : Mach) (t : Tri)

theorem bcBody_taken (hk : c.cb k = sense) (h0 : 0 ≤ branchTarget c disp) (h1 : branchTarget c disp < 0x01800000) :
    bcBody k sense disp m t c = pureStep 3 (bcEff k sense disp) m t c := by
  simp [bcBody, hk, h0, h1]

theorem bcBody_range (hk : c.cb k = sense) (h : branchTarget c disp < 0 ∨ 0x01800000 ≤ branchTarget c disp) :
    bcBody k sense disp m t c = { m := m, cost := 3, res := .exc 3 } := by
  have hout : (decide (0 ≤ branchTarget c disp) && decide (branchTarget c disp < 0x01800000)) = false := by
    rw [Bool.and_eq_false_iff, decide_eq_false_iff_not, decide_eq_false_iff_not]
    omega
  simp [bcBody, hk, hout]

theorem bcBody_passed (hk : c.cb k ≠ sense) :
    bcBody k sense disp m t c = pureStep 1 (bcEff k sense disp) m t c := by
  simp [bcBody, hk]

end branches

section outcomes
variable {cl : ClusterId} {s : State} {c : Core} {sl : Slice} {r : RR} {k : BitVec 3} {sense : Bool} {disp : BitVec 22}

theorem jr_jumps (h : Ready cl s c) (hr : rrReserved .zero .greg .zero r = false) (hp : predicate c r = true)
    (hcheck : targetCheck (c.rd r.a).toNat = none) : Completes (exec (.jr cl r) s) fun t =>
      ∃ c', MovesPc ((c.rd r.a).setWidth 32) c c' ∧ Retired cl s s.m c' 3 t := by
  have hbody : jrBody r.a s.m (s.tri cl) c =
      pureStep 3 (fun c => { core := { c with pc := (c.rd r.a).setWidth 32 } }) s.m (s.tri cl) c := by
    rw [jrBody, hcheck]
  exact .next ⟨_, movesPc_set c _, ready_rr h hr hp hbody rfl rfl h.single⟩

theorem jr_raises (h : Ready cl s c) (hr : rrReserved .zero .greg .zero r = false) (hp : predicate c r = true)
    (hsl : (s.m.kiln cl).slice = some sl) (ht : sl.task < 16) {code : Nat} (hc : code < 256)
    (hcheck : targetCheck (c.rd r.a).toNat = some code) : Completes (exec (.jr cl r) s) (Raised cl s sl code) := by
  refine .next (ready_rr_raises (body := jrBody r.a) h hr hp hsl ht hc ?_)
  rw [jrBody, hcheck]
  exact .same 0 3

/-- A branch that is not the reserved one takes its own part (R99). -/
theorem exec_bc_of_ne (hks : k ≠ 0 ∨ sense = true) :
    exec (.bc cl k sense disp) s = .next (execInstr cl false false (bcBody k sense disp) s) := by
  have hres : (decide (k = 0) && !sense) = false := by
    obtain hk | hs := hks
    · rw [decide_eq_false hk, Bool.false_and]
    · rw [hs, Bool.not_true, Bool.and_false]
  rw [exec_bc, hres]

theorem bc_jumps (h : Ready cl s c) (hks : k ≠ 0 ∨ sense = true) (hc : c.cb k = sense) (h0 : 0 ≤ branchTarget c disp)
    (h1 : branchTarget c disp < 0x01800000) : Completes (exec (.bc cl k sense disp) s) fun t =>
      ∃ c', MovesPc (BitVec.ofInt 32 (branchTarget c disp)) c c' ∧ Retired cl s s.m c' 3 t := by
  have hbody := bcBody_taken s.m (s.tri cl) hc h0 h1
  rw [exec_bc_of_ne hks]
  refine .next ⟨_, ?_, ready_retires h false _ (by simp) hbody rfl rfl h.single⟩
  rw [bcEff, if_pos (beq_iff_eq.mpr hc)]
  exact movesPc_set c _

theorem bc_raises (h : Ready cl s c) (hks : k ≠ 0 ∨ sense = true) (hc : c.cb k = sense)
    (hout : branchTarget c disp < 0 ∨ 0x01800000 ≤ branchTarget c disp) (hsl : (s.m.kiln cl).slice = some sl)
    (ht : sl.task < 16) : Completes (exec (.bc cl k sense disp) s) (Raised cl s sl 0x03) := by
  rw [exec_bc_of_ne hks]
  refine .next (ready_raises h hsl ht (by decide) ?_)
  rw [bcBody_range _ _ hc hout]
  exact .same 0 3

theorem bc_passes_on (h : Ready cl s c) (hks : k ≠ 0 ∨ sense = true) (hc : c.cb k ≠ sense) :
    Completes (exec (.bc cl k sense disp) s) fun t =>
      ∃ c', MovesPc (c.pc + 4) c c' ∧ Retired cl s s.m c' 1 t := by
  have hbody := bcBody_passed (disp := disp) s.m (s.tri cl) hc
  rw [exec_bc_of_ne hks]
  refine .next ⟨_, ?_, ready_retires h false _ (by simp) hbody rfl rfl h.single⟩
  rw [bcEff, if_neg (mt beq_iff_eq.mp hc)]
  exact movesPc_next c

end outcomes

end Sys2Proof.Machine
end

section
open Sys2Proof Sys2Proof.Machine

/-- Settles O10: the checks of a target come in the order of R101; a branch that is not taken checks none. -/
theorem jumpsAndBranches : Obligations.JumpsAndBranches := by
  unfold Obligations.JumpsAndBranches
  intro cl s c sl h hsl ht
  refine ⟨fun r hres hd hb => ?_, fun k sense disp => ?_⟩
  · have hr : rrReserved .zero .greg .zero r = false :=
      rrReserved_eq_false hres (FieldUse.bad_zero.mpr hd) rfl (FieldUse.bad_zero.mpr hb)
    exact ⟨fun hp => rr_passes_over h hp hr ⟨_, exec_jr cl r s⟩,
      fun hp => ⟨fun hin halign => jr_jumps h hr hp (targetCheck_ok hin halign),
        fun hin => jr_raises h hr hp hsl ht (by decide) (targetCheck_range hin),
        fun hin halign => jr_raises h hr hp hsl ht (by decide) (targetCheck_align hin halign)⟩⟩
  · intro target
    refine ⟨fun hk hs => ?_, fun hks => ⟨fun hc h0 h1 => bc_jumps h hks hc h0 h1,
      fun hc hout => bc_raises h hks hc hout hsl ht, fun hc => bc_passes_on h hks hc⟩⟩
    rw [exec_bc, decide_eq_true hk, hs]
    exact reserved_raises h hsl ht _
end

section
/-! SUPPORT. The sign functions as arithmetic, and how a floating-point function retires (R105, R123). -/

namespace Sys2Proof.Machine

/-! ### Signs of floating-point numbers -/

theorem signAt_pos (f : FFmt) : 0 < signAt f := Nat.two_pow_pos _

theorem fNeg_eq (f : FFmt) (a : Nat) : fNeg f a = a % signAt f + (1 - a / signAt f % 2) * signAt f := by
  have hpos := signAt_pos f
  have hdiv : (a + signAt f) / signAt f = a / signAt f + 1 := Nat.add_div_right a hpos
  rw [fNeg, Nat.mul_comm 2, Nat.mod_mul, Nat.add_mod_right, hdiv, Nat.mul_comm (signAt f)]
  congr 2
  omega

theorem fCpys_eq (f : FFmt) (a b : Nat) : fCpys f a b = a % signAt f + b / signAt f % 2 * signAt f := by
  rw [fCpys, Nat.mul_comm 2, Nat.mod_mul_right_div_self]

/-- A 64-bit number read as two's complement (R65). -/
theorem signed_64 (v : Nat) : signed 64 v = Int.bmod (v : Int) (2 ^ 64) := signed_eq_bmod 7 v

/-- A floating-point function of up to three registers writes its value and its flags and retires (R105, R123). -/
theorem fp_completes {cl : ClusterId} {s : State} {c : Core} {r : RR} {i : Instr} {cost : Nat} {b : FieldUse}
    (h : Ready cl s c) (hf : Fires c r) (hb : b.bad r.b = false) {v : Word} {fl : FFlags}
    (he : ∃ g, exec i s = .next (execRR cl r .greg .greg b (pureStep cost (effF r.d g)) s) ∧ g c = (v, fl)) :
    Completes (exec i s) fun t => ∃ c', WritesF r.d v fl c c' ∧ Retired cl s s.m c' cost t := by
  obtain ⟨g, hexec, hg⟩ := he
  have hw := effF_writes r.d g c
  rw [hg] at hw
  exact rr_computes h hf rfl rfl hb ⟨_, hexec, hw⟩

end Sys2Proof.Machine
end

section
open Sys2Proof Sys2Proof.Machine

/-- Settles O12: every function writes the value and the flags of its operation; the sign functions are arithmetic on
the sign bit. -/
theorem floatingPointResults : Obligations.FloatingPointResults := by
  unfold Obligations.FloatingPointResults
  intro cl f r s c h hf
  refine ⟨fun e he => fp_completes (b := .greg) h hf rfl ?_,
    fun hb e he => fp_completes (b := .zero) h hf (FieldUse.bad_zero.mpr hb) ?_,
    fun hb e he => fp_completes (b := .zero) h hf (FieldUse.bad_zero.mpr hb) ?_, fun ha hb => ?_, fun ha hb hd => ?_⟩
  · revert e
    simp only [List.forall_mem_cons, List.not_mem_nil, false_imp_iff, implies_true, and_true]
    exact ⟨⟨_, rfl, rfl⟩, ⟨_, rfl, rfl⟩, ⟨_, rfl, rfl⟩, ⟨_, rfl, rfl⟩, ⟨_, rfl, rfl⟩, ⟨_, rfl, rfl⟩, ⟨_, rfl, rfl⟩,
      ⟨_, rfl, by simp only [fCpys_eq, fpWord]⟩⟩
  · revert e
    simp only [List.forall_mem_cons, List.not_mem_nil, false_imp_iff, implies_true, and_true]
    exact ⟨⟨_, rfl, rfl⟩, ⟨_, rfl, rfl⟩, ⟨_, rfl, by simp only [fNeg_eq, fpWord]⟩,
      ⟨_, rfl, by simp only [signed_64, fpWord]⟩, ⟨_, rfl, rfl⟩, ⟨_, rfl, by cases f <;> rfl⟩⟩
  · revert e
    simp only [List.forall_mem_cons, List.not_mem_nil, false_imp_iff, implies_true, and_true]
    exact ⟨⟨_, rfl, rfl⟩, ⟨_, rfl, rfl⟩⟩
  · exact rr_computes (d := .greg) h hf rfl (FieldUse.bad_zero.mpr ha) (FieldUse.bad_zero.mpr hb)
      ⟨_, rfl, effG_writes r.d (fun c => c.fpf.setWidth 64) c⟩
  · exact rr_computes h hf (FieldUse.bad_zero.mpr hd) (FieldUse.bad_zero.mpr ha) (FieldUse.bad_zero.mpr hb)
      ⟨_, rfl, movesPc_next { c with fpf := 0 }⟩
end

section
/-! SUPPORT. What SINF reads, and where BRK stops its cluster (R69, R109, R132, R155). -/

namespace Sys2Proof.Machine

/-! ### Slice information -/

/-- The slice word of SINF (R69). -/
theorem sinfItem_slice {m : Mach} {cl : Nat} {sl : Slice} (hsl : (m.kiln cl).slice = some sl) :
    sinfItem m cl 2 = sl.task % 16 + sl.idx % 256 * 16 + cl * 2 ^ 12 := by
  simp only [sinfItem, hsl]

/-- SINF with an item that is not reserved writes it and retires (R109, R132). -/
theorem sinf_completes {cl : ClusterId} {s : State} {c : Core} (h : Ready cl s c) (d : BitVec 5) {item : BitVec 3}
    (hi : item.toNat < 4) {v : Nat} (hv : sinfItem s.m cl item.toNat = v) : Completes (exec (.sinf cl d item) s) fun t =>
      ∃ c', WritesG d (BitVec.ofNat 64 v) c c' ∧ Retired cl s s.m c' 2 t := by
  have hexec : exec (.sinf cl d item) s = .next (execInstr cl (decide (4 ≤ item.toNat)) false (fun m t lead =>
      pureStep 2 (effG d fun _ => BitVec.ofNat 64 (sinfItem m cl item.toNat)) m t lead) s) := rfl
  rw [hexec, decide_eq_false (Nat.not_le.mpr hi), ← hv]
  exact .next ⟨_, effG_writes d (fun _ => BitVec.ofNat 64 (sinfItem s.m cl item.toNat)) c,
    ready_retires h false _ (by simp) rfl rfl rfl h.single⟩

/-! ### The breakpoint -/

/-- Whether BRK stops its cluster: in BENCH, with a debugger attached and breakpoints enabled (R155). -/
def Mach.brkStops (m : Mach) (cl : Nat) : Bool :=
  decide (m.mode = 3) && m.bit (KLN_DBGCTL cl) 0 && m.bit (KLN_DBGCTL cl) 1

theorem Mach.brkStops_iff (m : Mach) (cl : Nat) :
    m.brkStops cl = true ↔ m.mode = 3 ∧ m.bit (KLN_DBGCTL cl) 0 = true ∧ m.bit (KLN_DBGCTL cl) 1 = true := by
  rw [brkStops, Bool.and_eq_true, Bool.and_eq_true, decide_eq_true_eq, and_assoc]

/-- The module after BRK has stopped the cluster: HALTED and the code in KLN_DBGSTAT (R155). -/
def Mach.stoppedAt (m : Mach) (cl : Nat) (code : BitVec 16) : Mach :=
  m.wr (KLN_DBGSTAT cl) (code.toNat * 2 ^ 16 + m.fld (KLN_DBGSTAT cl) 3 3 * 8 + 1)

/-- The own part of BRK (R155). -/
def brkBody (cl : Nat) (code : BitVec 16) (m : Mach) (t : Tri) (lead : Core) : StepOut :=
  pureStep 2 (fun c => { core := c.next })
    (if m.brkStops cl then (m.stoppedAt cl code).modKiln cl fun k => { k with stepping := false } else m) t lead

theorem exec_brk (cl : ClusterId) (code : BitVec 16) (s : State) :
    exec (.brk cl code) s = .next (execInstr cl false false (brkBody cl code) s) := rfl

theorem Mach.modKiln_stepping {m : Mach} {cl : Nat} (h : (m.kiln cl).stepping = false) :
    (m.modKiln cl fun k => { k with stepping := false }) = m := by
  rw [modKiln, ← h]
  exact setKiln_kiln m cl

theorem Mach.stoppedAt_actives (m : Mach) (cl : Nat) (code : BitVec 16) :
    (m.stoppedAt cl code).actives cl = m.actives cl := by
  have hne : KLN_CLSTAT cl ≠ KLN_DBGSTAT cl := by simp only [KLN_CLSTAT, KLN_DBGSTAT]; omega
  simp only [actives, stoppedAt, bit_wr_other _ _ _ _ _ hne]

theorem Mach.stoppedAt_fields (m : Mach) (cl : Nat) (code : BitVec 16) :
    (m.stoppedAt cl code).bit (KLN_DBGSTAT cl) 0 = true ∧
      (m.stoppedAt cl code).fld (KLN_DBGSTAT cl) 31 16 = code.toNat := by
  have hcode := code.isLt
  have hcause := bits_lt (m.rg (KLN_DBGSTAT cl)) 3 3
  rw [bit, fld, stoppedAt, rg_wr_same, fld, Nat.testBit_zero]
  generalize bits (m.rg (KLN_DBGSTAT cl)) 3 3 = cause at *
  rw [bits]
  refine ⟨decide_eq_true (by omega), by omega⟩

end Sys2Proof.Machine
end

section
open Sys2Proof Sys2Proof.Machine

/-- Settles O25: SINF and MSYNC only compute; BRK also writes KLN_DBGSTAT where it stops the cluster. -/
theorem systemInstructions : Obligations.SystemInstructions := by
  unfold Obligations.SystemInstructions
  intro cl s c sl h hsl
  refine ⟨fun d e he => ?_, fun hsys => ?_, fun code => ?_⟩
  · revert e
    simp only [List.forall_mem_cons, List.not_mem_nil, false_imp_iff, implies_true, and_true]
    exact ⟨sinf_completes h d (by decide) rfl, sinf_completes h d (by decide) rfl,
      sinf_completes h d (by decide) (sinfItem_slice hsl), sinf_completes h d (by decide) rfl⟩
  · exact instr_computes h (fun _ => hsys) ⟨_, rfl, movesPc_next c⟩
  · intro stops
    rw [exec_brk]
    refine ⟨fun hns => ?_, fun hst => ?_⟩
    · have hbody : brkBody cl code s.m (s.tri cl) c = pureStep 2 (fun c => { core := c.next }) s.m (s.tri cl) c := by
        rw [brkBody, if_neg (mt (s.m.brkStops_iff cl).mp hns)]
      exact .next ⟨_, movesPc_next c, ready_retires h false _ (by simp) hbody rfl rfl h.single⟩
    · have hbody : brkBody cl code s.m (s.tri cl) c =
          pureStep 2 (fun c => { core := c.next }) (s.m.stoppedAt cl code) (s.tri cl) c := by
        rw [brkBody, if_pos ((s.m.brkStops_iff cl).mpr hst), Mach.modKiln_stepping (m := s.m.stoppedAt cl code) h.single]
      have hret := ready_retires h false _ (by simp) hbody (s.m.stoppedAt_actives cl code) rfl h.single
      obtain ⟨hbit, hcode⟩ := s.m.stoppedAt_fields cl code
      obtain ⟨sl', win, lastPc, dueWin, hrest⟩ := hret.rest
      refine .next ⟨_, movesPc_next c, hret, ?_, ?_⟩
      · rw [hrest, Mach.bit, Mach.rg_setKiln]
        exact hbit
      · rw [hrest, Mach.fld, Mach.rg_setKiln]
        exact hcode
end

section
/-! SUPPORT. What ACMP answers, and what it records (R146). -/

namespace Sys2Proof.Machine

/-- An accession of the cluster's classes that can still have a record (R146, R348). -/
def Mach.IsMine (m : Mach) (cl n : Nat) : Prop := m.accLive n = true ∧ m.routeOf (m.recClass n) = cl

/-- An accession that is completed or dropped, or whose completion is recorded (R146, R349). -/
def Mach.IsDone (m : Mach) (cl n : Nat) : Prop :=
  m.recState n = 4 ∨ m.recState n = 5 ∨ ∃ code, (n % 65536, code) ∈ (m.kiln cl).comps

/-- An accession that is fetched or delivered (R146). -/
def Mach.IsKnown (m : Mach) (cl n : Nat) : Prop := n ∈ (m.kiln cl).fetched ∨ m.recState n = 3

section answers
variable {m : Mach} {cl n : Nat}

theorem Mach.foreign_iff : (!m.accLive n || decide (m.routeOf (m.recClass n) ≠ cl)) = true ↔ ¬ m.IsMine cl n := by
  simp only [IsMine, Bool.or_eq_true, Bool.not_eq_true', decide_eq_true_eq, not_and_or, Bool.not_eq_true]

theorem Mach.done_iff : ((m.kiln cl).comps.any (fun e => e.1 = n % 65536) || decide (m.recState n = 4) ||
    decide (m.recState n = 5)) = true ↔ m.IsDone cl n := by
  have hcomps : (m.kiln cl).comps.any (fun e => decide (e.1 = n % 65536)) = true ↔
      ∃ code, (n % 65536, code) ∈ (m.kiln cl).comps := by
    rw [List.any_eq_true]
    constructor
    · rintro ⟨⟨_, code⟩, he, hn⟩
      exact ⟨code, of_decide_eq_true hn ▸ he⟩
    · rintro ⟨code, he⟩
      exact ⟨_, he, decide_eq_true rfl⟩
  rw [IsDone, Bool.or_eq_true, Bool.or_eq_true, hcomps, decide_eq_true_eq, decide_eq_true_eq]
  tauto

theorem Mach.unknown_iff : (!((m.kiln cl).fetched.contains n || decide (m.recState n = 3))) = true ↔ ¬ m.IsKnown cl n := by
  simp only [IsKnown, Bool.not_eq_true', Bool.or_eq_false_iff, List.contains_eq_mem, decide_eq_false_iff_not, not_or]

/-- The checks of ACMP in their order (R146). -/
theorem Mach.acmpStatus_foreign (h : ¬ m.IsMine cl n) : m.acmpStatus cl n = 3 := if_pos (foreign_iff.mpr h)

theorem Mach.acmpStatus_done (h : m.IsMine cl n) (hd : m.IsDone cl n) : m.acmpStatus cl n = 4 := by
  rw [acmpStatus, if_neg (mt foreign_iff.mp (not_not.mpr h))]
  exact if_pos (done_iff.mpr hd)

theorem Mach.acmpStatus_unknown (hd : ¬ m.IsDone cl n) (hk : ¬ m.IsKnown cl n) : m.acmpStatus cl n = 3 := by
  unfold acmpStatus
  dsimp only
  split
  · rfl
  · rw [if_neg (mt done_iff.mp hd), if_pos (unknown_iff.mpr hk)]

theorem Mach.acmpStatus_known (h : m.IsMine cl n) (hd : ¬ m.IsDone cl n) (hk : m.IsKnown cl n) :
    m.acmpStatus cl n = if 4096 ≤ (m.kiln cl).comps.length then 2 else 0 := by
  unfold acmpStatus
  dsimp only
  rw [if_neg (mt foreign_iff.mp (not_not.mpr h)), if_neg (mt done_iff.mp hd), if_neg (mt unknown_iff.mp (not_not.mpr hk))]

end answers

/-! ### The instruction -/

theorem effStatus_writes (d : BitVec 5) (st : Nat) (addr : Core → BitVec 32) (c : Core) :
    WritesG d (BitVec.ofNat 64 st) c (effStatus d st addr c).core := effG_writes d (fun _ => BitVec.ofNat 64 st) c

/-- The completion code that ACMP records is the low half of its register (R146). -/
theorem low_half (v : Word) : (v &&& 0xFFFFFFFF).toNat = v.toNat % 2 ^ 32 := by
  rw [BitVec.toNat_and]
  exact Nat.and_two_pow_sub_one_eq_mod _ 32

/-- The module after ACMP has answered `st` (R146). -/
def Mach.completed (m : Mach) (cl n code st : Nat) : Mach :=
  if st = 0 then m.setKiln cl { m.kiln cl with comps := (m.kiln cl).comps ++ [(n % 65536, code)] } else m

theorem Mach.completed_actives (m : Mach) (cl n code st : Nat) : (m.completed cl n code st).actives cl = m.actives cl := by
  refine actives_of_regs ?_ cl
  unfold completed
  split
  · exact setKiln_regs _ _ _
  · rfl

theorem Mach.completed_kiln (m : Mach) (cl n code st : Nat) :
    ((m.completed cl n code st).kiln cl).slice = (m.kiln cl).slice ∧
      ((m.completed cl n code st).kiln cl).stepping = (m.kiln cl).stepping := by
  unfold completed
  split
  · rw [kiln_setKiln]; exact ⟨rfl, rfl⟩
  · exact ⟨rfl, rfl⟩

section acmp
variable {cl : ClusterId} {s : State} {c : Core}

theorem acmpBody_ok (h : Ready cl s c) (d a b : BitVec 5) {st : Nat} (hst : s.m.acmpStatus cl (c.rd a).toNat = st) :
    acmpBody cl d a b s.m (s.tri cl) c =
      ⟨s.m.completed cl (c.rd a).toNat ((c.rd b).toNat % 2 ^ 32) st, 0, 16, .ok (effStatus d st fun _ => 0)⟩ := by
  subst hst
  unfold acmpBody
  simp only [h.voted c.pc.toNat (req := fun c => some ⟨c.rd a, c.rd b &&& 0xFFFFFFFF⟩) rfl, Bool.false_eq_true, if_false,
    low_half]
  rfl

/-- ACMP writes its answer and retires (R146). -/
theorem acmp_completes (h : Ready cl s c) (d a b : BitVec 5) {st : Nat} (hst : s.m.acmpStatus cl (c.rd a).toNat = st) :
    Completes (exec (.acmp cl d a b) s) fun t => ∃ c', WritesG d (BitVec.ofNat 64 st) c c' ∧
      Retired cl s (s.m.completed cl (c.rd a).toNat ((c.rd b).toNat % 2 ^ 32) st) c' 16 t := by
  obtain ⟨hslice, hstep⟩ := s.m.completed_kiln cl (c.rd a).toNat ((c.rd b).toNat % 2 ^ 32) st
  exact .next ⟨_, effStatus_writes d st _ c, ready_retires h false (acmpBody cl d a b) (by simp) (acmpBody_ok h d a b hst)
    (s.m.completed_actives _ _ _ _) hslice (hstep.trans h.single)⟩

end acmp

end Sys2Proof.Machine
end

section
open Sys2Proof Sys2Proof.Machine

/-- Settles O27: the four answers are the outcomes of ACMP's checks in their order, and only OK records anything. That a
completed accession older than the last 65,536 numbers answers UNKNOWN is log entry 125. -/
theorem completionResults : Obligations.CompletionResults := by
  unfold Obligations.CompletionResults
  intro cl d a b s c h n k mine done known answers
  refine ⟨fun hm hd hk hlt => ?_, fun hm hd hk hle => ?_, fun hx => ?_, fun hm hd => ?_⟩
  · exact acmp_completes h d a b (st := 0) ((Mach.acmpStatus_known hm hd hk).trans (if_neg (Nat.not_le.mpr hlt)))
  · exact acmp_completes h d a b (st := 2) ((Mach.acmpStatus_known hm hd hk).trans (if_pos hle))
  · refine acmp_completes h d a b (st := 3) ?_
    obtain hm | ⟨hd, hk⟩ := hx
    · exact Mach.acmpStatus_foreign hm
    · exact Mach.acmpStatus_unknown hd hk
  · exact acmp_completes h d a b (st := 4) (Mach.acmpStatus_done hm hd)
end

section
/-! SUPPORT. The end of a slice by SLICE and the dispatch of the next (R45, R51, R67, R131). -/

namespace Sys2Proof.Machine

/-! ### A dispatched core -/

/-- The registers of a core at the dispatch of a slice (R67). -/
theorem dispatched_rd (top frame entry : Nat) (sys : Bool) (unit : Nat) (c : Core) (r : BitVec 5) :
    (c.dispatched top frame entry sys unit).rd r =
      if r = 29 then BitVec.ofNat 64 top else if r = 30 then BitVec.ofNat 64 frame else 0 := by
  have h29 : (29 : Nat) = r.toNat ↔ r = 29 := ⟨fun h => BitVec.eq_of_toNat_eq h.symm, fun h => h ▸ rfl⟩
  have h30 : (30 : Nat) = r.toNat ↔ r = 30 := ⟨fun h => BitVec.eq_of_toNat_eq h.symm, fun h => h ▸ rfl⟩
  rw [Core.rd_eq]
  simp only [Core.dispatched, Vector.getElem_set, Vector.getElem_replicate, h29, h30]
  by_cases hframe : r = 30
  · subst hframe; rfl
  · rw [if_neg hframe, if_neg hframe]

/-- At a dispatch only c0 is set. -/
theorem dispatched_cb (top frame entry : Nat) (sys : Bool) (unit : Nat) (c : Core) :
    ∀ b : BitVec 3, b ≠ 0 → (c.dispatched top frame entry sys unit).cb b = false := by
  show ∀ b : BitVec 3, b ≠ 0 → (1 : BitVec 8).getLsbD b.toNat = false
  decide

/-! ### What a dispatch leaves -/

theorem dispatch_mem (s : State) (cl : Nat) : (s.dispatch cl).m.mem = s.m.mem := by
  unfold State.dispatch
  dsimp only
  split
  · rfl
  · split
    · rw [Mach.modKiln_mem]; exact Mach.setKiln_mem _ _ _
    · exact Mach.setKiln_mem _ _ _

/-- What a dispatch, due or not, leaves in the kept state of its cluster besides its slices. -/
theorem dispatch_accounts (s : State) (cl : Nat) :
    ((s.dispatch cl).m.kiln cl).cyc = (s.m.kiln cl).cyc + (if (s.m.kiln cl).due = [] then 0 else 64) ∧
      ((s.dispatch cl).m.kiln cl).fetched = (s.m.kiln cl).fetched := by
  have hbit (m : Mach) (a k : Nat) (v : Bool) (x : Nat) : (m.setBit a k v).kiln x = m.kiln x := rfl
  have hfld (m : Mach) (a hi lo v x : Nat) : (m.setFld a hi lo v).kiln x = m.kiln x := rfl
  unfold State.dispatch
  dsimp only
  cases hd : (s.m.kiln cl).due with
  | nil => exact ⟨rfl, rfl⟩
  | cons e rest =>
    dsimp only
    split <;> simp [Mach.showFiring, hbit, hfld]

/-- A running core of a cluster with a due slice is dispatched to it (R67). -/
theorem dispatch_core {s : State} {cl k task idx : Nat} {rest : List (Nat × Nat)}
    (hd : (s.m.kiln cl).due = (task, idx) :: rest) (hk : k ∈ s.m.actives cl) :
    (s.dispatch cl).core cl k = (s.core cl k).dispatched (s.m.taskEnt task).top (s.m.taskEnt task).frame
      (s.m.mem.ldN (s.m.unitAt (s.m.taskEnt task).root) 4)
      ((s.m.mem.ldN (s.m.unitAt (s.m.taskEnt task).root + 8) 1).testBit 0) (s.m.taskEnt task).root := by
  unfold State.dispatch
  simp only [hd]
  refine (State.core_setTri s cl _ k).trans ?_
  rw [Tri.get_mapOn _ _ _ _ (s.m.actives_lt cl k hk) (s.m.actives_lt cl) (s.m.actives_nodup cl), if_pos hk]
  rfl

/-! ### What the end of a slice leaves -/

theorem closeWindow_stepping (s : State) (cl : Nat) :
    ((s.closeWindow cl).m.kiln cl).stepping = (s.m.kiln cl).stepping := by
  unfold State.closeWindow
  dsimp only
  split
  · rfl
  · rw [Mach.kiln_setKiln]

/-- An instruction that ends its slice has retired when the slice ends (R131). -/
theorem ended_retired {cl : Fin 2} {s : State} {c : Core} (h : Ready cl s c) (cost : Nat) :
    Retired cl s s.m c.next cost (((s.charge cl cost 0).retire cl fun c => { core := c.next }).closeWindow cl) := by
  obtain ⟨sl, hsl, _⟩ := h.slice
  set t := (s.charge cl cost 0).retire cl fun c => { core := c.next } with ht
  have hstep : (t.m.kiln cl).stepping = false := by
    have hcharge : ((s.charge cl cost 0).m.kiln cl).stepping = false := by rw [charge_kiln]; exact h.single
    rw [ht]
    unfold State.retire
    dsimp only
    split
    · rw [closeWindow_stepping]; simpa using hcharge
    · simpa using hcharge
  have hret : Retired cl s s.m c.next cost (t.stepDone cl) :=
    finish_ok (eff := fun c => { core := c.next }) rfl h.agree hsl h.single
  have hdone : t.stepDone cl = t := by simp [State.stepDone, hstep]
  rw [hdone] at hret
  refine closeWindow_retired hret (actives_of_regs ?_ cl)
  obtain ⟨_, _, _, _, hrest⟩ := hret.rest
  rw [hrest, Mach.setKiln_regs]

/-- What a state that has retired an instruction of `s` with its machine keeps of it. -/
structure Keeps (cl : Nat) (s : State) (cost : Nat) (t : State) : Prop where
  due : (t.m.kiln cl).due = (s.m.kiln cl).due
  cyc : (t.m.kiln cl).cyc = (s.m.kiln cl).cyc + cost
  mem : t.m.mem = s.m.mem
  prog : t.m.prog = s.m.prog
  actives : t.m.actives cl = s.m.actives cl
  slice : (t.m.kiln cl).slice = none

theorem Retired.keeps {cl : Nat} {s t : State} {c : Core} {cost : Nat} (h : Retired cl s s.m c cost t) :
    Keeps cl s cost (t.mod fun m => m.modKiln cl fun k => { k with slice := none, stepping := false }) := by
  obtain ⟨_, _, _, _, hrest⟩ := h.rest
  have hregs : t.m.regs = s.m.regs := by rw [hrest, Mach.setKiln_regs]
  have hkiln := congrArg (fun m : Mach => m.kiln cl) hrest
  simp only [Mach.kiln_setKiln] at hkiln
  constructor
  · simp [hkiln]
  · simp [hkiln]
  · rw [State.mod_m, Mach.modKiln_mem, hrest, Mach.setKiln_mem]
  · rw [State.mod_m, Mach.modKiln_prog, hrest, Mach.setKiln_prog]
  · exact actives_of_regs ((Mach.modKiln_regs _ _ _).trans hregs) cl
  · simp

/-- The state after SLICE is the dispatch in a state that keeps what the slice left. -/
theorem slice_dispatches {cl : Fin 2} {s : State} {c : Core} (h : Ready cl s c) :
    ∃ t, exec (.slice cl) s = .next (t.dispatch cl) ∧ Keeps cl s 2 t ∧
      (∀ k < 3, t.core (1 - cl) k = s.core (1 - cl) k) ∧ t.pending = s.pending := by
  have hret := ended_retired h 2
  refine ⟨_, ?_, hret.keeps, hret.other, hret.queue⟩
  show Host.Outcome.next (execInstr cl false false (fun m _ _ => { m := m, cost := 2, res := .endSlice }) s) = _
  rw [execInstr_ready h false _ (by simp)]
  rfl

end Sys2Proof.Machine
end

section
open Sys2Proof Sys2Proof.Machine

/-- Settles O24: what SLICE has charged and retired is kept by the end of the slice, and the dispatch of the first due
slice sets every running core to the registers of R67. -/
theorem sliceEndsAndNextIsDispatched : Obligations.SliceEndsAndNextIsDispatched := by
  unfold Obligations.SliceEndsAndNextIsDispatched
  intro cl s c h
  obtain ⟨t, hexec, hkeep, hother, hqueue⟩ := slice_dispatches h
  obtain ⟨hdue, hslice⟩ := dispatch_kiln t cl
  obtain ⟨hcyc, _⟩ := dispatch_accounts t cl
  refine ⟨t.dispatch cl, hexec, ?_, ?_, ?_, ?_, ?_, fun k hk => ?_, fun task idx rest hd => ?_⟩
  · rw [hslice hkeep.slice, hkeep.due]
  · rw [hdue, hkeep.due]
  · rw [hcyc, hkeep.cyc, hkeep.due]
  · rw [dispatch_mem, hkeep.mem]
  · rw [dispatch_pending, hqueue]
  · rw [← hother k hk, State.core, dispatch_tri_other]; rfl
  · intro e ua k hk
    have hent : t.m.taskEnt task = e := by rw [Mach.taskEnt, hkeep.prog]; rfl
    have hunit : t.m.unitAt e.root = ua := by rw [Mach.unitAt, hkeep.prog]
    rw [dispatch_core (hkeep.due.trans hd) (hkeep.actives ▸ hk), hent, hunit, hkeep.mem, Memory.ldN_one]
    exact ⟨dispatched_rd _ _ _ _ _ _, dispatched_cb _ _ _ _ _ _, rfl, rfl, Nat.testBit_zero _⟩
end

section
/-! SUPPORT. Stores of whole buffers into the data space: what their check states and the retained delta leave alone
(R71, R128, R374, R375). -/

namespace Sys2Proof.Machine

/-! ### Check states -/

/-- Two modules that agree in the clusters and in the data space. -/
structure DataFrame (m m' : Mach) : Prop where
  k0 : m'.k0 = m.k0
  k1 : m'.k1 = m.k1
  ld8 : ∀ x < 0x01800000, m'.mem.ld8 x = m.mem.ld8 x

theorem DataFrame.trans {m m' m'' : Mach} (h : DataFrame m m') (h' : DataFrame m' m'') : DataFrame m m'' where
  k0 := h'.k0.trans h.k0
  k1 := h'.k1.trans h.k1
  ld8 x hx := (h'.ld8 x hx).trans (h.ld8 x hx)

theorem DataFrame.wr (m : Mach) (a v : Nat) : DataFrame m (m.wr a v) := ⟨rfl, rfl, fun _ _ => rfl⟩

theorem DataFrame.kiln {m m' : Mach} (h : DataFrame m m') (cl : Nat) : m'.kiln cl = m.kiln cl := by
  simp only [Mach.kiln, h.k0, h.k1]

/-- Two modules that agree also in the registers of the clusters. -/
structure ClusterFrame (m m' : Mach) : Prop extends DataFrame m m' where
  rg : ∀ a < 0x08010000, m'.rg a = m.rg a

namespace ClusterFrame

theorem refl (m : Mach) : ClusterFrame m m := ⟨⟨rfl, rfl, fun _ _ => rfl⟩, fun _ _ => rfl⟩

theorem trans {m m' m'' : Mach} (h : ClusterFrame m m') (h' : ClusterFrame m' m'') : ClusterFrame m m'' where
  toDataFrame := h.toDataFrame.trans h'.toDataFrame
  rg a ha := (h'.rg a ha).trans (h.rg a ha)

/-- A write of a register of no cluster. -/
theorem wr (m : Mach) {a : Nat} (v : Nat) (ha : 0x08010000 ≤ a) : ClusterFrame m (m.wr a v) :=
  ⟨.wr m a v, fun _ hb => Mach.rg_wr_other _ _ _ _ (by omega)⟩

theorem ledger (m : Mach) (code src arg0 arg1 arg2 : Nat) : ClusterFrame m (m.ledger code src arg0 arg1 arg2) where
  k0 := Mach.ledger_k0 _ _ _ _ _ _
  k1 := Mach.ledger_k1 _ _ _ _ _ _
  rg a ha := by
    apply Mach.rg_ledger <;> simp only [LDG_HEAD, LDG_FLUSHED, LDG_LOSTCNT, LDG_SUPCNT, LDG_STAT] <;> omega
  ld8 x hx := Mach.ld8_ledger _ _ _ _ _ _ _ (by omega) (by omega)

/-- A change of check states alone. -/
theorem ecc (m : Mach) (e : Tab Ecc) : ClusterFrame m { m with ecc := e } :=
  ⟨⟨rfl, rfl, fun _ _ => rfl⟩, fun _ _ => rfl⟩

theorem eccRecord (m : Mach) (a cls : Nat) (poison patrol : Bool) : ClusterFrame m (m.eccRecord a cls poison patrol) :=
  (wr m _ (by simp only [DDC_ECCCNT]; omega)).trans <| (wr _ _ (by decide)).trans <| (wr _ _ (by decide)).trans <|
    (wr _ _ (by decide)).trans (ledger _ _ _ _ _ _)

theorem eccWriteWord (m : Mach) (w cls : Nat) (whole : Bool) : ClusterFrame m (m.eccWriteWord w cls whole) := by
  unfold Mach.eccWriteWord
  split
  · exact ecc m _
  · split
    · exact refl m
    · exact (wr m _ (by simp only [DDC_ECCCNT]; omega)).trans (ecc _ _)
    · exact (eccRecord m _ cls false false).trans (ecc _ _)
    · exact eccRecord m _ cls true false

/-- The check states of the words that a store touches. -/
theorem eccWriteWords (whole : Nat → Bool) (cls : Nat) (ws : List Nat) (m : Mach) :
    ClusterFrame m (ws.foldl (fun m w => m.eccWriteWord w cls (whole w)) m) :=
  List.foldlRecOn ws _ (motive := ClusterFrame m) (refl m) fun _ h w _ => h.trans (eccWriteWord _ w cls _)

theorem actives {m m' : Mach} (h : ClusterFrame m m') (cl : ClusterId) : m'.actives cl = m.actives cl := by
  have hreg : m'.rg (KLN_CLSTAT cl) = m.rg (KLN_CLSTAT cl) := h.rg _ (by simp only [KLN_CLSTAT]; omega)
  simp only [Mach.actives, Mach.bit, hreg]

end ClusterFrame

/-! ### Stores of a cluster -/

/-- The module before the bytes of a store are written: check states apart, as it was. -/
theorem store_eq (m : Mach) (a : Nat) (bs : List Byte) (cls : Nat) :
    ∃ m', ClusterFrame m m' ∧ m.store a bs cls = { m' with mem := m'.mem.stBytes a bs } :=
  ⟨_, ClusterFrame.eccWriteWords (fun w => decide (a ≤ 8 * w) && decide (8 * w + 8 ≤ a + bs.length)) cls _ m, rfl⟩

section stores
variable (m : Mach) (cl : ClusterId) (a : Nat) (bs : List Byte)

/-- A store of a cluster counts the delta and marks exchange lines, and then stores (R71, R128). -/
theorem kilnStore_eq : ∃ (m' : Mach) (dirty : List Nat), m.kilnStore cl a bs = m'.store a bs cl ∧
    m'.regs = m.regs ∧ m'.kiln cl = { m.kiln cl with dirty := dirty } := by
  unfold Mach.kilnStore
  dsimp only
  split
  · exact ⟨_, _, rfl, Mach.modKiln_regs _ _ _, Mach.kiln_modKiln _ _ _⟩
  · exact ⟨_, (m.kiln cl).dirty, rfl, rfl, rfl⟩

theorem kilnStore_actives : (m.kilnStore cl a bs).actives cl = m.actives cl := by
  obtain ⟨m', _, hstore, hregs, _⟩ := kilnStore_eq m cl a bs
  obtain ⟨m'', hframe, hbytes⟩ := store_eq m' a bs cl
  rw [hstore, hbytes, ← actives_of_regs hregs, ← hframe.actives]
  rfl

/-- A store of a cluster changes nothing of its kept state but the marks of exchange lines (R71). -/
theorem kilnStore_kiln : ∃ dirty, (m.kilnStore cl a bs).kiln cl = { m.kiln cl with dirty := dirty } := by
  obtain ⟨m', dirty, hstore, _, hkiln⟩ := kilnStore_eq m cl a bs
  obtain ⟨m'', hframe, hbytes⟩ := store_eq m' a bs cl
  refine ⟨dirty, ?_⟩
  rw [hstore, hbytes, ← hkiln, ← hframe.kiln]
  rfl

/-- The stored bytes read back. -/
theorem kilnStore_ldBytes : (m.kilnStore cl a bs).mem.ldBytes a bs.length = bs := by
  obtain ⟨m', _, hstore, _, _⟩ := kilnStore_eq m cl a bs
  obtain ⟨_, _, hbytes⟩ := store_eq m' a bs cl
  rw [hstore, hbytes]
  exact Memory.ldBytes_stBytes bs _ a

end stores

end Sys2Proof.Machine
end

section
/-! SUPPORT. What an exception leaves of the data space and of the fetched accessions (R84 to R88). -/

namespace Sys2Proof.Machine

theorem faultPolicy_data (m : Mach) (t : Nat) : DataFrame m (m.faultPolicy t) := by
  have hrefl : DataFrame m m := (ClusterFrame.refl m).toDataFrame
  unfold Mach.faultPolicy
  split
  · exact hrefl
  · unfold Mach.losePeriod
    split
    · exact hrefl
    · have hcount : DataFrame m (m.incFld (KLN_TSTAT t) 7 0) := .wr m _ _
      exact hcount.trans ⟨rfl, rfl, fun _ _ => rfl⟩
  · exact .wr m _ _
  · exact ⟨rfl, rfl, fun _ _ => rfl⟩

theorem closeWindow_mem (s : State) (cl : Nat) : (s.closeWindow cl).m.mem = s.m.mem := by
  unfold State.closeWindow
  dsimp only
  split
  · rfl
  · exact Mach.setKiln_mem _ _ _

theorem closeWindow_fetched (s : State) (cl : Nat) : ((s.closeWindow cl).m.kiln cl).fetched = (s.m.kiln cl).fetched := by
  unfold State.closeWindow
  dsimp only
  split
  · rfl
  · rw [Mach.kiln_setKiln]

theorem endSlice_mem (s : State) (cl : Nat) : (s.endSlice cl).m.mem = s.m.mem := by
  rw [State.endSlice, dispatch_mem]
  exact (Mach.modKiln_mem _ _ _).trans (closeWindow_mem s cl)

theorem endSlice_fetched (s : State) (cl : Nat) : ((s.endSlice cl).m.kiln cl).fetched = (s.m.kiln cl).fetched := by
  rw [State.endSlice, (dispatch_accounts _ _).2, State.mod_m, Mach.kiln_modKiln]
  exact closeWindow_fetched s cl

/-- The module after an exception has been counted in its task's register (R85, R326). -/
def Mach.faultCounted (m : Mach) (task code : Nat) : Mach :=
  let m := (m.incFld (KLN_TFLT task) 31 16).setFld (KLN_TFLT task) 15 8 code
  if code = 15 then { m with pair := { m.pair with selfCause := true } } else m

theorem faultCounted_data (m : Mach) (task code : Nat) : DataFrame m (m.faultCounted task code) := by
  have hset : DataFrame m ((m.incFld (KLN_TFLT task) 31 16).setFld (KLN_TFLT task) 15 8 code) :=
    (DataFrame.wr m _ _).trans (.wr _ _ _)
  unfold Mach.faultCounted
  generalize (m.incFld (KLN_TFLT task) 31 16).setFld (KLN_TFLT task) 15 8 code = m' at hset ⊢
  dsimp only
  split
  · exact hset.trans ⟨rfl, rfl, fun _ _ => rfl⟩
  · exact hset

/-- An exception of a running slice: its record, its task's counts and policy, and the end of the slice (R84 to R88). -/
theorem takeException_eq {s : State} {cl : Nat} {sl : Slice} (hsl : (s.m.kiln cl).slice = some sl) (code : Nat) :
    takeException s cl code = ({ s with m :=
      ((s.m.exceptionRecord cl sl (s.m.lead cl (s.tri cl)).unit.toNat (s.m.lead cl (s.tri cl)).pc.toNat code
        false).faultCounted sl.task code).faultPolicy sl.task } : State).endSlice cl := by
  unfold takeException
  rw [hsl]
  rfl

/-- An exception writes no byte of the data space and fetches nothing. -/
theorem takeException_keeps {s : State} {cl : Nat} {sl : Slice} (hsl : (s.m.kiln cl).slice = some sl) (code : Nat) :
    (∀ x < 0x01800000, (takeException s cl code).m.mem.ld8 x = s.m.mem.ld8 x) ∧
      ((takeException s cl code).m.kiln cl).fetched = (s.m.kiln cl).fetched := by
  have hrec : ∀ unit pc, DataFrame s.m (s.m.exceptionRecord cl sl unit pc code false) :=
    fun _ _ => (ClusterFrame.ledger _ _ _ _ _ _).toDataFrame
  have hframe := ((hrec (s.m.lead cl (s.tri cl)).unit.toNat (s.m.lead cl (s.tri cl)).pc.toNat).trans
    (faultCounted_data _ sl.task code)).trans (faultPolicy_data _ sl.task)
  rw [takeException_eq hsl, endSlice_mem, endSlice_fetched]
  exact ⟨hframe.ld8, congrArg Kiln.fetched (hframe.kiln cl)⟩

end Sys2Proof.Machine
end

section
/-! SUPPORT. The outcomes of ACQ (R143, R144). -/

namespace Sys2Proof.Machine

/-- A block of the data space ends where Kiln SRAM does, at the latest (R70). -/
theorem blockInData_le {a n : Nat} (h : blockInData a n = true) : a + n ≤ 0x01800000 := by
  rw [blockInData, Bool.and_eq_true] at h
  exact of_decide_eq_true h.1

/-- ACQ writes a cell of up to 256 bytes of payload (R144, R348). -/
theorem acqBytes_length (m : Mach) (n : Nat) : (m.acqBytes n).length ≤ 288 := by
  simp only [Mach.acqBytes, List.length_append, List.length_take, List.length_drop, Memory.ldBytes_length, leBytes_length]
  omega

theorem fetchAcc_actives (m : Mach) (cl n k : Nat) : (m.fetchAcc cl n).actives k = m.actives k :=
  actives_of_regs (Mach.modKiln_regs _ _ _) k

theorem fetchAcc_kiln (m : Mach) (cl n : Nat) :
    (m.fetchAcc cl n).kiln cl = { m.kiln cl with fetched := (m.kiln cl).fetched ++ [n] } := Mach.kiln_modKiln _ _ _

/-- The counts of offers stand outside the data space (R348). -/
theorem fetchAcc_ldBytes (m : Mach) (cl n : Nat) {a k : Nat} (h : a + k ≤ 0x01800000) :
    (m.fetchAcc cl n).mem.ldBytes a k = m.mem.ldBytes a k := by
  refine Memory.ldBytes_congr fun i hi => ?_
  have hrec : a + i < Mach.recordAt n + 3 := by unfold Mach.recordAt; omega
  have hcell : a + i < Mach.cellAt (m.recCell n) + 27 := by unfold Mach.cellAt; omega
  rw [Mach.fetchAcc, Mach.modKiln_mem, Memory.stN, Memory.ld8_stBytes_other _ _ _ _ (.inl hcell), Memory.stN,
    Memory.ld8_stBytes_other _ _ _ _ (.inl hrec)]

/-- What the buffer of ACQ must satisfy before anything is fetched (R143). -/
structure AcqBuffer (cl : Nat) (m : Mach) (priv : Bool) (b : Nat) : Prop where
  range : blockInData b 288 = true
  align : b % 8 = 0
  write : m.kilnDeniedBlock cl b 288 1 priv = none

section acq
variable {cl : ClusterId} {s : State} {c : Core} (h : Ready cl s c) (d a : BitVec 5)
  (hbuf : AcqBuffer cl s.m c.sys (c.rd a).toNat)
include h hbuf

/-- With nothing to fetch ACQ answers NONE (R143). -/
theorem acqBody_none (hn : s.m.toFetch cl = none) : acqBody cl d a s.m (s.tri cl) c =
    ⟨s.m, 0, 96, .ok (effStatus d 1 fun c => (c.rd a).setWidth 32)⟩ := by
  unfold acqBody
  simp only [h.voted c.pc.toNat (req := fun c => some ⟨c.rd a, 0⟩) rfl, h.machLead,
    blockCheck_ok hbuf.range hbuf.align hbuf.write, hn]

/-- An accession whose bytes fit the retained delta is written and counts as fetched (R144). -/
theorem acqBody_fetches {n : Nat} (hn : s.m.toFetch cl = some n)
    (hroom : s.m.deltaFull (s.m.newGranules (c.rd a).toNat (s.m.acqBytes n).length) = false) :
    acqBody cl d a s.m (s.tri cl) c = ⟨(s.m.kilnStore cl (c.rd a).toNat (s.m.acqBytes n)).fetchAcc cl n, 0, 96,
      .ok (effStatus d 0 fun c => (c.rd a).setWidth 32)⟩ := by
  unfold acqBody
  simp only [h.voted c.pc.toNat (req := fun c => some ⟨c.rd a, 0⟩) rfl, h.machLead,
    blockCheck_ok hbuf.range hbuf.align hbuf.write, hn, hroom, Bool.false_eq_true, if_false]

/-- Without room in the retained delta ACQ raises COMMIT_FULL (R128, R144). -/
theorem acqBody_full {n : Nat} (hn : s.m.toFetch cl = some n)
    (hfull : s.m.deltaFull (s.m.newGranules (c.rd a).toNat (s.m.acqBytes n).length) = true) :
    acqBody cl d a s.m (s.tri cl) c = ⟨s.m, 0, 96, .exc 2⟩ := by
  unfold acqBody
  simp only [h.voted c.pc.toNat (req := fun c => some ⟨c.rd a, 0⟩) rfl, h.machLead,
    blockCheck_ok hbuf.range hbuf.align hbuf.write, hn, hfull, if_true]

end acq

end Sys2Proof.Machine
end

section
open Sys2Proof Sys2Proof.Machine

/-- Settles O26: the buffer's checks pass, so ACQ answers NONE, writes and counts the next accession, or finds the
retained delta full and ends its slice with nothing written. That OFFERS rises at the fetch is the model's choice (log
entry 125). -/
theorem acquireResults : Obligations.AcquireResults := by
  unfold Obligations.AcquireResults
  intro cl d a s c sl h hsl ht b hrange halign hwrite
  have hbuf : AcqBuffer cl s.m c.sys b := ⟨hrange, halign, hwrite⟩
  have hend := blockInData_le hrange
  refine ⟨fun hn => ?_, fun n hn => ?_⟩
  · exact .next ⟨_, effStatus_writes d 1 _ c,
      ready_retires h false (acqBody cl d a) (by simp) (acqBody_none h d a hbuf hn) rfl rfl h.single⟩
  · intro bs
    refine ⟨fun hroom => ?_, fun hfull => ?_⟩
    · obtain ⟨dirty, hkiln⟩ := kilnStore_kiln s.m cl b bs
      have hret := ready_retires h false (acqBody cl d a) (by simp) (acqBody_fetches h d a hbuf hn hroom)
        ((fetchAcc_actives _ _ _ _).trans (kilnStore_actives s.m cl b bs)) (by rw [fetchAcc_kiln, hkiln])
        (by rw [fetchAcc_kiln, hkiln]; exact h.single)
      refine .next ⟨_, effStatus_writes d 0 _ c, hret, ?_, ?_⟩
      · obtain ⟨_, _, _, _, hrest⟩ := hret.rest
        rw [hrest, Mach.kiln_setKiln, fetchAcc_kiln, hkiln]
      · have hlen : bs.length ≤ 288 := acqBytes_length s.m n
        rw [hret.mem, fetchAcc_ldBytes _ _ _ (by omega)]
        exact kilnStore_ldBytes s.m cl b bs
    · have hbody := acqBody_full h d a hbuf hn hfull
      have hexec : execInstr cl false false (acqBody cl d a) s = takeException (s.charge cl 96 0) cl 2 := by
        rw [execInstr_ready h false _ (by simp), hbody]; rfl
      obtain ⟨hmem, hfetched⟩ := takeException_keeps (s := s.charge cl 96 0) (cl := cl) (by rw [charge_kiln, hsl]; rfl) 2
      refine .next ⟨ready_raises h hsl ht (by decide) (hbody ▸ .same 0 96), ?_, ?_⟩
      · rw [hexec]
        refine Memory.ldBytes_congr fun i hi => (hmem (b + i) (by omega)).trans ?_
        rw [State.charge, State.mod_m, Mach.modKiln_mem]
      · rw [hexec, hfetched, charge_kiln]
end

section
/-! SUPPORT. The requests to the Deadline Engine: how a block is read and answered (R147, R148, R152, R153). -/

namespace Sys2Proof.Machine

/-! ### The block of a request -/

/-- The bytes of a request block as its cluster reads them, word by word (R71, R147). -/
def requestBlock (m : Mach) (cl b n : Nat) : List Byte :=
  (List.range (n / 8)).flatMap fun i => m.mem.ldBytes (readAddr cl (b + 8 * i)) 8

/-- A block that a cluster may read: in the data space, aligned, permitted and free of ECC errors (R70, R147). -/
structure Readable (cl : Nat) (m : Mach) (priv : Bool) (b n : Nat) : Prop where
  range : blockInData b n = true
  align : b % 8 = 0
  read : m.kilnDeniedBlock cl b n 0 priv = none
  intact : ∀ i < n / 8, m.clean (readAddr cl (b + 8 * i)) 8

theorem flatMap_words {α : Type} (f : Nat → List α) (b n : Nat) :
    ((countFrom 0 n).map fun i => b + 8 * i).flatMap f = (List.range n).flatMap fun i => f (b + 8 * i) := by
  simp only [countFrom_eq_map, List.map_map, List.flatMap_map, Function.comp_apply, Nat.zero_add]

theorem Readable.readWords {cl : Nat} {m : Mach} {priv : Bool} {b n : Nat} (h : Readable cl m priv b n) :
    m.readWords cl ((countFrom 0 (n / 8)).map fun i => b + 8 * i) = (0, false, m) := by
  refine readWords_clean fun x hx => ?_
  obtain ⟨i, hi, rfl⟩ := List.mem_map.mp hx
  exact h.intact i (by have := (countFrom_mem hi).2; omega)

/-! ### Posting -/

/-- The size of a request's block (R147). -/
def requestSize (op : ReqOp) : Nat := if op = .trkq then 64 else 32

/-- The cycles of a request (R148). -/
def requestCost (op : ReqOp) : Nat := if op = .trkq then 24 else 20

/-- A block that breaks a rule of its request (R149 to R151, R153; for TRACK with a KIND that takes none, log entry
115). -/
def requestBad (op : ReqOp) (b : List Byte) : Bool :=
  match op with
  | .tact => tactBad b
  | .trku => trkuBad b
  | .trkq => trkqBad b

/-- A TACT of LEVEL 2 (a pulse) with a WIDTH of 0 (R149, R153). -/
def requestZero (op : ReqOp) (b : List Byte) : Bool :=
  decide (op = .tact) && decide (fieldOf b 9 1 = 2) && decide (fieldOf b 10 2 = 0)

/-- A TRKQ that collects a result (R151). -/
def Collects (op : ReqOp) (b : List Byte) : Prop := op = .trkq ∧ fieldOf b 4 1 = 2

theorem requestStatus_posting {op : ReqOp} {b : List Byte} (h : ¬ Collects op b) (n : Nat) :
    requestStatus op b n = if requestBad op b then 5 else if requestZero op b then 6 else if 1024 ≤ n then 2 else 0 := by
  cases op with
  | tact => simp [requestStatus, requestBad, requestZero]
  | trku => simp [requestStatus, requestBad, requestZero]
  | trkq =>
    have hkind : fieldOf b 4 1 ≠ 2 := fun hk => h ⟨rfl, hk⟩
    simp [requestStatus, requestBad, requestZero, hkind]

/-- The module after a request has been answered with `st` (R152, R153). -/
def Mach.posted (m : Mach) (cl : Nat) (op : ReqOp) (b : List Byte) (st : Nat) : Mach :=
  if st = 0 then m.setKiln cl { m.kiln cl with queue := (m.kiln cl).queue ++ [⟨op, b⟩] } else m

theorem posted_actives (m : Mach) (cl : Nat) (op : ReqOp) (b : List Byte) (st : Nat) :
    (m.posted cl op b st).actives cl = m.actives cl := by
  refine actives_of_regs ?_ cl
  unfold Mach.posted
  split
  · exact Mach.setKiln_regs _ _ _
  · rfl

theorem posted_kiln (m : Mach) (cl : Nat) (op : ReqOp) (b : List Byte) (st : Nat) :
    ((m.posted cl op b st).kiln cl).slice = (m.kiln cl).slice ∧
      ((m.posted cl op b st).kiln cl).stepping = (m.kiln cl).stepping := by
  unfold Mach.posted
  split
  · rw [Mach.kiln_setKiln]; exact ⟨rfl, rfl⟩
  · exact ⟨rfl, rfl⟩

section requests
variable {cl : ClusterId} {s : State} {c : Core} (h : Ready cl s c) (d a : BitVec 5)
include h

/-- A readable block of a request that posts is answered by its status, and queued with OK (R152, R153). -/
theorem requestBody_posts {op : ReqOp} (hb : Readable cl s.m c.sys (c.rd a).toNat (requestSize op))
    (hc : ¬ Collects op (requestBlock s.m cl (c.rd a).toNat (requestSize op))) {st : Nat}
    (hst : requestStatus op (requestBlock s.m cl (c.rd a).toNat (requestSize op)) (s.m.kiln cl).queue.length = st) :
    requestBody cl op d a s.m (s.tri cl) c =
      ⟨s.m.posted cl op (requestBlock s.m cl (c.rd a).toNat (requestSize op)) st, 0, requestCost op,
        .ok (effStatus d st fun c => (c.rd a).setWidth 32)⟩ := by
  have hcollect : (decide (op = .trkq) &&
      decide (fieldOf (requestBlock s.m cl (c.rd a).toNat (requestSize op)) 4 1 = 2)) = false := by
    rw [← Bool.decide_and]
    exact decide_eq_false hc
  unfold requestBody
  simp only [h.voted c.pc.toNat (req := fun c => some ⟨c.rd a, 0⟩) rfl, h.machLead]
  rw [← requestSize, blockCheck_ok hb.range hb.align hb.read]
  simp only [hb.readWords, flatMap_words]
  rw [← requestBlock, hcollect]
  simp only [Bool.false_eq_true, if_false, hst, Bool.not_false, if_true]
  unfold Mach.posted
  by_cases hok : st = 0
  · rw [if_neg (not_not.mpr hok), if_pos hok, hok]; rfl
  · rw [if_pos hok, if_neg hok]; rfl

/-- A readable block of a request that posts writes its status and retires (R148, R152). -/
theorem request_posts {i : Instr} {op : ReqOp} (hi : exec i s = request cl op d a s)
    (hb : Readable cl s.m c.sys (c.rd a).toNat (requestSize op))
    (hc : ¬ Collects op (requestBlock s.m cl (c.rd a).toNat (requestSize op))) {st : Nat}
    (hst : requestStatus op (requestBlock s.m cl (c.rd a).toNat (requestSize op)) (s.m.kiln cl).queue.length = st) :
    Completes (exec i s) fun t => ∃ c', WritesG d (BitVec.ofNat 64 st) c c' ∧ Retired cl s
      (s.m.posted cl op (requestBlock s.m cl (c.rd a).toNat (requestSize op)) st) c' (requestCost op) t := by
  obtain ⟨hslice, hstep⟩ := posted_kiln s.m cl op (requestBlock s.m cl (c.rd a).toNat (requestSize op)) st
  rw [hi]
  exact .next ⟨_, effStatus_writes d st _ c, ready_retires h false (requestBody cl op d a) (by simp)
    (requestBody_posts h d a hb hc hst) (posted_actives s.m cl _ _ _) hslice (hstep.trans h.single)⟩

end requests

/-! ### Collecting -/

theorem QueryResult.bytes_length (r : QueryResult) : r.bytes.length = 48 := by
  simp only [QueryResult.bytes, List.length_append, leBytes_length]

/-- The own part of a TRKQ that collects, once its block and its area are checked (R151, R152). -/
def collectBody (cl : Nat) (d a : BitVec 5) (b : Nat) (m : Mach) : StepOut :=
  match (m.kiln cl).results with
  | [] => { m := m, cost := 24, res := .ok (effStatus d 1 fun c => (c.rd a).setWidth 32) }
  | r :: rest =>
    if m.deltaFull (m.newGranules (b + 16) 48) then { m := m, cost := 24, res := .exc 2 }
    else
      { m := (m.kilnStore cl (b + 16) r.bytes).modKiln cl fun k => { k with results := rest }
        cost := 24, res := .ok (effStatus d 0 fun c => (c.rd a).setWidth 32) }

theorem collectBody_nil {cl : Nat} {d a : BitVec 5} {b : Nat} {m : Mach} (hres : (m.kiln cl).results = []) :
    collectBody cl d a b m = ⟨m, 0, 24, .ok (effStatus d 1 fun c => (c.rd a).setWidth 32)⟩ := by
  rw [collectBody, hres]

/-- The module after a result has been collected (R151). -/
def Mach.collected (m : Mach) (cl b : Nat) (r : QueryResult) (rest : List QueryResult) : Mach :=
  (m.kilnStore cl (b + 16) r.bytes).modKiln cl fun k => { k with results := rest }

theorem collectBody_cons {cl : Nat} {d a : BitVec 5} {b : Nat} {m : Mach} {r : QueryResult} {rest : List QueryResult}
    (hres : (m.kiln cl).results = r :: rest) (hroom : m.deltaFull (m.newGranules (b + 16) 48) = false) :
    collectBody cl d a b m =
      ⟨m.collected cl b r rest, 0, 24, .ok (effStatus d 0 fun c => (c.rd a).setWidth 32)⟩ := by
  rw [collectBody, hres]
  exact if_neg (by rw [hroom]; exact Bool.false_ne_true)

theorem collected_actives (m : Mach) (cl : ClusterId) (b : Nat) (r : QueryResult) (rest : List QueryResult) :
    (m.collected cl b r rest).actives cl = m.actives cl :=
  (actives_of_regs (Mach.modKiln_regs _ _ _) cl).trans (kilnStore_actives m cl (b + 16) r.bytes)

theorem collected_kiln (m : Mach) (cl : ClusterId) (b : Nat) (r : QueryResult) (rest : List QueryResult) :
    ∃ dirty, (m.collected cl b r rest).kiln cl = { m.kiln cl with dirty := dirty, results := rest } := by
  obtain ⟨dirty, hkiln⟩ := kilnStore_kiln m cl (b + 16) r.bytes
  exact ⟨dirty, by rw [Mach.collected, Mach.kiln_modKiln, hkiln]⟩

theorem collected_ldBytes (m : Mach) (cl : ClusterId) (b : Nat) (r : QueryResult) (rest : List QueryResult) :
    (m.collected cl b r rest).mem.ldBytes (b + 16) 48 = r.bytes := by
  rw [Mach.collected, Mach.modKiln_mem, ← r.bytes_length]
  exact kilnStore_ldBytes m cl (b + 16) r.bytes

/-- The area of the results in a block of the data space lies in it too (R151). -/
theorem blockInData_area {b : Nat} (h : blockInData b 64 = true) : blockInData (b + 16) 48 = true := by
  simp only [blockInData, Bool.and_eq_true, Bool.or_eq_true, decide_eq_true_eq] at h ⊢
  omega

/-- A TRKQ that collects breaks no rule and may write its area. -/
structure Collectable (cl : Nat) (m : Mach) (priv : Bool) (b : Nat) : Prop extends Readable cl m priv b 64 where
  kind : fieldOf (requestBlock m cl b 64) 4 1 = 2
  good : trkqBad (requestBlock m cl b 64) = false
  write : m.kilnDeniedBlock cl (b + 16) 48 1 priv = none

section collects
variable {cl : ClusterId} {s : State} {c : Core} (h : Ready cl s c) (d a : BitVec 5)
  (hb : Collectable cl s.m c.sys (c.rd a).toNat)
include h hb

theorem requestBody_collects :
    requestBody cl .trkq d a s.m (s.tri cl) c = collectBody cl d a (c.rd a).toNat s.m := by
  have hst (n : Nat) : requestStatus .trkq (requestBlock s.m cl (c.rd a).toNat 64) n = 0 := by
    simp [requestStatus, hb.good, hb.kind]
  have harea : ((c.rd a).toNat + 16) % 8 = 0 := by have := hb.align; omega
  unfold requestBody
  simp only [h.voted c.pc.toNat (req := fun c => some ⟨c.rd a, 0⟩) rfl, h.machLead, if_true,
    blockCheck_ok hb.range hb.align hb.read, hb.readWords, flatMap_words]
  rw [← requestBlock]
  simp only [hb.kind, decide_true, Bool.and_self, Bool.false_eq_true, if_false, if_true,
    blockCheck_ok (blockInData_area hb.range) harea hb.write, hst, Bool.not_true, ne_eq, not_true_eq_false]
  rfl

end collects
end Sys2Proof.Machine
end

section
open Sys2Proof Sys2Proof.Machine

/-- Settles O28: a request that posts is answered by the first of its checks that fails, and queued when none does; a
TRKQ that collects writes the first result, if there is one, to its area. -/
theorem deadlineRequests : Obligations.DeadlineRequests := by
  unfold Obligations.DeadlineRequests
  refine ⟨?_, ?_⟩
  · intro cl d a s c h b q e he
    have hform : exec e.1 s = request cl e.2.1 d a s ∧ requestSize e.2.1 = e.2.2.1 ∧ requestCost e.2.1 = e.2.2.2 := by
      revert e
      simp only [List.forall_mem_cons, List.not_mem_nil, false_imp_iff, implies_true, and_true]
      exact ⟨⟨rfl, rfl, rfl⟩, ⟨rfl, rfl, rfl⟩, ⟨rfl, rfl, rfl⟩, ⟨rfl, rfl, rfl⟩, ⟨rfl, rfl, rfl⟩, ⟨rfl, rfl, rfl⟩,
        ⟨rfl, rfl, rfl⟩, ⟨rfl, rfl, rfl⟩⟩
    clear he
    obtain ⟨i, op, size, cost⟩ := e
    dsimp only at hform
    obtain ⟨hi, rfl, rfl⟩ := hform
    intro blk bad zero st hrange halign hread hclean hcollects
    have hst : requestStatus op blk q.length = st := requestStatus_posting hcollects q.length
    exact request_posts h d a hi ⟨hrange, halign, hread, hclean⟩ hcollects hst
  · intro cl d a s c h b blk hrange halign hread hclean hkind hgood hwrite
    have hb : Collectable cl s.m c.sys b := ⟨⟨hrange, halign, hread, hclean⟩, hkind, hgood, hwrite⟩
    have hbody := requestBody_collects h d a hb
    refine ⟨fun hnone => ?_, fun r rest hsome hroom => ?_⟩
    · exact .next ⟨_, effStatus_writes d 1 _ c,
        ready_retires h false (requestBody cl .trkq d a) (by simp) (hbody.trans (collectBody_nil hnone)) rfl rfl h.single⟩
    · obtain ⟨dirty, hkiln⟩ := collected_kiln s.m cl b r rest
      have hret := ready_retires h false (requestBody cl .trkq d a) (by simp) (hbody.trans (collectBody_cons hsome hroom))
        (collected_actives s.m cl b r rest) (by rw [hkiln]) (by rw [hkiln]; exact h.single)
      refine .next ⟨_, _, effStatus_writes d 0 _ c, hret, rfl, ?_, ?_⟩
      · obtain ⟨_, _, _, _, hrest⟩ := hret.rest
        rw [hrest, Mach.kiln_setKiln, hkiln]
      · rw [hret.mem]
        exact collected_ldBytes s.m cl b r rest
end

section
/-! SUPPORT. The scan of a state block: what is read, voted and stored (R108, R135). -/

namespace Sys2Proof.Machine

/-! ### The words of a block -/

/-- A cluster reads an address that it may write in its own place, not in a front copy (R71). -/
theorem readAddr_writable {m : Mach} {cl a : Nat} {priv : Bool} (h : m.kilnDenied cl a 1 priv = none) :
    readAddr cl a = a := by
  have hown : ¬ (exchangeOf a).any (· ≠ cl) = true := by
    intro hother
    unfold Mach.kilnDenied at h
    split at h <;> split_ifs at h with _ hrule <;> exact hrule ⟨rfl, hother⟩
  unfold readAddr
  split
  · next o ho =>
    rw [ho] at hown
    exact if_pos (by simpa using hown)
  · rfl

theorem clean_word {m : Mach} {a n i : Nat} (h : m.clean a (8 * n)) (hi : i < n) : m.clean (a + 8 * i) 8 :=
  fun w hlo hhi => h w (by omega) (by omega)

theorem word_lt (m : Mach) (a i : Nat) : m.word a i < 2 ^ 64 := by
  have h := leNat_lt (m.mem.ldBytes (a + 8 * i) 8)
  rwa [Memory.ldBytes_length] at h

/-- Words of a block that are stored read as they were given; the others as before. -/
theorem storeWords_word {cl a : Nat} (ha : a % 8 = 0) {v : Nat → Nat} (hv : ∀ i, v i < 2 ^ 64) (is : List Nat) (m : Mach)
    (j : Nat) : (m.storeWords cl (is.map fun i => (a + 8 * i, v i))).word a j = if j ∈ is then v j else m.word a j := by
  induction is generalizing m with
  | nil => rfl
  | cons i is ih =>
    have hmem := kilnStore_word_mem m cl (a := a + 8 * i) (by omega) (leBytes_length 8 (v i))
    refine (ih (m.kilnStore cl (a + 8 * i) (leBytes 8 (v i)))).trans ?_
    by_cases hj : j ∈ is
    · rw [if_pos hj, if_pos (List.mem_cons_of_mem i hj)]
    · rw [if_neg hj, Mach.word, hmem]
      by_cases hji : j = i
      · subst hji
        rw [if_pos List.mem_cons_self]
        exact (Memory.ldN_stN _ _ _ _).trans (Nat.mod_eq_of_lt (hv j))
      · rw [if_neg (by simp [hji, hj]), Mach.word, Memory.ldN,
          Memory.ldBytes_stBytes_other _ _ _ _ _ (by rw [leBytes_length]; omega)]
        rfl

/-! ### The words that change -/

/-- The places of the words that a scan changes. -/
def changedPlaces (old : Nat → Nat) (new : List Nat) : List Nat :=
  (List.range new.length).filter fun i => new.getD i 0 ≠ old i

/-- The words that a scan changes, with their addresses. -/
def changedWords (a : Nat) (old : Nat → Nat) (new : List Nat) : List (Nat × Nat) :=
  (changedPlaces old new).map fun i => (a + 8 * i, new.getD i 0)

/-- The store that a core asks for at word `i` of its block. -/
def scanReq (b : Word) (old : Nat → Nat) (new : List Nat) (i : Nat) : Option VReq :=
  if new.getD i 0 = old i then none else some ⟨b + BitVec.ofNat 64 (8 * i), BitVec.ofNat 64 (new.getD i 0)⟩

theorem scanReq_toList (b : Word) (old : Nat → Nat) (new : List Nat) :
    ((countFrom 0 new.length).flatMap fun i => (scanReq b old new i).toList) =
      (changedPlaces old new).map fun i => ⟨b + BitVec.ofNat 64 (8 * i), BitVec.ofNat 64 (new.getD i 0)⟩ := by
  simp only [countFrom_eq_map, Nat.zero_add, List.map_id', changedPlaces]
  induction List.range new.length with
  | nil => rfl
  | cons i is ih =>
    rw [List.flatMap_cons, ih, List.filter_cons]
    by_cases h : new.getD i 0 = old i
    · rw [if_neg (by simpa using h), scanReq, if_pos h]
      rfl
    · rw [if_pos (by simpa using h), scanReq, if_neg h]
      rfl

/-- A fold that adds some elements for each index and keeps the rest collects them. -/
theorem foldl_flatMap {α β σ : Type} {f : List β × Bool × σ → α → List β × Bool × σ} {x : α → List β} {m : σ}
    (hf : ∀ l i, f (l, false, m) i = (l ++ x i, false, m)) (is : List α) (before : List β) :
    is.foldl f (before, false, m) = (before ++ is.flatMap x, false, m) := by
  induction is generalizing before with
  | nil => simp
  | cons i is ih => rw [List.foldl_cons, hf, ih, List.flatMap_cons, List.append_assoc]

/-- Cores that agree ask for the same words and leave the same words alone. -/
theorem Ready.voteScan {cl : Nat} {s : State} {c : Core} (h : Ready cl s c) {n pc : Nat}
    {req : Core → Nat → Option VReq} {x : Nat → Option VReq} (hx : ∀ i, req c i = x i) :
    s.m.voteWords cl pc (s.tri cl) n req = ((countFrom 0 n).flatMap fun i => (x i).toList, false, s.m) := by
  refine (foldl_flatMap (x := fun i => (x i).toList) (fun l i => ?_) (countFrom 0 n) []).trans (by rw [List.nil_append])
  cases hi : x i with
  | none => simp only [h.voted_none pc (req := fun c => req c i) ((hx i).trans hi)]; rfl
  | some w => simp only [h.voted pc (req := fun c => req c i) ((hx i).trans hi)]; rfl

/-! ### The instruction -/

section scans
variable {cl : ClusterId} {s : State} {c : Core} {r : BlockForm} {a : Nat} {new : List Nat}

/-- The words that a scan of a scannable block changes are stored. -/
theorem Scannable.written {b : Word} (hb : b.toNat = a) {priv : Bool} (hscan : Scannable cl s.m priv a new.length)
    (hnew : ∀ i, new.getD i 0 < 2 ^ 64) :
    s.m.writeWords cl priv ((changedPlaces (s.m.word a) new).map fun i =>
        ⟨b + BitVec.ofNat 64 (8 * i), BitVec.ofNat 64 (new.getD i 0)⟩) =
      (none, s.m.storeWords cl (changedWords a (s.m.word a) new)) := by
  obtain ⟨hrange, halign, _, hwrite, _, hroom⟩ := hscan
  have hend : a + 8 * new.length ≤ 0x01800000 := by
    simp only [blockInData, Bool.and_eq_true, decide_eq_true_eq] at hrange
    exact hrange.1
  have hplace {i : Nat} (hi : i ∈ changedPlaces (s.m.word a) new) : i < new.length :=
    List.mem_range.mp (List.mem_of_mem_filter hi)
  have haddr {i : Nat} (hi : i < new.length) : (b + BitVec.ofNat 64 (8 * i)).toNat = a + 8 * i := by
    rw [BitVec.toNat_add, BitVec.toNat_ofNat, hb]
    omega
  have hlen : (changedPlaces (s.m.word a) new).length ≤ new.length := by
    simpa [changedPlaces] using List.length_filter_le (fun i => new.getD i 0 ≠ s.m.word a i) (List.range new.length)
  rw [writeWords_ok (List.forall_mem_map.mpr fun i hi => ?_) (List.forall_mem_map.mpr fun i hi => ?_)
    (by rw [List.length_map]; omega), List.map_map, changedWords]
  · refine congrArg (fun l => (none, s.m.storeWords cl l)) (List.map_congr_left fun i hi => ?_)
    simp only [Function.comp_apply, haddr (hplace hi), BitVec.toNat_ofNat, Nat.mod_eq_of_lt (hnew i)]
  · rw [haddr (hplace hi)]; omega
  · rw [haddr (hplace hi)]; exact hwrite i (hplace hi)

/-- A scan of a scannable block reads its words, stores those that it changes and writes its bit. -/
theorem blockBody_ok (h : Ready cl s c) (hb : (effAddr c r.base r.off).toNat = a)
    (hscan : Scannable cl s.m c.sys a new.length) (hnew : ∀ i, new.getD i 0 < 2 ^ 64) {scan : Scan} {q : Bool}
    (hs : scan (c.cb r.c) ((List.range new.length).map (s.m.word a)) = (q, new)) (cost : Nat) :
    ∃ eff, blockBody cl new.length cost r scan s.m (s.tri cl) c =
      ⟨s.m.storeWords cl (changedWords a (s.m.word a) new), 0, cost, .ok eff⟩ ∧ (eff c).core = (c.wrC r.c q).next := by
  have hread {i : Nat} (hi : i < new.length) : readAddr cl (a + 8 * i) = a + 8 * i :=
    readAddr_writable (hscan.write i hi)
  have hclean : ∀ x ∈ (countFrom 0 new.length).map (fun i => a + 8 * i), s.m.clean (readAddr cl x) 8 := by
    refine List.forall_mem_map.mpr fun i hi => ?_
    have hlt : i < new.length := by have := (countFrom_mem hi).2; omega
    rw [hread hlt]
    exact clean_word hscan.intact hlt
  have hold : ((countFrom 0 new.length).map (fun i => a + 8 * i)).map (fun x => s.m.mem.ldN (readAddr cl x) 8) =
      (List.range new.length).map (s.m.word a) := by
    rw [countFrom_eq_map, List.map_map, List.map_map]
    refine List.map_congr_left fun i hi => ?_
    simp only [Function.comp_apply, Nat.zero_add, hread (List.mem_range.mp hi), Mach.word]
  unfold blockBody
  rw [h.voted c.pc.toNat (x := ⟨effAddr c r.base r.off, 0⟩) rfl]
  simp only [hb, h.machLead, blockCheck_ok hscan.range hscan.align hscan.read, readWords_clean hclean, hold,
    Bool.false_eq_true, if_false]
  rw [h.voteScan (x := fun i => if i < new.length then scanReq (effAddr c r.base r.off) (s.m.word a) new i else none)
    (fun i => ?asked)]
  case asked =>
    by_cases hi : i < new.length
    · simp [hs, hi, scanReq]
    · simp [hs, hi]
  rw [show ((countFrom 0 new.length).flatMap fun i => (if i < new.length then
      scanReq (effAddr c r.base r.off) (s.m.word a) new i else none).toList) = _ from
    (List.flatMap_congr fun i hi => by rw [if_pos (by have := (countFrom_mem hi).2; omega)]).trans
      (scanReq_toList _ _ _)]
  simp only [hscan.written hb hnew, Bool.false_eq_true, if_false]
  exact ⟨_, rfl, by simp only [hs]⟩

/-- A block instruction on a scannable block leaves what its scan gives. -/
theorem block_scans {i : Instr} {n cost : Nat} {scan : Mach → Scan} (hexec : exec i s = block cl n cost r scan s)
    (h : Ready cl s c) (hscan : Scannable cl s.m c.sys (effAddr c r.base r.off).toNat n) {q : Bool} (hn : new.length = n)
    (hnew : ∀ i, new.getD i 0 < 2 ^ 64)
    (hs : scan s.m (c.cb r.c) ((List.range n).map (s.m.word (effAddr c r.base r.off).toNat)) = (q, new)) :
    Completes (exec i s) (Scanned cl s (effAddr c r.base r.off).toNat new r.c q c cost) := by
  subst hn
  obtain ⟨eff, hbody, heff⟩ := blockBody_ok h rfl hscan hnew hs cost
  generalize ha : (effAddr c r.base r.off).toNat = a at *
  have halign : ∀ w ∈ changedWords a (s.m.word a) new, w.1 % 8 = 0 :=
    List.forall_mem_map.mpr fun i _ => by have := hscan.align; omega
  obtain ⟨hslice, hstep⟩ := storeWords_kiln cl halign s.m
  have hret := ready_retires h false (fun m t lead => blockBody cl new.length cost r (scan m) m t lead) (by simp) hbody
    (actives_of_regs (storeWords_regs cl halign s.m) cl) hslice (hstep.trans h.single)
  rw [hexec, block]
  refine .next ⟨⟨_, ?_, hret⟩, fun j hj => ?_, fun x hx => ?_⟩
  · rw [heff]
    exact effC_writes r.c (fun _ => q) c
  · rw [Mach.word, hret.mem]
    refine (storeWords_word hscan.align hnew _ s.m j).trans ?_
    split_ifs with hch
    · rfl
    · by_contra hne
      exact hch (List.mem_filter.mpr ⟨List.mem_range.mpr hj, by simpa using Ne.symm hne⟩)
  · rw [hret.mem]
    refine storeWords_ld8 cl halign s.m (List.forall_mem_map.mpr fun i hi => ?_)
    have hi : i < new.length := List.mem_range.mp (List.mem_of_mem_filter hi)
    omega

end scans

end Sys2Proof.Machine
end

section
/-! SUPPORT. What the scans of edges, timers and counters leave (R137, R138, R141). -/

namespace Sys2Proof.Machine

/-! ### Flags of a block -/

theorem b2n_le (b : Bool) : b2n b ≤ 1 := by cases b <;> decide

theorem b2n_mod_two (w : Nat) : b2n (decide (w % 2 = 1)) = w % 2 := by
  have := Nat.mod_two_eq_zero_or_one w
  unfold b2n
  split <;> simp_all

theorem putBits_bit_zero (w : Nat) (b : Bool) : putBits w 0 0 (b2n b) = w / 2 * 2 + b2n b := by
  have := b2n_le b
  rw [putBits_eq]; omega

/-- The words of a block are below 2^64 if each is. -/
theorem getD_lt {l : List Nat} (h : ∀ v ∈ l, v < 2 ^ 64) (i : Nat) : l.getD i 0 < 2 ^ 64 := by
  by_cases hi : i < l.length
  · rw [List.getD_eq_getElem _ _ hi]; exact h _ (List.getElem_mem hi)
  · rw [List.getD_eq_default _ _ (Nat.le_of_not_lt hi)]; decide

/-! ### Edges -/

theorem edgScan_word (f : Bool → Bool → Bool) (inp : Bool) (w : Nat) :
    edgScan f inp [w] = (f inp (decide (w % 2 = 1)), [w / 2 * 2 + b2n inp]) := by
  simp only [edgScan, List.headD_cons, Nat.testBit_zero, putBits_bit_zero]
  split
  · next hsame =>
    have hbit : b2n inp = w % 2 := by rw [hsame, b2n_mod_two]
    rw [hbit, Nat.div_add_mod']
  · rfl

/-- An edge instruction leaves IN in its block and the edge in its bit. -/
theorem edge_scans {cl : ClusterId} {s : State} {c : Core} {r : BlockForm} (i : Instr) (f : Bool → Bool → Bool)
    (hexec : exec i s = block cl 1 6 r (fun _ => edgScan f) s) (h : Ready cl s c) {a : Nat}
    (ha : (effAddr c r.base r.off).toNat = a) (hscan : Scannable cl s.m c.sys a 1) :
    Completes (exec i s) (Scanned cl s a [s.m.word a 0 / 2 * 2 + b2n (c.cb r.c)] r.c
      (f (c.cb r.c) (decide (s.m.word a 0 % 2 = 1))) c 6) := by
  subst ha
  refine block_scans hexec h hscan rfl (getD_lt (List.forall_mem_singleton.mpr ?_)) (edgScan_word f _ _)
  have := word_lt s.m (effAddr c r.base r.off).toNat 0
  have := b2n_le (c.cb r.c)
  omega

/-! ### Timers -/

theorem tonTiming_eq (inp last run : Bool) (pt et d : Nat) :
    tonTiming inp last run pt et d =
      let onEt := if !inp || !last then 0 else if run then min pt (et + d) else et
      ⟨onEt, inp && (!last || run), inp && decide (pt ≤ onEt)⟩ := by
  cases inp <;> cases last <;> cases run <;> rfl

theorem tofTiming_eq (inp last run : Bool) (pt et d : Nat) :
    tofTiming inp last run pt et d =
      let offEt := if inp || last then 0 else if run then min pt (et + d) else et
      ⟨offEt, !inp && (last || run) && decide (offEt < pt), inp || decide (offEt < pt)⟩ := by
  cases inp <;> cases last <;> cases run <;> rfl

theorem tpTiming_eq (inp last run : Bool) (pt et d : Nat) :
    tpTiming inp last run pt et d =
      let start := inp && !last && !run
      let pulseEt := if start then 0 else if run then min pt (et + d) else et
      ⟨pulseEt, (start || run) && decide (pulseEt < pt), (start || run) && decide (pulseEt < pt)⟩ := by
  cases inp <;> cases last <;> cases run <;> rfl

/-- A timer's elapsed time is cleared, grown up to PT, or as it was. -/
theorem et_le {pt et grown : Nat} (cleared run : Bool) (h : grown ≤ pt) :
    (if cleared then 0 else if run then grown else et) ≤ pt ∨
      (if cleared then 0 else if run then grown else et) ≤ et := by
  split_ifs
  · exact .inl (Nat.zero_le _)
  · exact .inl h
  · exact .inr le_rfl

theorem elapsed_eq {now last : Nat} (h : last < 2 ^ 64) :
    (now + 2 ^ 64 - last) % 2 ^ 64 = (((now : Int) - last).emod (2 ^ 64)).toNat := by
  show _ = (((now : Int) - last) % (2 ^ 64)).toNat
  omega

theorem putBits_timer (fl : Nat) (q inp run : Bool) :
    putBits fl 2 0 (b2n q + 2 * b2n inp + 4 * b2n run) = fl / 8 * 8 + b2n q + 2 * b2n inp + 4 * b2n run := by
  have := b2n_le q
  have := b2n_le inp
  have := b2n_le run
  rw [putBits_eq]; omega

theorem tmrScan_words {f : Bool → Bool → Bool → Nat → Nat → Nat → Timing} {inp : Bool} {pt et last fl : Nat}
    (hlast : last < 2 ^ 64) (now : Nat) {et' : Nat} {run q : Bool}
    (hf : f inp (decide (fl / 2 % 2 = 1)) (decide (fl / 4 % 2 = 1)) pt et
      (((now : Int) - last).emod (2 ^ 64)).toNat = ⟨et', run, q⟩) :
    tmrScan now f inp [pt, et, last, fl] =
      (q, [pt, et', now % 2 ^ 64, fl / 8 * 8 + b2n q + 2 * b2n inp + 4 * b2n run]) := by
  simp only [tmrScan, List.getD_cons_zero, List.getD_cons_succ, Nat.testBit_eq_decide_div_mod_eq, elapsed_eq hlast]
  rw [show 2 ^ 1 = 2 from rfl, show 2 ^ 2 = 4 from rfl, hf, putBits_timer]

/-- A timer whose function gives ET, RUN and Q leaves its block so. -/
theorem timer_scans {cl : ClusterId} {s : State} {c : Core} {r : BlockForm} (i : Instr)
    (f : Bool → Bool → Bool → Nat → Nat → Nat → Timing)
    (hexec : exec i s = block cl 4 14 r (fun m => tmrScan m.tick.start f) s) (h : Ready cl s c) {a : Nat}
    (ha : (effAddr c r.base r.off).toNat = a) (hscan : Scannable cl s.m c.sys a 4) {et : Nat} {run q : Bool}
    (het : et ≤ s.m.word a 0 ∨ et ≤ s.m.word a 1)
    (hf : f (c.cb r.c) (decide (s.m.word a 3 / 2 % 2 = 1)) (decide (s.m.word a 3 / 4 % 2 = 1)) (s.m.word a 0)
      (s.m.word a 1) (((s.m.tick.start : Int) - s.m.word a 2).emod (2 ^ 64)).toNat = ⟨et, run, q⟩) :
    Completes (exec i s) (Scanned cl s a [s.m.word a 0, et, s.m.tick.start % 2 ^ 64,
      s.m.word a 3 / 8 * 8 + b2n q + 2 * b2n (c.cb r.c) + 4 * b2n run] r.c q c 14) := by
  subst ha
  refine block_scans hexec h hscan rfl (getD_lt ?_) (tmrScan_words (word_lt ..) _ hf)
  have hpt := word_lt s.m (effAddr c r.base r.off).toNat 0
  have helapsed := word_lt s.m (effAddr c r.base r.off).toNat 1
  have hfl := word_lt s.m (effAddr c r.base r.off).toNat 3
  have := b2n_le q
  have := b2n_le (c.cb r.c)
  have := b2n_le run
  simp only [List.forall_mem_cons, List.not_mem_nil, false_imp_iff, implies_true, and_true]
  omega

/-! ### Counters -/

theorem putBits_counter (fl : Nat) (q : Bool) : putBits fl 1 1 (b2n q) = fl / 4 * 4 + fl % 2 + 2 * b2n q := by
  have := b2n_le q
  rw [putBits_eq]; omega

/-- The flags of a counter block: IN as given in the counting kinds, as before in the others (R141). -/
theorem counter_flags (counts inp q : Bool) (fl : Nat) :
    putBits (if counts then putBits fl 0 0 (b2n inp) else fl) 1 1 (b2n q) =
      fl / 4 * 4 + b2n (if counts then inp else decide (fl % 2 = 1)) + 2 * b2n q := by
  rw [putBits_counter]
  cases counts with
  | false => simp only [Bool.false_eq_true, if_false, b2n_mod_two]
  | true =>
    have := b2n_le inp
    simp only [if_true, putBits_bit_zero]
    omega

/-- A count that steps on an edge unless it stands at its bound, and the output it gives (R141). -/
theorem stepped_eq (edge : Bool) (bound next cv : Int) (q : Int → Bool) :
    (let v := if edge && decide (cv ≠ bound) then next else cv; (v, q v)) =
      (let v := if edge ∧ cv ≠ bound then next else cv; (v, q v)) := by
  simp only [Bool.and_eq_true, decide_eq_true_eq]

/-- A counter whose function gives the count and Q leaves its block so. -/
theorem counter_scans {cl : ClusterId} {s : State} {c : Core} {r : BlockForm} (i : Instr) (counts : Bool)
    (f : Bool → Bool → Int → Int → Int × Bool) (hexec : exec i s = block cl 3 10 r (fun _ => ctrScan counts f) s)
    (h : Ready cl s c) {a : Nat} (ha : (effAddr c r.base r.off).toNat = a) (hscan : Scannable cl s.m c.sys a 3) {cv : Int}
    {q b : Bool} (hb : (if counts then c.cb r.c else decide (s.m.word a 2 % 2 = 1)) = b)
    (hf : f (c.cb r.c) (c.cb r.c && decide (s.m.word a 2 % 2 = 0)) (Int.bmod (s.m.word a 1) (2 ^ 64))
      (Int.bmod (s.m.word a 0) (2 ^ 64)) = (cv, q)) :
    Completes (exec i s) (Scanned cl s a [s.m.word a 0, (cv.emod (2 ^ 64)).toNat, s.m.word a 2 / 4 * 4 + b2n b +
      2 * b2n q] r.c q c 10) := by
  subst ha
  generalize ha : (effAddr c r.base r.off).toNat = a at *
  have hedge : (!(s.m.word a 2).testBit 0) = decide (s.m.word a 2 % 2 = 0) := by
    rw [Nat.testBit_zero, ← decide_not, decide_eq_decide]; omega
  subst ha
  refine block_scans hexec h hscan rfl (getD_lt ?_) ?_
  · have hpv := word_lt s.m (effAddr c r.base r.off).toNat 0
    have hfl := word_lt s.m (effAddr c r.base r.off).toNat 2
    have hin := b2n_le b
    have hq := b2n_le q
    have hcv : (cv.emod (2 ^ 64)).toNat < 2 ^ 64 := by
      show (cv % 2 ^ 64).toNat < _
      omega
    simp only [List.forall_mem_cons, List.not_mem_nil, false_imp_iff, implies_true, and_true]
    omega
  · show ctrScan counts f (c.cb r.c) [s.m.word _ 0, s.m.word _ 1, s.m.word _ 2] = _
    simp only [ctrScan, List.getD_cons_zero, List.getD_cons_succ, signed_64, hedge, hf, counter_flags, hb, wrapInt]
    rfl

end Sys2Proof.Machine
end

section
open Sys2Proof Sys2Proof.Machine

/-- Settles O21: a block in the data space that may be read and written is read whole, every core makes the same of it,
and the words that its scan changes are stored; the scans of edges, timers and counters give the words of the rules. -/
theorem blockScans : Obligations.BlockScans := by
  unfold Obligations.BlockScans
  refine ⟨?edges, ?timers, ?counters⟩
  case edges =>
    intro cl r s c h a hscan inp w prev e he
    have ha : (effAddr c r.base r.off).toNat = a := rfl
    revert e
    simp only [List.forall_mem_cons, List.not_mem_nil, false_imp_iff, implies_true, and_true]
    exact ⟨edge_scans (.edgRise cl r) (fun i p => i && !p) rfl h ha hscan,
      edge_scans (.edgFall cl r) (fun i p => p && !i) rfl h ha hscan,
      edge_scans (.edgEither cl r) (fun i p => xor i p) rfl h ha hscan⟩
  case timers =>
    intro cl r s c h a hscan inp now pt et fl last run grown onEt offEt start pulseEt e he
    have ha : (effAddr c r.base r.off).toNat = a := rfl
    have hle : grown ≤ pt := Nat.min_le_left ..
    revert e
    simp only [List.forall_mem_cons, List.not_mem_nil, false_imp_iff, implies_true, and_true]
    exact ⟨timer_scans (.ton cl r) tonTiming rfl h ha hscan (et_le _ _ hle) (tonTiming_eq ..),
      timer_scans (.tof cl r) tofTiming rfl h ha hscan (et_le _ _ hle) (tofTiming_eq ..),
      timer_scans (.tp cl r) tpTiming rfl h ha hscan (et_le _ _ hle) (tpTiming_eq ..)⟩
  case counters =>
    intro cl r s c h a hscan inp fl edge pv cv up down cleared loaded e he
    have ha : (effAddr c r.base r.off).toNat = a := rfl
    revert e
    simp only [List.forall_mem_cons, List.not_mem_nil, false_imp_iff, implies_true, and_true]
    have hcounts (x y : Bool) : (if true then x else y) = x := rfl
    have hkeeps (x y : Bool) : (if false then x else y) = y := rfl
    exact ⟨counter_scans (.ctu cl r) true _ rfl h ha hscan (hcounts ..)
        (stepped_eq edge _ _ cv fun v => decide (pv ≤ v)),
      counter_scans (.ctd cl r) true _ rfl h ha hscan (hcounts ..) (stepped_eq edge _ _ cv fun v => decide (v ≤ 0)),
      counter_scans (.crs cl r) false _ rfl h ha hscan (hkeeps ..) rfl,
      counter_scans (.cld cl r) false _ rfl h ha hscan (hkeeps ..) rfl⟩
end

section
/-! SUPPORT. The order of floating-point data (R123, R124). -/

namespace Sys2Proof.Machine

/-! ### Sums and the order of finite data -/

theorem rat_eq_scaled {e' : Int} (n : Bool) (m : Nat) {e : Int} (h : e' ≤ e) :
    (FVal.fin n m e).rat = ((if n then -((m : Int) * 2 ^ (e - e').toNat) else (m : Int) * 2 ^ (e - e').toNat : Int) : ℚ) *
      2 ^ e' := by
  have hsplit : (2 : ℚ) ^ e = 2 ^ (e - e').toNat * 2 ^ e' := by
    rw [← zpow_natCast, ← zpow_add₀ (by norm_num), Int.toNat_of_nonneg (by omega), Int.sub_add_cancel]
  rw [FVal.rat, hsplit]
  cases n with
  | false => simp only [Bool.false_eq_true, if_false]; push_cast; ring
  | true => simp only [if_true]; push_cast; ring

/-- The integer of a finite sum, over the smaller exponent, is the sum. -/
theorem finSum_rat (n1 : Bool) (m1 : Nat) (e1 : Int) (n2 : Bool) (m2 : Nat) (e2 : Int) :
    ((finSum n1 m1 e1 n2 m2 e2).1 : ℚ) * 2 ^ min e1 e2 = (FVal.fin n1 m1 e1).rat + (FVal.fin n2 m2 e2).rat := by
  rw [rat_eq_scaled n1 m1 (min_le_left e1 e2), rat_eq_scaled n2 m2 (min_le_right e1 e2), ← add_mul, ← Int.cast_add]
  rfl

theorem rat_negate (n : Bool) (m : Nat) (e : Int) : (FVal.fin (!n) m e).rat = -(FVal.fin n m e).rat := by
  cases n <;> simp [FVal.rat]

theorem rat_zero (n : Bool) (e : Int) : (FVal.fin n 0 e).rat = 0 := by simp [FVal.rat]

theorem finSum_neg_iff (n1 : Bool) (m1 : Nat) (e1 : Int) (n2 : Bool) (m2 : Nat) (e2 : Int) :
    (finSum n1 m1 e1 (!n2) m2 e2).1 < 0 ↔ (FVal.fin n1 m1 e1).rat < (FVal.fin n2 m2 e2).rat := by
  have hsum := finSum_rat n1 m1 e1 (!n2) m2 e2
  rw [rat_negate, ← sub_eq_add_neg] at hsum
  have hpos : (0 : ℚ) < 2 ^ min e1 e2 := by positivity
  rw [← sub_neg (a := (FVal.fin n1 m1 e1).rat), ← hsum, mul_neg_iff]
  simp only [hpos, hpos.not_gt, and_false, false_or, and_true, Int.cast_lt_zero]

/-- The strict order of finite data is that of their numbers, but for -0 below +0 where zeros are told apart. -/
theorem ltVal_fin (zeros : Bool) {n1 : Bool} {m1 : Nat} {e1 : Int} {n2 : Bool} {m2 : Nat} {e2 : Int}
    (h : zeros = true → ¬ (m1 = 0 ∧ m2 = 0)) : ltVal zeros (.fin n1 m1 e1) (.fin n2 m2 e2) =
      decide ((FVal.fin n1 m1 e1).rat < (FVal.fin n2 m2 e2).rat) := by
  unfold ltVal
  by_cases hz : m1 = 0 ∧ m2 = 0
  · obtain ⟨rfl, rfl⟩ := hz
    cases zeros with
    | false => simp [rat_zero]
    | true => exact absurd ⟨rfl, rfl⟩ (h rfl)
  · simp only [if_neg hz, finSum_neg_iff]

theorem eqVal_fin (n1 : Bool) (m1 : Nat) (e1 : Int) (n2 : Bool) (m2 : Nat) (e2 : Int) :
    eqVal (.fin n1 m1 e1) (.fin n2 m2 e2) = decide ((FVal.fin n1 m1 e1).rat = (FVal.fin n2 m2 e2).rat) := by
  have heq (p q : ℚ) : p = q ↔ ¬ p < q ∧ ¬ q < p := by rw [not_lt, not_lt, le_antisymm_iff, and_comm]
  rw [eqVal, ltVal_fin false (by simp), ltVal_fin false (by simp), Bool.eq_iff_iff, decide_eq_true_iff, heq]
  simp only [FVal.isNan, Bool.not_false, Bool.true_and, Bool.and_eq_true, Bool.not_eq_true', decide_eq_false_iff_not]

/-! ### Comparisons -/

/-- The answer `v` of a comparison of `x` and `y` is that of the relation `rel` on numbers, an infinity standing beyond
every number, and `nan` with a NaN (R123, R124). -/
structure Compares (rel : ℚ → ℚ → Bool) (nan : Bool) (x y : FVal) (v : Bool) : Prop where
  unordered : x.isNan = true ∨ y.isNan = true → v = nan
  finite : ∀ n1 m1 e1 n2 m2 e2, x = .fin n1 m1 e1 → y = .fin n2 m2 e2 → v = rel x.rat y.rat
  infLeft : ∀ n, x = .inf n → ∀ n2 m2 e2, y = .fin n2 m2 e2 → v = rel (if n then -1 else 1) 0
  infRight : ∀ n, y = .inf n → ∀ n1 m1 e1, x = .fin n1 m1 e1 → v = rel 0 (if n then -1 else 1)
  infBoth : ∀ n n', x = .inf n → y = .inf n' → v = rel (if n then -1 else 1) (if n' then -1 else 1)

theorem ltVal_nan {x y : FVal} (h : x.isNan = true ∨ y.isNan = true) (zeros : Bool) : ltVal zeros x y = false := by
  cases x <;> cases y <;> simp_all [ltVal, FVal.isNan]

theorem ltVal_compares (x y : FVal) : Compares (fun p q => decide (p < q)) false x y (ltVal false x y) where
  unordered h := ltVal_nan h false
  finite n1 m1 e1 n2 m2 e2 hx hy := by rw [hx, hy, ltVal_fin false (by simp)]
  infLeft n hx n2 m2 e2 hy := by rw [hx, hy]; cases n <;> simp [ltVal]
  infRight n hy n1 m1 e1 hx := by rw [hx, hy]; cases n <;> simp [ltVal]
  infBoth n n' hx hy := by rw [hx, hy]; cases n <;> cases n' <;> norm_num [ltVal]

theorem eqVal_nan {x y : FVal} (h : x.isNan = true ∨ y.isNan = true) : eqVal x y = false := by
  obtain h | h := h <;> simp [eqVal, h]

theorem eqVal_compares (x y : FVal) : Compares (fun p q => decide (p = q)) false x y (eqVal x y) where
  unordered h := eqVal_nan h
  finite n1 m1 e1 n2 m2 e2 hx hy := by rw [hx, hy, eqVal_fin]
  infLeft n hx n2 m2 e2 hy := by rw [hx, hy]; cases n <;> simp [eqVal, ltVal, FVal.isNan]
  infRight n hy n1 m1 e1 hx := by rw [hx, hy]; cases n <;> simp [eqVal, ltVal, FVal.isNan]
  infBoth n n' hx hy := by rw [hx, hy]; cases n <;> cases n' <;> norm_num [eqVal, ltVal, FVal.isNan]

/-- The answers of two comparisons, joined, are those of the relations joined. -/
theorem Compares.or {rel rel' : ℚ → ℚ → Bool} {x y : FVal} {v v' : Bool} (h : Compares rel false x y v)
    (h' : Compares rel' false x y v') : Compares (fun p q => rel p q || rel' p q) false x y (v || v') where
  unordered hn := by rw [h.unordered hn, h'.unordered hn]; rfl
  finite n1 m1 e1 n2 m2 e2 hx hy := by rw [h.finite _ _ _ _ _ _ hx hy, h'.finite _ _ _ _ _ _ hx hy]
  infLeft n hx n2 m2 e2 hy := by rw [h.infLeft n hx _ _ _ hy, h'.infLeft n hx _ _ _ hy]
  infRight n hy n1 m1 e1 hx := by rw [h.infRight n hy _ _ _ hx, h'.infRight n hy _ _ _ hx]
  infBoth n n' hx hy := by rw [h.infBoth n n' hx hy, h'.infBoth n n' hx hy]

theorem leVal_compares (x y : FVal) :
    Compares (fun p q => decide (p ≤ q)) false x y (ltVal false x y || eqVal x y) := by
  simp only [le_iff_lt_or_eq, Bool.decide_or]
  exact (ltVal_compares x y).or (eqVal_compares x y)

theorem unordered_compares (x y : FVal) : Compares (fun _ _ => false) true x y (x.isNan || y.isNan) where
  unordered h := by simpa using h
  finite n1 m1 e1 n2 m2 e2 hx hy := by rw [hx, hy]; rfl
  infLeft n hx n2 m2 e2 hy := by rw [hx, hy]; rfl
  infRight n hy n1 m1 e1 hx := by rw [hx, hy]; rfl
  infBoth n n' hx hy := by rw [hx, hy]; rfl

/-- A comparison writes its condition bit and its flags and retires (R105, R123). -/
theorem fpCmp_completes {cl : ClusterId} {s : State} {c : Core} {r : RR} (i : Instr) (op : Nat → Nat → Bool × FFlags)
    (hexec : exec i s = fpCmp cl r op s) (h : Ready cl s c) (hf : Fires c r) (hd : r.d.toNat < 8) {f : FFmt}
    {rel : ℚ → ℚ → Bool} {nan invalid v : Bool}
    (hop : op (c.rd r.a).toNat (c.rd r.b).toNat = (v, { invalid := invalid }))
    (hv : Compares rel nan (unpack f (c.rd r.a).toNat) (unpack f (c.rd r.b).toNat) v) :
    Completes (exec i s) fun t => ∃ v c', WritesFC (r.d.setWidth 3) v { invalid := invalid } c c' ∧
      Retired cl s s.m c' 2 t ∧ Compares rel nan (unpack f (c.rd r.a).toNat) (unpack f (c.rd r.b).toNat) v := by
  have hw := effFC_writes (condField r.d) (fun c => op (c.rd r.a).toNat (c.rd r.b).toNat) c
  rw [hop] at hw
  obtain ⟨t, ht, c', hw', hret⟩ := rr_computes h hf (FieldUse.bad_cond.mpr hd) rfl rfl ⟨_, hexec, hw⟩
  exact ⟨t, ht, v, c', hw', hret, hv⟩

/-! ### Minimum and maximum -/

/-- The bits of a zero are those of its sign. -/
theorem zero_bits {f : FFmt} {v : Nat} {n : Bool} {e : Int} (h : unpack f v = .fin n 0 e) :
    v % (2 * signAt f) = zeroBits f n := by
  unfold unpack at h
  extract_lets u neg ex fr at h
  have hu : u < 2 * signAt f := Nat.mod_lt _ (by cases f <;> decide)
  show u = zeroBits f n
  split_ifs at h with hinf hfr hsub
  · simp only [FVal.fin.injEq] at h
    obtain ⟨rfl, hzero, _⟩ := h
    by_cases hneg : signAt f ≤ u
    all_goals
      simp only [neg, zeroBits, hneg, decide_true, decide_false, Bool.false_eq_true, if_true, if_false]
      cases f <;> simp only [signAt, prec, expBits, ex, fr] at * <;> omega
  · simp only [FVal.fin.injEq] at h
    have hpos : 0 < 2 ^ (prec f - 1) := by positivity
    omega

theorem nanBits_eq (f : FFmt) : nanBits f = if f = .d then 0x7FF8000000000000 else 0x7FC00000 := by
  cases f <;> decide

theorem fMinMax_flags (f : FFmt) (isMax : Bool) (a b : Nat) :
    (fMinMax f isMax a b).2 = { invalid := (unpack f a).isSig || (unpack f b).isSig } := by
  unfold fMinMax
  extract_lets x y fl lo
  split_ifs <;> rfl

section minmax
variable {f : FFmt} {isMax : Bool} {a b : Nat}

theorem fMinMax_nans (ha : (unpack f a).isNan = true) (hb : (unpack f b).isNan = true) :
    (fMinMax f isMax a b).1 = if f = .d then 0x7FF8000000000000 else 0x7FC00000 := by
  simp [fMinMax, ha, hb, nanBits_eq]

theorem fMinMax_nan_left (ha : (unpack f a).isNan = true) (hb : (unpack f b).isNan = false) :
    (fMinMax f isMax a b).1 = b % (2 * signAt f) := by
  simp [fMinMax, ha, hb]

theorem fMinMax_nan_right (ha : (unpack f a).isNan = false) (hb : (unpack f b).isNan = true) :
    (fMinMax f isMax a b).1 = a % (2 * signAt f) := by
  simp [fMinMax, ha, hb]

theorem fMinMax_fin {n1 : Bool} {m1 : Nat} {e1 : Int} {n2 : Bool} {m2 : Nat} {e2 : Int}
    (ha : unpack f a = .fin n1 m1 e1) (hb : unpack f b = .fin n2 m2 e2) :
    (fMinMax f isMax a b).1 =
      (if ltVal true (.fin n1 m1 e1) (.fin n2 m2 e2) = isMax then b else a) % (2 * signAt f) := by
  simp only [fMinMax, ha, hb, FVal.isNan, Bool.and_self, Bool.false_eq_true, if_false]
  split_ifs <;> rfl

theorem fMinMax_zeros {n n' : Bool} {i j : Int} (ha : unpack f a = .fin n 0 i) (hb : unpack f b = .fin n' 0 j) :
    (fMinMax f isMax a b).1 =
      if isMax then (if n && n' then signAt f else 0) else if n || n' then signAt f else 0 := by
  rw [fMinMax_fin ha hb]
  have hlt : ltVal true (.fin n 0 i) (.fin n' 0 j) = (n && !n') := by simp [ltVal]
  rw [hlt, apply_ite (· % (2 * signAt f)), zero_bits ha, zero_bits hb]
  cases n <;> cases n' <;> cases isMax <;> rfl

/-- Of two different numbers the smaller or the larger one is taken. -/
theorem fMinMax_ordered {n1 : Bool} {m1 : Nat} {e1 : Int} {n2 : Bool} {m2 : Nat} {e2 : Int}
    (ha : unpack f a = .fin n1 m1 e1) (hb : unpack f b = .fin n2 m2 e2) (hne : (unpack f a).rat ≠ (unpack f b).rat) :
    (fMinMax f isMax a b).1 =
      (if decide ((unpack f a).rat < (unpack f b).rat) = isMax then b else a) % (2 * signAt f) := by
  rw [ha, hb] at hne ⊢
  rw [fMinMax_fin ha hb, ltVal_fin true]
  rintro - ⟨rfl, rfl⟩
  exact hne (by rw [rat_zero, rat_zero])

end minmax

/-- What FMIN and FMAX give for `a` and `b` (R124). -/
structure Extremum (f : FFmt) (isMax : Bool) (a b : Word) (v : Word) : Prop where
  nans : (unpack f a.toNat).isNan = true → (unpack f b.toNat).isNan = true →
    v = BitVec.ofNat 64 (if f = .d then 0x7FF8000000000000 else 0x7FC00000)
  nanLeft : (unpack f a.toNat).isNan = true → (unpack f b.toNat).isNan = false →
    v = BitVec.ofNat 64 (b.toNat % (2 * signAt f))
  nanRight : (unpack f a.toNat).isNan = false → (unpack f b.toNat).isNan = true →
    v = BitVec.ofNat 64 (a.toNat % (2 * signAt f))
  zeros : ∀ n n' i j, unpack f a.toNat = .fin n 0 i → unpack f b.toNat = .fin n' 0 j →
    v = BitVec.ofNat 64 (if isMax then (if n && n' then signAt f else 0) else if n || n' then signAt f else 0)
  less : ∀ n1 m1 e1 n2 m2 e2, unpack f a.toNat = .fin n1 m1 e1 → unpack f b.toNat = .fin n2 m2 e2 →
    (unpack f a.toNat).rat < (unpack f b.toNat).rat → v = BitVec.ofNat 64 ((if isMax then b else a).toNat % (2 * signAt f))
  greater : ∀ n1 m1 e1 n2 m2 e2, unpack f a.toNat = .fin n1 m1 e1 → unpack f b.toNat = .fin n2 m2 e2 →
    (unpack f b.toNat).rat < (unpack f a.toNat).rat → v = BitVec.ofNat 64 ((if isMax then a else b).toNat % (2 * signAt f))

theorem fMinMax_extremum (f : FFmt) (isMax : Bool) (a b : Word) :
    Extremum f isMax a b (BitVec.ofNat 64 (fMinMax f isMax a.toNat b.toNat).1) where
  nans ha hb := by rw [fMinMax_nans ha hb]
  nanLeft ha hb := by rw [fMinMax_nan_left ha hb]
  nanRight ha hb := by rw [fMinMax_nan_right ha hb]
  zeros n n' i j ha hb := by rw [fMinMax_zeros ha hb]
  less n1 m1 e1 n2 m2 e2 ha hb hlt := by
    rw [fMinMax_ordered ha hb hlt.ne, decide_eq_true hlt]
    cases isMax <;> rfl
  greater n1 m1 e1 n2 m2 e2 ha hb hlt := by
    rw [fMinMax_ordered ha hb hlt.ne', decide_eq_false hlt.not_gt]
    cases isMax <;> rfl

/-- FMIN and FMAX write the extremum and retire (R123). -/
theorem fMinMax_completes {cl : ClusterId} {s : State} {c : Core} {r : RR} (i : Instr) (f : FFmt) (isMax : Bool)
    (hexec : exec i s = fp2 cl f r 1 (fMinMax f isMax) s) (h : Ready cl s c) (hf : Fires c r) :
    Completes (exec i s) fun t => ∃ v c',
      WritesF r.d v { invalid := (unpack f (c.rd r.a).toNat).isSig || (unpack f (c.rd r.b).toNat).isSig } c c' ∧
      Retired cl s s.m c' 1 t ∧ Extremum f isMax (c.rd r.a) (c.rd r.b) v := by
  obtain ⟨t, ht, c', hw, hret⟩ := fp_completes h hf rfl ⟨_, hexec, rfl⟩
  rw [fMinMax_flags] at hw
  exact ⟨t, ht, _, c', hw, hret, fMinMax_extremum f isMax (c.rd r.a) (c.rd r.b)⟩

end Sys2Proof.Machine
end

section
open Sys2Proof Sys2Proof.Machine

/-- Settles O14: the comparisons answer as the order of numbers does, an infinity beyond every number, and FMIN and FMAX
give the extremum of their operands; the flags are those of R123. -/
theorem floatingPointComparisons : Obligations.FloatingPointComparisons := by
  unfold Obligations.FloatingPointComparisons
  intro cl f r s c h hf x y
  refine ⟨fun hd => ?compare, ?extremum⟩
  case compare =>
    intro e he
    have hanswer : Completes (exec e.1 s) fun t => ∃ v c', WritesFC (r.d.setWidth 3) v { invalid := e.2.2.2 } c c' ∧
        Retired cl s s.m c' 2 t ∧ Compares e.2.1 e.2.2.1 x y v := by
      revert e
      simp only [List.forall_mem_cons, List.not_mem_nil, false_imp_iff, implies_true, and_true]
      exact ⟨fpCmp_completes (.fceq cl f r) (fCeq f) rfl h hf hd rfl (eqVal_compares x y),
        fpCmp_completes (.fclt cl f r) (fClt f) rfl h hf hd rfl (ltVal_compares x y),
        fpCmp_completes (.fcle cl f r) (fCle f) rfl h hf hd rfl (leVal_compares x y),
        fpCmp_completes (.fcun cl f r) (fCun f) rfl h hf hd rfl (unordered_compares x y)⟩
    obtain ⟨t, ht, v, c', hw, hret, hv⟩ := hanswer
    exact ⟨t, ht, v, c', hw, hret, hv.unordered, hv.finite, hv.infLeft, hv.infRight, hv.infBoth⟩
  case extremum =>
    intro e he lo
    have hanswer : Completes (exec e.1 s) fun t => ∃ v c', WritesF r.d v { invalid := x.isSig || y.isSig } c c' ∧
        Retired cl s s.m c' 1 t ∧ Extremum f e.2 (c.rd r.a) (c.rd r.b) v := by
      revert e
      simp only [List.forall_mem_cons, List.not_mem_nil, false_imp_iff, implies_true, and_true]
      exact ⟨fMinMax_completes (.fmin cl f r) f false rfl h hf, fMinMax_completes (.fmax cl f r) f true rfl h hf⟩
    obtain ⟨t, ht, v, c', hw, hret, hv⟩ := hanswer
    exact ⟨t, ht, v, c', hw, hret, hv.nans, hv.nanLeft, hv.nanRight, hv.zeros, hv.less, hv.greater⟩
end

section
/-! SUPPORT. Rounding to nearest, ties to even (R66, R125). -/

namespace Sys2Proof.Machine

/-! ### The nearest integer -/

/-- `i` is the integer nearest to `x`, the even one of two. -/
structure Nearest (i : Int) (x : ℚ) : Prop where
  near : |(i : ℚ) - x| ≤ 1 / 2
  even : |(i : ℚ) - x| = 1 / 2 → i % 2 = 0

theorem Nearest.neg {i : Int} {x : ℚ} (h : Nearest i x) : Nearest (-i) (-x) := by
  have habs : |((-i : Int) : ℚ) - -x| = |(i : ℚ) - x| := by
    rw [Int.cast_neg, ← neg_sub', abs_neg]
  exact ⟨habs ▸ h.near, fun ht => by have := h.even (habs ▸ ht); omega⟩

/-- No integer is closer, and another one as close leaves the nearest one even. -/
theorem Nearest.closest {i : Int} {x : ℚ} (h : Nearest i x) (j : Int) :
    |x - i| ≤ |x - j| ∧ (|x - i| = |x - j| → j = i ∨ i % 2 = 0) := by
  by_cases hij : j = i
  · subst hij; exact ⟨le_rfl, fun _ => .inl rfl⟩
  · have hone : (1 : ℚ) ≤ |(i : ℚ) - j| := by
      rw [← Int.cast_sub, ← Int.cast_abs]
      exact_mod_cast Int.one_le_abs (sub_ne_zero.mpr (Ne.symm hij))
    have htri : |(i : ℚ) - j| ≤ |(i : ℚ) - x| + |x - j| := abs_sub_le _ _ _
    have hnear := h.near
    rw [abs_sub_comm x i]
    exact ⟨by linarith, fun heq => .inr (h.even (by linarith))⟩

/-! ### The rounding of the model -/

section rne
variable (m : Nat)

/-- The quotient and the remainder of a number by a power of two, as a mixed number. -/
theorem div_pow_eq (d : Nat) : (m : ℚ) * 2 ^ (-(d : Int)) = (m / 2 ^ d : Nat) + (m % 2 ^ d : Nat) / 2 ^ d := by
  have hdiv : (m : ℚ) = 2 ^ d * (m / 2 ^ d : Nat) + (m % 2 ^ d : Nat) := by exact_mod_cast (Nat.div_add_mod m (2 ^ d)).symm
  rw [zpow_neg, zpow_natCast]
  conv_lhs => rw [hdiv]
  field_simp

theorem rne_exact {d : Int} (h : d ≤ 0) : ((rne m d).1 : ℚ) = m * 2 ^ (-d) ∧ (rne m d).2 = false := by
  have hexp : ((-d).toNat : Int) = -d := Int.toNat_of_nonneg (by omega)
  rw [rne, if_pos h]
  refine ⟨?_, rfl⟩
  rw [← hexp, zpow_natCast]
  push_cast
  rfl

/-- `rne` rounds up by how the fraction `t` compares with a half, and tells whether there is one. -/
theorem rne_inexact_cases {d : Int} (h : 0 < d) : ∃ (q : Nat) (t : ℚ), (m : ℚ) * 2 ^ (-d) = q + t ∧ 0 ≤ t ∧ t < 1 ∧
    ((rne m d).2 = true ↔ t ≠ 0) ∧
    ((1 / 2 ≤ t ∧ (t = 1 / 2 → q % 2 = 1) ∧ (rne m d).1 = q + 1) ∨
      (t ≤ 1 / 2 ∧ (t = 1 / 2 → q % 2 = 0) ∧ (rne m d).1 = q)) := by
  obtain ⟨n, rfl⟩ := Int.eq_ofNat_of_zero_le h.le
  have hk : (0 : ℚ) < 2 ^ n := by positivity
  have hr : m % 2 ^ n < 2 ^ n := Nat.mod_lt _ (by positivity)
  have hhalf : 2 * (m % 2 ^ n) = 2 ^ n ↔ ((m % 2 ^ n : Nat) / 2 ^ n : ℚ) = 1 / 2 := by
    rw [div_eq_iff hk.ne', ← Nat.cast_inj (R := ℚ)]
    push_cast
    constructor <;> intro hx <;> linarith
  have hup : 2 ^ n < 2 * (m % 2 ^ n) ↔ (1 / 2 : ℚ) < (m % 2 ^ n : Nat) / 2 ^ n := by
    rw [lt_div_iff₀ hk, ← Nat.cast_lt (α := ℚ)]
    push_cast
    constructor <;> intro hx <;> linarith
  refine ⟨m / 2 ^ n, (m % 2 ^ n : Nat) / 2 ^ n, div_pow_eq m n, by positivity, ?_, ?_, ?_⟩
  · rw [div_lt_one hk]; exact_mod_cast hr
  · rw [rne, if_neg (by omega)]
    simp [hk.ne', -Nat.cast_pow]
  · rw [rne, if_neg (by omega)]
    simp only [Int.toNat_natCast, hup, hhalf]
    split_ifs with hc
    · refine .inl ⟨?_, fun ht => ?_, rfl⟩
      · exact hc.elim le_of_lt fun hc => hc.1.ge
      · exact hc.elim (fun hlt => absurd ht hlt.ne') And.right
    · rw [not_or, not_lt, not_and] at hc
      exact .inr ⟨hc.1, fun ht => by have := hc.2 ht; omega, rfl⟩

theorem rne_nearest (d : Int) : Nearest ((rne m d).1 : Nat) (m * 2 ^ (-d)) := by
  obtain h | h := le_or_gt d 0
  · obtain ⟨hval, _⟩ := rne_exact m h
    exact ⟨by simp [hval], by simp [hval]⟩
  · obtain ⟨q, t, hx, ht0, ht1, _, ⟨hhalf, htie, hi⟩ | ⟨hhalf, htie, hi⟩⟩ := rne_inexact_cases m h
    · have hdist : |(((q + 1 : Nat) : Int) : ℚ) - (q + t)| = 1 - t := by
        rw [abs_of_nonneg (by push_cast; linarith)]; push_cast; ring
      rw [hx, hi]
      refine ⟨by rw [hdist]; linarith, fun heq => ?_⟩
      have := htie (by rw [hdist] at heq; linarith)
      omega
    · have hdist : |((q : Int) : ℚ) - (q + t)| = t := by
        rw [abs_sub_comm, abs_of_nonneg (by push_cast; linarith)]; push_cast; ring
      rw [hx, hi]
      refine ⟨by rw [hdist]; exact hhalf, fun heq => ?_⟩
      have := htie (by rw [hdist] at heq; exact heq)
      omega

theorem rne_inexact (d : Int) : (rne m d).2 = true ↔ ((rne m d).1 : ℚ) ≠ m * 2 ^ (-d) := by
  obtain h | h := le_or_gt d 0
  · obtain ⟨hval, hflag⟩ := rne_exact m h
    simp [hval, hflag]
  · obtain ⟨q, t, hx, ht0, ht1, hflag, ⟨hhalf, _, hi⟩ | ⟨_, _, hi⟩⟩ := rne_inexact_cases m h
    · rw [hflag, hx, hi]
      refine ⟨fun _ heq => ?_, fun _ hz => by linarith⟩
      push_cast at heq
      linarith
    · rw [hflag, hx, hi]
      refine not_congr ⟨fun hz => by rw [hz, add_zero], fun heq => by linarith⟩

end rne

theorem eq_nan_of_isNan {x : FVal} (h : x.isNan = true) : ∃ signalling, x = .nan signalling := by
  cases x with
  | nan signalling => exact ⟨signalling, rfl⟩
  | inf n => cases h
  | fin n m e => cases h

/-- A datum rounded to an integer is the integer nearest to its number. -/
theorem roundInt_nearest (n : Bool) (m : Nat) (e : Int) : Nearest (roundInt n m e) (FVal.fin n m e).rat := by
  have h := rne_nearest m (-e)
  rw [neg_neg] at h
  cases n with
  | false => simpa [roundInt, FVal.rat] using h
  | true => simpa [roundInt, FVal.rat] using h.neg

end Sys2Proof.Machine
end

section
/-! SUPPORT. A number rounded into a format is the nearest one (R66). -/

namespace Sys2Proof.Machine

/-! ### The bits of a format -/

theorem two_le_prec (f : FFmt) : 2 ≤ prec f := by cases f <;> decide

/-- The datum whose exponent and fraction fields are `E` and `fr`. -/
theorem unpack_fields (f : FFmt) (n : Bool) {E fr : Nat} (hfr : fr < 2 ^ (prec f - 1)) (hE : E < 2 ^ expBits f - 1) :
    unpack f (zeroBits f n + (E * 2 ^ (prec f - 1) + fr)) =
      if E = 0 then .fin n fr (qMin f) else .fin n (fr + 2 ^ (prec f - 1)) (qMin f + E - 1) := by
  have hfields : (zeroBits f n + (E * 2 ^ (prec f - 1) + fr)) % (2 * signAt f) = zeroBits f n + (E * 2 ^ (prec f - 1) + fr) ∧
      decide (signAt f ≤ zeroBits f n + (E * 2 ^ (prec f - 1) + fr)) = n ∧
      (zeroBits f n + (E * 2 ^ (prec f - 1) + fr)) / 2 ^ (prec f - 1) % 2 ^ expBits f = E ∧
      (zeroBits f n + (E * 2 ^ (prec f - 1) + fr)) % 2 ^ (prec f - 1) = fr := by
    cases f <;> cases n <;> simp [zeroBits, signAt, prec, expBits] at * <;> omega
  obtain ⟨hmod, hneg, hexp, hfrac⟩ := hfields
  unfold unpack
  simp only [hmod, hneg, hexp, hfrac, if_neg hE.ne]

/-- A finite datum has a significand of the precision and an exponent of at least the least one. -/
theorem unpack_fin_bounds {f : FFmt} {u : Nat} {n : Bool} {m : Nat} {e : Int} (h : unpack f u = .fin n m e) :
    m < 2 ^ prec f ∧ qMin f ≤ e := by
  have hpow : 2 ^ prec f = 2 ^ (prec f - 1) + 2 ^ (prec f - 1) := by
    rw [← two_mul, ← pow_succ', Nat.sub_add_cancel (by have := two_le_prec f; omega)]
  have hfr : u % (2 * signAt f) % 2 ^ (prec f - 1) < 2 ^ (prec f - 1) := Nat.mod_lt _ (by positivity)
  unfold unpack at h
  extract_lets w neg ex fr at h
  split_ifs at h with _ _ hsub <;> simp only [FVal.fin.injEq] at h <;> obtain ⟨_, rfl, rfl⟩ := h
  · exact ⟨by show fr < _; omega, le_rfl⟩
  · exact ⟨by show fr + _ < _; omega, by omega⟩

/-- Magnitude bits made of an exponent step `k` and a significand `sig` stand for `sig * 2 ^ (qMin + k)`. -/
theorem unpack_mag {f : FFmt} (n : Bool) {k sig : Nat} (hnormal : k = 0 ∨ 2 ^ (prec f - 1) ≤ sig) (hsig : sig ≤ 2 ^ prec f)
    (hfin : k * 2 ^ (prec f - 1) + sig < infBits f) :
    ∃ m e, unpack f (zeroBits f n + (k * 2 ^ (prec f - 1) + sig)) = .fin n m e ∧
      (m : ℚ) * 2 ^ e = sig * 2 ^ (qMin f + k) := by
  set P := 2 ^ (prec f - 1) with hP
  have hpos : 0 < P := by positivity
  have hpow : 2 ^ prec f = 2 * P := by
    rw [hP, ← pow_succ', Nat.sub_add_cancel (by have := two_le_prec f; omega)]
  have hexp {E fr : Nat} (h : k * P + sig = E * P + fr) : E < 2 ^ expBits f - 1 :=
    Nat.lt_of_mul_lt_mul_right (a := P) (by rw [infBits, ← hP] at hfin; omega)
  obtain hlow | hmid | htop : sig < P ∨ P ≤ sig ∧ sig < 2 * P ∨ sig = 2 * P := by omega
  · obtain rfl : k = 0 := hnormal.resolve_right (by omega)
    refine ⟨sig, qMin f, ?_, by simp⟩
    rw [hP, unpack_fields f n hlow (hexp rfl), if_pos rfl]
  · have hfields : k * P + sig = (k + 1) * P + (sig - P) := by rw [Nat.add_one_mul]; omega
    refine ⟨sig, qMin f + k, ?_, rfl⟩
    rw [hfields, hP, unpack_fields f n (by omega) (hexp hfields), if_neg (by omega)]
    congr 1
    · omega
    · push_cast; ring
  · have hfields : k * P + sig = (k + 2) * P + 0 := by rw [htop]; ring
    refine ⟨P, qMin f + k + 1, ?_, ?_⟩
    · rw [hfields, hP, unpack_fields f n (by omega) (hexp hfields), if_neg (by omega)]
      congr 1
      · omega
      · push_cast; ring
    · rw [htop, zpow_add_one₀ (by norm_num)]
      push_cast
      ring

theorem mag_parity (f : FFmt) (n : Bool) (k sig : Nat) :
    (zeroBits f n + (k * 2 ^ (prec f - 1) + sig)) % 2 = sig % 2 := by
  cases f <;> cases n <;> simp [zeroBits, signAt, prec, expBits] <;> omega

end Sys2Proof.Machine
end

section
/-! SUPPORT. The rounding of `m * 2 ^ e` (R66). -/

namespace Sys2Proof.Machine

theorem Nearest.le_of_le {i j : Int} {x : ℚ} (h : Nearest i x) (hx : x ≤ j) : i ≤ j := by
  have := (abs_le.mp h.near).2
  have hlt : (i : ℚ) < j + 1 := by linarith
  exact Int.lt_add_one_iff.mp (by exact_mod_cast hlt)

theorem Nearest.ge_of_ge {i j : Int} {x : ℚ} (h : Nearest i x) (hx : j ≤ x) : j ≤ i := by
  have := (abs_le.mp h.near).1
  have hlt : (j : ℚ) < i + 1 := by linarith
  exact Int.lt_add_one_iff.mp (by exact_mod_cast hlt)

/-! ### The parts of a rounded number -/

/-- The exponent of the unit in the last place to which `m * 2 ^ e` is rounded. -/
def ulpExp (f : FFmt) (m : Nat) (e : Int) : Int := max ((Nat.log2 m : Nat) + e - (prec f - 1 : Nat)) (qMin f)

/-- The number of exponent steps of that unit above the least one. -/
def ulpStep (f : FFmt) (m : Nat) (e : Int) : Nat := (ulpExp f m e - qMin f).toNat

/-- The rounded significand. -/
def roundSig (f : FFmt) (m : Nat) (e : Int) : Nat := (rne m (ulpExp f m e - e)).1

/-- The bits of the rounded magnitude, as far as the format holds it. -/
def roundMag (f : FFmt) (m : Nat) (e : Int) : Nat := ulpStep f m e * 2 ^ (prec f - 1) + roundSig f m e

section parts
variable {f : FFmt} {n : Bool} {m : Nat} {e : Int}

theorem roundFin_zero : roundFin f n 0 e = (zeroBits f n, {}) := if_pos rfl

theorem roundFin_overflow (hm : m ≠ 0) (h : infBits f ≤ roundMag f m e) :
    roundFin f n m e = (zeroBits f n + infBits f, { overflow := true, inexact := true }) := by
  unfold roundFin
  exact (if_neg hm).trans (if_pos h)

theorem roundFin_finite (hm : m ≠ 0) (h : ¬ infBits f ≤ roundMag f m e) : ∃ tiny : Bool,
    roundFin f n m e = (zeroBits f n + roundMag f m e,
      { underflow := tiny && (rne m (ulpExp f m e - e)).2, inexact := (rne m (ulpExp f m e - e)).2 }) := by
  unfold roundFin
  exact ⟨_, (if_neg hm).trans (if_neg h)⟩

theorem ulpStep_cast : (ulpStep f m e : Int) = ulpExp f m e - qMin f :=
  Int.toNat_of_nonneg (sub_nonneg.mpr (le_max_right _ _))

theorem ulpExp_eq : qMin f + ulpStep f m e = ulpExp f m e := by rw [ulpStep_cast]; ring

/-- The number in units in the last place. -/
theorem roundSig_nearest : Nearest (roundSig f m e) (m * 2 ^ (e - ulpExp f m e)) := by
  rw [← neg_sub]
  exact rne_nearest m _

theorem scaled_mul : (m : ℚ) * 2 ^ (e - ulpExp f m e) * 2 ^ ulpExp f m e = m * 2 ^ e := by
  rw [mul_assoc, ← zpow_add₀ (by norm_num), sub_add_cancel]

/-- The number is below the precision's bound in units in the last place. -/
theorem scaled_lt : (m : ℚ) * 2 ^ (e - ulpExp f m e) < 2 ^ prec f := by
  have hp := two_le_prec f
  have hm : (m : ℚ) < 2 ^ ((Nat.log2 m : Int) + 1) := by exact_mod_cast Nat.lt_log2_self
  have hq : e - ulpExp f m e ≤ (prec f - 1 : Nat) - (Nat.log2 m : Int) := by
    have := le_max_left ((Nat.log2 m : Nat) + e - (prec f - 1 : Nat) : Int) (qMin f)
    rw [ulpExp]; omega
  calc (m : ℚ) * 2 ^ (e - ulpExp f m e)
      < 2 ^ ((Nat.log2 m : Int) + 1) * 2 ^ (e - ulpExp f m e) := mul_lt_mul_of_pos_right hm (by positivity)
    _ ≤ 2 ^ ((Nat.log2 m : Int) + 1) * 2 ^ ((prec f - 1 : Nat) - (Nat.log2 m : Int)) :=
        mul_le_mul_of_nonneg_left (zpow_le_zpow_right₀ (by norm_num) hq) (by positivity)
    _ = 2 ^ prec f := by
        rw [← zpow_add₀ (by norm_num), ← zpow_natCast]
        congr 1
        omega

/-- Above the least unit the number fills the precision. -/
theorem le_scaled (hm : m ≠ 0) (h : ulpStep f m e ≠ 0) : (2 : ℚ) ^ (prec f - 1) ≤ m * 2 ^ (e - ulpExp f m e) := by
  have hq : ulpExp f m e = (Nat.log2 m : Nat) + e - (prec f - 1 : Nat) := by
    refine max_eq_left (le_of_not_gt fun hlt => h ?_)
    rw [ulpStep, ulpExp, max_eq_right hlt.le, sub_self]
    rfl
  have hlow : (2 : ℚ) ^ (Nat.log2 m : Int) ≤ m := by exact_mod_cast Nat.log2_self_le hm
  calc (2 : ℚ) ^ (prec f - 1) = 2 ^ (Nat.log2 m : Int) * 2 ^ (e - ulpExp f m e) := by
        rw [← zpow_add₀ (by norm_num), ← zpow_natCast, hq]
        congr 1
        omega
    _ ≤ m * 2 ^ (e - ulpExp f m e) := mul_le_mul_of_nonneg_right hlow (by positivity)

theorem roundSig_le : roundSig f m e ≤ 2 ^ prec f := by
  have h := roundSig_nearest.le_of_le (j := 2 ^ prec f) (by exact_mod_cast (scaled_lt (f := f) (m := m) (e := e)).le)
  exact_mod_cast h

theorem roundSig_normal (hm : m ≠ 0) : ulpStep f m e = 0 ∨ 2 ^ (prec f - 1) ≤ roundSig f m e := by
  refine or_iff_not_imp_left.mpr fun hk => ?_
  have h := roundSig_nearest.ge_of_ge (j := 2 ^ (prec f - 1)) (by exact_mod_cast le_scaled hm hk)
  exact_mod_cast h

/-! ### The nearest datum -/

/-- No datum of the format is closer to `m * 2 ^ e` than the rounded one; one as close leaves its significand even. -/
theorem roundSig_closest (hm : m ≠ 0) {n' : Bool} {m' : Nat} {e' : Int} (hm' : m' < 2 ^ prec f) (he' : qMin f ≤ e') :
    |(m : ℚ) * 2 ^ e - roundSig f m e * 2 ^ ulpExp f m e| ≤ |(m : ℚ) * 2 ^ e - (FVal.fin n' m' e').rat| ∧
    (|(m : ℚ) * 2 ^ e - roundSig f m e * 2 ^ ulpExp f m e| = |(m : ℚ) * 2 ^ e - (FVal.fin n' m' e').rat| →
      (FVal.fin n' m' e').rat = roundSig f m e * 2 ^ ulpExp f m e ∨ roundSig f m e % 2 = 0) := by
  have hpos : (0 : ℚ) < 2 ^ ulpExp f m e := by positivity
  have hdist (y : ℚ) : |(m : ℚ) * 2 ^ e - y * 2 ^ ulpExp f m e| =
      |(m : ℚ) * 2 ^ (e - ulpExp f m e) - y| * 2 ^ ulpExp f m e := by
    rw [← scaled_mul (f := f), ← sub_mul, abs_mul, abs_of_pos hpos]
  obtain hle | hlt := le_or_gt (ulpExp f m e) e'
  · rw [rat_eq_scaled n' m' hle, hdist, hdist, mul_le_mul_iff_left₀ hpos, mul_left_inj' hpos.ne', mul_left_inj' hpos.ne']
    obtain ⟨hclose, htie⟩ := (roundSig_nearest (f := f) (m := m) (e := e)).closest
      (if n' then -((m' : Int) * 2 ^ (e' - ulpExp f m e).toNat) else (m' : Int) * 2 ^ (e' - ulpExp f m e).toNat)
    refine ⟨hclose, fun heq => (htie heq).imp (fun hj => by rw [hj]; rfl) fun heven => by omega⟩
  · have hstep : ulpStep f m e ≠ 0 := by
      have := ulpStep_cast (f := f) (m := m) (e := e)
      omega
    have hfull := le_scaled hm hstep
    have hy : (FVal.fin n' m' e').rat < 2 ^ (prec f - 1) * 2 ^ ulpExp f m e := by
      have hp := two_le_prec f
      calc (FVal.fin n' m' e').rat ≤ m' * 2 ^ e' := by
            have : (0 : ℚ) ≤ m' * 2 ^ e' := by positivity
            cases n' <;> simp only [FVal.rat, Bool.false_eq_true, if_false, if_true] <;> linarith
        _ < 2 ^ prec f * 2 ^ e' := mul_lt_mul_of_pos_right (by exact_mod_cast hm') (by positivity)
        _ ≤ 2 ^ prec f * 2 ^ (ulpExp f m e - 1) :=
            mul_le_mul_of_nonneg_left (zpow_le_zpow_right₀ (by norm_num) (by omega)) (by positivity)
        _ = 2 ^ (prec f - 1) * 2 ^ ulpExp f m e := by
            rw [← zpow_natCast, ← zpow_natCast, ← zpow_add₀ (by norm_num), ← zpow_add₀ (by norm_num)]
            congr 1
            omega
    have hclose := ((roundSig_nearest (f := f) (m := m) (e := e)).closest (2 ^ (prec f - 1))).1
    have hlt : |(m : ℚ) * 2 ^ e - roundSig f m e * 2 ^ ulpExp f m e| < |(m : ℚ) * 2 ^ e - (FVal.fin n' m' e').rat| := by
      calc |(m : ℚ) * 2 ^ e - roundSig f m e * 2 ^ ulpExp f m e|
          ≤ |(m : ℚ) * 2 ^ (e - ulpExp f m e) - 2 ^ (prec f - 1)| * 2 ^ ulpExp f m e := by
            rw [hdist]
            exact mul_le_mul_of_nonneg_right (by exact_mod_cast hclose) hpos.le
        _ = (m : ℚ) * 2 ^ e - 2 ^ (prec f - 1) * 2 ^ ulpExp f m e := by
            rw [abs_of_nonneg (by linarith), sub_mul, scaled_mul]
        _ < (m : ℚ) * 2 ^ e - (FVal.fin n' m' e').rat := by linarith
        _ ≤ _ := le_abs_self _
    exact ⟨hlt.le, fun heq => absurd heq hlt.ne⟩

/-- The rounded magnitude overflows only from half a unit beyond the largest number on. -/
theorem overflow_bound (hm : m ≠ 0) (h : infBits f ≤ roundMag f m e) :
    (2 ^ prec f - 1 / 2 : ℚ) * 2 ^ (-eMin f + 2 - prec f) ≤ m * 2 ^ e := by
  have hp := two_le_prec f
  have hlargest : -eMin f + 2 - prec f = qMin f + (2 ^ expBits f - 3 : Nat) := by cases f <;> rfl
  have hbits : 4 ≤ 2 ^ expBits f := by cases f <;> decide
  have hpow : 2 ^ prec f = 2 * 2 ^ (prec f - 1) := by rw [← pow_succ', Nat.sub_add_cancel (by omega)]
  have hsig := roundSig_le (f := f) (m := m) (e := e)
  have hpos : 0 < 2 ^ (prec f - 1) := by positivity
  have hx := scaled_mul (f := f) (m := m) (e := e)
  rw [infBits, roundMag] at h
  have hstep : 2 ^ expBits f - 3 ≤ ulpStep f m e := by
    have : (2 ^ expBits f - 1) * 2 ^ (prec f - 1) ≤ (ulpStep f m e + 2) * 2 ^ (prec f - 1) := by rw [add_mul]; omega
    have := Nat.le_of_mul_le_mul_right this hpos
    omega
  obtain hlast | hbeyond := hstep.eq_or_lt
  · have hfull : roundSig f m e = 2 ^ prec f := by
      rw [← hlast, show 2 ^ expBits f - 1 = 2 ^ expBits f - 3 + 2 by omega, add_mul] at h
      omega
    have hnear := (abs_le.mp (roundSig_nearest (f := f) (m := m) (e := e)).near).2
    rw [hfull] at hnear
    push_cast at hnear
    rw [hlargest, hlast, ulpExp_eq, ← hx]
    exact mul_le_mul_of_nonneg_right (by linarith) (by positivity)
  · have hwhole := le_scaled hm (show ulpStep f m e ≠ 0 by omega)
    have hexp : qMin f + (2 ^ expBits f - 3 : Nat) + 1 ≤ ulpExp f m e := by rw [← ulpExp_eq]; omega
    rw [hlargest, ← hx]
    calc (2 ^ prec f - 1 / 2 : ℚ) * 2 ^ (qMin f + (2 ^ expBits f - 3 : Nat))
        ≤ 2 ^ prec f * 2 ^ (qMin f + (2 ^ expBits f - 3 : Nat)) :=
          mul_le_mul_of_nonneg_right (by linarith) (by positivity)
      _ = 2 ^ (prec f - 1) * 2 ^ (qMin f + (2 ^ expBits f - 3 : Nat) + 1) := by
          rw [zpow_add_one₀ (by norm_num), show (2 : ℚ) ^ prec f = 2 * 2 ^ (prec f - 1) by exact_mod_cast hpow]
          ring
      _ ≤ m * 2 ^ (e - ulpExp f m e) * 2 ^ ulpExp f m e :=
          mul_le_mul hwhole (zpow_le_zpow_right₀ (by norm_num) hexp) (by positivity) (by positivity)

/-! ### Signed numbers -/

theorem rat_pos (m : Nat) (e : Int) : (FVal.fin false m e).rat = m * 2 ^ e := by simp [FVal.rat]

theorem rat_true (m : Nat) (e : Int) : (FVal.fin true m e).rat = -(m * 2 ^ e) := by
  rw [← rat_pos, ← rat_negate]; rfl

theorem rat_inj {n : Bool} {m m' : Nat} {e e' : Int} :
    (FVal.fin n m e).rat = (FVal.fin n m' e').rat ↔ (m : ℚ) * 2 ^ e = m' * 2 ^ e' := by
  cases n with
  | false => rw [rat_pos, rat_pos]
  | true => rw [rat_true, rat_true, neg_inj]

theorem rat_int (i : Int) : (FVal.fin (decide (i < 0)) i.natAbs 0).rat = i := by
  obtain hneg | hnonneg := lt_or_ge i 0
  · rw [decide_eq_true hneg, rat_true, zpow_zero, mul_one, Nat.cast_natAbs, abs_of_neg hneg]
    push_cast
    exact neg_neg _
  · rw [decide_eq_false hnonneg.not_gt, rat_pos, zpow_zero, mul_one, Nat.cast_natAbs, abs_of_nonneg hnonneg]

/-- The rounding is inexact when the rounded magnitude is another number. -/
theorem inexact_iff : (rne m (ulpExp f m e - e)).2 = true ↔ ¬ (roundSig f m e : ℚ) * 2 ^ ulpExp f m e = m * 2 ^ e := by
  have hpos : (2 : ℚ) ^ ulpExp f m e ≠ 0 := by positivity
  rw [rne_inexact, neg_sub, ← scaled_mul (f := f) (m := m) (e := e), mul_left_inj' hpos]
  rfl

/-- The rounded datum with the sign of the number is closest to it. -/
theorem signed_closest (hm : m ≠ 0) {mm : Nat} {ee : Int} (hv : (mm : ℚ) * 2 ^ ee = roundSig f m e * 2 ^ ulpExp f m e)
    {n' : Bool} {m' : Nat} {e' : Int} (hm' : m' < 2 ^ prec f) (he' : qMin f ≤ e') :
    |(FVal.fin n m e).rat - (FVal.fin n mm ee).rat| ≤ |(FVal.fin n m e).rat - (FVal.fin n' m' e').rat| ∧
    (|(FVal.fin n m e).rat - (FVal.fin n mm ee).rat| = |(FVal.fin n m e).rat - (FVal.fin n' m' e').rat| →
      (FVal.fin n' m' e').rat = (FVal.fin n mm ee).rat ∨ roundSig f m e % 2 = 0) := by
  cases n with
  | false =>
    rw [rat_pos, rat_pos, hv]
    exact roundSig_closest hm hm' he'
  | true =>
    have h := roundSig_closest (e := e) (n' := !n') hm hm' he'
    have hflip (y : ℚ) : |-((m : ℚ) * 2 ^ e) - y| = |(m : ℚ) * 2 ^ e - -y| := by rw [← abs_neg]; congr 1; ring
    rw [rat_true, rat_true, hv, hflip, hflip, neg_neg, ← rat_negate]
    refine ⟨h.1, fun heq => (h.2 heq).imp_left fun hy => ?_⟩
    rw [← hy, rat_negate, neg_neg]

end parts

/-! ### The rounding of the model is that of R66 -/

theorem rounded_zero (f : FFmt) (n : Bool) (e : Int) : Rounded f (FVal.fin n 0 e).rat (roundFin f n 0 e) := by
  have hzero : unpack f (zeroBits f n) = .fin n 0 (qMin f) := by
    have h := unpack_fields f n (E := 0) (fr := 0) (by positivity) (by cases f <;> decide)
    simpa using h
  rw [roundFin_zero, Rounded, rat_zero]
  refine ⟨rfl, rfl, ?_⟩
  simp only [Bool.false_eq_true, if_false]
  refine ⟨n, 0, qMin f, hzero, by simp [rat_zero], fun u n' m' e' _ => ?_⟩
  rw [rat_zero]
  exact ⟨by simp, fun heq => .inl (by simpa using heq.symm)⟩

theorem rounded_overflow {f : FFmt} {m : Nat} {e : Int} (n : Bool) (hm : m ≠ 0) (hover : infBits f ≤ roundMag f m e) :
    Rounded f (FVal.fin n m e).rat (roundFin f n m e) := by
  have hpos : (0 : ℚ) < m * 2 ^ e := by positivity
  have hbound := overflow_bound hm hover
  have hsign : decide ((FVal.fin n m e).rat < 0) = n := by
    cases n with
    | false => rw [rat_pos, decide_eq_false hpos.not_gt]
    | true => rw [rat_true, decide_eq_true (neg_lt_zero.mpr hpos)]
  have habs : |(FVal.fin n m e).rat| = m * 2 ^ e := by
    cases n with
    | false => rw [rat_pos, abs_of_pos hpos]
    | true => rw [rat_true, abs_neg, abs_of_pos hpos]
  rw [roundFin_overflow hm hover]
  exact ⟨rfl, rfl, rfl, by rw [hsign], by rwa [habs]⟩

theorem rounded_finite {f : FFmt} {m : Nat} {e : Int} (n : Bool) (hm : m ≠ 0) (hfin : ¬ infBits f ≤ roundMag f m e) :
    Rounded f (FVal.fin n m e).rat (roundFin f n m e) := by
  obtain ⟨tiny, hround⟩ := roundFin_finite (n := n) hm hfin
  obtain ⟨mm, ee, hunpack, hv⟩ := unpack_mag n (roundSig_normal hm) roundSig_le (not_le.mp hfin)
  rw [ulpExp_eq] at hv
  rw [hround]
  refine ⟨rfl, rfl, n, mm, ee, hunpack, ?_, fun u n' m' e' hu => ?_⟩
  · rw [Ne, rat_inj, hv]
    exact inexact_iff
  · obtain ⟨hm', he'⟩ := unpack_fin_bounds hu
    rw [roundMag, mag_parity]
    exact signed_closest hm hv hm' he'

/-- `roundFin` rounds to nearest, ties to even, with the flags that say so (R66). -/
theorem roundFin_rounded (f : FFmt) (n : Bool) (m : Nat) (e : Int) :
    Rounded f (FVal.fin n m e).rat (roundFin f n m e) := by
  by_cases hm : m = 0
  · subst hm
    exact rounded_zero f n e
  · by_cases hover : infBits f ≤ roundMag f m e
    · exact rounded_overflow n hm hover
    · exact rounded_finite n hm hover

end Sys2Proof.Machine
end

section
open Sys2Proof Sys2Proof.Machine

/-- Settles O13: the conversions round `m * 2 ^ e` and a datum to the nearest number and the nearest integer. That FTOI and
FTOU raise no inexact flag when rounding changes the value is log entry 104. -/
theorem conversionsFollowR125 : Obligations.ConversionsFollowR125 := by
  unfold Obligations.ConversionsFollowR125
  intro f a lo hi i _ _
  refine ⟨?_, fun hnan => ?_, fun n hinf => ?_, fun n m e hfin => ?_⟩
  · rw [← rat_int i]
    exact roundFin_rounded f _ _ _
  · obtain ⟨signalling, hnan⟩ := eq_nan_of_isNan hnan
    rw [fToInt, hnan]
  · rw [fToInt, hinf]
  · obtain ⟨hnear, heven⟩ := roundInt_nearest n m e
    exact ⟨roundInt n m e, hnear, heven, by rw [fToInt, hfin]⟩
end

section
/-! SUPPORT. Which registers an event of a cluster, its voters or its debugger can change: chains of register writes,
Ledger records and changes of kept state (R5, R165, R166, R171, R420). -/

namespace Sys2Proof.Machine

namespace Mach

/-- No register has changed but those of a list and those of the Ledger: what `KeepsRegs` says of two states, for their
modules. -/
def Keeps (as : List Nat) (m m' : Mach) : Prop := ∀ a, a ∉ as → a ∉ ledgerRegs → m'.rg a = m.rg a

namespace Keeps
variable {as : List Nat} {m m' m'' : Mach}

theorem refl (as : List Nat) (m : Mach) : Keeps as m m := fun _ _ _ => rfl

theorem trans (h : Keeps as m m') (h' : Keeps as m' m'') : Keeps as m m'' :=
  fun a ha hl => (h' a ha hl).trans (h a ha hl)

/-- A longer list claims less. -/
theorem mono {bs : List Nat} (h : Keeps as m m') (hsub : as ⊆ bs) : Keeps bs m m' :=
  fun a ha hl => h a (fun h' => ha (hsub h')) hl

/-- A write of a register of the list. -/
theorem wr (h : Keeps as m m') {a : Nat} (ha : a ∈ as) (v : Nat) : Keeps as m (m'.wr a v) :=
  h.trans fun _ hb _ => rg_wr_other _ _ _ _ fun hba => hb (hba ▸ ha)

theorem setFld (h : Keeps as m m') {a : Nat} (ha : a ∈ as) (hi lo v : Nat) :
    Keeps as m (m'.setFld a hi lo v) := h.wr ha _

theorem setBit (h : Keeps as m m') {a : Nat} (ha : a ∈ as) (k : Nat) (v : Bool) :
    Keeps as m (m'.setBit a k v) := h.wr ha _

theorem incFld (h : Keeps as m m') {a : Nat} (ha : a ∈ as) (hi lo : Nat) :
    Keeps as m (m'.incFld a hi lo) := h.wr ha _

theorem ledger (h : Keeps as m m') (code src arg0 arg1 arg2 : Nat) : Keeps as m (m'.ledger code src arg0 arg1 arg2) :=
  h.trans fun _ _ hl => (ledger_frame m' code src arg0 arg1 arg2).rg_notMem hl

/-- A change that touches no register. -/
theorem of_regs (h : Keeps as m m') (hregs : m''.regs = m'.regs) : Keeps as m m'' :=
  h.trans fun a _ _ => rg_of_regs hregs a

theorem modKiln (h : Keeps as m m') (cl : Nat) (f : Kiln → Kiln) : Keeps as m (m'.modKiln cl f) :=
  h.of_regs (modKiln_regs m' cl f)

theorem fld (h : Keeps as m m') {a : Nat} (ha : a ∉ as) (hl : a ∉ ledgerRegs) (hi lo : Nat) :
    m'.fld a hi lo = m.fld a hi lo := by
  rw [Mach.fld, h a ha hl, Mach.fld]

theorem bit (h : Keeps as m m') {a : Nat} (ha : a ∉ as) (hl : a ∉ ledgerRegs) (k : Nat) : m'.bit a k = m.bit a k := by
  rw [Mach.bit, h a ha hl, Mach.bit]

end Keeps

/-- A register that counts up as a whole saturates at its last value (R5). -/
theorem rg_incFld_word (m : Mach) (a : Nat) : (m.incFld a 31 0).rg a = satInc (m.rg a) (2 ^ 32 - 1) := by
  have hlt := m.rg_lt a
  have hcount : satInc (m.rg a) (2 ^ 32 - 1) < 2 ^ 32 := by
    unfold satInc
    split <;> omega
  have hfld : m.fld a 31 0 = m.rg a := by
    simp only [fld, bits]
    omega
  rw [incFld, rg_setFld_same _ _ _ _ _ (by decide) (by decide), hfld, putBits_eq]
  change 2 ^ 32 * (m.rg a / 2 ^ 32) + (2 ^ 0 * (satInc (m.rg a) (2 ^ 32 - 1) % 2 ^ 32) + m.rg a % 2 ^ 0) = _
  omega

/-! ### What a record leaves -/

theorem kiln_ledger (m : Mach) (code src arg0 arg1 arg2 cl : Nat) :
    (m.ledger code src arg0 arg1 arg2).kiln cl = m.kiln cl := by simp [kiln]

theorem LedgerFrame.fld_notMem {m m' : Mach} (h : LedgerFrame m m') {a : Nat} (ha : a ∉ ledgerRegs) (hi lo : Nat) :
    m'.fld a hi lo = m.fld a hi lo := by rw [fld, h.rg_notMem ha, fld]

theorem LedgerFrame.bit_notMem {m m' : Mach} (h : LedgerFrame m m') {a : Nat} (ha : a ∉ ledgerRegs) (k : Nat) :
    m'.bit a k = m.bit a k := by rw [bit, h.rg_notMem ha, bit]

theorem fld_of_regs {m m' : Mach} (h : m'.regs = m.regs) (a hi lo : Nat) : m'.fld a hi lo = m.fld a hi lo := by
  rw [fld, rg_of_regs h, fld]

theorem bit_of_regs {m m' : Mach} (h : m'.regs = m.regs) (a k : Nat) : m'.bit a k = m.bit a k := by
  rw [bit, rg_of_regs h, bit]

@[simp] theorem fld_modKiln (m : Mach) (cl : Nat) (f : Kiln → Kiln) (a hi lo : Nat) :
    (m.modKiln cl f).fld a hi lo = m.fld a hi lo := by rw [fld, rg_modKiln, fld]

@[simp] theorem bit_modKiln (m : Mach) (cl : Nat) (f : Kiln → Kiln) (a k : Nat) :
    (m.modKiln cl f).bit a k = m.bit a k := by rw [bit, rg_modKiln, bit]

@[simp] theorem kiln_wr (m : Mach) (a v cl : Nat) : (m.wr a v).kiln cl = m.kiln cl := rfl
@[simp] theorem kiln_setFld (m : Mach) (a hi lo v cl : Nat) : (m.setFld a hi lo v).kiln cl = m.kiln cl := rfl
@[simp] theorem kiln_setBit (m : Mach) (a k : Nat) (v : Bool) (cl : Nat) : (m.setBit a k v).kiln cl = m.kiln cl := rfl
@[simp] theorem kiln_incFld (m : Mach) (a hi lo cl : Nat) : (m.incFld a hi lo).kiln cl = m.kiln cl := rfl

/-! ### Registers of a cluster and of its voters -/

theorem clstat_notLedger (cl : Fin 2) : KLN_CLSTAT cl ∉ ledgerRegs := by revert cl; decide
theorem rbstat_notLedger (cl : Fin 2) : KLN_RBSTAT cl ∉ ledgerRegs := by revert cl; decide
theorem clstat_ne_rbstat (cl : Fin 2) : KLN_CLSTAT cl ≠ KLN_RBSTAT cl := by revert cl; decide
theorem clstat_ne_schstat (cl : Fin 2) : KLN_CLSTAT cl ≠ KLN_SCHSTAT := by revert cl; decide

end Mach
end Sys2Proof.Machine
end

section
/-! SUPPORT. The debugger's commands: attach and breakpoints, how a cluster stops, steps and resumes, writes that reach
its three cores, and accesses to words of the data space (R155, R179 to R182, R185, R381, R391). -/

namespace Sys2Proof.Machine

/-! ### Attach, breakpoints, halt and step (R155, R179, R180) -/

section commands
variable {s : State} (hdead : s.m.dead = false) (cl : ClusterId)
include hdead

theorem debugAttach_completes (on : Bool) (w : Writer) :
    Completes (exec (.debugAttach cl on w) s) fun t => SameCores s t ∧
      if s.m.mode = 3 then t.m.bit (KLN_DBGCTL cl) 0 = on ∧ KeepsRegs s t [KLN_DBGCTL cl] else KeepsRegs s t [] := by
  by_cases hmode : s.m.mode = 3
  case pos =>
    simp only [hmode, if_true]
    exact completes_access hdead (if_neg (not_not.mpr hmode))
      ⟨⟨rfl, rfl, rfl⟩, s.m.bit_setBit_same _ _ _ (by decide), keepsRegs_setFld s _ _ _ _⟩
  case neg =>
    simp only [hmode, if_false]
    exact completes_refused hdead (if_pos hmode)

theorem debugBrken_completes (on : Bool) : Completes (exec (.debugBrken cl on) s) fun t =>
    SameCores s t ∧ t.m.bit (KLN_DBGCTL cl) 1 = on ∧ KeepsRegs s t [KLN_DBGCTL cl] :=
  completes_change hdead rfl ⟨⟨rfl, rfl, rfl⟩, s.m.bit_setBit_same _ _ _ (by decide), keepsRegs_setFld s _ _ _ _⟩

/-- An attached cluster that runs stops at once where a slice runs, and otherwise at the next dispatch (R180). -/
theorem debugHalt_completes (hattached : s.m.bit (KLN_DBGCTL cl) 0 = true)
    (hgoing : s.m.bit (KLN_DBGSTAT cl) 0 = false) : Completes (exec (.debugHalt cl) s) fun t => SameCores s t ∧
      if (s.m.kiln cl).slice = none then (t.m.kiln cl).haltReq = true ∧ KeepsRegs s t []
      else t.m.bit (KLN_DBGSTAT cl) 0 = true ∧ t.m.fld (KLN_DBGSTAT cl) 2 1 = 1 ∧ KeepsRegs s t [KLN_DBGSTAT cl] := by
  cases hslice : (s.m.kiln cl).slice with
  | none =>
    have hwait : s.m.debugHalt cl = s.m.modKiln cl fun k => { k with haltReq := true } := by
      simp [Mach.debugHalt, hattached, hgoing, hslice]
    simp only [if_true]
    exact completes_change hdead hwait
      ⟨⟨rfl, rfl, rfl⟩, by rw [Mach.kiln_modKiln], (Mach.Keeps.refl [] s.m).modKiln cl _⟩
  | some sl =>
    have hstop : s.m.debugHalt cl = (s.m.setBit (KLN_DBGSTAT cl) 0 true).setFld (KLN_DBGSTAT cl) 2 1 1 := by
      simp [Mach.debugHalt, hattached, hgoing, hslice]
    have hmem : KLN_DBGSTAT cl ∈ [KLN_DBGSTAT cl] := List.mem_singleton_self _
    simp only [reduceCtorEq, if_false]
    refine completes_change hdead hstop
      ⟨⟨rfl, rfl, rfl⟩, ?_, ?_, ((Mach.Keeps.refl _ s.m).setBit hmem _ _).setFld hmem _ _ _⟩
    · rw [Mach.bit_setFld_field _ _ _ _ _ _ (by decide) (by decide) (by decide),
        Mach.bit_setBit_same _ _ _ _ (by decide)]
    · exact Mach.fld_setFld_same _ _ _ _ _ (by decide) (by decide)

theorem debugStep_completes (w : Writer) (hstopped : s.m.bit (KLN_DBGSTAT cl) 0 = true) :
    Completes (exec (.debugStep cl w) s) fun t =>
      (t.m.kiln cl).stepping = true ∧ KeepsRegs s t [] ∧ SameCores s t :=
  completes_access hdead (if_pos hstopped)
    ⟨by rw [Mach.kiln_modKiln], (Mach.Keeps.refl [] s.m).modKiln cl _, rfl, rfl, rfl⟩

end commands

/-! ### Resume (R182) -/

/-- Three running cores are all the cores of the cluster, in their order (R185). -/
theorem Mach.actives_of_three {m : Mach} {cl i j k : Nat} (h : m.actives cl = [i, j, k]) : m.actives cl = [0, 1, 2] :=
  List.filter_sublist.eq_of_length (by rw [← Mach.actives, h]; rfl)

/-- A stopped cluster goes on. -/
def Mach.goOn (m : Mach) (cl : Nat) : Mach :=
  (m.setBit (KLN_DBGSTAT cl) 0 false).modKiln cl fun k => { k with stepping := false }

/-- Running cores that agree have one state signature, and the cluster goes on (R182). -/
theorem State.resume_agree {s : State} {cl : Nat}
    (hagree : ∀ j ∈ s.m.actives cl, ∀ k ∈ s.m.actives cl, s.core cl j = s.core cl k) :
    s.resume cl = s.mod fun m => m.goOn cl := by
  have hsig : ∀ j ∈ s.m.actives cl, ∀ k ∈ s.m.actives cl,
      ((s.tri cl).get j).stateSig = ((s.tri cl).get k).stateSig :=
    fun j hj k hk => congrArg Core.stateSig (hagree j hj k hk)
  unfold State.resume State.mod
  dsimp only
  split
  next hthree =>
    rw [Mach.actives_of_three hthree] at hsig
    rw [if_pos ⟨hsig 0 (by simp) 1 (by simp), hsig 1 (by simp) 2 (by simp)⟩]
    rfl
  next j k hpair =>
    rw [if_pos (hsig j (by simp [hpair]) k (by simp [hpair]))]
    rfl
  next => rfl

theorem debugResume_completes {s : State} (cl : ClusterId) (w : Writer) (hstopped : s.m.bit (KLN_DBGSTAT cl) 0 = true)
    (hagree : ∀ j ∈ s.m.actives cl, ∀ k ∈ s.m.actives cl, s.core cl j = s.core cl k) :
    Completes (exec (.debugResume cl w) s) fun t => t.m.bit (KLN_DBGSTAT cl) 0 = false ∧
      (t.m.kiln cl).stepping = false ∧ KeepsRegs s t [KLN_DBGSTAT cl] ∧ SameCores s t := by
  refine completes_mod (congrArg _ ((if_pos hstopped).trans (State.resume_agree hagree))) ⟨?_, ?_, ?_, rfl, rfl, rfl⟩
  · rw [Mach.goOn, Mach.bit_modKiln, Mach.bit_setBit_same _ _ _ _ (by decide)]
  · rw [Mach.goOn, Mach.kiln_modKiln]
  · exact ((Mach.Keeps.refl _ s.m).setBit (List.mem_singleton_self _) _ _).modKiln cl _

/-! ### Writes that reach the three cores (R181) -/

/-- A write of the debugger to a stopped cluster changes its three cores alike and nothing else. -/
theorem debugWrite_completes {s : State} {cl : ClusterId} {t : DbgTarget} {w : Writer} {f : Core → Core}
    (hall : s.debugWrite cl t w = s.setTri cl ((s.tri cl).mapOn [0, 1, 2] f)) {P : Core → Core → Prop}
    (hf : ∀ c, P c (f c)) : Completes (exec (.debugRegisterWrite cl t w) s) fun t => t.m = s.m ∧
      (∀ k < 3, t.core (1 - cl) k = s.core (1 - cl) k) ∧ ∀ k < 3, P (s.core cl k) (t.core cl k) := by
  refine ⟨_, congrArg Host.Outcome.next hall, State.setTri_m _ _ _, fun k _ => ?_, fun k hk => ?_⟩
  · rw [State.core, State.tri_setTri_other, State.core]
  · have hmem : k ∈ [0, 1, 2] := by simp only [List.mem_cons, List.not_mem_nil, or_false]; omega
    rw [State.core_setTri, Tri.get_mapOn _ _ _ _ hk (by simp) (by decide), if_pos hmem]
    exact hf _

section writes
variable {s : State} {cl : ClusterId} (w : Writer) (hstopped : s.m.bit (KLN_DBGSTAT cl) 0 = true)
include hstopped

theorem debugWriteData_completes (v : Word) : Completes (exec (.debugRegisterWrite cl (.data v) w) s) fun t =>
    t.m = s.m ∧ (∀ k < 3, t.core (1 - cl) k = s.core (1 - cl) k) ∧ ∀ k < 3, ∀ r, (t.core cl k).rd r =
      if r = BitVec.ofNat 5 (s.m.fld (KLN_DBGSEL cl) 4 0) ∧ r ≠ 0 then v else (s.core cl k).rd r :=
  debugWrite_completes (f := fun c => c.wr (BitVec.ofNat 5 (s.m.fld (KLN_DBGSEL cl) 4 0)) v)
    (P := fun c c' => ∀ r, c'.rd r =
      if r = BitVec.ofNat 5 (s.m.fld (KLN_DBGSEL cl) 4 0) ∧ r ≠ 0 then v else c.rd r)
    (by simp only [State.debugWrite, hstopped, Bool.not_true, Bool.false_eq_true, if_false])
    fun c r => by
      rw [Core.rd_wr]
      by_cases hr : r = BitVec.ofNat 5 (s.m.fld (KLN_DBGSEL cl) 4 0)
      · rw [← hr]
      · simp only [hr, false_and, if_false]

theorem debugWritePc_completes {v : BitVec 32} (hrange : v.toNat < 0x01800000) (halign : v.toNat % 4 = 0) :
    Completes (exec (.debugRegisterWrite cl (.pc v) w) s) fun t => t.m = s.m ∧
      (∀ k < 3, t.core (1 - cl) k = s.core (1 - cl) k) ∧ ∀ k < 3, t.core cl k = { s.core cl k with pc := v } :=
  debugWrite_completes (P := fun c c' => c' = { c with pc := v })
    (by simp only [State.debugWrite, hstopped, halign, Nat.not_le.mpr hrange, Bool.not_true, Bool.false_eq_true, ne_eq,
      not_true_eq_false, or_self, if_false])
    fun _ => rfl

theorem debugWriteCond_completes (v : BitVec 32) : Completes (exec (.debugRegisterWrite cl (.cond v) w) s) fun t =>
    t.m = s.m ∧ ∀ k < 3, (t.core cl k).c = v.setWidth 8 ||| 1 ∧ (t.core cl k).fpf = (v >>> 8).setWidth 5 := by
  have hflags : BitVec.ofNat 5 (bits v.toNat 12 8) = (v >>> 8).setWidth 5 := by
    apply BitVec.eq_of_toNat_eq
    simp [bits, Nat.shiftRight_eq_div_pow]
  obtain ⟨t, hexec, hm, -, hcores⟩ := debugWrite_completes (s := s) (cl := cl) (w := w) (t := .cond v)
    (f := fun c => { c.wrCs (v.setWidth 8) with fpf := BitVec.ofNat 5 (bits v.toNat 12 8) })
    (P := fun _ c' => c'.c = v.setWidth 8 ||| 1 ∧ c'.fpf = (v >>> 8).setWidth 5)
    (by simp only [State.debugWrite, hstopped, Bool.not_true, Bool.false_eq_true, if_false])
    fun _ => ⟨rfl, hflags⟩
  exact ⟨t, hexec, hm, hcores⟩

end writes

/-! ### Accesses to words of the data space (R374, R381, R391) -/

/-- A word lies in one burst. -/
theorem bursts_word {a : Nat} (halign : a % 8 = 0) : bursts a 8 = [a] := by
  have hnext : countFrom (a / 256 + 1) ((a + 8 + 255) / 256 - a / 256 - 1) = [] := by
    rw [show (a + 8 + 255) / 256 - a / 256 - 1 = 0 by omega]
    rfl
  simp [bursts, hnext]

section words
variable {m : Mach} {a : Nat} (hrange : a + 8 ≤ 0x01800000) (halign : a % 8 = 0) (hregion : m.regionOf 9 a 16 = none)
include hrange

/-- The word lies in the Kiln SRAM. -/
theorem placeOf_word : placeOf a = .kiln := if_pos (by omega)

/-- The debugger's byte of a word is the byte of the array (R348). -/
theorem debugByte_word {x : Nat} (hlo : a ≤ x) (hhi : x < a + 8) : m.debugByte 2 x = m.mem.ld8 x := by
  have hnone : journalCounter x = none := if_neg (by omega)
  rw [Mach.debugByte, hnone]
  rfl

include hregion

/-- The debugger has a path to the Kiln SRAM, where no region of its class stands against it (R19, R383). -/
theorem masterCheck_word (inst kind : Nat) : m.masterCheck 9 inst a kind = (.ok, m) := by
  simp [Mach.masterCheck, placeOf_word hrange, pathOf, hregion]

include halign

theorem masterWrite_word (inst : Nat) {bs : List Byte} (hlen : bs.length = 8) :
    m.masterWrite 9 inst a bs = (true, m.store a bs 9) := by
  have hstop : min (a + 8) ((a / 256 + 1) * 256) = a + 8 := by omega
  have hbytes : (bs.drop (a - a)).take (a + 8 - a) = bs := by
    rw [Nat.sub_self, Nat.add_sub_cancel_left, List.drop_zero, ← hlen, List.take_length]
  show (bursts a bs.length).foldl _ _ = _
  rw [hlen, bursts_word halign, List.foldl_cons, List.foldl_nil]
  simp only [masterCheck_word hrange hregion, hstop, hbytes]

/-- A read of a clean word shows its bytes (R374). -/
theorem debugArray_read (hclean : m.clean a 8) : m.debugArray 2 a 8 none = m.emit (.data (m.mem.ldBytes a 8)) := by
  have hbytes : (countFrom a 8).map (m.debugByte 2) = m.mem.ldBytes a 8 := by
    rw [Memory.ldBytes_eq_map, countFrom_eq_map, List.map_map]
    refine List.map_congr_left fun i hi => debugByte_word hrange (Nat.le_add_right a i) ?_
    exact Nat.add_lt_add_left (List.mem_range.mp hi) a
  simp only [Mach.debugArray, bursts_word halign, List.foldl_cons, List.foldl_nil, masterCheck_word hrange hregion,
    decide_true, Bool.and_self, Bool.not_true, Bool.false_eq_true, if_false, Nat.not_lt.mpr (le_refl 2),
    m.eccRead_clean a 8 9 hclean, hbytes]

/-- A write of a word stores its bytes with fresh check bits (R375). -/
theorem debugArray_write {bs : List Byte} (hlen : bs.length = 8) : m.debugArray 2 a 8 (some bs) =
    { m with mem := m.mem.stBytes a bs, ecc := tabPut Ecc.good m.ecc (a / 8) .good } := by
  simp only [Mach.debugArray, masterWrite_word hrange halign hregion 2 hlen, if_true]
  exact store_word m 9 halign hlen

end words

section accesses
variable {s : State} (hdead : s.m.dead = false) {a : BitVec 48} (halign : a.toNat % 8 = 0)
include hdead halign

/-- A write of a word in a locked region is refused (R391). -/
theorem exec_debugMemoryAccess_locked {bs : List Byte} (hlen : bs.length = 8) (hlock : s.m.lockedAddr a.toNat = true) :
    exec (.debugMemoryAccess 2 a 8 (some bs)) s = .next (s.mod fun m => m.debugRefuse a.toNat 8 true) := by
  show execDebugMemoryAccess 2 a 8 (some bs) s = _
  simp [execDebugMemoryAccess, hdead, State.debugAccess, hlen, bursts_word halign, hlock]

theorem debugWrite_refused {bs : List Byte} (hlen : bs.length = 8) (hlock : s.m.lockedAddr a.toNat = true) :
    Completes (exec (.debugMemoryAccess 2 a 8 (some bs)) s) fun t =>
      t.m.out = s.m.out ++ [.busError] ∧ t.m.rg MPU_DBGREF = satInc (s.m.rg MPU_DBGREF) (2 ^ 32 - 1) ∧
      (∀ x < 0x01800000, t.m.mem.ld8 x = s.m.mem.ld8 x) ∧ KeepsRegs s t [MPU_DBGREF] ∧ SameCores s t := by
  have hrecord := (s.m.incFld MPU_DBGREF 31 0).ledger_frame 0x0A02 7 0 (a.toNat % 2 ^ 32) (a.toNat / 2 ^ 32)
  refine completes_mod (exec_debugMemoryAccess_locked hdead halign hlen hlock)
    ⟨?_, ?_, fun x hx => ?_, ?_, rfl, rfl, rfl⟩
  · exact congrArg (· ++ [.busError]) hrecord.out
  · exact (hrecord.rg_notMem (by decide)).trans (Mach.rg_incFld_word s.m MPU_DBGREF)
  · exact hrecord.ld8 x (by omega) (by omega)
  · exact (((Mach.Keeps.refl _ s.m).incFld (List.mem_singleton_self _) _ _).ledger _ _ _ _ _).of_regs rfl

variable (hrange : a.toNat + 8 ≤ 0x01800000)
include hrange

/-- An access to a word that no locked region covers reaches its array. -/
theorem exec_debugMemoryAccess_open {data : Option (List Byte)} (hlen : ∀ bs, data = some bs → bs.length = 8)
    (hlock : s.m.lockedAddr a.toNat = false) :
    exec (.debugMemoryAccess 2 a 8 data) s = .next (s.mod fun m => m.debugArray 2 a.toNat 8 data) := by
  have hplace := placeOf_word hrange
  show execDebugMemoryAccess 2 a 8 data s = _
  cases data with
  | none => simp [execDebugMemoryAccess, hdead, State.debugAccess, bursts_word halign, hlock, hplace]
  | some bs => simp [execDebugMemoryAccess, hdead, State.debugAccess, hlen bs rfl, bursts_word halign, hlock, hplace]

theorem debugRead_completes (hlock : s.m.lockedAddr a.toNat = false) (hregion : s.m.regionOf 9 a.toNat 16 = none)
    (hclean : s.m.clean a.toNat 8) : Completes (exec (.debugMemoryAccess 2 a 8 none) s) fun t =>
      t = { s with m := s.m.emit (.data (s.m.mem.ldBytes a.toNat 8)) } :=
  completes_mod (exec_debugMemoryAccess_open hdead halign hrange nofun hlock)
    (by rw [debugArray_read hrange halign hregion hclean])

theorem debugWrite_stores {bs : List Byte} (hlen : bs.length = 8) (hlock : s.m.lockedAddr a.toNat = false)
    (hregion : s.m.regionOf 9 a.toNat 16 = none) :
    Completes (exec (.debugMemoryAccess 2 a 8 (some bs)) s) fun t => t.m.mem.ldBytes a.toNat 8 = bs ∧
      (∀ x, x < a.toNat ∨ a.toNat + 8 ≤ x → t.m.mem.ld8 x = s.m.mem.ld8 x) ∧ KeepsRegs s t [] ∧ SameCores s t := by
  have hread := Memory.ldBytes_stBytes bs s.m.mem a.toNat
  refine completes_mod (exec_debugMemoryAccess_open hdead halign hrange (fun _ h => Option.some.inj h ▸ hlen) hlock) ?_
  rw [debugArray_write hrange halign hregion hlen]
  exact ⟨hlen ▸ hread, fun x hx => Memory.ld8_stBytes_other _ _ _ _ (hlen ▸ hx), fun _ _ _ => rfl, rfl, rfl, rfl⟩

end accesses

end Sys2Proof.Machine
end

section
open Sys2Proof Sys2Proof.Machine

/-- Settles O38: attach, breakpoints and stops are writes of the two debug registers of the cluster, a write to the
stopped cluster maps its three cores, and an access to a word is one burst, refused where a locked region covers it. -/
theorem debuggerCommands : Obligations.DebuggerCommands := by
  unfold Obligations.DebuggerCommands
  intro cl w s hdead
  refine ⟨fun on => debugAttach_completes hdead cl on w, debugBrken_completes hdead cl, debugHalt_completes hdead cl,
    fun hstopped => ⟨debugStep_completes hdead cl w hstopped, debugResume_completes cl w hstopped,
      debugWriteData_completes w hstopped, fun _ hrange halign => debugWritePc_completes w hstopped hrange halign,
      debugWriteCond_completes w hstopped⟩,
    fun a bs hrange halign hlen => ⟨fun hlock hregion => ⟨debugRead_completes hdead halign hrange hlock hregion,
      debugWrite_stores hdead halign hrange hlen hlock hregion⟩, debugWrite_refused hdead halign hlen⟩⟩

end

section
/-! SUPPORT. Windows that close and are compared: the registers that the comparators show and count, and the judgement,
which fences one core, fails the cluster or does nothing (R164 to R166, R171). -/

namespace Sys2Proof.Machine
namespace Mach

/-! ### What the comparators show (R164, R165) -/

/-- A voter instance shows the closing values of a window. -/
def showSig (m : Mach) (cl v : Nat) (w : Window) : Mach :=
  ((m.wr (VOT_SIG cl v 0) w.s0.toNat).wr (VOT_SIG cl v 1) w.s1.toNat).wr (VOT_SIG cl v 2) w.s2.toNat

/-- The registers of the closing values in a voter instance. -/
def sigRegs (cl v : Nat) : List Nat := [VOT_SIG cl v 0, VOT_SIG cl v 1, VOT_SIG cl v 2]

theorem keeps_showSig (m : Mach) (cl v : Nat) (w : Window) : Keeps (sigRegs cl v) m (m.showSig cl v w) :=
  (((Keeps.refl _ m).wr (by simp [sigRegs]) _).wr (by simp [sigRegs]) _).wr (by simp [sigRegs]) _

theorem showSig_shows (m : Mach) (cl v : Nat) (w : Window) :
    (m.showSig cl v w).rg (VOT_SIG cl v 0) = w.s0.toNat ∧ (m.showSig cl v w).rg (VOT_SIG cl v 1) = w.s1.toNat ∧
      (m.showSig cl v w).rg (VOT_SIG cl v 2) = w.s2.toNat := by
  have h01 : VOT_SIG cl v 0 ≠ VOT_SIG cl v 1 := by simp only [VOT_SIG]; omega
  have h02 : VOT_SIG cl v 0 ≠ VOT_SIG cl v 2 := by simp only [VOT_SIG]; omega
  have h12 : VOT_SIG cl v 1 ≠ VOT_SIG cl v 2 := by simp only [VOT_SIG]; omega
  refine ⟨?_, ?_, ?_⟩
  · rw [showSig, rg_wr_other _ _ _ _ h02, rg_wr_other _ _ _ _ h01, rg_wr_same, Nat.mod_eq_of_lt w.s0.isLt]
  · rw [showSig, rg_wr_other _ _ _ _ h12, rg_wr_same, Nat.mod_eq_of_lt w.s1.isLt]
  · rw [showSig, rg_wr_same, Nat.mod_eq_of_lt w.s2.isLt]

/-- Both instances show the closing values. -/
theorem showSigs_show (m : Mach) (cl : Fin 2) (w : Window) : ∀ v < 2,
    ((m.showSig cl 0 w).showSig cl 1 w).rg (VOT_SIG cl v 0) = w.s0.toNat ∧
    ((m.showSig cl 0 w).showSig cl 1 w).rg (VOT_SIG cl v 1) = w.s1.toNat ∧
    ((m.showSig cl 0 w).showSig cl 1 w).rg (VOT_SIG cl v 2) = w.s2.toNat := by
  have hkeep : ∀ a ∈ sigRegs cl 0, ((m.showSig cl 0 w).showSig cl 1 w).rg a = (m.showSig cl 0 w).rg a := by
    have hapart : ∀ a ∈ sigRegs cl 0, a ∉ sigRegs cl 1 ∧ a ∉ ledgerRegs := by revert cl; decide
    exact fun a ha => keeps_showSig _ cl 1 w a (hapart a ha).1 (hapart a ha).2
  obtain ⟨h0, h1, h2⟩ := showSig_shows m cl 0 w
  intro v hv
  match v with
  | 0 => exact ⟨(hkeep _ (by simp [sigRegs])).trans h0, (hkeep _ (by simp [sigRegs])).trans h1,
      (hkeep _ (by simp [sigRegs])).trans h2⟩
  | 1 => exact showSig_shows _ cl 1 w

/-- A voter instance counts a compared window and shows its closing values. -/
def countSig (m : Mach) (cl v : Nat) (w : Window) : Mach :=
  (m.wr (VOT_WINCNT cl v) (m.rg (VOT_WINCNT cl v) + 1)).showSig cl v w

/-- The comparators let a window go that both instances have counted. -/
def countWindow (m : Mach) (cl : Nat) (w : Window) : Mach :=
  ((m.modKiln cl fun k => { k with cmpWin := none }).countSig cl 0 w).countSig cl 1 w

/-- The registers of a voter instance that a compared window changes. -/
def windowRegs (cl v : Nat) : List Nat := VOT_WINCNT cl v :: sigRegs cl v

theorem keeps_countSig (m : Mach) (cl v : Nat) (w : Window) : Keeps (windowRegs cl v) m (m.countSig cl v w) :=
  ((Keeps.refl _ m).wr List.mem_cons_self _).trans ((keeps_showSig _ cl v w).mono (List.subset_cons_self _ _))

theorem countSig_counts (m : Mach) (cl : Fin 2) {v : Nat} (hv : v < 2) (w : Window) :
    (m.countSig cl v w).rg (VOT_WINCNT cl v) = (m.rg (VOT_WINCNT cl v) + 1) % 2 ^ 32 := by
  have hapart : ∀ v < 2, VOT_WINCNT cl v ∉ sigRegs cl v ∧ VOT_WINCNT cl v ∉ ledgerRegs := by revert cl; decide
  obtain ⟨hsig, hledger⟩ := hapart v hv
  rw [countSig, keeps_showSig _ cl v w _ hsig hledger, rg_wr_same]

/-- Both instances have counted the window. -/
theorem countWindow_counts (m : Mach) (cl : Fin 2) (w : Window) :
    ∀ v < 2, (m.countWindow cl w).rg (VOT_WINCNT cl v) = (m.rg (VOT_WINCNT cl v) + 1) % 2 ^ 32 := by
  have hfirst : VOT_WINCNT cl 0 ∉ windowRegs cl 1 ∧ VOT_WINCNT cl 0 ∉ ledgerRegs := by revert cl; decide
  have hsecond : VOT_WINCNT cl 1 ∉ windowRegs cl 0 ∧ VOT_WINCNT cl 1 ∉ ledgerRegs := by revert cl; decide
  intro v hv
  match v with
  | 0 => rw [countWindow, keeps_countSig _ cl 1 w _ hfirst.1 hfirst.2, countSig_counts _ cl hv, rg_modKiln]
  | 1 => rw [countWindow, countSig_counts _ cl hv, keeps_countSig _ cl 0 w _ hsecond.1 hsecond.2, rg_modKiln]

theorem countWindow_clstat (m : Mach) (cl : Fin 2) (w : Window) :
    (m.countWindow cl w).rg (KLN_CLSTAT cl) = m.rg (KLN_CLSTAT cl) := by
  have hapart : KLN_CLSTAT cl ∉ windowRegs cl 0 ∧ KLN_CLSTAT cl ∉ windowRegs cl 1 := by revert cl; decide
  rw [countWindow, keeps_countSig _ cl 1 w _ hapart.2 (clstat_notLedger cl),
    keeps_countSig _ cl 0 w _ hapart.1 (clstat_notLedger cl), rg_modKiln]

theorem countWindow_actives (m : Mach) (cl : Fin 2) (w : Window) : (m.countWindow cl w).actives cl = m.actives cl := by
  simp only [actives, bit, countWindow_clstat]

theorem kiln_countSig (m : Mach) (cl v cl' : Nat) (w : Window) : (m.countSig cl v w).kiln cl' = m.kiln cl' := by
  simp only [countSig, showSig, kiln_wr]

theorem countWindow_cmpWin (m : Mach) (cl : Nat) (w : Window) : ((m.countWindow cl w).kiln cl).cmpWin = none := by
  rw [countWindow, kiln_countSig, kiln_countSig, kiln_modKiln]

/-! ### What a judgement leaves alone -/

/-- The registers that a judgement of a cluster may change, those of the Ledger apart. -/
def judgeRegs (cl : Nat) : List Nat :=
  [VOT_STAT cl 0, VOT_STAT cl 1, VOT_DISCNT cl 0, VOT_DISCNT cl 1, KLN_CLSTAT cl, KLN_DIVCNT cl,
    KLN_DIVLAST cl, KLN_SCHSTAT]

theorem votstat_mem_judgeRegs (cl : Nat) {v : Nat} (hv : v ∈ [0, 1]) : VOT_STAT cl v ∈ judgeRegs cl := by
  obtain rfl | rfl : v = 0 ∨ v = 1 := by simpa using hv
  all_goals simp [judgeRegs]

theorem discnt_mem_judgeRegs (cl : Nat) {v : Nat} (hv : v ∈ [0, 1]) : VOT_DISCNT cl v ∈ judgeRegs cl := by
  obtain rfl | rfl : v = 0 ∨ v = 1 := by simpa using hv
  all_goals simp [judgeRegs]

theorem clstat_mem_judgeRegs (cl : Nat) : KLN_CLSTAT cl ∈ judgeRegs cl := by simp [judgeRegs]

/-- Two modules with the same registers whose comparators of a cluster hold the same window. -/
structure Still (cl : Nat) (m m' : Mach) : Prop where
  regs : m'.regs = m.regs
  held : (m'.kiln cl).cmpWin = (m.kiln cl).cmpWin

theorem Still.trans {cl : Nat} {m m' m'' : Mach} (h : Still cl m m') (h' : Still cl m' m'') : Still cl m m'' :=
  ⟨h'.regs.trans h.regs, h'.held.trans h.held⟩

/-- A change of the kept state of the cluster but for the window held. -/
theorem still_modKiln (m : Mach) (cl : Nat) {f : Kiln → Kiln} (hf : ∀ k, (f k).cmpWin = k.cmpWin) :
    Still cl m (m.modKiln cl f) := ⟨modKiln_regs m cl f, by rw [kiln_modKiln, hf]⟩

theorem still_notice (m : Mach) (cl reason : Nat) : Still cl m (m.notice reason) := by
  unfold notice sendLink
  split
  · split <;> exact ⟨rfl, rfl⟩
  · exact ⟨rfl, rfl⟩

/-- The undoing of a tick's work writes memory and drops what the clusters have asked for (R56). -/
theorem still_undoTick (m : Mach) (cl : Nat) : Still cl m m.undoTick := by
  have hrestored : Still cl m m.restoreDelta := by
    have hwords : Still cl m (m.tick.delta.foldl (fun m e => m.putWords (8 * e.1) (leBytes 8 e.2.toNat)) m) :=
      List.foldlRecOn _ _ (motive := Still cl m) ⟨rfl, rfl⟩ fun _ h _ _ => h.trans ⟨rfl, rfl⟩
    exact hwords.trans ⟨rfl, rfl⟩
  refine hrestored.trans ⟨rfl, ?_⟩
  rw [undoTick, kiln, kiln]
  split <;> rfl

/-- Both clusters stop (R171). -/
theorem still_stop (m : Mach) (cl : Nat) (x : Tick) :
    Still cl m { m with k0 := stopKiln m.k0, k1 := stopKiln m.k1, tick := x } := by
  refine ⟨rfl, ?_⟩
  rw [kiln, kiln]
  split <;> rfl

/-- What a judgement of a cluster leaves alone: the registers but those of `judgeRegs`, and the window that the
comparators hold. -/
structure Judged (cl : Nat) (m m' : Mach) : Prop where
  regs : Keeps (judgeRegs cl) m m'
  held : (m'.kiln cl).cmpWin = (m.kiln cl).cmpWin

theorem Judged.refl (cl : Nat) (m : Mach) : Judged cl m m := ⟨.refl _ m, rfl⟩

theorem Judged.trans {cl : Nat} {m m' m'' : Mach} (h : Judged cl m m') (h' : Judged cl m' m'') : Judged cl m m'' :=
  ⟨h.regs.trans h'.regs, h'.held.trans h.held⟩

/-- A write of one of the registers. -/
theorem Judged.wr {cl : Nat} {m m' : Mach} (h : Judged cl m m') {a : Nat} (ha : a ∈ judgeRegs cl) (v : Nat) :
    Judged cl m (m'.wr a v) := ⟨h.regs.wr ha v, h.held⟩

theorem Judged.setFld {cl : Nat} {m m' : Mach} (h : Judged cl m m') {a : Nat} (ha : a ∈ judgeRegs cl) (hi lo v : Nat) :
    Judged cl m (m'.setFld a hi lo v) := h.wr ha _

theorem Judged.setBit {cl : Nat} {m m' : Mach} (h : Judged cl m m') {a : Nat} (ha : a ∈ judgeRegs cl) (k : Nat)
    (v : Bool) : Judged cl m (m'.setBit a k v) := h.wr ha _

theorem Judged.ledger {cl : Nat} {m m' : Mach} (h : Judged cl m m') (code src arg0 arg1 arg2 : Nat) :
    Judged cl m (m'.ledger code src arg0 arg1 arg2) :=
  ⟨h.regs.ledger _ _ _ _ _, by rw [kiln_ledger]; exact h.held⟩

theorem Judged.still {cl : Nat} {m m' m'' : Mach} (h : Judged cl m m') (h' : Still cl m' m'') : Judged cl m m'' :=
  ⟨h.regs.of_regs h'.regs, h'.held.trans h.held⟩

/-- A step for each voter instance. -/
theorem Judged.voters {cl : Nat} {m m' : Mach} (h : Judged cl m m') {f : Mach → Nat → Mach}
    (hf : ∀ m v, v ∈ [0, 1] → Judged cl m (f m v)) : Judged cl m ([0, 1].foldl f m') :=
  List.foldlRecOn [0, 1] f (motive := Judged cl m) h fun m' h' v hv => h'.trans (hf m' v hv)

theorem judged_voteShow (m : Mach) (cl flag pattern minority : Nat) :
    Judged cl m (m.voteShow cl flag pattern minority) := by
  refine (Judged.refl cl m).voters fun m v hv => ?_
  have hstat := votstat_mem_judgeRegs cl hv
  have hcount := discnt_mem_judgeRegs cl hv
  have hshown := (((Judged.refl cl m).setBit hstat flag true).setFld hstat 7 5 pattern).setFld hstat 4 3 minority
  dsimp only
  split
  · exact hshown.wr hcount _
  · exact hshown.wr hcount _

theorem judged_fence (m : Mach) (cl k src iaddr daddr : Nat) : Judged cl m (m.fence cl k src iaddr daddr) :=
  have hstat := clstat_mem_judgeRegs cl
  ((((((Judged.refl cl m).wr hstat _).wr hstat _).wr hstat _).wr (by simp [judgeRegs]) _).wr
    (by simp [judgeRegs]) _).ledger _ _ _ _ _

/-! ### The cluster fault (R171) -/

/-- The registers of a cluster that fails. -/
def showFailed (m : Mach) (cl : Nat) : Mach :=
  (([0, 1].foldl (fun m v => m.setBit (VOT_STAT cl v) 10 true) m).setFld (KLN_CLSTAT cl) 2 0 4).setFld
    (KLN_CLSTAT cl) 7 5 0

theorem judged_showFailed (m : Mach) (cl : Nat) : Judged cl m (m.showFailed cl) :=
  (((Judged.refl cl m).voters fun m _ hv => (Judged.refl cl m).setBit (votstat_mem_judgeRegs cl hv) 10 true).setFld
    (clstat_mem_judgeRegs cl) _ _ _).setFld (clstat_mem_judgeRegs cl) _ _ _

theorem showFailed_state (m : Mach) (cl : Nat) : (m.showFailed cl).fld (KLN_CLSTAT cl) 2 0 = 4 := by
  rw [showFailed, fld_setFld_field _ _ _ _ _ _ _ (by decide) (by decide) (by decide) (by decide),
    fld_setFld_same _ _ _ _ _ (by decide) (by decide)]
  rfl

/-- After its registers a cluster fault stops clusters, writes a record and shows whether any slice runs. -/
theorem clusterFault_shown (m : Mach) (cl : Nat) : ∃ (ended : Mach) (arg1 arg2 : Nat),
    Still cl (m.showFailed cl) ended ∧ m.clusterFault cl = (ended.ledger 0x0304 2 cl arg1 arg2).showFiring := by
  unfold clusterFault
  extract_lets inService shown failed idle t stopped undone ended recorded
  have hidle : Still cl (m.showFailed cl) idle := still_modKiln failed cl fun _ => rfl
  have hundone : Still cl (m.showFailed cl) undone := by
    have hstopped : Still cl (m.showFailed cl) stopped := hidle.trans (still_stop idle cl _)
    unfold undone
    split
    · exact hstopped
    · exact hstopped.trans (still_undoTick stopped cl)
  refine ⟨ended, _, _, ?_, rfl⟩
  unfold ended
  split
  · exact hidle.trans (still_modKiln idle cl fun _ => rfl)
  · refine (hundone.trans (still_modKiln undone cl ?_)).trans (still_notice _ cl 1)
    exact fun _ => rfl

theorem judged_clusterFault (m : Mach) (cl : Nat) : Judged cl m (m.clusterFault cl) := by
  obtain ⟨ended, arg1, arg2, hstill, hfault⟩ := clusterFault_shown m cl
  rw [hfault]
  exact (((judged_showFailed m cl).still hstill).ledger _ _ _ _ _).setBit (by simp [judgeRegs]) 3 _

/-- The cluster is FAILED (R171). -/
theorem clusterFault_state (m : Mach) (cl : Fin 2) : (m.clusterFault cl).fld (KLN_CLSTAT cl) 2 0 = 4 := by
  have hother : KLN_CLSTAT cl ≠ KLN_SCHSTAT := clstat_ne_schstat cl
  obtain ⟨ended, arg1, arg2, hstill, hfault⟩ := clusterFault_shown m cl
  rw [hfault, showFiring, fld_setBit_other _ _ _ _ _ _ _ hother,
    (ledger_frame _ _ _ _ _ _).fld_notMem (clstat_notLedger cl), fld, rg_of_regs hstill.regs]
  exact showFailed_state m cl

/-! ### The fence (R166) -/

/-- A cluster shows a core as running or not, the core that is out, and its state (R185). -/
def showCore (m : Mach) (cl k : Nat) (runs : Bool) (out state : Nat) : Mach :=
  ((m.setBit (KLN_CLSTAT cl) (5 + k) runs).setFld (KLN_CLSTAT cl) 4 3 out).setFld (KLN_CLSTAT cl) 2 0 state

theorem showCore_shows (m : Mach) (cl : Nat) {k : Nat} (hk : k < 3) (runs : Bool) {out state : Nat} (hout : out < 4)
    (hstate : state < 8) : (m.showCore cl k runs out state).bit (KLN_CLSTAT cl) (5 + k) = runs ∧
      (m.showCore cl k runs out state).fld (KLN_CLSTAT cl) 4 3 = out ∧
      (m.showCore cl k runs out state).fld (KLN_CLSTAT cl) 2 0 = state := by
  refine ⟨?_, ?_, ?_⟩
  · rw [showCore, bit_setFld_field _ _ _ _ _ _ (by decide) (by decide) (by omega),
      bit_setFld_field _ _ _ _ _ _ (by decide) (by decide) (by omega), bit_setBit_same _ _ _ _ (by omega)]
  · rw [showCore, fld_setFld_field _ _ _ _ _ _ _ (by decide) (by decide) (by decide) (by decide),
      fld_setFld_same _ _ _ _ _ (by decide) (by decide)]
    exact Nat.mod_eq_of_lt hout
  · rw [showCore, fld_setFld_same _ _ _ _ _ (by decide) (by decide)]
    exact Nat.mod_eq_of_lt hstate

/-- A fenced core stops, and its cluster is DEGRADED (R166). -/
theorem fence_shows (m : Mach) (cl : Fin 2) {k : Nat} (hk : k < 3) (src iaddr daddr : Nat) :
    (m.fence cl k src iaddr daddr).bit (KLN_CLSTAT cl) (5 + k) = false ∧
      (m.fence cl k src iaddr daddr).fld (KLN_CLSTAT cl) 4 3 = k ∧
      (m.fence cl k src iaddr daddr).fld (KLN_CLSTAT cl) 2 0 = 2 := by
  have hapart : KLN_CLSTAT cl ∉ [KLN_DIVCNT cl, KLN_DIVLAST cl] := by revert cl; decide
  have hcounted : Keeps [KLN_DIVCNT cl, KLN_DIVLAST cl] (m.showCore cl k false k 2) (m.fence cl k src iaddr daddr) :=
    (((Keeps.refl _ _).incFld (by simp) _ _).wr (by simp) _).ledger _ _ _ _ _
  obtain ⟨hbit, hout, hstate⟩ := showCore_shows m cl hk false (show k < 4 by omega) (show 2 < 8 by omega)
  exact ⟨(hcounted.bit hapart (clstat_notLedger cl) _).trans hbit,
    (hcounted.fld hapart (clstat_notLedger cl) _ _).trans hout,
    (hcounted.fld hapart (clstat_notLedger cl) _ _).trans hstate⟩

/-! ### The classification (R165, R166) -/

/-- Core `k` alone differs: it is fenced. -/
def minority (m : Mach) (cl pattern k : Nat) (w : Window) : Mach := (m.voteShow cl 1 pattern k).fence cl k 0 w.addr 0

theorem judged_minority (m : Mach) (cl pattern k : Nat) (w : Window) : Judged cl m (m.minority cl pattern k w) :=
  (judged_voteShow m cl 1 pattern k).trans (judged_fence _ cl k 0 w.addr 0)

theorem judged_classify (m : Mach) (cl : Nat) (w : Window) : Judged cl m (m.classify cl w) := by
  have hfault (pattern : Nat) : Judged cl m ((m.voteShow cl 1 pattern 3).clusterFault cl) :=
    (judged_voteShow m cl 1 pattern 3).trans (judged_clusterFault _ cl)
  unfold classify
  split
  · dsimp only
    split
    · exact Judged.refl cl m
    split
    · exact judged_minority m cl _ 0 w
    split
    · exact judged_minority m cl _ 1 w
    split
    · exact judged_minority m cl _ 2 w
    · exact hfault _
  · exact iteInduction (motive := Judged cl m) (fun _ => Judged.refl cl m) fun _ => hfault 0
  · exact Judged.refl cl m

end Mach

/-- The closing value of each core in a window. -/
def Window.sig (w : Window) : Fin 3 → BitVec 32 := ![w.s0, w.s1, w.s2]

namespace Mach

section three
variable {m : Mach} {cl : Nat} (hthree : m.actives cl = [0, 1, 2]) (w : Window)
include hthree

/-- Of three closing values the pattern decides (R165). -/
theorem classify_three : m.classify cl w =
    if sigPattern w.s0 w.s1 w.s2 = 7 then m
    else if sigPattern w.s0 w.s1 w.s2 = 4 then m.minority cl (sigPattern w.s0 w.s1 w.s2) 0 w
    else if sigPattern w.s0 w.s1 w.s2 = 2 then m.minority cl (sigPattern w.s0 w.s1 w.s2) 1 w
    else if sigPattern w.s0 w.s1 w.s2 = 1 then m.minority cl (sigPattern w.s0 w.s1 w.s2) 2 w
    else (m.voteShow cl 1 (sigPattern w.s0 w.s1 w.s2) 3).clusterFault cl := by
  unfold classify
  rw [hthree]
  rfl

/-- Three equal closing values change nothing. -/
theorem classify_agree (h01 : w.sig 0 = w.sig 1) (h12 : w.sig 1 = w.sig 2) : m.classify cl w = m := by
  have hpattern : sigPattern w.s0 w.s1 w.s2 = 7 := by
    change w.s0 = w.s1 at h01
    change w.s1 = w.s2 at h12
    simp [sigPattern, h01, h12, b2n]
  rw [classify_three hthree, if_pos hpattern]

/-- A closing value that differs from two equal ones fences its core (R166). -/
theorem classify_minority (k : Fin 3) (hequal : w.sig (k + 1) = w.sig (k + 2)) (hdiffers : w.sig k ≠ w.sig (k + 1)) :
    m.classify cl w = m.minority cl (patternOf k) k w := by
  have hpattern : sigPattern w.s0 w.s1 w.s2 = patternOf k := by
    match k with
    | 0 =>
      change w.s1 = w.s2 at hequal
      change w.s0 ≠ w.s1 at hdiffers
      simp [sigPattern, patternOf, b2n, ← hequal, hdiffers]
    | 1 =>
      change w.s2 = w.s0 at hequal
      change w.s1 ≠ w.s2 at hdiffers
      simp [sigPattern, patternOf, b2n, ← hequal, hdiffers, hdiffers.symm]
    | 2 =>
      change w.s0 = w.s1 at hequal
      change w.s2 ≠ w.s0 at hdiffers
      simp [sigPattern, patternOf, b2n, ← hequal, hdiffers.symm]
  rw [classify_three hthree, hpattern]
  fin_cases k <;> simp [patternOf]

/-- Three closing values that all differ are a cluster fault (R166). -/
theorem classify_apart (h01 : w.sig 0 ≠ w.sig 1) (h12 : w.sig 1 ≠ w.sig 2) (h02 : w.sig 0 ≠ w.sig 2) :
    m.classify cl w = (m.voteShow cl 1 0 3).clusterFault cl := by
  have hpattern : sigPattern w.s0 w.s1 w.s2 = 0 := by
    change w.s0 ≠ w.s1 at h01
    change w.s1 ≠ w.s2 at h12
    change w.s0 ≠ w.s2 at h02
    simp [sigPattern, h01, h12, h02, b2n]
  rw [classify_three hthree, hpattern]
  simp

end three

/-- What a cluster of three running cores shows after a window has been classified (R165, R166). -/
theorem classify_shows {m : Mach} {cl : Fin 2} {w : Window} (hthree : m.actives cl = [0, 1, 2]) :
    (w.sig 0 = w.sig 1 → w.sig 1 = w.sig 2 → m.classify cl w = m) ∧
    (∀ k : Fin 3, w.sig (k + 1) = w.sig (k + 2) → w.sig k ≠ w.sig (k + 1) →
      (m.classify cl w).bit (KLN_CLSTAT cl) (5 + k.val) = false ∧
      (m.classify cl w).fld (KLN_CLSTAT cl) 4 3 = k.val ∧ (m.classify cl w).fld (KLN_CLSTAT cl) 2 0 = 2) ∧
    (w.sig 0 ≠ w.sig 1 → w.sig 1 ≠ w.sig 2 → w.sig 0 ≠ w.sig 2 → (m.classify cl w).fld (KLN_CLSTAT cl) 2 0 = 4) := by
  refine ⟨classify_agree hthree w, fun k hequal hdiffers => ?_, fun h01 h12 h02 => ?_⟩
  · rw [classify_minority hthree w k hequal hdiffers]
    exact fence_shows _ cl k.isLt _ _ _
  · rw [classify_apart hthree w h01 h12 h02]
    exact clusterFault_state _ cl

/-! ### The verdict (R161 to R166) -/

/-- What the result for a compared window does: a fault of the delay stages or of the comparators is a cluster fault,
and otherwise the closing values are classified. -/
def verdict (m : Mach) (cl : Nat) (w : Window) (pairMis chainErr : Bool) : Mach :=
  if chainErr then
    ([0, 1].foldl (fun m v =>
      ((m.setBit (VOT_STAT cl v) 9 true).setFld (VOT_STAT cl v) 7 5 0).setFld (VOT_STAT cl v) 4 3 3) m).clusterFault cl
  else if pairMis then ([0, 1].foldl (fun m v => m.setBit (VOT_STAT cl v) 8 true) m).clusterFault cl
  else m.classify cl w

/-- Without a fault of the comparators the closing values decide. -/
theorem verdict_sound (m : Mach) (cl : Nat) (w : Window) : m.verdict cl w false false = m.classify cl w := rfl

theorem judged_verdict (m : Mach) (cl : Nat) (w : Window) (pairMis chainErr : Bool) :
    Judged cl m (m.verdict cl w pairMis chainErr) := by
  unfold verdict
  split
  · refine ((Judged.refl cl m).voters fun m v hv => ?_).trans (judged_clusterFault _ cl)
    have hstat := votstat_mem_judgeRegs cl hv
    exact (((Judged.refl cl m).setBit hstat _ _).setFld hstat _ _ _).setFld hstat _ _ _
  split
  · exact ((Judged.refl cl m).voters fun m v hv => (Judged.refl cl m).setBit (votstat_mem_judgeRegs cl hv) _ _).trans
      (judged_clusterFault _ cl)
  · exact judged_classify m cl w

/-- Comparators or delay stages that disagree fail the cluster (R161, R171). -/
theorem verdict_fault (m : Mach) (cl : Fin 2) (w : Window) {pairMis chainErr : Bool}
    (h : pairMis = true ∨ chainErr = true) :
    (m.verdict cl w pairMis chainErr).fld (KLN_CLSTAT cl) 2 0 = 4 := by
  unfold verdict
  split
  · exact clusterFault_state _ cl
  split
  · exact clusterFault_state _ cl
  next hchain hpair => exact absurd h (by simp [hchain, hpair])

end Mach
end Sys2Proof.Machine
end

section
/-! SUPPORT. The commands of a cluster's windows, rebuilds and retries (R164 to R168). -/

namespace Sys2Proof.Machine

/-! ### Windows (R164 to R166) -/

/-- A window whose closing values an upset has changed (R161). -/
def Window.upset (w : Window) (x : Fin 3 → BitVec 32) : Window :=
  { w with s0 := w.s0 ^^^ x 0, s1 := w.s1 ^^^ x 1, s2 := w.s2 ^^^ x 2 }

section windows
variable {s : State} (hdead : s.m.dead = false) (cl : ClusterId)
include hdead

theorem windowClose_completes {w : Window} {rest : List Window} (hfree : (s.m.kiln cl).cmpWin = none)
    (hdue : (s.m.kiln cl).dueWin = w :: rest) : Completes (exec (.windowClose cl) s) fun t =>
      (t.m.kiln cl).cmpWin = some w ∧ (t.m.kiln cl).dueWin = rest ∧ SameCores s t ∧
        ∀ v < 2, t.m.rg (VOT_SIG cl v 0) = w.s0.toNat ∧ t.m.rg (VOT_SIG cl v 1) = w.s1.toNat ∧
          t.m.rg (VOT_SIG cl v 2) = w.s2.toNat := by
  refine completes_change hdead (m := ((s.m.showSig cl 0 w).showSig cl 1 w).setKiln cl
    { s.m.kiln cl with dueWin := rest, cmpWin := some w }) ?_ ⟨?_, ?_, ⟨rfl, rfl, rfl⟩, ?_⟩
  · dsimp only
    rw [hfree, hdue]
    rfl
  · rw [Mach.kiln_setKiln]
  · rw [Mach.kiln_setKiln]
  · simp only [Mach.rg_setKiln]
    exact s.m.showSigs_show cl w

/-- A comparison counts the window that the comparators hold, with its upset, and gives the verdict on it. -/
theorem signatureComparison_completes {w : Window} (x : Fin 3 → BitVec 32) (pairMis chainErr : Bool)
    (hheld : (s.m.kiln cl).cmpWin = some w) {P : State → Prop}
    (h : P { s with m := (s.m.countWindow cl (w.upset x)).verdict cl (w.upset x) pairMis chainErr }) :
    Completes (exec (.signatureComparison cl (x 0) (x 1) (x 2) pairMis chainErr) s) P := by
  refine completes_change hdead ?_ h
  dsimp only
  rw [hheld]
  rfl

theorem signatureComparison_judges {w : Window} (x : Fin 3 → BitVec 32) (pairMis chainErr : Bool)
    (hheld : (s.m.kiln cl).cmpWin = some w) :
    let sig : Fin 3 → BitVec 32 := ![w.s0 ^^^ x 0, w.s1 ^^^ x 1, w.s2 ^^^ x 2]
    Completes (exec (.signatureComparison cl (x 0) (x 1) (x 2) pairMis chainErr) s) fun t =>
      (t.m.kiln cl).cmpWin = none ∧ SameCores s t ∧
      (∀ v < 2, t.m.rg (VOT_WINCNT cl v) = (s.m.rg (VOT_WINCNT cl v) + 1) % 2 ^ 32) ∧
      (pairMis = true ∨ chainErr = true → t.m.fld (KLN_CLSTAT cl) 2 0 = 4) ∧
      (pairMis = false → chainErr = false → s.m.actives cl = [0, 1, 2] →
        (sig 0 = sig 1 → sig 1 = sig 2 → t.m.rg (KLN_CLSTAT cl) = s.m.rg (KLN_CLSTAT cl)) ∧
        (∀ k : Fin 3, sig (k + 1) = sig (k + 2) → sig k ≠ sig (k + 1) →
          t.m.bit (KLN_CLSTAT cl) (5 + k.val) = false ∧ t.m.fld (KLN_CLSTAT cl) 4 3 = k.val ∧
          t.m.fld (KLN_CLSTAT cl) 2 0 = 2) ∧
        (sig 0 ≠ sig 1 → sig 1 ≠ sig 2 → sig 0 ≠ sig 2 → t.m.fld (KLN_CLSTAT cl) 2 0 = 4)) := by
  intro sig
  have hapart : ∀ v < 2, VOT_WINCNT cl v ∉ Mach.judgeRegs cl ∧ VOT_WINCNT cl v ∉ ledgerRegs := by
    clear hheld sig; revert cl; decide
  have hcounts := s.m.countWindow_counts cl (w.upset x)
  have hjudged := (s.m.countWindow cl (w.upset x)).judged_verdict cl (w.upset x) pairMis chainErr
  refine signatureComparison_completes hdead cl x pairMis chainErr hheld ⟨?_, ⟨rfl, rfl, rfl⟩, fun v hv => ?_,
    Mach.verdict_fault _ cl (w.upset x), fun hpair hchain hthree => ?_⟩
  · exact hjudged.held.trans (s.m.countWindow_cmpWin cl _)
  · exact (hjudged.regs _ (hapart v hv).1 (hapart v hv).2).trans (hcounts v hv)
  · subst hpair hchain
    obtain ⟨hagree, hminority, hall⟩ :=
      Mach.classify_shows (w := w.upset x) ((s.m.countWindow_actives cl (w.upset x)).trans hthree)
    dsimp only
    rw [Mach.verdict_sound]
    exact ⟨fun h01 h12 => by rw [hagree h01 h12, s.m.countWindow_clstat], hminority, hall⟩

end windows

/-! ### Rebuild, detection only and retry (R167, R168) -/

/-- A core after a core has been replaced. -/
theorem Tri.get_set (t : Tri) {j k : Nat} (hj : j < 3) (hk : k < 3) (c : Core) :
    (t.set j c).get k = if k = j then c else t.get k := by
  interval_cases j <;> interval_cases k <;> rfl

/-- The test sequence of a rebuild has ended. -/
def Mach.rebuildEnd (m : Mach) (cl : Nat) : Mach := m.modKiln cl fun k => { k with rebuilding := false }

/-- A rebuilt core runs again, and its cluster is whole (R167). -/
def Mach.showRebuilt (m : Mach) (cl j : Nat) : Mach :=
  ((m.showCore cl j true 3 1).modKiln cl fun k => { k with rebuilt := some j }).ledger 0x0301 2 0 0 0

/-- A core takes its right, its unit and its running signature from another (R167). -/
def Core.joins (c h : Core) : Core := { c with sys := h.sys, unit := h.unit, sig := h.sig }

/-- A rebuild has passed: the core that was out joins the first running one (R167). -/
def State.rebuildPassed (s : State) (cl : Nat) : State :=
  (s.setTri cl ((s.tri cl).set (s.m.fld (KLN_CLSTAT cl) 4 3)
    ((s.core cl (s.m.fld (KLN_CLSTAT cl) 4 3)).joins (s.core cl ((s.m.actives cl).headD 0))))).mod
      fun m => m.showRebuilt cl (s.m.fld (KLN_CLSTAT cl) 4 3)

theorem Mach.showRebuilt_shows (m : Mach) (cl : ClusterId) {j : Nat} (hj : j < 3) :
    (m.showRebuilt cl j).bit (KLN_CLSTAT cl) (5 + j) = true ∧ (m.showRebuilt cl j).fld (KLN_CLSTAT cl) 4 3 = 3 ∧
      (m.showRebuilt cl j).fld (KLN_CLSTAT cl) 2 0 = 1 := by
  have hrecord := ((m.showCore cl j true 3 1).modKiln cl fun k => { k with rebuilt := some j }).ledger_frame
    0x0301 2 0 0 0
  obtain ⟨hbit, hout, hstate⟩ := m.showCore_shows cl hj true (show 3 < 4 by decide) (show 1 < 8 by decide)
  refine ⟨?_, ?_, ?_⟩
  · rw [Mach.showRebuilt, hrecord.bit_notMem (Mach.clstat_notLedger cl), Mach.bit_modKiln, hbit]
  · rw [Mach.showRebuilt, hrecord.fld_notMem (Mach.clstat_notLedger cl), Mach.fld_modKiln, hout]
  · rw [Mach.showRebuilt, hrecord.fld_notMem (Mach.clstat_notLedger cl), Mach.fld_modKiln, hstate]

theorem Mach.kiln_showCore (m : Mach) (cl k : Nat) (runs : Bool) (out state cl' : Nat) :
    (m.showCore cl k runs out state).kiln cl' = m.kiln cl' := by
  rw [Mach.showCore, Mach.kiln_setFld, Mach.kiln_setFld, Mach.kiln_setBit]

theorem Mach.showRebuilt_rebuilding (m : Mach) (cl : ClusterId) (j : Nat) :
    ((m.showRebuilt cl j).kiln cl).rebuilding = (m.kiln cl).rebuilding := by
  rw [Mach.showRebuilt, Mach.kiln_ledger, Mach.kiln_modKiln, Mach.kiln_showCore]

theorem Mach.keeps_showRebuilt (m : Mach) (cl j : Nat) : Mach.Keeps [KLN_CLSTAT cl] m (m.showRebuilt cl j) :=
  have hmem : KLN_CLSTAT cl ∈ [KLN_CLSTAT cl] := List.mem_singleton_self _
  (((((Mach.Keeps.refl _ m).setBit hmem _ _).setFld hmem _ _ _).setFld hmem _ _ _).modKiln cl _).ledger _ _ _ _ _

/-- What a rebuild that passes makes of the cores. -/
theorem State.rebuildPassed_cores (s : State) (cl : ClusterId) {j : Nat} (hj : j < 3)
    (hout : s.m.fld (KLN_CLSTAT cl) 4 3 = j) :
    (s.rebuildPassed cl).core cl j = (s.core cl j).joins (s.core cl ((s.m.actives cl).headD 0)) ∧
      (∀ k < 3, k ≠ j → (s.rebuildPassed cl).core cl k = s.core cl k) ∧
      ∀ k < 3, (s.rebuildPassed cl).core (1 - cl) k = s.core (1 - cl) k := by
  have hcore (k : Nat) (hk : k < 3) : (s.rebuildPassed cl).core cl k =
      if k = j then (s.core cl j).joins (s.core cl ((s.m.actives cl).headD 0)) else s.core cl k := by
    rw [State.rebuildPassed, hout, State.core, State.mod_tri, State.tri_setTri, Tri.get_set _ hj hk]
    rfl
  refine ⟨(hcore j hj).trans (if_pos rfl), fun k hk hne => (hcore k hk).trans (if_neg hne), fun k _ => ?_⟩
  rw [State.rebuildPassed, State.core, State.mod_tri, State.tri_setTri_other, State.core]

/-- The end of a rebuild's test sequence shows, and then its result acts (R167, R168). -/
def State.rebuildEnded (s : State) (cl : Nat) : RebuildEnd → State
  | .pass => (s.mod fun m => m.rebuildEnd cl).rebuildPassed cl
  | .coreDiffers => s.mod fun m => (m.rebuildEnd cl).rebuildFailed cl
  | .healthyDiffer => s.mod fun m => (m.rebuildEnd cl).clusterFault cl

/-- One change after another is one change. -/
theorem State.mod_mod (s : State) (f g : Mach → Mach) : (s.mod f).mod g = s.mod fun m => g (f m) := rfl

section rebuild
variable {s : State} (cl : ClusterId) (hrebuilding : (s.m.kiln cl).rebuilding = true)
include hrebuilding

theorem exec_rebuildResult (r : RebuildEnd) : exec (.rebuildResult cl r) s = .next (s.rebuildEnded cl r) := by
  show execRebuildResult cl r s = _
  unfold execRebuildResult
  rw [if_neg (by simp [hrebuilding])]
  cases r with
  | pass => rfl
  | coreDiffers => exact congrArg _ (s.mod_mod (fun m => m.rebuildEnd cl) fun m => m.rebuildFailed cl)
  | healthyDiffer => exact congrArg _ (s.mod_mod (fun m => m.rebuildEnd cl) fun m => m.clusterFault cl)

theorem rebuildResult_coreDiffers : Completes (exec (.rebuildResult cl .coreDiffers) s) fun t =>
    t.m.fld (KLN_RBSTAT cl) 17 16 = min 2 (s.m.fld (KLN_RBSTAT cl) 17 16 + 1) ∧
      (t.m.kiln cl).rebuilding = false ∧ SameCores s t ∧ KeepsRegs s t [KLN_RBSTAT cl] := by
  have hmem : KLN_RBSTAT cl ∈ [KLN_RBSTAT cl] := List.mem_singleton_self _
  have hkeeps : Mach.Keeps [KLN_RBSTAT cl] s.m (s.m.rebuildEnd cl) := (Mach.Keeps.refl _ s.m).modKiln cl _
  refine completes_mod (f := fun m => (m.rebuildEnd cl).rebuildFailed cl)
    (exec_rebuildResult cl hrebuilding .coreDiffers)
    ⟨?_, ?_, ⟨rfl, rfl, rfl⟩, ((hkeeps.setFld hmem _ _ _).incFld hmem _ _).ledger _ _ _ _ _⟩
  · rw [Mach.rebuildFailed, (Mach.ledger_frame _ _ _ _ _ _).fld_notMem (Mach.rbstat_notLedger cl), Mach.incFld,
      Mach.fld_setFld_field _ _ _ _ _ _ _ (by decide) (by decide) (by decide) (by decide),
      Mach.fld_setFld_same _ _ _ _ _ (by decide) (by decide), Mach.rebuildEnd, Mach.fld_modKiln]
    exact Nat.mod_eq_of_lt (lt_of_le_of_lt (min_le_left _ _) (by decide))
  · rw [Mach.rebuildFailed, Mach.kiln_ledger, Mach.kiln_incFld, Mach.kiln_setFld, Mach.rebuildEnd, Mach.kiln_modKiln]

theorem rebuildResult_healthyDiffer : Completes (exec (.rebuildResult cl .healthyDiffer) s) fun t =>
    t.m.fld (KLN_CLSTAT cl) 2 0 = 4 ∧ SameCores s t :=
  completes_mod (f := fun m => (m.rebuildEnd cl).clusterFault cl) (exec_rebuildResult cl hrebuilding .healthyDiffer)
    ⟨Mach.clusterFault_state _ cl, rfl, rfl, rfl⟩

theorem rebuildResult_pass {j : Nat} (hj : j < 3) (hout : s.m.fld (KLN_CLSTAT cl) 4 3 = j) :
    Completes (exec (.rebuildResult cl .pass) s) fun t =>
      let h := s.core cl ((s.m.actives cl).headD 0)
      t.core cl j = { s.core cl j with sys := h.sys, unit := h.unit, sig := h.sig } ∧
      (∀ k < 3, k ≠ j → t.core cl k = s.core cl k) ∧ (∀ k < 3, t.core (1 - cl) k = s.core (1 - cl) k) ∧
      t.m.bit (KLN_CLSTAT cl) (5 + j) = true ∧ t.m.fld (KLN_CLSTAT cl) 4 3 = 3 ∧
      t.m.fld (KLN_CLSTAT cl) 2 0 = 1 ∧ (t.m.kiln cl).rebuilding = false ∧ t.pending = s.pending ∧
      KeepsRegs s t [KLN_CLSTAT cl] := by
  let ended := s.mod fun m => m.rebuildEnd cl
  have hended : ended.m.fld (KLN_CLSTAT cl) 4 3 = j := (Mach.fld_modKiln _ _ _ _ _ _).trans hout
  have hactives : ended.m.actives cl = s.m.actives cl := actives_of_regs (Mach.modKiln_regs _ _ _) cl
  have hm : (ended.rebuildPassed cl).m = (s.m.rebuildEnd cl).showRebuilt cl j := by
    rw [State.rebuildPassed, hended, State.mod_m, State.setTri_m]
    rfl
  obtain ⟨hcore, hothers, hcluster⟩ := ended.rebuildPassed_cores cl hj hended
  obtain ⟨hbit, hnone, hstate⟩ := (s.m.rebuildEnd cl).showRebuilt_shows cl hj
  refine ⟨ended.rebuildPassed cl, exec_rebuildResult cl hrebuilding .pass,
    ?_, hothers, hcluster, ?_, ?_, ?_, ?_, ?_, ?_⟩
  · rw [hcore, hactives]
    rfl
  · rw [hm, hbit]
  · rw [hm, hnone]
  · rw [hm, hstate]
  · rw [hm, Mach.showRebuilt_rebuilding, Mach.rebuildEnd, Mach.kiln_modKiln]
  · rw [State.rebuildPassed, State.mod_pending, State.setTri_pending]
    rfl
  · intro a ha hl
    rw [hm, (s.m.rebuildEnd cl).keeps_showRebuilt cl j a ha hl, Mach.rebuildEnd, Mach.rg_modKiln]

end rebuild

section retry
variable {s : State} (hdead : s.m.dead = false) (cl : ClusterId)
include hdead

theorem detectOnly_completes (hfailed : s.m.fld (KLN_RBSTAT cl) 17 16 = 2)
    (hdegraded : s.m.fld (KLN_CLSTAT cl) 2 0 = 2) : Completes (exec (.detectOnly cl) s) fun t =>
      t.m.fld (KLN_CLSTAT cl) 2 0 = 3 ∧ SameCores s t ∧ KeepsRegs s t [KLN_CLSTAT cl] := by
  refine completes_change hdead (if_pos ⟨hfailed, hdegraded⟩) ⟨?_, ⟨rfl, rfl, rfl⟩, ?_⟩
  · rw [(Mach.ledger_frame _ _ _ _ _ _).fld_notMem (Mach.clstat_notLedger cl),
      Mach.fld_setFld_same _ _ _ _ _ (by decide) (by decide)]
    rfl
  · exact ((Mach.Keeps.refl _ s.m).setFld (List.mem_singleton_self _) _ _ _).ledger _ _ _ _ _

/-- A retry in BENCH clears the failed rebuilds and waits for the boundary (R168). -/
theorem retry_completes (w : Writer) (hmode : s.m.mode = 3) (hout : s.m.fld (KLN_CLSTAT cl) 4 3 ≠ 3) :
    Completes (exec (.retry cl w) s) fun t =>
      t.m.fld (KLN_RBSTAT cl) 17 16 = 0 ∧ t.m.fld (KLN_CLSTAT cl) 2 0 = 2 ∧ (t.m.kiln cl).retry = true ∧
      SameCores s t ∧ KeepsRegs s t [KLN_RBSTAT cl, KLN_CLSTAT cl] := by
  have hother : (s.m.setFld (KLN_RBSTAT cl) 17 16 0).fld (KLN_CLSTAT cl) 4 3 ≠ 3 := by
    rwa [Mach.fld_setFld_other _ _ _ _ _ _ _ _ (Mach.clstat_ne_rbstat cl)]
  refine completes_access hdead ((if_neg (not_not.mpr hmode)).trans (if_neg hother)) ⟨?_, ?_, ?_, ⟨rfl, rfl, rfl⟩, ?_⟩
  · rw [Mach.fld_modKiln, Mach.fld_setFld_other _ _ _ _ _ _ _ _ (Mach.clstat_ne_rbstat cl).symm,
      Mach.fld_setFld_same _ _ _ _ _ (by decide) (by decide)]
    rfl
  · rw [Mach.fld_modKiln, Mach.fld_setFld_same _ _ _ _ _ (by decide) (by decide)]
    rfl
  · rw [Mach.kiln_modKiln]
  · exact (((Mach.Keeps.refl _ s.m).setFld (by simp) _ _ _).setFld (by simp) _ _ _).modKiln cl _

end retry

end Sys2Proof.Machine
end

section
open Sys2Proof Sys2Proof.Machine

/-- Settles O39: a closed window is shown, a compared one is counted and judged by its pattern, and the commands of a
rebuild and of RETRY write the two state registers of the cluster. -/
theorem windowsAndRebuild : Obligations.WindowsAndRebuild := by
  unfold Obligations.WindowsAndRebuild
  refine ⟨fun cl s hdead => ⟨fun w rest hfree hdue => windowClose_completes hdead cl hfree hdue,
      fun w x pairMis chainErr hheld => signatureComparison_judges hdead cl x pairMis chainErr hheld⟩,
    fun cl w s hdead => ⟨fun hrebuilding => ⟨fun j hj hout => rebuildResult_pass cl hrebuilding hj hout,
      rebuildResult_coreDiffers cl hrebuilding, rebuildResult_healthyDiffer cl hrebuilding⟩,
      detectOnly_completes hdead cl, retry_completes hdead cl w,
      fun hmode => completes_refused hdead (if_pos hmode)⟩⟩

end

section
/-! SUPPORT. Injections into a voter and into the engine's comparator, and the tests after a reset (R174 to R178, R273,
R274). -/

namespace Sys2Proof.Machine

/-! ### An injection into a voter (R176 to R178) -/

/-- Where a bit of the mask reaches the input, a sound voter shows what R176 expects at each point of one input. -/
theorem injObserved_reached {point field mask : Nat} (hpoint : point ≤ 10) (hreach : injMask point field mask ≠ 0) :
    injObserved point field mask = injExpected point := by
  have hone : ¬(point = 11 ∨ point = 12) := by omega
  rw [injObserved, if_neg hone, if_neg hreach]

/-- An empty mask reaches nothing. -/
theorem injMask_zero (point field : Nat) : injMask point field 0 = 0 := by
  unfold injMask
  split_ifs <;> rfl

theorem injExpected_lt (point : Nat) : injExpected point + 3 < 2 ^ 32 := by
  unfold injExpected
  split <;> decide

/-- A sound voter shows the expected result, and beside it an injection changes the flags and the counts of its instance
alone (R176, R177). -/
theorem Mach.inject_sound (m : Mach) (cl v : Nat) (hpoint : m.fld (VOT_INJCTL cl v) 11 8 ≤ 10)
    (hreach : injMask (m.fld (VOT_INJCTL cl v) 11 8) (m.fld (VOT_INJCTL cl v) 5 4) (m.rg (VOT_INJMASK cl v)) ≠ 0) :
    Mach.Keeps [VOT_STAT cl v, VOT_DISCNT cl v]
      (m.wr (VOT_INJRES cl v) (injExpected (m.fld (VOT_INJCTL cl v) 11 8) + 3)) (m.inject cl v none) := by
  have hstat : VOT_STAT cl v ∈ [VOT_STAT cl v, VOT_DISCNT cl v] := List.mem_cons_self
  have hcount : VOT_DISCNT cl v ∈ [VOT_STAT cl v, VOT_DISCNT cl v] := List.mem_cons_of_mem _ List.mem_cons_self
  unfold Mach.inject
  extract_lets ctl point res shown write sig differs written signed patterned
  have hres : res = injExpected (m.fld (VOT_INJCTL cl v) 11 8) := injObserved_reached hpoint hreach
  have hshown : shown = m.wr (VOT_INJRES cl v) (injExpected (m.fld (VOT_INJCTL cl v) 11 8) + 3) := by
    have hequal : res = injExpected point := hres
    rw [← hres]
    simp [shown, hequal, b2n]
  rw [← hshown]
  have hwritten : Mach.Keeps [VOT_STAT cl v, VOT_DISCNT cl v] shown written := by
    unfold written
    split
    · exact ((Mach.Keeps.refl _ shown).setBit hstat _ _).incFld hcount _ _
    · exact Mach.Keeps.refl _ shown
  have hsigned : Mach.Keeps [VOT_STAT cl v, VOT_DISCNT cl v] shown signed := by
    unfold signed
    split
    · exact (hwritten.setBit hstat _ _).incFld hcount _ _
    · exact hwritten
  have hpatterned : Mach.Keeps [VOT_STAT cl v, VOT_DISCNT cl v] shown patterned := by
    unfold patterned
    split
    · exact (hsigned.setFld hstat _ _ _).setFld hstat _ _ _
    · exact hsigned
  exact hpatterned.wr hstat _

section commands
variable {s : State} (hdead : s.m.dead = false)
include hdead

/-- An injection that BENCH and RUN = 0 allow shows the expected result (R176, R178). -/
theorem injectionGo_completes (cl : ClusterId) (v : Fin 2) (w : Writer) (hmode : s.m.mode = 3)
    (hrun : s.m.bit KLN_SCHCTL 0 = false) (hgo : s.m.bit (VOT_INJCTL cl v) 0 = true)
    (hpoint : s.m.fld (VOT_INJCTL cl v) 11 8 ≤ 10)
    (hreach : injMask (s.m.fld (VOT_INJCTL cl v) 11 8) (s.m.fld (VOT_INJCTL cl v) 5 4)
      (s.m.rg (VOT_INJMASK cl v)) ≠ 0) :
    Completes (exec (.injectionGo cl v w none) s) fun t =>
      t.m.rg (VOT_INJRES cl v) = injExpected (s.m.fld (VOT_INJCTL cl v) 11 8) + 3 ∧
      KeepsRegs s t [VOT_INJRES cl v, VOT_STAT cl v, VOT_DISCNT cl v] ∧ SameCores s t := by
  have hmask : s.m.rg (VOT_INJMASK cl v) ≠ 0 := fun h => hreach (by rw [h, injMask_zero])
  have hapart : VOT_INJRES cl v ∉ [VOT_STAT cl v, VOT_DISCNT cl v] ∧ VOT_INJRES cl v ∉ ledgerRegs := by
    clear hgo hpoint hreach hmask; revert cl v; decide
  have hsound := s.m.inject_sound cl v hpoint hreach
  refine completes_access hdead (m := s.m.inject cl v none) ?_ ⟨?_, ?_, rfl, rfl, rfl⟩
  · simp [hmode, hrun, hmask, hgo]
  · exact (hsound _ hapart.1 hapart.2).trans
      ((Mach.rg_wr_same _ _ _).trans (Nat.mod_eq_of_lt (injExpected_lt _)))
  · exact ((Mach.Keeps.refl _ s.m).wr List.mem_cons_self _).trans (hsound.mono (List.subset_cons_self _ _))

/-- An injection into the engine's comparator that BENCH and RUN = 0 allow is seen (R178, R274). -/
theorem dleCmpinjGo_completes (w : Writer) (hmode : s.m.mode = 3) (hrun : s.m.bit KLN_SCHCTL 0 = false)
    (hmask : s.m.rg DLE_CMPMASK ≠ 0) : Completes (exec (.dleCmpinjGo w none) s) fun t =>
      t.m.bit DLE_STAT 2 = true ∧ t.m.fld DLE_CMPINJ 10 9 = 3 ∧ t.m.fld DLE_CMPINJ 2 0 = s.m.fld DLE_CMPINJ 2 0 ∧
      KeepsRegs s t [DLE_STAT, DLE_CMPINJ] ∧ SameCores s t := by
  have hpoint : s.m.rg DLE_CMPINJ % 8 < 8 := Nat.mod_lt _ (by decide)
  have hvalue : ((s.m.setBit DLE_STAT 2 true).wr DLE_CMPINJ (s.m.rg DLE_CMPINJ % 8 + 2 ^ 10 + 2 ^ 9)).rg DLE_CMPINJ =
      s.m.rg DLE_CMPINJ % 8 + 2 ^ 10 + 2 ^ 9 := (Mach.rg_wr_same _ _ _).trans (Nat.mod_eq_of_lt (by omega))
  refine completes_access hdead
    (m := (s.m.setBit DLE_STAT 2 true).wr DLE_CMPINJ (s.m.rg DLE_CMPINJ % 8 + 2 ^ 10 + 2 ^ 9)) ?_
    ⟨?_, ?_, ?_, ?_, rfl, rfl, rfl⟩
  · simp [hmode, hrun, hmask]
  · exact (Mach.bit_wr_other _ _ _ _ _ (by decide)).trans (Mach.bit_setBit_same _ _ _ _ (by decide))
  · rw [Mach.fld, hvalue, bits]
    omega
  · rw [Mach.fld, hvalue, bits, Mach.fld, bits]
    omega
  · exact ((Mach.Keeps.refl _ s.m).setBit (by simp) _ _).wr (by simp) _

/-- Outside BENCH with RUN = 0 an injection is refused to every master but the Curator (R178). -/
theorem injections_refused (cl : ClusterId) (v : Fin 2) (w : Writer)
    (hquiet : ¬(s.m.mode = 3 ∧ s.m.bit KLN_SCHCTL 0 = false)) (hw : w ≠ 6) :
    ∀ i ∈ ([.injectionGo cl v w none, .dleCmpinjGo w none] : List Instr),
      Completes (exec i s) fun t => KeepsRegs s t [] ∧ SameCores s t := by
  have hcurator : w.val ≠ 6 := fun h => hw (Fin.ext h)
  have hclosed : (!((decide (s.m.mode = 3) && !s.m.bit KLN_SCHCTL 0) ||
      (decide (w.val = 6) && (decide (s.m.mode = 1) || (decide (s.m.mode = 5) && !s.m.firing))))) = true := by
    simpa [hcurator, imp_iff_not_or] using hquiet
  have hswap {o : Host.Outcome State Fault Refusal} (h : Completes o fun t => SameCores s t ∧ KeepsRegs s t []) :
      Completes o fun t => KeepsRegs s t [] ∧ SameCores s t := h.imp fun _ => And.imp_right And.symm
  intro i hi
  obtain rfl | rfl : i = .injectionGo cl v w none ∨ i = .dleCmpinjGo w none := by simpa using hi
  · exact hswap (completes_refused hdead (if_pos hclosed))
  · exact hswap (completes_refused hdead (if_pos hclosed))

end commands

/-! ### The tests after a reset (R174, R175, R273, R274) -/

/-- The test of a cluster has ended. -/
def Mach.testEnd (m : Mach) (cl : Nat) : Mach :=
  m.modKiln cl fun k => { k with testing := false, testAfterFault := false }

/-- A cluster that has passed its test is whole (R174). -/
theorem Mach.injectionResult_pass (m : Mach) (cl : Nat) :
    (m.injectionResult cl none).fld (KLN_CLSTAT cl) 2 0 = 1 ∧ (m.injectionResult cl none).fld (KLN_CLSTAT cl) 4 3 = 3 ∧
      (m.injectionResult cl none).fld (KLN_CLSTAT cl) 7 5 = 7 ∧
      (m.injectionResult cl none).bit (KLN_CLSTAT cl) 8 = true := by
  unfold Mach.injectionResult
  refine ⟨?_, ?_, ?_, Mach.bit_setBit_same _ _ _ _ (by decide)⟩
  · rw [Mach.fld_setBit_field _ _ _ _ _ _ (by decide) (by decide) (by decide),
      Mach.fld_setFld_field _ _ _ _ _ _ _ (by decide) (by decide) (by decide) (by decide),
      Mach.fld_setFld_field _ _ _ _ _ _ _ (by decide) (by decide) (by decide) (by decide),
      Mach.fld_setFld_same _ _ _ _ _ (by decide) (by decide)]
    rfl
  · rw [Mach.fld_setBit_field _ _ _ _ _ _ (by decide) (by decide) (by decide),
      Mach.fld_setFld_field _ _ _ _ _ _ _ (by decide) (by decide) (by decide) (by decide),
      Mach.fld_setFld_same _ _ _ _ _ (by decide) (by decide)]
    rfl
  · rw [Mach.fld_setBit_field _ _ _ _ _ _ (by decide) (by decide) (by decide),
      Mach.fld_setFld_same _ _ _ _ _ (by decide) (by decide)]
    rfl

/-- A cluster that has failed its test stays FAILED (R174). -/
theorem Mach.injectionResult_fail (m : Mach) (cl : Fin 2) (f : InjFail) :
    (m.injectionResult cl (some f)).fld (KLN_CLSTAT cl) 2 0 = 4 ∧
      (m.injectionResult cl (some f)).bit (KLN_CLSTAT cl) 8 = false := by
  have hstate : ((m.setFld (KLN_CLSTAT cl) 2 0 4).setBit (KLN_CLSTAT cl) 8 false).fld (KLN_CLSTAT cl) 2 0 = 4 := by
    rw [Mach.fld_setBit_field _ _ _ _ _ _ (by decide) (by decide) (by decide),
      Mach.fld_setFld_same _ _ _ _ _ (by decide) (by decide)]
    rfl
  unfold Mach.injectionResult
  exact ⟨((Mach.ledger_frame _ _ _ _ _ _).fld_notMem (Mach.clstat_notLedger cl) _ _).trans hstate,
    ((Mach.ledger_frame _ _ _ _ _ _).bit_notMem (Mach.clstat_notLedger cl) _).trans
      (Mach.bit_setBit_same _ _ _ _ (by decide))⟩

/-- A test's result writes the state register of its cluster alone. -/
theorem Mach.keeps_injectionResult (m : Mach) (cl : Nat) (fail : Option InjFail) :
    Mach.Keeps [KLN_CLSTAT cl] m (m.injectionResult cl fail) ∧ (m.injectionResult cl fail).kiln cl = m.kiln cl := by
  have hmem : KLN_CLSTAT cl ∈ [KLN_CLSTAT cl] := List.mem_singleton_self _
  cases fail with
  | none =>
    refine ⟨((((Mach.Keeps.refl _ m).setFld hmem _ _ _).setFld hmem _ _ _).setFld hmem _ _ _).setBit hmem _ _, ?_⟩
    rw [Mach.injectionResult, Mach.kiln_setBit, Mach.kiln_setFld, Mach.kiln_setFld, Mach.kiln_setFld]
  | some f =>
    refine ⟨(((Mach.Keeps.refl _ m).setFld hmem _ _ _).setBit hmem _ _).ledger _ _ _ _ _, ?_⟩
    rw [Mach.injectionResult, Mach.kiln_ledger, Mach.kiln_setBit, Mach.kiln_setFld]

/-- The test of the engine has ended. -/
def Mach.dleTestEnd (m : Mach) : Mach := { m with dle := { m.dle with testing := false, autoRj := false } }

/-- The engine runs after a test that has passed (R273). -/
def Mach.dleTestPass (m : Mach) : Mach :=
  (((m.setBit DLE_STAT 0 true).setBit DLE_STAT 1 false).setBit DLE_STAT 2 false).setBit DLE_STAT 3 true

theorem Mach.dleTestPass_shows (m : Mach) : m.dleTestPass.bit DLE_STAT 0 = true ∧ m.dleTestPass.bit DLE_STAT 1 = false ∧
    m.dleTestPass.bit DLE_STAT 2 = false ∧ m.dleTestPass.bit DLE_STAT 3 = true := by
  unfold Mach.dleTestPass
  refine ⟨?_, ?_, ?_, Mach.bit_setBit_same _ _ _ _ (by decide)⟩
  · rw [Mach.bit_setBit_field _ _ _ _ _ (by decide) (by decide),
      Mach.bit_setBit_field _ _ _ _ _ (by decide) (by decide),
      Mach.bit_setBit_field _ _ _ _ _ (by decide) (by decide), Mach.bit_setBit_same _ _ _ _ (by decide)]
  · rw [Mach.bit_setBit_field _ _ _ _ _ (by decide) (by decide),
      Mach.bit_setBit_field _ _ _ _ _ (by decide) (by decide),
      Mach.bit_setBit_same _ _ _ _ (by decide)]
  · rw [Mach.bit_setBit_field _ _ _ _ _ (by decide) (by decide), Mach.bit_setBit_same _ _ _ _ (by decide)]

theorem Mach.keeps_dleTestPass (m : Mach) : Mach.Keeps [DLE_STAT] m m.dleTestPass :=
  have hmem : DLE_STAT ∈ [DLE_STAT] := List.mem_singleton_self _
  ((((Mach.Keeps.refl _ m).setBit hmem _ _).setBit hmem _ _).setBit hmem _ _).setBit hmem _ _

/-- A wish for a mode that hangs on a condition. -/
theorem Mach.ite_wantMode (m : Mach) (c : Prop) [Decidable c] (mode : Option Nat) :
    (if c then { m with wantMode := mode } else m) = { m with wantMode := if c then mode else m.wantMode } := by
  split <;> rfl

section tests
variable {s : State} (hdead : s.m.dead = false)
include hdead

/-- The test of a cluster ends with the registers of its result; RESYNC may be wanted for the next boundary (R174). -/
theorem injectionTestComplete_completes (cl : ClusterId) (htesting : (s.m.kiln cl).testing = true)
    (fail : Option InjFail) :
    Completes (exec (.injectionTestComplete cl fail) s) fun t =>
      t.m.regs = ((s.m.testEnd cl).injectionResult cl fail).regs ∧
      (t.m.kiln cl).testing = false ∧ KeepsRegs s t [KLN_CLSTAT cl] ∧ SameCores s t := by
  obtain ⟨hkeeps, hkiln⟩ := (s.m.testEnd cl).keeps_injectionResult cl fail
  have hended : Mach.Keeps [KLN_CLSTAT cl] s.m (s.m.testEnd cl) := (Mach.Keeps.refl _ s.m).modKiln cl _
  have hidle : (((s.m.testEnd cl).injectionResult cl fail).kiln cl).testing = false := by
    rw [hkiln, Mach.testEnd, Mach.kiln_modKiln]
  exact completes_change hdead ((if_neg (by simp [htesting])).trans (Mach.ite_wantMode _ _ _))
    ⟨rfl, hidle, hended.trans hkeeps, rfl, rfl, rfl⟩

theorem injectionTestPass_completes (cl : ClusterId) (htesting : (s.m.kiln cl).testing = true) :
    Completes (exec (.injectionTestComplete cl none) s) fun t =>
      t.m.fld (KLN_CLSTAT cl) 2 0 = 1 ∧ t.m.fld (KLN_CLSTAT cl) 4 3 = 3 ∧ t.m.fld (KLN_CLSTAT cl) 7 5 = 7 ∧
        t.m.bit (KLN_CLSTAT cl) 8 = true ∧ (t.m.kiln cl).testing = false ∧
        KeepsRegs s t [KLN_CLSTAT cl] ∧ SameCores s t := by
  obtain ⟨t, hexec, hregs, hrest⟩ := injectionTestComplete_completes hdead cl htesting none
  obtain ⟨hstate, hout, hcores, hpassed⟩ := (s.m.testEnd cl).injectionResult_pass cl
  exact ⟨t, hexec, (Mach.fld_of_regs hregs _ _ _).trans hstate, (Mach.fld_of_regs hregs _ _ _).trans hout,
    (Mach.fld_of_regs hregs _ _ _).trans hcores, (Mach.bit_of_regs hregs _ _).trans hpassed, hrest⟩

theorem injectionTestFail_completes (cl : ClusterId) (htesting : (s.m.kiln cl).testing = true) (f : InjFail) :
    Completes (exec (.injectionTestComplete cl (some f)) s) fun t =>
      t.m.fld (KLN_CLSTAT cl) 2 0 = 4 ∧ t.m.bit (KLN_CLSTAT cl) 8 = false ∧ (t.m.kiln cl).testing = false ∧
        KeepsRegs s t [KLN_CLSTAT cl] ∧ SameCores s t := by
  obtain ⟨t, hexec, hregs, hrest⟩ := injectionTestComplete_completes hdead cl htesting (some f)
  obtain ⟨hstate, hfailed⟩ := (s.m.testEnd cl).injectionResult_fail cl f
  exact ⟨t, hexec, (Mach.fld_of_regs hregs _ _ _).trans hstate, (Mach.bit_of_regs hregs _ _).trans hfailed, hrest⟩

/-- The engine's test passes: the engine runs, and RESYNC may be wanted for the next boundary (R273). -/
theorem dleComparatorTestPass_completes (htesting : s.m.dle.testing = true) :
    Completes (exec (.dleComparatorTestComplete none) s) fun t =>
      t.m.bit DLE_STAT 0 = true ∧ t.m.bit DLE_STAT 1 = false ∧ t.m.bit DLE_STAT 2 = false ∧
      t.m.bit DLE_STAT 3 = true ∧ t.m.dle.testing = false ∧ KeepsRegs s t [DLE_STAT] ∧ SameCores s t := by
  obtain ⟨hruns, hstopped, hdiffers, hpassed⟩ := s.m.dleTestEnd.dleTestPass_shows
  have hkeeps : Mach.Keeps [DLE_STAT] s.m s.m.dleTestEnd.dleTestPass :=
    ((Mach.Keeps.refl _ s.m).of_regs rfl).trans s.m.dleTestEnd.keeps_dleTestPass
  obtain ⟨t, hexec, hregs, hrest⟩ : Completes (exec (.dleComparatorTestComplete none) s) fun t =>
      t.m.regs = s.m.dleTestEnd.dleTestPass.regs ∧ t.m.dle.testing = false ∧ SameCores s t :=
    completes_change hdead ((if_neg (by simp [htesting])).trans (s.m.dleTestEnd.dleTestPass.ite_wantMode _ _))
      ⟨rfl, rfl, rfl, rfl, rfl⟩
  obtain ⟨htested, hcores⟩ := hrest
  exact ⟨t, hexec, (Mach.bit_of_regs hregs _ _).trans hruns, (Mach.bit_of_regs hregs _ _).trans hstopped,
    (Mach.bit_of_regs hregs _ _).trans hdiffers, (Mach.bit_of_regs hregs _ _).trans hpassed, htested,
    hkeeps.of_regs hregs, hcores⟩

/-- The engine's test fails: the failure is recorded, and the engine stays stopped (R274). -/
theorem dleComparatorTestFail_completes (htesting : s.m.dle.testing = true)
    (f : BitVec 2 × Bool × BitVec 32 × BitVec 11) : Completes (exec (.dleComparatorTestComplete (some f)) s) fun t =>
      t.m.bit DLE_STAT 3 = false ∧ t.m.dle.testing = false ∧ KeepsRegs s t [DLE_STAT] ∧ SameCores s t := by
  obtain ⟨point, half, mask, res⟩ := f
  have hrecord := (s.m.dleTestEnd.setBit DLE_STAT 3 false).ledger_frame 0x0604 3 (point.toNat + 4 * b2n half) mask.toNat
    res.toNat
  have hcleared : (s.m.dleTestEnd.setBit DLE_STAT 3 false).bit DLE_STAT 3 = false :=
    Mach.bit_setBit_same _ _ _ _ (by decide)
  have hkeeps : Mach.Keeps [DLE_STAT] s.m (s.m.dleTestEnd.setBit DLE_STAT 3 false) :=
    ((Mach.Keeps.refl _ s.m).of_regs (m'' := s.m.dleTestEnd) rfl).setBit (List.mem_singleton_self _) _ _
  exact completes_change hdead (m := (s.m.dleTestEnd.setBit DLE_STAT 3 false).ledger 0x0604 3 _ _ _)
    (if_neg (by simp [htesting]))
    ⟨(hrecord.bit_notMem (by decide) _).trans hcleared, congrArg Dle.testing hrecord.dle, hkeeps.ledger _ _ _ _ _,
      rfl, rfl, rfl⟩

end tests

end Sys2Proof.Machine
end

section
open Sys2Proof Sys2Proof.Machine

/-- Settles O40: an injection that is let through shows what R176 expects of a sound voter, any other leaves a record,
and a test that ends writes the state register of what it has tested. -/
theorem injectionTests : Obligations.InjectionTests := by
  unfold Obligations.InjectionTests
  intro cl v w s hdead point quiet
  refine ⟨fun ⟨hmode, hrun⟩ => injectionGo_completes hdead cl v w hmode hrun,
    fun ⟨hmode, hrun⟩ => dleCmpinjGo_completes hdead w hmode hrun,
    fun hquiet hw => injections_refused hdead cl v w hquiet hw,
    fun htesting => ⟨injectionTestPass_completes hdead cl htesting, injectionTestFail_completes hdead cl htesting⟩,
    fun htesting => ⟨dleComparatorTestPass_completes hdead htesting, dleComparatorTestFail_completes hdead htesting⟩⟩

end

section
/-! SUPPORT. What a program's life has reached: the program in force, the state of loads, changes and restarts, and what
the module has sent out; and that the operations which its commands share with the rest of the module leave it alone. -/

namespace Sys2Proof.Machine

/-- The program in force, the state of its loads, changes and restarts, and what has left the module. -/
structure Life where
  prog : Prog
  pgm  : Pgm
  out  : List Out

/-- The life of a program with the two registers that show it: KLN_PGMSTAT and KLN_CHGSTAT (R213). -/
structure Course extends Life where
  pgmStat : Nat
  chgStat : Nat

namespace Mach

/-- What the life of the program has reached. -/
def life (m : Mach) : Life := ⟨m.prog, m.pgm, m.out⟩

/-- The life of the program as its registers show it. -/
def course (m : Mach) : Course := ⟨m.life, m.rg KLN_PGMSTAT, m.rg KLN_CHGSTAT⟩

section
variable {m : Mach} {x : Life} (h : m.life = x)
include h

theorem prog_of_life : m.prog = x.prog := h ▸ rfl
theorem pgm_of_life : m.pgm = x.pgm := h ▸ rfl
theorem out_of_life : m.out = x.out := h ▸ rfl

end

section
variable {m : Mach} {x : Course} (h : m.course = x)
include h

theorem pgmStat_of_course : m.rg KLN_PGMSTAT = x.pgmStat := h ▸ rfl
theorem chgStat_of_course : m.rg KLN_CHGSTAT = x.chgStat := h ▸ rfl
theorem pgm_of_course : m.pgm = x.pgm := h ▸ rfl
theorem prog_of_course : m.prog = x.prog := h ▸ rfl
theorem out_of_course : m.out = x.out := h ▸ rfl

end

theorem course_congr {m m' : Mach} (hl : m'.life = m.life) (hr : m'.regs = m.regs) : m'.course = m.course := by
  simp only [course, hl, rg_of_regs hr]

/-! ### Registers, memory and the Ledger -/

@[simp] theorem life_wr (m : Mach) (a v : Nat) : (m.wr a v).life = m.life := rfl
@[simp] theorem life_setFld (m : Mach) (a hi lo v : Nat) : (m.setFld a hi lo v).life = m.life := rfl
@[simp] theorem life_setBit (m : Mach) (a k : Nat) (v : Bool) : (m.setBit a k v).life = m.life := rfl
@[simp] theorem life_incFld (m : Mach) (a hi lo : Nat) : (m.incFld a hi lo).life = m.life := rfl
@[simp] theorem life_wr64 (m : Mach) (a v : Nat) : (m.wr64 a v).life = m.life := rfl
@[simp] theorem life_putWords (m : Mach) (a : Nat) (bs : List Byte) : (m.putWords a bs).life = m.life := rfl
@[simp] theorem life_recPut (m : Mach) (k o n v : Nat) : (m.recPut k o n v).life = m.life := rfl

theorem LedgerFrame.life {m m' : Mach} (h : LedgerFrame m m') : m'.life = m.life := by
  simp only [Mach.life, h.prog, h.pgm, h.out]

theorem LedgerFrame.course {m m' : Mach} (h : LedgerFrame m m') : m'.course = m.course := by
  simp only [Mach.course, h.life, h.rg_notMem (show KLN_PGMSTAT ∉ ledgerRegs by decide),
    h.rg_notMem (show KLN_CHGSTAT ∉ ledgerRegs by decide)]

@[simp] theorem life_ledger (m : Mach) (code src arg0 arg1 arg2 : Nat) :
    (m.ledger code src arg0 arg1 arg2).life = m.life := (ledger_frame m code src arg0 arg1 arg2).life

/-- A write of a register above those of the program shows nothing of its life. -/
theorem course_wr (m : Mach) {a : Nat} (h : KLN_CHGSTAT < a) (v : Nat) : (m.wr a v).course = m.course := by
  have hchg : KLN_CHGSTAT ≠ a := by omega
  have hpgm : KLN_PGMSTAT ≠ a := by
    have : KLN_PGMSTAT < KLN_CHGSTAT := by decide
    omega
  simp only [course, life_wr, rg_wr_other _ _ _ _ hchg, rg_wr_other _ _ _ _ hpgm]

theorem course_setFld (m : Mach) {a : Nat} (h : KLN_CHGSTAT < a) (hi lo v : Nat) :
    (m.setFld a hi lo v).course = m.course := m.course_wr h _

theorem course_setBit (m : Mach) {a : Nat} (h : KLN_CHGSTAT < a) (k : Nat) (v : Bool) :
    (m.setBit a k v).course = m.course := m.course_wr h _

theorem course_incFld (m : Mach) {a : Nat} (h : KLN_CHGSTAT < a) (hi lo : Nat) :
    (m.incFld a hi lo).course = m.course := m.course_wr h _

theorem course_putWords (m : Mach) (a : Nat) (bs : List Byte) : (m.putWords a bs).course = m.course :=
  course_congr rfl rfl

theorem course_ledger (m : Mach) (code src arg0 arg1 arg2 : Nat) :
    (m.ledger code src arg0 arg1 arg2).course = m.course := (ledger_frame m code src arg0 arg1 arg2).course

theorem course_wr64 (m : Mach) {a : Nat} (h : KLN_CHGSTAT < a) (v : Nat) : (m.wr64 a v).course = m.course :=
  (course_wr _ (Nat.lt_add_right 4 h) _).trans (m.course_wr h _)

/-! ### Admission and the label (R441, R466) -/

theorem course_withLabel (m : Mach) (x : Label) : ({ m with label := x } : Mach).course = m.course := rfl

theorem course_labelStart (m : Mach) : m.labelStart.course = m.course := by
  unfold labelStart
  split
  · extract_lets marked
    have hmarked : marked.course = m.course := by
      unfold marked
      split
      · exact m.course_putWords _ _
      · rfl
    rw [course_setFld _ (by decide), course_setBit _ (by decide), course_setBit _ (by decide),
      course_setFld _ (by decide), hmarked]
  · rw [course_ledger, course_setFld _ (by decide), course_setBit _ (by decide), course_setBit _ (by decide)]

theorem course_labelWrite (m : Mach) : m.labelWrite.course = m.course := by
  unfold labelWrite
  split
  · rfl
  · exact (course_withLabel _ _).trans ((course_putWords _ _ _).trans (m.course_putWords _ _))

theorem cstat_above (c : Nat) : KLN_CHGSTAT < ADM_CSTAT c := by
  simp only [KLN_CHGSTAT, ADM_CSTAT]
  omega

theorem course_admShow (m : Mach) : m.admShow.course = m.course := by
  unfold admShow
  refine (foldl_keeps course (fun m c => ?_) _ _).trans ?_
  · rw [course_setFld _ (cstat_above c), course_setFld _ (cstat_above c)]
  · rw [course_setBit _ (by decide), course_setBit _ (by decide), course_setFld _ (by decide)]

theorem course_admStart (m : Mach) (q : AdmReq) : (m.admStart q).course = m.course := by
  unfold admStart
  split
  · exact (ledgerFlush_frame m).course
  · exact course_labelStart m
  · exact course_labelWrite m
  · exact m.course_setBit (by decide) _ _
  · rfl

theorem course_admTry (boundary : Bool) (m : Mach) (q : AdmReq) : (admTry boundary m q).course = m.course := by
  unfold admTry
  split
  · exact course_admStart _ q
  · rfl

theorem course_admEvaluate (m : Mach) (boundary : Bool) : (m.admEvaluate boundary).course = m.course :=
  (course_admShow _).trans
    (foldl_keeps course (fun m _ => foldl_keeps course (fun m q => course_admTry boundary m q) _ m) _ m)

theorem course_admWait (m : Mach) (cls : Nat) (who : AdmWho) : (m.admWait cls who).course = m.course := by
  unfold admWait
  split
  · rfl
  · extract_lets q adm asked
    have hasked : asked.course = m.course := course_admEvaluate _ _
    split
    · exact (course_incFld _ (cstat_above cls) _ _).trans hasked
    · exact hasked

@[simp] theorem admWait_prog (m : Mach) (cls : Nat) (who : AdmWho) : (m.admWait cls who).prog = m.prog :=
  prog_of_course (m.course_admWait cls who)
@[simp] theorem admWait_pgm (m : Mach) (cls : Nat) (who : AdmWho) : (m.admWait cls who).pgm = m.pgm :=
  pgm_of_course (m.course_admWait cls who)
@[simp] theorem admWait_out (m : Mach) (cls : Nat) (who : AdmWho) : (m.admWait cls who).out = m.out :=
  out_of_course (m.course_admWait cls who)
@[simp] theorem admWait_chgStat (m : Mach) (cls : Nat) (who : AdmWho) :
    (m.admWait cls who).rg KLN_CHGSTAT = m.rg KLN_CHGSTAT := chgStat_of_course (m.course_admWait cls who)

theorem course_admDrop (m : Mach) (who : AdmWho) : (m.admDrop who).course = m.course := course_admEvaluate _ _

@[simp] theorem admDrop_pgm (m : Mach) (who : AdmWho) : (m.admDrop who).pgm = m.pgm :=
  pgm_of_course (m.course_admDrop who)

theorem course_catPend (m : Mach) (g : Nat) : (m.catPend g).course = m.course :=
  foldl_keeps course (fun m p => m.course_wr (by simp only [KLN_CHGSTAT, GXP_CATPEND, gxpBase]; omega) g) _ m

/-! ### Tables of a program, regions and provenance (R61, R384, R399) -/

theorem life_startRecord (m : Mach) (kind : Nat) : (m.startRecord kind).life = m.life := m.life_putWords _ _

theorem life_writeSections (m : Mach) (p : Prog) : (m.writeSections p).life = m.life := by
  unfold writeSections
  refine foldl_keeps life (fun m x => ?_) _ m
  rfl

theorem life_taskRegs (m : Mach) : m.taskRegs.life = m.life := by
  unfold taskRegs
  refine foldl_keeps life (fun m n => ?_) _ m
  split <;> simp

theorem life_clearCounters (m : Mach) : m.clearCounters.life = m.life := by
  unfold clearCounters
  extract_lets counted
  have hcounted : counted.life = m.life := by
    refine foldl_keeps life (fun m n => ?_) _ m
    rw [life_wr, life_wr]
  rw [life_wr, life_wr, hcounted]

theorem life_mpuShow (m : Mach) (c : Nat) : (m.mpuShow c).life = m.life := by simp [mpuShow]

theorem life_mpuAdopt (m : Mach) (c : Nat) (set : Nat → Region) : (m.mpuAdopt c set).life = m.life :=
  life_mpuShow _ c

theorem life_buildRegions (m : Mach) : m.buildRegions.life = m.life := by
  refine foldl_keeps life (fun m cl => ?_) [0, 1] m
  rw [life_mpuAdopt]
  exact foldl_keeps life (fun m n => by simp) _ m

theorem life_psExtend (m : Mach) (n source : Nat) (bs : List Byte) : (m.psExtend n source bs).life = m.life := by
  unfold psExtend
  dsimp only
  rw [psShow_keeps life life_wr]
  split <;> rfl

/-! ### The Deadline Engine and the Catalogue (R212, R236, R272) -/

theorem life_setChain (m : Mach) (k : Nat) (l : List Nat) : (m.setChain k l).life = m.life := by
  unfold setChain
  rw [foldl_keeps life (fun m e => life_recPut m _ _ _ _)]
  simp

theorem life_unbindAct (m : Mach) (r : Nat) : (m.unbindAct r).life = m.life := by
  unfold unbindAct
  dsimp only
  split
  · exact life_setChain m _ _
  · rfl

theorem life_endAct (m : Mach) (r outcome : Nat) : (m.endAct r outcome).life = m.life := by
  unfold endAct
  extract_lets unbound written dle ended
  have hended : ended.life = m.life := by
    change written.life = m.life
    simp [written, unbound, life_unbindAct]
  split
  · exact (life_incFld ended _ _ _).trans hended
  · exact hended

theorem life_staleAxis (m : Mach) (a : Nat) : (m.staleAxis a).life = m.life :=
  foldl_keeps life (fun m k => by split <;> rfl) _ m

theorem life_setAxis (m : Mach) (a : Nat) (x : Axis) : (m.setAxis a x).life = m.life := by
  unfold setAxis
  simp only [life_wr, life_wr64]
  rfl

theorem life_axesOff (m : Mach) : m.axesOff.life = m.life := by
  refine foldl_keeps life (fun m e => ?_) m.dle.axes m
  split
  · rfl
  · exact (life_staleAxis _ _).trans (life_setAxis m _ _)

theorem life_dleShow (m : Mach) : m.dleShow.life = m.life := by simp [dleShow]

theorem life_dleCatalogue (m : Mach) : m.dleCatalogue.life = m.life := by
  unfold dleCatalogue
  rw [life_dleShow, life_axesOff]
  refine foldl_keeps life (fun m r => ?_) m.acts m
  split
  · rfl
  · split
    · exact life_endAct m r _
    · split
      · exact life_endAct m r _
      · rfl

theorem life_dleRelease (m : Mach) : m.dleRelease.life = m.life := by
  unfold dleRelease
  rw [life_dleShow]
  exact foldl_keeps life (fun m r => life_recPut m r 0 1 0) _ m

theorem life_catActivate (m : Mach) : m.catActivate.life = m.life :=
  foldl_keeps life (fun m p => by simp) _ m

theorem life_forceShow (m : Mach) : m.forceShow.life = m.life := by simp [forceShow]

theorem life_forceDrop (m : Mach) (old : Memory) : (m.forceDrop old).life = m.life := by
  unfold forceDrop
  dsimp only
  split
  · rfl
  · exact (life_forceShow _).trans (foldl_keeps life (fun m f => life_ledger m _ _ _ _ _) _ _)

theorem life_forceClear (m : Mach) : m.forceClear.life = m.life := by
  unfold forceClear
  rw [life_psExtend, life_forceShow]
  rfl

theorem life_catSwitch (m : Mach) (old : Memory) : (m.catSwitch old).life = m.life := by
  rw [catSwitch, life_forceDrop, life_dleCatalogue, life_catActivate]

/-! ### The journal (R197, R353) -/

theorem life_eccWriteWord (m : Mach) (w cls : Nat) (whole : Bool) : (m.eccWriteWord w cls whole).life = m.life := by
  unfold eccWriteWord
  split
  · rfl
  · split
    · rfl
    · rfl
    · exact life_ledger _ _ _ _ _ _
    · exact life_ledger _ _ _ _ _ _

theorem life_jst (m : Mach) (a : Nat) (bs : List Byte) : (m.jst a bs).life = m.life :=
  foldl_keeps life (fun m w => life_eccWriteWord m w 5 _) _ m

theorem life_setRecState (m : Mach) (n v : Nat) : (m.setRecState n v).life = m.life := rfl

theorem life_acjShow (m : Mach) : m.acjShow.life = m.life := by
  simp only [acjShow, life_setBit, life_setFld]

theorem life_dropDelivered (m : Mach) : m.dropDelivered.life = m.life := by
  unfold dropDelivered
  extract_lets slots dropped
  have hdropped : dropped.life = m.life := by
    refine foldl_keeps life (fun m s => ?_) slots m
    exact (life_jst _ _ _).trans (life_setRecState m s 5)
  rw [life_acjShow]
  split <;> exact hdropped

end Mach
end Sys2Proof.Machine
end

section
/-! SUPPORT. The commands of a program's life: which of them are refused, and what the module has reached after those that
act (R191 to R208, R213). -/

namespace Sys2Proof.Machine

namespace Mach

@[simp] theorem pgmDone_pgm (m : Mach) (code : Nat) : (m.pgmDone code).pgm = m.pgm := rfl

theorem chgState_pgmDone (m : Mach) (code : Nat) : (m.pgmDone code).chgState = m.chgState := by
  rw [chgState, fld, rg_pgmDone _ _ _ (by decide), chgState, fld]

/-! ### Loads and changes (R191 to R193, R201 to R206) -/

/-- An image that passes the checks of R191 for a load becomes the change that waits to be stored. -/
theorem loadImage_accepted {m : Mach} {img : List Byte} (himg : imgCheck img = 0)
    (hprog : m.progCheck img (progOf img (m.pgm.gens + 1)) catActive none = 0) :
    ∃ t : Mach, m.loadImage img [] = t.pgmDone 0 ∧ t.out = m.out ∧ t.prog = m.prog ∧
      t.pgm.change = some ⟨progOf img (m.pgm.gens + 1), [], true, [], [], true, false, false⟩ := by
  unfold loadImage
  simp only [List.isEmpty_nil, if_true, himg, hprog, ne_eq, not_true, if_false]
  exact ⟨_, rfl, by rw [admWait_out], by rw [admWait_prog], by rw [admWait_pgm]⟩

/-- An image that passes the checks of R191 beside the program in force goes to STAGING. -/
theorem changeTake_accepted {m : Mach} {img : List Byte} (himg : imgCheck img = 0)
    (hprog : m.progCheck img (progOf img (m.pgm.gens + 1)) catActive (some m.prog) = 0) :
    ∃ t : Mach, m.changeTake img [] = (pgmName 0, 0, t) ∧ t.prog = m.prog ∧
      t.pgm.change.map Change.prog = some (progOf img (m.pgm.gens + 1)) ∧ t.rg KLN_CHGSTAT = 3 := by
  unfold changeTake
  simp only [List.isEmpty_nil, if_true, himg, hprog, ne_eq, not_true, if_false]
  refine ⟨_, rfl, ?_, ?_, ?_⟩
  · simp only [admWait_prog, wr_prog]
  · simp only [admWait_pgm, wr_pgm, Option.map_some]
  · rw [admWait_chgStat, admWait_chgStat, rg_wr_same, Nat.mod_eq_of_lt (by decide)]

/-- A change that becomes READY stays the same change (R203). -/
theorem changeReady_sameChange (m : Mach) : m.changeReady.pgm.change.map (fun x => (x.prog, x.staged)) =
    m.pgm.change.map fun x => (x.prog, x.staged) := by
  unfold changeReady
  split
  · rfl
  case _ c hchange =>
    split
    · rw [hchange]; rfl
    · rfl

/-- The end of a change without a switch: the program in force stays, and KLN_CHGSTAT shows IDLE (R201). -/
theorem course_changeDrop (m : Mach) : m.changeDrop.course =
    ⟨⟨m.prog, { m.pgm with change := none, partReady := false }, m.out⟩, m.rg KLN_PGMSTAT, 0⟩ := by
  unfold changeDrop
  extract_lets pgm dropped
  rw [course_admDrop, course_admDrop, course_catPend, course_wr64 _ (by decide), course, rg_wr_same,
    rg_wr_other _ _ _ _ (by decide)]
  rfl

theorem chgState_changeDrop (m : Mach) : m.changeDrop.chgState = 0 := by
  rw [chgState, fld, chgStat_of_course m.course_changeDrop]
  exact (by decide : bits 0 2 0 = 0)

/-- A program that takes effect is in force, and has had no restart (R193, R206). -/
theorem life_progTake (m : Mach) (p : Prog) :
    (m.progTake p).life = ⟨p, { m.pgm with restarts := 0 }, m.out⟩ := by
  unfold progTake
  extract_lets pgm built
  rw [life_psExtend, life_setFld, life_wr64, life_buildRegions, life_clearCounters, life_taskRegs]
  rfl

/-- The switch puts the new program in force, on the other bank, and ends the change (R206, R208). -/
theorem switchDo_reaches (m : Mach) (c : Change) : (m.switchDo c).prog = c.prog ∧ (m.switchDo c).pgm.change = none ∧
    (m.switchDo c).pgm.bank = 1 - m.pgm.bank ∧ (m.switchDo c).fld KLN_PGMSTAT 1 0 = 3 ∧ (m.switchDo c).chgState = 0 := by
  unfold switchDo
  extract_lets old carriedOver jrn emptied pgm banked taken started switched
  have hcarried : carriedOver.life = m.life := by
    unfold carriedOver
    split
    · refine foldl_keeps life (fun m g => ?_) _ m
      split <;> rfl
    · rfl
  have hpgm : carriedOver.pgm = m.pgm := pgm_of_life hcarried
  have hout : carriedOver.out = m.out := out_of_life hcarried
  clear_value carriedOver
  have hstarted : started.life = ⟨c.prog, { m.pgm with bank := 1 - m.pgm.bank, restarts := 0 }, m.out⟩ := by
    rw [life_startRecord, life_progTake, ← hpgm, ← hout]
  clear_value started
  have hswitched : switched.life = ⟨c.prog, { m.pgm with bank := 1 - m.pgm.bank, restarts := 0 }, m.out⟩ := by
    unfold switched
    split
    · exact hstarted
    · exact (life_catSwitch _ _).trans hstarted
  clear_value switched
  have hdropped := course_changeDrop (switched.setFld KLN_PGMSTAT 1 0 3)
  refine ⟨(prog_of_course hdropped).trans (prog_of_life hswitched), ?_, ?_, ?_, chgState_changeDrop _⟩
  · rw [pgm_of_course hdropped]
  · rw [pgm_of_course hdropped]
    exact congrArg Pgm.bank (pgm_of_life hswitched)
  · rw [fld, pgmStat_of_course hdropped]
    exact fld_setFld_same switched _ _ _ _ (by decide) (by decide)

/-! ### Restarts (R196 to R199) -/

theorem headPut_restart (m : Mach) (b : Nat) (h : BankHead) : (m.headPut b h).pgm.restart = m.pgm.restart := by
  unfold headPut
  dsimp only
  split <;> rfl

/-- What a restart writes leaves it in progress, with its sections written, and clears the count of overruns (R197). -/
theorem restartWrite_reaches (m : Mach) (kind : Nat) :
    (m.restartWrite kind).pgm.restart = m.pgm.restart.map (fun r => { r with written := true }) ∧
      (m.restartWrite kind).fld KLN_OVRCNT 1 0 = 0 := by
  unfold restartWrite
  extract_lets bank p sections zeroed released dle written cleared
  have hsections : sections.pgm.restart = m.pgm.restart := congrArg Pgm.restart (pgm_of_life (m.life_writeSections p))
  have hzeroed : zeroed.pgm.restart = m.pgm.restart := (headPut_restart _ _ _).trans hsections
  have hreleased : released.pgm.restart = m.pgm.restart := by
    have hlife : released.life = zeroed.life :=
      (life_dleRelease _).trans ((life_dropDelivered _).trans (life_forceClear zeroed))
    rw [pgm_of_life hlife]
    exact hzeroed
  clear_value sections released
  have hwritten : written.pgm.restart = m.pgm.restart := by
    unfold written
    split
    · exact hsections
    · split <;> exact hreleased
  clear_value written
  have hcleared : cleared.life = written.life := (life_setFld _ _ _ _ _).trans written.life_clearCounters
  have hcount : cleared.fld KLN_OVRCNT 1 0 = 0 := fld_setFld_same _ _ _ _ _ (by decide) (by decide)
  have hrestart : cleared.pgm.restart = m.pgm.restart :=
    (congrArg Pgm.restart (pgm_of_life hcleared)).trans hwritten
  clear_value cleared
  exact ⟨congrArg (Option.map _) hrestart, hcount⟩

/-- The start record as it stands in memory (R199). -/
theorem ldBytes_startRecord (m : Mach) (kind : Nat) : (m.startRecord kind).mem.ldBytes m.prog.start 32 =
    leBytes 8 kind ++ leBytes 8 m.tickNo ++ leBytes 8 m.pgm.restarts ++ leBytes 8 m.prog.gen := by
  have hreads := Memory.ldBytes_stBytes
    (leBytes 8 kind ++ leBytes 8 m.tickNo ++ leBytes 8 m.pgm.restarts ++ leBytes 8 m.prog.gen) m.mem m.prog.start
  simp only [List.length_append, leBytes_length] at hreads
  exact hreads

/-- The first firing after a restart finds its start record, and no restart in progress (R198, R199). -/
theorem restartFirst_reaches (m : Mach) (r : Restart) : (m.restartFirst r).pgm.restart = none ∧
    (m.restartFirst r).bit KLN_PGMSTAT 2 = false ∧
    (m.restartFirst r).fld KLN_PGMSTAT 1 0 = (if r.kind = 2 then 1 else 2) ∧
    (m.restartFirst r).mem.ldBytes m.prog.start 32 =
      leBytes 8 r.kind ++ leBytes 8 m.tickNo ++ leBytes 8 m.pgm.restarts ++ leBytes 8 m.prog.gen ∧
    Keeps [KLN_PGMSTAT] m (m.restartFirst r) := by
  unfold restartFirst
  extract_lets started shown pgm
  have hrestarts : shown.bit KLN_PGMSTAT 2 = false := by
    rw [bit_setFld_field _ _ _ _ _ _ (by decide) (by decide) (by decide), bit_setBit_same _ _ _ _ (by decide)]
  have hlast : shown.fld KLN_PGMSTAT 1 0 = (if r.kind = 2 then 1 else 2) := by
    rw [fld_setFld_same _ _ _ _ _ (by decide) (by decide)]
    split <;> rfl
  have hrecord : shown.mem = started.mem := rfl
  have hkeeps : Keeps [KLN_PGMSTAT] m shown :=
    (((Keeps.refl _ m).of_regs rfl).setBit (List.mem_singleton_self _) 2 false).setFld (List.mem_singleton_self _) 1 0 _
  clear_value shown
  exact ⟨rfl, hrestarts, hlast, by rw [hrecord]; exact m.ldBytes_startRecord r.kind, hkeeps⟩

/-- The module with a restart that waits for its boundary. -/
def withWant (m : Mach) (kind : Nat) : Mach := { m with pgm := { m.pgm with want := some kind } }

section
variable {m : Mach} (hmode : m.mode = 3) (hgen : m.prog.gen ≠ 0) (hchg : m.chgState ≠ 5) (hfree : m.restarting = false)
  (hnone : m.pgm.change = none)
include hmode hgen hchg hfree hnone

/-- A restart in BENCH waits for the next boundary, a warm one where the bank holds the program in force (R196, R200). -/
theorem restartReq_accepted {kind : Nat} (hkept : kind = 2 → (m.headOf m.pgm.bank).gen = m.prog.gen) :
    m.restartReq true kind = (m.withWant kind).pgmDone 0 := by
  have hheld : ¬(kind = 2 ∧ (m.headOf m.pgm.bank).gen ≠ m.prog.gen) := fun ⟨hwarm, hother⟩ => hother (hkept hwarm)
  simp [restartReq, hmode, hgen, hchg, hfree, hnone, hheld, withWant]

/-- A warm restart from a bank that holds no values of the program in force is refused (R200). -/
theorem restartReq_noRetained (hother : (m.headOf m.pgm.bank).gen ≠ m.prog.gen) :
    m.restartReq true 2 = m.pgmDone 15 := by
  simp [restartReq, hmode, hgen, hchg, hfree, hnone, hother]

end

end Mach

/-! ### The commands -/

/-- A status is shown in KLN_PGMSTAT only (R213). -/
theorem keepsRegs_pgmDone (s : State) {m : Mach} (hregs : m.regs = s.m.regs) (code : Nat) :
    KeepsRegs s { s with m := m.pgmDone code } [KLN_PGMSTAT] :=
  fun a ha _ => (Mach.rg_pgmDone m code a (List.ne_of_not_mem_cons ha)).trans (Mach.rg_of_regs hregs a)

section
variable {s : State} (hdead : s.m.dead = false)
include hdead

/-- A command that ends with a status sends it out after what was there, and moves no core (R213). -/
theorem completes_pgmDone {f : Mach → Mach} {m : Mach} {code : Nat} {P : State → Prop} (hf : f s.m = m.pgmDone code)
    (hout : m.out = s.m.out) (h : P { s with m := m.pgmDone code }) : Completes (.next (s.live f)) fun t =>
      (t.m.out = s.m.out ++ [.status (pgmName code)] ∧ SameCores s t) ∧ P t :=
  completes_change hdead hf ⟨⟨congrArg (· ++ [Out.status (pgmName code)]) hout, rfl, rfl, rfl⟩, h⟩

/-! Loads. -/

theorem imageLoad_notBench (img : List Byte) (hmode : s.m.mode ≠ 3) : Completes (exec (.imageLoad img []) s) fun t =>
    (t.m.out = s.m.out ++ [.status (pgmName 9)] ∧ SameCores s t) ∧ KeepsRegs s t [KLN_PGMSTAT] :=
  completes_pgmDone hdead (if_pos hmode) rfl (keepsRegs_pgmDone s rfl 9)

theorem imageLoad_busy (img : List Byte) (hmode : s.m.mode = 3) (hbusy : s.m.pgmBusy = true) :
    Completes (exec (.imageLoad img []) s) fun t =>
      (t.m.out = s.m.out ++ [.status (pgmName 1)] ∧ SameCores s t) ∧ KeepsRegs s t [KLN_PGMSTAT] :=
  completes_pgmDone hdead ((if_neg (not_not.mpr hmode)).trans (if_pos hbusy)) rfl (keepsRegs_pgmDone s rfl 1)

theorem imageLoad_accepted {img : List Byte} (hmode : s.m.mode = 3) (hfree : s.m.pgmBusy = false)
    (himg : imgCheck img = 0) (hprog : s.m.progCheck img (progOf img (s.m.pgm.gens + 1)) catActive none = 0) :
    Completes (exec (.imageLoad img []) s) fun t => (t.m.out = s.m.out ++ [.status (pgmName 0)] ∧ SameCores s t) ∧
      t.m.pgm.change = some ⟨progOf img (s.m.pgm.gens + 1), [], true, [], [], true, false, false⟩ ∧
      t.m.prog = s.m.prog := by
  obtain ⟨m, hload, hout, hinForce, hchange⟩ := Mach.loadImage_accepted himg hprog
  exact completes_pgmDone hdead ((if_neg (not_not.mpr hmode)).trans ((if_neg (by simp [hfree])).trans hload)) hout
    ⟨hchange, hinForce⟩

theorem programStoreWritten_load {c : Change} (hchange : s.m.pgm.change = some c) (hstored : c.stored = false)
    (hload : c.load = true) (hgrant : s.m.adm.granted.any (fun g => g.who = .copy) = true) :
    Completes (exec .programStoreWritten s) fun t =>
      t.m.pgm.change = some { c with stored := true } ∧ t.m.pgm.want = some 1 ∧ SameCores s t := by
  refine completes_live hdead ?_
  simp [State.mod, SameCores, hchange, hstored, hload, hgrant]

/-! Online changes. -/

theorem onlineChange_accepted {img : List Byte} (hmode : s.m.mode = 3) (hfree : s.m.pgmBusy = false)
    (hgen : s.m.prog.gen ≠ 0) (hserving : s.m.pair.serving = false) (himg : imgCheck img = 0)
    (hprog : s.m.progCheck img (progOf img (s.m.pgm.gens + 1)) catActive (some s.m.prog) = 0) :
    Completes (exec (.onlineChange img []) s) fun t => t.m.rg KLN_CHGSTAT = 3 ∧ t.m.prog = s.m.prog ∧
      t.m.pgm.change.map Change.prog = some (progOf img (s.m.pgm.gens + 1)) ∧ t.m.fld KLN_PGMSTAT 7 3 = 0 ∧
      SameCores s t := by
  obtain ⟨m, htake, hinForce, hchange, hshown⟩ := Mach.changeTake_accepted himg hprog
  let carried : Out := .data ((m.pgm.change.map fun c => Mach.carryList s.m.prog c.prog).getD [])
  exact completes_change hdead (m := (m.emit carried).pgmDone 0) (by simp [hmode, hgen, hfree, hserving, htake, carried])
    ⟨(Mach.rg_pgmDone _ _ _ (by decide)).trans hshown, hinForce, hchange,
      Mach.fld_setFld_same _ _ _ _ _ (by decide) (by decide), rfl, rfl, rfl⟩

theorem stagingComplete_completes {c : Change} (hchange : s.m.pgm.change = some c) (hstaged : c.staged = false)
    (hload : c.load = false) (hgrant : s.m.adm.granted.any (fun g => g.who = .staging) = true) :
    Completes (exec .stagingComplete s) fun t =>
      t.m.pgm.change.map (fun x => (x.prog, x.staged)) = some (c.prog, true) ∧ SameCores s t := by
  refine completes_live hdead ?_
  simp only [State.mod, hchange, hstaged, hload, hgrant, Bool.not_true, Bool.false_eq_true, or_self, if_false,
    Mach.changeReady_sameChange, Mach.admDrop_pgm, Option.map_some]
  exact ⟨trivial, rfl, rfl, rfl⟩

theorem onlineChangeSwitch_completes {c : Change} (hchange : s.m.pgm.change = some c) (hset : s.m.chgState = 5)
    (htick : s.m.rg64 KLN_CHGTICK = s.m.tickNo) (hphase : s.m.tick.phase = 0) :
    Completes (exec .onlineChangeSwitch s) fun t => t.m.prog = c.prog ∧ t.m.pgm.change = none ∧
      t.m.pgm.bank = 1 - s.m.pgm.bank ∧ t.m.fld KLN_PGMSTAT 1 0 = 3 ∧ t.m.chgState = 0 ∧ SameCores s t := by
  obtain ⟨hinForce, hnone, hbank, hlast, hidle⟩ := s.m.switchDo_reaches c
  exact completes_change hdead (m := s.m.switchDo c)
    (by simp only [hchange, hset, htick, hphase, and_self, if_true])
    ⟨hinForce, hnone, hbank, hlast, hidle, rfl, rfl, rfl⟩

theorem cancelChange_completes (hmode : s.m.mode ≠ 6) : Completes (exec .cancelChange s) fun t =>
    if s.m.chgState = 5 then
      t.m.pgm.change = s.m.pgm.change ∧ t.m.out = s.m.out ++ [.status (pgmName 1)] ∧ SameCores s t
    else (t.m.out = s.m.out ++ [.status (pgmName 0)] ∧ SameCores s t) ∧
      (s.m.chgState ≠ 0 → t.m.pgm.change = none ∧ t.m.chgState = 0) := by
  by_cases hset : s.m.chgState = 5
  case pos =>
    simp only [if_pos hset]
    exact completes_change hdead (if_pos hset) ⟨rfl, rfl, rfl, rfl, rfl⟩
  case neg =>
    simp only [if_neg hset]
    by_cases hidle : s.m.chgState = 0
    case pos =>
      exact completes_pgmDone hdead ((if_neg hset).trans (if_pos hidle)) rfl fun hruns => absurd hidle hruns
    case neg =>
      have hdropped := s.m.course_changeDrop
      refine completes_pgmDone hdead ((if_neg hset).trans ((if_neg hidle).trans (by rw [if_neg hmode])))
        (Mach.out_of_course hdropped) fun _ => ⟨?_, ?_⟩
      · rw [Mach.pgmDone_pgm, Mach.pgm_of_course hdropped]
      · rw [Mach.chgState_pgmDone, s.m.chgState_changeDrop]

/-! Restarts. -/

section
variable (hmode : s.m.mode = 3) (hgen : s.m.prog.gen ≠ 0) (hchg : s.m.chgState ≠ 5) (hfree : s.m.restarting = false)
  (hnone : s.m.pgm.change = none)
include hmode hgen hchg hfree hnone

theorem coldRestart_accepted : Completes (exec (.coldRestart true) s) fun t => t.m.pgm.want = some 3 ∧
    (t.m.out = s.m.out ++ [.status (pgmName 0)] ∧ SameCores s t) ∧ KeepsRegs s t [KLN_PGMSTAT] :=
  completes_change hdead (Mach.restartReq_accepted hmode hgen hchg hfree hnone fun hwarm => absurd hwarm (by decide))
    ⟨rfl, ⟨rfl, rfl, rfl, rfl⟩, keepsRegs_pgmDone s (m := s.m.withWant 3) rfl 0⟩

theorem warmRestart_completes : Completes (exec (.warmRestart true) s) fun t => KeepsRegs s t [KLN_PGMSTAT] ∧
    if (s.m.headOf s.m.pgm.bank).gen = s.m.prog.gen then
      t.m.pgm.want = some 2 ∧ t.m.out = s.m.out ++ [.status (pgmName 0)] ∧ SameCores s t
    else t.m.pgm.want = s.m.pgm.want ∧ t.m.out = s.m.out ++ [.status (pgmName 15)] ∧ SameCores s t := by
  by_cases hkept : (s.m.headOf s.m.pgm.bank).gen = s.m.prog.gen
  case pos =>
    simp only [if_pos hkept]
    exact completes_change hdead (Mach.restartReq_accepted hmode hgen hchg hfree hnone fun _ => hkept)
      ⟨keepsRegs_pgmDone s (m := s.m.withWant 2) rfl 0, rfl, rfl, rfl, rfl, rfl⟩
  case neg =>
    simp only [if_neg hkept]
    exact completes_change hdead (Mach.restartReq_noRetained hmode hgen hchg hfree hnone hkept)
      ⟨keepsRegs_pgmDone s rfl 15, rfl, rfl, rfl, rfl, rfl⟩

end

theorem restartSectionsWritten_completes {r : Restart} (hrestart : s.m.pgm.restart = some r)
    (hwritten : r.written = false) : Completes (exec .restartSectionsWritten s) fun t =>
      t.m.pgm.restart = some { r with written := true } ∧ t.m.fld KLN_OVRCNT 1 0 = 0 ∧ SameCores s t := by
  obtain ⟨hreached, hcleared⟩ := s.m.restartWrite_reaches r.kind
  rw [hrestart] at hreached
  exact completes_change hdead (m := s.m.restartWrite r.kind)
    (by simp only [hrestart, hwritten, Bool.false_eq_true, if_false]) ⟨hreached, hcleared, rfl, rfl, rfl⟩

theorem restartFirstFiring_completes {r : Restart} {n : Nat} (hrestart : s.m.pgm.restart = some r) (hat : r.at_ = some n)
    (hdue : n ≤ s.m.tickNo) (hrate : s.m.tickNo % s.m.prog.rmax = 0) (hphase : s.m.tick.phase = 0) :
    Completes (exec .restartFirstFiring s) fun t => t.m.pgm.restart = none ∧ t.m.bit KLN_PGMSTAT 2 = false ∧
      t.m.fld KLN_PGMSTAT 1 0 = (if r.kind = 2 then 1 else 2) ∧ t.m.mem.ldBytes s.m.prog.start 32 =
        leBytes 8 r.kind ++ leBytes 8 s.m.tickNo ++ leBytes 8 s.m.pgm.restarts ++ leBytes 8 s.m.prog.gen ∧
      KeepsRegs s t [KLN_PGMSTAT] ∧ SameCores s t := by
  obtain ⟨hnone, hshown, hlast, hrecord, hkeeps⟩ := s.m.restartFirst_reaches r
  exact completes_change hdead (m := s.m.restartFirst r)
    (by simp only [hrestart, hat, hdue, hrate, hphase, and_self, if_true])
    ⟨hnone, hshown, hlast, hrecord, hkeeps, rfl, rfl, rfl⟩

end

end Sys2Proof.Machine
end

section
open Sys2Proof Sys2Proof.Machine

/-- Settles O49: each command of the chapter acts or is refused as its conditions say, and none of them moves a core. That
KLN_PGMSTAT.LAST is 2 after a load is log entry 94. -/
theorem programCommands : Obligations.ProgramCommands := by
  unfold Obligations.ProgramCommands
  intro img s hdead done new
  exact ⟨fun hmode => imageLoad_notBench hdead img hmode,
    fun hmode hbusy => imageLoad_busy hdead img hmode hbusy,
    fun hmode hfree himg => ⟨fun hprog => imageLoad_accepted hdead hmode hfree himg hprog,
      fun hgen hserving hprog => onlineChange_accepted hdead hmode hfree hgen hserving himg hprog⟩,
    fun _ hchange hstaged hload hgrant => stagingComplete_completes hdead hchange hstaged hload hgrant,
    fun _ hchange hstored hload hgrant => programStoreWritten_load hdead hchange hstored hload hgrant,
    fun _ hchange hset htick hphase => onlineChangeSwitch_completes hdead hchange hset htick hphase,
    fun hmode hgen hchg hfree hnone => ⟨coldRestart_accepted hdead hmode hgen hchg hfree hnone,
      warmRestart_completes hdead hmode hgen hchg hfree hnone⟩,
    fun hmode => cancelChange_completes hdead hmode,
    fun _ hrestart => ⟨fun hwritten => restartSectionsWritten_completes hdead hrestart hwritten,
      fun _ hat hdue hrate hphase => restartFirstFiring_completes hdead hrestart hat hdue hrate hphase⟩⟩

end

section
/-! SUPPORT. The registers that a master's write can change: those that record a violation and those that record an ECC
error (R374, R375, R385, R420). -/

namespace Sys2Proof.Machine

namespace Mach

/-- The registers in which a write of a master class may be recorded: the class's violation (R385) and the errors that the
check bits show (R374). -/
def accessRegs (cls : Nat) : List Nat :=
  [MPU_VINFO cls, MPU_VADDR cls, MPU_VADDR cls + 4, DDC_ECCADDR, DDC_ECCADDR + 4, DDC_ECCINFO] ++
    (List.range 8).map fun n => DDC_ECCCNT n

/-- There are eight arrays with check bits (R394). -/
theorem arrayOf_lt (a : Nat) : (arrayOf a).getD 0 < 8 := by
  unfold arrayOf
  split_ifs <;> decide

theorem ecccnt_mem_accessRegs (cls a : Nat) : DDC_ECCCNT ((arrayOf a).getD 0) ∈ accessRegs cls :=
  List.mem_append_right _ (List.mem_map_of_mem (List.mem_range.mpr (arrayOf_lt a)))

theorem Keeps.wr64 {as : List Nat} {m m' : Mach} (h : Keeps as m m') {a : Nat} (ha : a ∈ as) (ha' : a + 4 ∈ as)
    (v : Nat) : Keeps as m (m'.wr64 a v) := (h.wr ha _).wr ha' _

/-- A fold keeps the registers that each of its steps keeps. -/
theorem Keeps.foldl {α : Type} {as : List Nat} {f : Mach → α → Mach} (hf : ∀ m x, Keeps as m (f m x)) (l : List α)
    (m : Mach) : Keeps as m (l.foldl f m) :=
  List.foldlRecOn l f (motive := Keeps as m) (Keeps.refl as m) fun _ h x _ => h.trans (hf _ x)

section
variable (m : Mach) (cls : Nat)

theorem keeps_eccRecord (a : Nat) (poison patrol : Bool) :
    Keeps (accessRegs cls) m (m.eccRecord a cls poison patrol) :=
  ((((Keeps.refl _ m).incFld (ecccnt_mem_accessRegs cls a) 31 16).wr64 (by simp [accessRegs]) (by simp [accessRegs])
    _).wr (by simp [accessRegs]) _).ledger _ _ _ _ _

theorem keeps_eccWriteWord (w : Nat) (whole : Bool) : Keeps (accessRegs cls) m (m.eccWriteWord w cls whole) := by
  unfold eccWriteWord
  split
  · exact (Keeps.refl _ m).of_regs rfl
  · split
    · exact Keeps.refl _ m
    · exact ((Keeps.refl _ m).incFld (ecccnt_mem_accessRegs cls _) 15 0).of_regs rfl
    · exact (m.keeps_eccRecord cls _ false false).of_regs rfl
    · exact m.keeps_eccRecord cls _ true false

theorem keeps_store (a : Nat) (bs : List Byte) : Keeps (accessRegs cls) m (m.store a bs cls) :=
  (Keeps.foldl (fun m w => m.keeps_eccWriteWord cls w _) _ m).of_regs rfl

theorem keeps_mpuReport (inst a kind : Nat) (priv : Bool) (region : Nat) :
    Keeps (accessRegs cls) m (m.mpuReport cls inst a kind priv region) := by
  unfold mpuReport
  refine Keeps.ledger ?_ _ _ _ _ _
  split
  · exact (Keeps.refl _ m).setFld (by simp [accessRegs]) _ _ _
  · exact ((Keeps.refl _ m).wr64 (by simp [accessRegs]) (by simp [accessRegs]) _).wr (by simp [accessRegs]) _

theorem keeps_masterCheck (inst a kind : Nat) : Keeps (accessRegs cls) m (m.masterCheck cls inst a kind).2 := by
  unfold masterCheck
  split
  · exact Keeps.refl _ m
  · split
    · exact Keeps.refl _ m
    · split
      · split
        · exact Keeps.refl _ m
        · exact m.keeps_mpuReport cls _ _ _ _ _
      · exact Keeps.refl _ m

/-- A master's write changes no register but those in which it may be recorded (R374, R385). -/
theorem keeps_masterWrite (inst a : Nat) (bs : List Byte) : Keeps (accessRegs cls) m (m.masterWrite cls inst a bs).2 := by
  unfold masterWrite
  refine List.foldlRecOn _ _ (motive := fun r : Bool × Mach => Keeps (accessRegs cls) m r.2) (Keeps.refl _ m) ?_
  rintro ⟨ok, n⟩ hn x _
  have hcheck := hn.trans (n.keeps_masterCheck cls inst x 1)
  dsimp only
  split
  · exact hcheck.trans (keeps_store _ cls _ _)
  · exact hcheck

end

end Mach
end Sys2Proof.Machine
end

section
/-! SUPPORT. A collector telegram of the tick: what its slots leave of the registers (R223, R238, R241, R268). -/

namespace Sys2Proof.Machine

namespace Mach

/-- The registers in which the slots of a collector may be recorded: a refused write of the port, and the count of
deferred actions (R268). -/
def arrivalRegs : List Nat := DLE_DEFCNT :: accessRegs 3

/-- No register of a ring port records the arrival of a slot. -/
theorem portReg_notArrival : ∀ p : PortId, GXP_STAT p ∉ arrivalRegs ∧ GXP_RXCNT p ∉ arrivalRegs := by decide

theorem portReg_notLedger : ∀ p : PortId, GXP_STAT p ∉ ledgerRegs ∧ GXP_RXCNT p ∉ ledgerRegs := by decide

section
variable (m : Mach) (p : Nat)

theorem keeps_gxPut (a : Nat) (bs : List Byte) : Keeps arrivalRegs m (m.gxPut p a bs) :=
  (m.keeps_masterWrite 3 p a bs).mono (List.subset_cons_self _ _)

theorem keeps_leafIn (e : CatEnt) (data : List Byte) : Keeps arrivalRegs m (m.leafIn p e data) :=
  (((m.keeps_gxPut p _ _).trans (keeps_gxPut _ p _ _)).trans (keeps_gxPut _ p _ _)).trans (keeps_gxPut _ p _ _)

theorem keeps_slotIn (leaves : List CatEnt) (e : CatEnt) (pay : List Byte) (ofs : Nat) :
    Keeps arrivalRegs m (m.slotIn p leaves e pay ofs) := by
  unfold slotIn
  extract_lets slot flag key under there filled news gx arrived counted
  have hfilled : Keeps arrivalRegs m filled := by
    refine Keeps.foldl (fun m l => ?_) _ m
    split
    · exact m.keeps_leafIn p _ _
    · exact Keeps.refl _ m
  have harrived : Keeps arrivalRegs m arrived := hfilled.of_regs rfl
  have hcounted : Keeps arrivalRegs m counted := by
    unfold counted
    split
    · exact (harrived.incFld List.mem_cons_self 31 16).ledger _ _ _ _ _
    · exact harrived
  split
  · exact Keeps.refl _ m
  · split
    · exact hcounted.ledger _ _ _ _ _
    · exact hcounted

end

/-- A collector of the tick shows its FLAGS bit 3 in the port's GXP_STAT, and counts nothing (R238, R241). -/
theorem collectorIn_shows (m : Mach) (p : PortId) (t : Tel) :
    (m.collectorIn p t).bit (GXP_STAT p) 6 = t.flags.testBit 3 ∧
      (m.collectorIn p t).rg (GXP_RXCNT p) = m.rg (GXP_RXCNT p) := by
  obtain ⟨hstat, hrxcnt⟩ := portReg_notArrival p
  obtain ⟨hstat', hrxcnt'⟩ := portReg_notLedger p
  unfold collectorIn
  extract_lets shown leaves ds
  have hslots : Keeps arrivalRegs shown (ds.foldl (fun m e => m.slotIn p leaves e t.payload t.ofs) shown) :=
    Keeps.foldl (fun m e => m.keeps_slotIn p leaves e _ _) ds shown
  refine ⟨?_, ?_⟩
  · rw [hslots.bit hstat hstat']
    exact bit_setBit_same _ _ _ _ (by decide)
  · rw [hslots _ hrxcnt hrxcnt']
    exact (rg_setBit_other _ _ _ _ _ (by simp)).trans (m.keeps_gxPut p _ _ _ hrxcnt hrxcnt')

end Mach
end Sys2Proof.Machine
end

section
/-! SUPPORT. The commands of a module's ring ports: frames that arrive, telegrams that leave, link states, captures and
measured delays (R221, R225, R228, R237, R238, R241, R248, R295). -/

namespace Sys2Proof.Machine

theorem mem_insertNew {α : Type} [DecidableEq α] (x : α) (l : List α) : x ∈ insertNew x l := by
  unfold insertNew
  split
  · assumption
  · simp

namespace Mach

/-- A saturating field of a register counts up by one, to its last value at most (R5). -/
theorem fld_incFld_same (m : Mach) (a hi lo : Nat) (hl : lo ≤ hi) (h : hi < 32) :
    (m.incFld a hi lo).fld a hi lo = satInc (m.fld a hi lo) (2 ^ (hi - lo + 1) - 1) := by
  have hlt : m.fld a hi lo < 2 ^ (hi - lo + 1) := bits_lt _ _ _
  rw [incFld, fld_setFld_same _ _ _ _ _ hl h]
  refine Nat.mod_eq_of_lt ?_
  unfold satInc
  split <;> omega

/-! ### Telegrams while no capture runs (R248) -/

section
variable {m : Mach} {p : Nat} (hcap : m.bit (GXP_CAPSTAT p) 0 = false)
include hcap

/-- Where no capture runs, none is entered. -/
theorem capture_stopped (f : List Byte) (sent bad : Bool) : m.capture p f sent bad = m := by
  simp [capture, hcap]

theorem gxOut_stopped (f : List Byte) : m.gxOut p f = m.emit (.gexia p f) := by rw [gxOut, capture_stopped hcap]

/-- Frames of one port leave in their order. -/
theorem gxOuts_stopped (ts : List Tel) : m.gxOuts (ts.map fun t => (p, t.bytes)) =
    { m with out := m.out ++ ts.map fun t => .gexia p t.bytes } := by
  induction ts generalizing m with
  | nil => simp [gxOuts]
  | cons t ts ih =>
    have hrest := ih (m := m.emit (.gexia p t.bytes)) hcap
    rw [List.map_cons, gxOuts, List.foldl_cons, gxOut_stopped hcap]
    simpa [gxOuts, emit] using hrest

/-! ### Frames that arrive (R221, R237, R238, R241) -/

variable {f : List Byte} (hon : m.bit (GXP_CTL p) 0 = true)
include hon

/-- A damaged frame is counted. -/
theorem collectorRecv_damaged (hf : Tel.ofBytes f = none) : m.collectorRecv p f = m.incFld (GXP_RXCNT p) 15 0 := by
  simp [collectorRecv, hon, hf, capture_stopped hcap]

theorem enumRecv_damaged (hf : Tel.ofBytes f = none) : m.enumRecv p f = m.incFld (GXP_RXCNT p) 15 0 := by
  simp [enumRecv, hon, hf, capture_stopped hcap]

variable {g : Tel} (hf : Tel.ofBytes f = some g)
include hf

/-- A telegram of another type or of another generation is counted as a damaged one is. -/
theorem collectorRecv_foreign (hg : g.type ≠ 1 ∨ g.gen ≠ m.gxGen) :
    m.collectorRecv p f = m.incFld (GXP_RXCNT p) 15 0 := by
  simp [collectorRecv, hon, hf, capture_stopped hcap, hg]

theorem collectorRecv_inTime (htype : g.type = 1) (hgen : g.gen = m.gxGen)
    (hopen : g.tick = m.tickNo ∧ m.tick.phase = 0) : m.collectorRecv p f = m.collectorIn p g := by
  simp [collectorRecv, hon, hf, capture_stopped hcap, htype, hgen, hopen]

theorem collectorRecv_late (htype : g.type = 1) (hgen : g.gen = m.gxGen)
    (hlate : ¬(g.tick = m.tickNo ∧ m.tick.phase = 0)) : m.collectorRecv p f =
      ((m.incFld (GXP_RXCNT p) 31 16).setBit KLN_OVRSTAT 2 true).ledger 0x0201 4 (p * 256 + 0xFF) 0 0 := by
  simp only [collectorRecv, hon, hf, capture_stopped hcap, htype, hgen, hlate, Bool.not_true, Bool.false_eq_true, ne_eq,
    not_true_eq_false, or_self, if_false]

/-- The position at which an enumerate train ran full is where the port's next one starts (R228, R237). -/
theorem enumRecv_first (htype : g.type = 5) (hlen : 4 ≤ g.payload.length) :
    if fieldAt g.payload 2 1 = 0xFF then assocGet (m.enumRecv p f).gx.enumFirst p = some 0
    else assocGet (m.enumRecv p f).gx.enumFirst p = some (fieldAt g.payload 2 1) ∧ p ∈ (m.enumRecv p f).gx.enumNext := by
  have hgood : ¬(g.type ≠ 5 ∨ g.payload.length < 4) := by omega
  simp only [enumRecv, hon, hf, capture_stopped hcap, hgood, Bool.not_true, Bool.false_eq_true, if_false]
  split
  · exact assocGet_assocPut_same _ _ _
  · exact ⟨assocGet_assocPut_same _ _ _, mem_insertNew _ _⟩

end

/-- The module once a port has sent the enumerate train that was due (R237). -/
def withoutEnum (m : Mach) (p : Nat) : Mach := { m with gx := { m.gx with enums := m.gx.enums.filter (· ≠ p) } }

theorem not_mem_withoutEnum (m : Mach) (p : Nat) : p ∉ (m.withoutEnum p).gx.enums := by simp [withoutEnum]

/-! ### The state of a link (R217, R248) -/

/-- A port that shows its link and the state of its ring. -/
def linkShown (m : Mach) (p : Nat) (link : Bool) (st : Nat) : Mach :=
  (m.setBit (GXP_STAT p) 7 link).setFld (GXP_STAT p) 5 4 st

/-- A port that shows them, with its count of changes. -/
def linkCounted (m : Mach) (p : Nat) (link : Bool) (st : Nat) : Mach :=
  if m.fld (GXP_STAT p) 5 4 = st then m.linkShown p link st else (m.linkShown p link st).incFld (GXP_STAT p) 15 8

section
variable (m : Mach) (p : Nat) (link : Bool) (st : Nat)

theorem linkShown_link : (m.linkShown p link st).bit (GXP_STAT p) 7 = link :=
  (bit_setFld_field _ _ _ _ _ _ (by decide) (by decide) (by decide)).trans (bit_setBit_same _ _ _ _ (by decide))

theorem linkShown_state : (m.linkShown p link st).fld (GXP_STAT p) 5 4 = st % 4 :=
  fld_setFld_same _ _ _ _ _ (by decide) (by decide)

theorem linkShown_count : (m.linkShown p link st).fld (GXP_STAT p) 15 8 = m.fld (GXP_STAT p) 15 8 :=
  (fld_setFld_field _ _ _ _ _ _ _ (by decide) (by decide) (by decide) (by decide)).trans
    (fld_setBit_field _ _ _ _ _ _ (by decide) (by decide) (by decide))

theorem linkCounted_link : (m.linkCounted p link st).bit (GXP_STAT p) 7 = link := by
  unfold linkCounted
  split
  · exact m.linkShown_link p link st
  · exact (bit_setFld_field _ _ _ _ _ _ (by decide) (by decide) (by decide)).trans (m.linkShown_link p link st)

theorem linkCounted_state : (m.linkCounted p link st).fld (GXP_STAT p) 5 4 = st % 4 := by
  unfold linkCounted
  split
  · exact m.linkShown_state p link st
  · exact (fld_setFld_field _ _ _ _ _ _ _ (by decide) (by decide) (by decide) (by decide)).trans
      (m.linkShown_state p link st)

/-- A change of the ring's state is counted (R248). -/
theorem linkCounted_count : (m.linkCounted p link st).fld (GXP_STAT p) 15 8 =
    if m.fld (GXP_STAT p) 5 4 = st then m.fld (GXP_STAT p) 15 8 else satInc (m.fld (GXP_STAT p) 15 8) 255 := by
  unfold linkCounted
  split
  · exact m.linkShown_count p link st
  · rw [fld_incFld_same _ _ _ _ (by decide) (by decide), m.linkShown_count]
    rfl

theorem keeps_linkCounted : Keeps [GXP_STAT p] m (m.linkCounted p link st) := by
  have hshown : Keeps [GXP_STAT p] m (m.linkShown p link st) :=
    ((Keeps.refl _ m).setBit List.mem_cons_self 7 link).setFld List.mem_cons_self 5 4 st
  unfold linkCounted
  split
  · exact hshown
  · exact hshown.incFld List.mem_cons_self 15 8

end

/-- An area without room wraps to its base, or the capture stops (R248). -/
theorem captureEnd_cases (m : Mach) (p : Nat) :
    if m.bit (GXP_CAPCTL p) 0 = true then
      assocGet (m.captureEnd p).gx.capture p = some (m.rg64 (GXP_CAPBASE p)) ∧ Keeps [] m (m.captureEnd p)
    else (m.captureEnd p).bit (GXP_CAPSTAT p) 0 = false ∧ Keeps [GXP_CAPSTAT p] m (m.captureEnd p) := by
  unfold captureEnd
  split
  · exact ⟨assocGet_assocPut_same _ _ _, (Keeps.refl _ m).of_regs rfl⟩
  · exact ⟨bit_setBit_same _ _ _ _ (by decide), (Keeps.refl _ m).setBit List.mem_cons_self 0 false⟩

end Mach

/-! ### The commands -/

section
variable {p : PortId} {s : State} (hdead : s.m.dead = false)
include hdead

theorem captureFull_completes (hcap : s.m.bit (GXP_CAPSTAT p) 0 = true) (hroom : s.m.captureRoom p < 80) :
    Completes (exec (.captureFull p) s) fun t => SameCores s t ∧
      if s.m.bit (GXP_CAPCTL p) 0 = true then
        assocGet t.m.gx.capture p = some (s.m.rg64 (GXP_CAPBASE p)) ∧ KeepsRegs s t []
      else t.m.bit (GXP_CAPSTAT p) 0 = false ∧ KeepsRegs s t [GXP_CAPSTAT p] :=
  completes_change hdead (if_pos ⟨hcap, hroom⟩) ⟨⟨rfl, rfl, rfl⟩, s.m.captureEnd_cases p⟩

theorem enumreq_completes (w : Writer) : Completes (exec (.enumreq p w) s) fun t =>
    p.val ∈ t.m.gx.enumNext ∧ KeepsRegs s t [] ∧ SameCores s t :=
  completes_access hdead rfl ⟨mem_insertNew _ _, fun _ _ _ => rfl, rfl, rfl, rfl⟩

theorem pdelayMeasure_completes (hdrives : s.m.gxDrives p = true) (delay : BitVec 32) :
    Completes (exec (.pdelayMeasure p delay) s) fun t =>
      assocGet t.m.gx.pdelay p = some delay.toNat ∧ KeepsRegs s t [] ∧ SameCores s t :=
  completes_change hdead (if_neg (by simp [hdrives])) ⟨assocGet_assocPut_same _ _ _, fun _ _ _ => rfl, rfl, rfl, rfl⟩

/-- A change of a link shows and counts what it is; a break or a repair of the ring may leave a record (R421). -/
theorem ringStateChange_recorded (st : BitVec 2) (link : Bool) :
    ∃ m', Mach.LedgerFrame (s.m.linkCounted p link st.toNat) m' ∧
      exec (.ringStateChange p st link) s = .next { s with m := m' } := by
  show ∃ m', _ ∧ execRingStateChange p st link s = _
  rw [execRingStateChange, s.live_of _ hdead]
  refine ⟨_, ?_, rfl⟩
  dsimp only
  by_cases hsame : s.m.fld (GXP_STAT p) 5 4 = st.toNat
  · rw [Mach.linkCounted, if_pos hsame, if_pos hsame]
    exact Mach.LedgerFrame.refl _
  · rw [Mach.linkCounted, if_neg hsame, if_neg hsame]
    split
    · exact Mach.ledger_frame _ _ _ _ _ _
    · split
      · exact Mach.ledger_frame _ _ _ _ _ _
      · exact Mach.LedgerFrame.refl _

theorem ringStateChange_completes (st : BitVec 2) (link : Bool) : Completes (exec (.ringStateChange p st link) s) fun t =>
    t.m.bit (GXP_STAT p) 7 = link ∧ t.m.fld (GXP_STAT p) 5 4 = st.toNat ∧ t.m.fld (GXP_STAT p) 15 8 =
      (if s.m.fld (GXP_STAT p) 5 4 = st.toNat then s.m.fld (GXP_STAT p) 15 8
        else satInc (s.m.fld (GXP_STAT p) 15 8) 255) ∧
    KeepsRegs s t [GXP_STAT p] ∧ SameCores s t := by
  obtain ⟨m', hrecord, hexec⟩ := ringStateChange_recorded (p := p) hdead st link
  obtain ⟨hstat, -⟩ := Mach.portReg_notLedger p
  refine ⟨_, hexec, ?_, ?_, ?_, ?_, rfl, rfl, rfl⟩
  · exact (hrecord.bit_notMem hstat 7).trans (s.m.linkCounted_link p link _)
  · exact ((hrecord.fld_notMem hstat 5 4).trans (s.m.linkCounted_state p link _)).trans (Nat.mod_eq_of_lt st.isLt)
  · exact (hrecord.fld_notMem hstat 15 8).trans (s.m.linkCounted_count p link _)
  · exact (s.m.keeps_linkCounted p link st.toNat).trans fun _ _ hl => hrecord.rg_notMem hl

theorem captureGo_starts (w : Writer) (hcap : s.m.bit (GXP_CAPSTAT p) 0 = false) (hlen : s.m.rg (GXP_CAPLEN p) ≠ 0) :
    Completes (exec (.captureGo p w) s) fun t => t.m.bit (GXP_CAPSTAT p) 0 = true ∧
      assocGet t.m.gx.capture p = some (s.m.rg64 (GXP_CAPBASE p)) ∧ KeepsRegs s t [GXP_CAPSTAT p] ∧ SameCores s t := by
  refine completes_access hdead ((if_neg hlen).trans (if_neg (by simp [hcap])))
    ⟨?_, assocGet_assocPut_same _ _ _, fun a ha _ => Mach.rg_wr_other _ _ _ _ (List.ne_of_not_mem_cons ha), rfl, rfl, rfl⟩
  rw [Mach.bit, Mach.rg_wr_same]
  rfl

/-- A capture without an area is refused (R248, R422). -/
theorem captureGo_refused (w : Writer) (hlen : s.m.rg (GXP_CAPLEN p) = 0) :
    Completes (exec (.captureGo p w) s) fun t => KeepsRegs s t [] ∧ SameCores s t :=
  completes_access hdead (if_pos hlen) ⟨keepsRegs_of_ledgerFrame s (s.m.ledger_frame _ _ _ _ _), rfl, rfl, rfl⟩

variable (hcap : s.m.bit (GXP_CAPSTAT p) 0 = false)
include hcap

section serves
variable (hserves : s.m.gxServes p = true)
include hserves

theorem enumeratePeriodic_completes (hdue : p.val ∈ s.m.gx.enums) : Completes (exec (.enumeratePeriodic p) s) fun t =>
    t.m.out = s.m.out ++ [.gexia p (s.m.enumTel p).bytes] ∧ p.val ∉ t.m.gx.enums ∧ KeepsRegs s t [] ∧ SameCores s t :=
  completes_change hdead
    ((if_neg (by simp [hdue, hserves])).trans (Mach.gxOut_stopped (m := s.m.withoutEnum p) hcap _))
    ⟨rfl, s.m.not_mem_withoutEnum p, fun _ _ _ => rfl, rfl, rfl, rfl⟩

theorem portOriginate_completes : Completes (exec (.collectorOriginate (.port p)) s) fun t =>
    t.m.out = s.m.out ++ (s.m.collectorTrain p).map (fun g => .gexia p g.bytes) ∧ KeepsRegs s t [] ∧ SameCores s t :=
  completes_change hdead ((if_pos hserves).trans (Mach.gxOuts_stopped hcap _)) ⟨rfl, fun _ _ _ => rfl, rfl, rfl, rfl⟩

theorem gexiaSync_completes (seqid : BitVec 16) (origin : BitVec 80) (corr : BitVec 64)
    (hdiv : s.m.fld TMB_GXSYNC 7 0 ≠ 0) (hdue : s.m.tickNo % s.m.fld TMB_GXSYNC 7 0 = 0) :
    Completes (exec (.gexiaSync p seqid origin corr) s) fun t =>
      t.m.out = s.m.out ++ [.gexia p ({
        type := 7, flags := s.m.gxFlags + 4, ring := p, tick := s.m.tickNo, gen := s.m.gxGen
        payload := if s.m.mode = 6 then
            Mach.syncBytes p (s.m.fld TMB_PTPCFG 23 16) 0 seqid.toNat (Mach.ptpStamp s.m.tick.now)
          else Mach.syncBytes p (s.m.fld TMB_PTPCFG 23 16) corr.toNat seqid.toNat origin.toNat } : Tel).bytes] ∧
      KeepsRegs s t [] ∧ SameCores s t :=
  completes_change hdead ((if_neg (by simp [hserves, hdiv, hdue])).trans (Mach.gxOut_stopped hcap _))
    ⟨rfl, fun _ _ _ => rfl, rfl, rfl, rfl⟩

end serves

section frames
variable {f : List Byte} (hon : s.m.bit (GXP_CTL p) 0 = true)
include hon

theorem receive_damaged (hf : Tel.ofBytes f = none) :
    ∀ i ∈ ([.collectorReceive p f, .enumerateReceive p f] : List Instr),
      Completes (exec i s) fun t => t = { s with m := s.m.incFld (GXP_RXCNT p) 15 0 } := by
  simp only [List.mem_cons, List.not_mem_nil, or_false, forall_eq_or_imp, forall_eq]
  exact ⟨completes_change hdead (Mach.collectorRecv_damaged hcap hon hf) rfl,
    completes_change hdead (Mach.enumRecv_damaged hcap hon hf) rfl⟩

variable {g : Tel} (hf : Tel.ofBytes f = some g)
include hf

theorem collectorReceive_foreign (hg : g.type ≠ 1 ∨ g.gen ≠ s.m.gxGen) :
    Completes (exec (.collectorReceive p f) s) fun t => t = { s with m := s.m.incFld (GXP_RXCNT p) 15 0 } :=
  completes_change hdead (Mach.collectorRecv_foreign hcap hon hf hg) rfl

theorem collectorReceive_inTime (htype : g.type = 1) (hgen : g.gen = s.m.gxGen)
    (hopen : g.tick = s.m.tickNo ∧ s.m.tick.phase = 0) : Completes (exec (.collectorReceive p f) s) fun t =>
      t.m.bit (GXP_STAT p) 6 = g.flags.testBit 3 ∧ t.m.rg (GXP_RXCNT p) = s.m.rg (GXP_RXCNT p) ∧ SameCores s t := by
  obtain ⟨hclosed, hcount⟩ := s.m.collectorIn_shows p g
  exact completes_change hdead (Mach.collectorRecv_inTime hcap hon hf htype hgen hopen) ⟨hclosed, hcount, rfl, rfl, rfl⟩

theorem collectorReceive_late (htype : g.type = 1) (hgen : g.gen = s.m.gxGen)
    (hlate : ¬(g.tick = s.m.tickNo ∧ s.m.tick.phase = 0)) : Completes (exec (.collectorReceive p f) s) fun t =>
      t.m.bit KLN_OVRSTAT 2 = true ∧ t.m.fld (GXP_RXCNT p) 31 16 = satInc (s.m.fld (GXP_RXCNT p) 31 16) 65535 ∧
      KeepsRegs s t [KLN_OVRSTAT, GXP_RXCNT p] ∧ SameCores s t := by
  have hrecord := ((s.m.incFld (GXP_RXCNT p) 31 16).setBit KLN_OVRSTAT 2 true).ledger_frame 0x0201 4 (p * 256 + 0xFF) 0 0
  obtain ⟨-, hrxcnt⟩ := Mach.portReg_notLedger p
  have hother : GXP_RXCNT p ≠ KLN_OVRSTAT := by simp only [GXP_RXCNT, gxpBase, KLN_OVRSTAT]; omega
  refine completes_change hdead (Mach.collectorRecv_late hcap hon hf htype hgen hlate) ⟨?_, ?_, ?_, rfl, rfl, rfl⟩
  · exact (hrecord.bit_notMem (by decide) 2).trans (Mach.bit_setBit_same _ _ _ _ (by decide))
  · exact (hrecord.fld_notMem hrxcnt 31 16).trans <| (Mach.fld_setBit_other _ _ _ _ _ _ _ hother).trans <|
      s.m.fld_incFld_same _ _ _ (by decide) (by decide)
  · exact (((Mach.Keeps.refl _ s.m).incFld (by simp) 31 16).setBit (by simp) 2 true).ledger _ _ _ _ _

theorem enumerateReceive_completes (htype : g.type = 5) (hlen : 4 ≤ g.payload.length) :
    Completes (exec (.enumerateReceive p f) s) fun t => SameCores s t ∧
      let full := fieldAt g.payload 2 1
      if full = 0xFF then assocGet t.m.gx.enumFirst p = some 0
      else assocGet t.m.gx.enumFirst p = some full ∧ p.val ∈ t.m.gx.enumNext :=
  completes_change hdead rfl ⟨⟨rfl, rfl, rfl⟩, Mach.enumRecv_first hcap hon hf htype hlen⟩

end frames

end

end Sys2Proof.Machine
end

section
open Sys2Proof Sys2Proof.Machine

/-- Settles O41: where no capture runs, each command of a port is its own change of the port and sends its own telegrams.
That the bytes of a ring's Sync are those of a one-step PTP Sync is log entry 32. -/
theorem ringPortCommands : Obligations.RingPortCommands := by
  unfold Obligations.RingPortCommands
  refine ⟨fun p w s hdead hcap => ⟨fun f g hon hf => ?_, fun f hon hf => receive_damaged hdead hcap hon hf,
    fun hserves => ?_, enumreq_completes hdead w, ringStateChange_completes hdead, captureGo_starts hdead w hcap,
    captureGo_refused hdead w, pdelayMeasure_completes hdead⟩,
    fun p s hdead hcap hroom => captureFull_completes hdead hcap hroom⟩
  · exact ⟨collectorReceive_inTime hdead hcap hon hf, collectorReceive_late hdead hcap hon hf,
      collectorReceive_foreign hdead hcap hon hf, enumerateReceive_completes hdead hcap hon hf⟩
  · exact ⟨enumeratePeriodic_completes hdead hcap hserves, portOriginate_completes hdead hcap hserves,
      gexiaSync_completes hdead hcap hserves⟩
end

section
/-! SUPPORT. The telegrams at an entry of a ring: how an entry passes a frame on, and what it takes from each type of
telegram (R216, R217, R223, R228, R229, R243, R244, R266, R295 to R297). -/

namespace Sys2Proof.Machine

/-! ### Passing on (R216, R217) -/

/-- What leaves an entry that passes a telegram on: only a direct entry stands on the ring, and a link that is down drops
the frame. -/
def Mach.passed (m : Mach) (k : StnKey) (g : Tel) (f : List Byte) : List Out :=
  if keyDirect k ∧ (if g.west (keyPos k) then (m.stn k).west else (m.stn k).east) = true
  then [.entry k.ring k.path.toNat (g.west (keyPos k)) f] else []

theorem Mach.pass_eq (m : Mach) (k : StnKey) (g : Tel) (f : List Byte) :
    m.pass k g f = { m with out := m.out ++ m.passed k g f } := by
  unfold pass passed
  by_cases hdirect : keyDirect k = true
  · rw [if_pos hdirect]
    by_cases hup : (if g.west (keyPos k) then (m.stn k).west else (m.stn k).east) = true
    · rw [if_pos ⟨hdirect, hup⟩]
      exact if_pos hup
    · rw [if_neg fun h => hup h.2, List.append_nil]
      exact if_neg hup
  · rw [if_neg hdirect, if_neg fun h => hdirect h.1, List.append_nil]

theorem Mach.passed_up {m : Mach} {k : StnKey} (g : Tel) (f : List Byte) (hdirect : keyDirect k = true)
    (hwest : (m.stn k).west = true) (heast : (m.stn k).east = true) :
    m.passed k g f = [.entry k.ring k.path.toNat (g.west (keyPos k)) f] := by
  simp [passed, hdirect, hwest, heast]

@[simp] theorem Mach.stn_pass (m : Mach) (k : StnKey) (g : Tel) (f : List Byte) : (m.pass k g f).stn k = m.stn k := by
  rw [pass_eq]; rfl

section
variable (k : StnKey) (g : Tel) (f : List Byte) (s : State)

/-- An entry that passes a telegram on leaves the entries, the registers, memory and the cores. -/
theorem onlyStation_pass : OnlyStation k s { s with m := s.m.pass k g f } := by
  rw [Mach.pass_eq]
  exact ⟨rfl, rfl, ⟨rfl, rfl, rfl⟩, fun _ _ => rfl⟩

theorem passesOn_pass : PassesOn k g f s { s with m := s.m.pass k g f } := fun hdirect hwest heast => by
  rw [Mach.pass_eq, Mach.passed_up g f hdirect hwest heast]

/-- An entry that is kept before a telegram is passed on leaves every other one, the registers, memory and the cores. -/
theorem onlyStation_setStn_pass (x : Station) : OnlyStation k s { s with m := (s.m.setStn k x).pass k g f } := by
  rw [Mach.pass_eq]
  exact ⟨rfl, rfl, ⟨rfl, rfl, rfl⟩, (onlyStation_setStn k x s).others⟩

/-- An entry whose links stay as they are passes a telegram on by them. -/
theorem passesOn_setStn_pass {x : Station} (hwest : x.west = (s.m.stn k).west) (heast : x.east = (s.m.stn k).east) :
    PassesOn k g f s { s with m := (s.m.setStn k x).pass k g f } := fun hdirect hup hup' => by
  have hlinks := Mach.stn_setStn s.m k x
  rw [Mach.pass_eq, Mach.passed_up g f hdirect (by rw [hlinks, hwest, hup]) (by rw [hlinks, heast, hup'])]
  rfl

end

/-- A command that keeps an entry with its links and passes a telegram on completes with that entry. -/
theorem completes_setStn_pass {k : StnKey} {g : Tel} {f : List Byte} {s : State} {change : Mach → Mach} {x : Station}
    {P : State → Prop} (hchange : change s.m = (s.m.setStn k x).pass k g f) (hwest : x.west = (s.m.stn k).west)
    (heast : x.east = (s.m.stn k).east)
    (h : ∀ t, OnlyStation k s t → PassesOn k g f s t → t.m.stn k = x → P t) : Completes (.next (s.mod change)) P := by
  refine ⟨_, rfl, ?_⟩
  rw [State.mod, hchange]
  exact h _ (onlyStation_setStn_pass k g f s x) (passesOn_setStn_pass k g f s hwest heast)
    ((Mach.stn_pass _ _ _ _).trans (s.m.stn_setStn k x))

/-! ### What an entry takes of each telegram -/

/-- The configuration of a telegram's generation is one that the entry has: it is configured (R238). -/
theorem Station.isSome_of_cfgOf {x : Station} {gen : Nat} {c : StnCfg} (h : x.cfgOf gen = some c) :
    x.cfg.isNone = false := by
  cases hcfg : x.cfg with
  | none => simp [cfgOf, hcfg] at h
  | some c' => rfl

/-- Remembering a telegram of the pending generation changes nothing but that (R238). -/
theorem Station.saw_eq (x : Station) (gen : Nat) : ∃ b, x.saw gen = { x with sawPend := b } := by
  unfold saw
  split
  · exact ⟨true, rfl⟩
  · exact ⟨x.sawPend, rfl⟩

section
variable {x : Station} {c : StnCfg} {t : Tel} {now : Nat}

/-- The telegram covers the output slot of the entry (R243). -/
def CoversOutput (c : StnCfg) (t : Tel) : Prop :=
  0 < c.f 22 2 ∧ t.ofs ≤ c.f 24 4 ∧ c.f 24 4 + c.f 22 2 ≤ t.ofs + t.payload.length

/-- The telegram is one that the entry has accepted before, or an older one (R244). -/
def Repeats (x : Station) (t : Tel) : Prop := ∃ l, x.lastSeq = some l ∧ signed 32 (t.seq + 2 ^ 32 - l) ≤ 0

theorem repeats_iff : (x.lastSeq.any fun l => decide (signed 32 (t.seq + 2 ^ 32 - l) ≤ 0)) = true ↔ Repeats x t := by
  simp [Repeats, Option.any_eq_true]

theorem Mach.outputTake_late (hcovers : CoversOutput c t) (hlate : applyLeft c t.tick now ≤ 0) :
    outputTake x c t now = { x with late := x.late + 1 } := by
  obtain ⟨hlen, hfrom, hto⟩ := hcovers
  simp [outputTake, hlen, hfrom, hto, hlate]

theorem Mach.outputTake_repeated (hcovers : CoversOutput c t) (htime : ¬applyLeft c t.tick now ≤ 0)
    (hagain : Repeats x t) : outputTake x c t now = { x with dup := x.dup + 1 } := by
  obtain ⟨hlen, hfrom, hto⟩ := hcovers
  simp only [outputTake, hlen, hfrom, hto, htime, repeats_iff.mpr hagain, decide_true, Bool.and_self, Bool.not_true,
    Bool.false_eq_true, if_false, if_true]

theorem Mach.outputTake_held (hcovers : CoversOutput c t) (htime : ¬applyLeft c t.tick now ≤ 0)
    (hnew : ¬Repeats x t) : outputTake x c t now = { x with
      lastSeq := some t.seq
      held := x.held ++ [(t.tick, t.gen, (t.payload.drop (c.f 24 4 - t.ofs)).take (c.f 22 2))] } := by
  obtain ⟨hlen, hfrom, hto⟩ := hcovers
  simp only [outputTake, hlen, hfrom, hto, htime, repeats_iff.not.mpr hnew, decide_true, Bool.and_self, Bool.not_true,
    Bool.false_eq_true, if_false]

/-- An output telegram that covers the entry's slot is late, a repetition, or held for its apply instant (R243, R244). -/
theorem Mach.outputTake_outcome (hcovers : CoversOutput c t) :
    let y := outputTake x c t now
    let late := applyLeft c t.tick now ≤ 0
    (late → y.late = x.late + 1 ∧ y.held = x.held) ∧
    (¬late → Repeats x t → y.dup = x.dup + 1 ∧ y.held = x.held ∧ y.lastSeq = x.lastSeq) ∧
    (¬late → ¬Repeats x t → y.lastSeq = some t.seq ∧
      y.held = x.held ++ [(t.tick, t.gen, (t.payload.drop (c.f 24 4 - t.ofs)).take (c.f 22 2))]) := by
  refine ⟨fun hlate => ?_, fun htime hagain => ?_, fun htime hnew => ?_⟩
  · rw [outputTake_late hcovers hlate]
    exact ⟨rfl, rfl⟩
  · rw [outputTake_repeated hcovers htime hagain]
    exact ⟨rfl, rfl, rfl⟩
  · rw [outputTake_held hcovers htime hnew]
    exact ⟨rfl, rfl⟩

/-- An output telegram moves no link of the entry. -/
theorem Mach.outputTake_links (x : Station) (c : StnCfg) (t : Tel) (now : Nat) :
    (outputTake x c t now).west = x.west ∧ (outputTake x c t now).east = x.east := by
  unfold outputTake
  dsimp only
  split
  · exact ⟨rfl, rfl⟩
  · split
    · exact ⟨rfl, rfl⟩
    · split <;> exact ⟨rfl, rfl⟩

end

theorem stationOutputReceive_completes {k : StnKey} {f : List Byte} {g : Tel} {s : State} (hf : Tel.ofBytes f = some g)
    {c : StnCfg} (now : BitVec 32) (htype : g.type = 2) (hcfg : (s.m.stn k).cfgOf g.gen = some c)
    (hcovers : CoversOutput c g) :
    Completes (exec (.stationOutputReceive k f now) s) fun t => OnlyStation k s t ∧ PassesOn k g f s t ∧
      let x := s.m.stn k
      let y := t.m.stn k
      let late := applyLeft c g.tick now.toNat ≤ 0
      let again := ∃ l, x.lastSeq = some l ∧ signed 32 (g.seq + 2 ^ 32 - l) ≤ 0
      (late → y.late = x.late + 1 ∧ y.held = x.held) ∧
      (¬late → again → y.dup = x.dup + 1 ∧ y.held = x.held ∧ y.lastSeq = x.lastSeq) ∧
      (¬late → ¬again → y.lastSeq = some g.seq ∧
        y.held = x.held ++ [(g.tick, g.gen, (g.payload.drop (c.f 24 4 - g.ofs)).take (c.f 22 2))]) := by
  obtain ⟨b, hsaw⟩ := (s.m.stn k).saw_eq g.gen
  obtain ⟨hwest, heast⟩ := Mach.outputTake_links { s.m.stn k with sawPend := b } c g now.toNat
  refine completes_setStn_pass (x := Mach.outputTake { s.m.stn k with sawPend := b } c g now.toNat) ?_ hwest heast
    fun t honly hpass hstn => ⟨honly, hpass, ?_⟩
  · simp [Mach.outputRecv, hf, htype, Station.isSome_of_cfgOf hcfg, hcfg, hsaw]
  · rw [hstn]
    exact Mach.outputTake_outcome hcovers

/-! ### Collectors and enumerations (R223, R228) -/

/-- A collector of a tick that a joined entry has sampled gets the entry's slot (R223). -/
theorem collectorInsert_completes {k : StnKey} {f : List Byte} {g : Tel} {s : State} (hf : Tel.ofBytes f = some g)
    {c : StnCfg} (htype : g.type = 1) (hcfg : (s.m.stn k).cfg = some c) (hpend : (s.m.stn k).pend = none)
    (hgen : g.gen = c.gen16) (hjoined : (s.m.stn k).joined = true) (hsample : (s.m.stn k).sampleTick = g.tick)
    (hdirect : keyDirect k = true) (hlen : 0 < c.f 20 2) (hfrom : g.ofs ≤ c.f 16 4)
    (hto : c.f 16 4 + c.f 20 2 ≤ g.ofs + g.payload.length) :
    Completes (exec (.collectorInsert k f) s) fun t => OnlyStation k s t ∧
      PassesOn k g ({ g with payload := overlay g.payload (c.f 16 4 - g.ofs) (s.m.slotBytes k (s.m.stn k) c) } : Tel).bytes
        s t := by
  have hslot : s.m.inserted k (s.m.stn k) c g =
      overlay g.payload (c.f 16 4 - g.ofs) (s.m.slotBytes k (s.m.stn k) c) :=
    if_pos ⟨hjoined, hsample, hlen, hfrom, hto⟩
  refine completes_setStn_pass (x := s.m.stn k) ?_ rfl rfl fun t honly hpass _ => ⟨honly, hpass⟩
  simp [Mach.collectorPass, hdirect, hf, htype, hcfg, hpend, hgen, ← hslot]

/-- An enumeration that the entry's group still fits into gets it, unless it starts behind the entry (R228). -/
theorem stationEnumerate_completes {k : StnKey} {f : List Byte} {g : Tel} {s : State} (hf : Tel.ofBytes f = some g)
    (recs : List IdRec) (htype : g.type = 5) (hlen : 4 ≤ g.payload.length) (hdirect : keyDirect k = true) :
    let hop := fieldAt g.payload 0 1
    let first := fieldAt g.payload 1 1
    let group := s.m.idGroup k g.gen recs
    Completes (exec (.stationEnumerate k f recs) s) fun t => OnlyStation k s t ∧
      (first ≤ hop → g.payload.length + group.length ≤ 1024 → PassesOn k g ({ g with
        payload := leBytes 1 (hop + 1) ++ leBytes 1 first ++ leBytes 1 (fieldAt g.payload 2 1) ++ leBytes 1 0 ++
          g.payload.drop 4 ++ group } : Tel).bytes s t) := by
  intro hop first group
  have hgood : ¬(g.type ≠ 5 ∨ g.payload.length < 4) := by omega
  refine ⟨_, rfl, ?_⟩
  simp only [State.mod, Mach.enumPass, hdirect, hf, hgood, Bool.true_eq_false, if_false]
  refine ⟨onlyStation_pass k g _ s, fun hreached hfits => ?_⟩
  simp only [hop, first, group] at hreached hfits ⊢
  simp only [hreached, hfits, decide_true, Bool.not_true, Bool.false_eq_true, false_and, and_false, and_self, if_false,
    if_true]
  exact passesOn_pass k g _ s

/-! ### Timed actions (R244, R266) -/

section
variable {x : Station} {c : StnCfg} {now seq : Nat} {e : List Byte}

/-- A new action entry without flags is refused when its time has come or the queue is full, and held otherwise. -/
theorem Station.action_plain (actq : Nat) (hflags : fieldAt e 13 1 = 0) (hnew : ∀ a ∈ x.acts, a.aid ≠ fieldAt e 0 4) :
    x.action actq now e = if 0 < diff32 (fieldAt e 8 4) now ∧ x.acts.length < actq then
      { x with
        acts := x.acts ++ [⟨fieldAt e 0 4, fieldAt e 6 2, fieldAt e 8 4, fieldAt e 12 1, fieldAt e 14 2, x.order⟩]
        order := x.order + 1 }
    else x.refuse := by
  have hheld : (x.acts.any fun a => decide (a.aid = fieldAt e 0 4)) = false := by simpa using hnew
  have hroom : (0 < diff32 (fieldAt e 8 4) now ∧ x.acts.length < actq) ↔
      ¬(diff32 (fieldAt e 8 4) now ≤ 0 ∨ actq ≤ x.acts.length) := by omega
  simp only [action, hflags, hheld, hroom, Nat.zero_testBit, Bool.false_and, Bool.false_eq_true, false_or, if_false,
    ite_not]

/-- An action entry for a station that has not accepted it before is remembered and taken (R244). -/
theorem Station.entry_new (hplace : fieldAt e 4 2 = c.f 0 2) (hkind : c.f 2 1 = 0)
    (hid : (fieldAt e 0 4, seq) ∉ x.ids) : x.entry c now seq e =
      { x with ids := ((fieldAt e 0 4, seq) :: x.ids).take 256 }.action (c.f 42 1) now e := by
  simp [entry, hplace, hkind, hid]

end

/-- An action for the entry is held when it comes in time and finds room, and is refused and counted otherwise (R266). -/
theorem stationActionReceive_completes {k : StnKey} {f : List Byte} {g : Tel} {s : State} (hf : Tel.ofBytes f = some g)
    {c : StnCfg} (now : BitVec 32) (htype : g.type = 3) (hcfg : (s.m.stn k).cfgOf g.gen = some c)
    (hlen : g.payload.length = 16) (hplace : fieldAt g.payload 4 2 = c.f 0 2) (hkind : c.f 2 1 = 0)
    (hid : (fieldAt g.payload 0 4, g.seq) ∉ (s.m.stn k).ids) (hflags : fieldAt g.payload 13 1 = 0)
    (hnew : ∀ a ∈ (s.m.stn k).acts, a.aid ≠ fieldAt g.payload 0 4) :
    Completes (exec (.stationActionReceive k f now) s) fun t => OnlyStation k s t ∧ PassesOn k g f s t ∧
      let x := s.m.stn k
      let y := t.m.stn k
      let pay := g.payload
      if 0 < diff32 (fieldAt pay 8 4) now.toNat ∧ x.acts.length < c.f 42 1 then
        y.acts = x.acts ++ [⟨fieldAt pay 0 4, fieldAt pay 6 2, fieldAt pay 8 4, fieldAt pay 12 1, fieldAt pay 14 2,
          x.order⟩] ∧ y.refused = x.refused
      else y.acts = x.acts ∧ y.refused = true ∧ y.refusals = x.refusals + 1 := by
  obtain ⟨b, hsaw⟩ := (s.m.stn k).saw_eq g.gen
  let known : Station := { s.m.stn k with
    sawPend := b, ids := ((fieldAt g.payload 0 4, g.seq) :: (s.m.stn k).ids).take 256 }
  have htaken := Station.action_plain (x := known) (now := now.toNat) (c.f 42 1) hflags hnew
  have hchange : s.m.actionRecv k f now.toNat =
      (s.m.setStn k (known.action (c.f 42 1) now.toNat g.payload)).pass k g f := by
    have hone := Station.entry_new (x := { s.m.stn k with sawPend := b }) (now := now.toNat) hplace hkind hid
    simp [Mach.actionRecv, hf, htype, Station.isSome_of_cfgOf hcfg, hcfg, hsaw, hlen, countFrom, List.take_of_length_le,
      hone, known]
  rw [htaken] at hchange
  show Completes (.next (s.mod _)) _
  by_cases hroom : 0 < diff32 (fieldAt g.payload 8 4) now.toNat ∧ (s.m.stn k).acts.length < c.f 42 1
  · rw [if_pos hroom] at hchange
    refine completes_setStn_pass hchange rfl rfl fun t honly hpass hstn => ⟨honly, hpass, ?_⟩
    rw [if_pos hroom, hstn]
    exact ⟨rfl, rfl⟩
  · rw [if_neg hroom] at hchange
    refine completes_setStn_pass hchange rfl rfl fun t honly hpass hstn => ⟨honly, hpass, ?_⟩
    rw [if_neg hroom, hstn]
    exact ⟨rfl, rfl, rfl⟩

/-! ### Configurations (R229) -/

/-- The configuration that a telegram carries as a whole (R229). -/
def Tel.wholeConfig (g : Tel) : StnCfg :=
  ⟨fieldAt g.payload 4 4, fieldAt g.payload 8 4, fieldAt g.payload 12 1, fieldAt g.payload 16 4,
    (g.payload.drop 24).take 64, g.payload.drop 88⟩

/-- A configuration of one part becomes active at an entry that has none (R229, R244). -/
theorem Station.config_whole {x : Station} {g : Tel} (hactive : fieldAt g.payload 13 1 = 0) (hofs : g.ofs = 0)
    (hlast : g.flags.testBit 2 = true) (hpart : x.part = none) (hcfg : x.cfg = none) :
    x.config g = { x.activate g.wholeConfig with pend := none, sawPend := false } := by
  simp [config, configured, hactive, hofs, hlast, hpart, hcfg, activate, Tel.wholeConfig]

theorem stationConfigure_completes {k : StnKey} {f : List Byte} {g : Tel} {s : State} (hf : Tel.ofBytes f = some g)
    (htype : g.type = 6) (hlen : 88 ≤ g.payload.length) (hpath : fieldAt g.payload 0 4 = k.path.toNat)
    (hactive : fieldAt g.payload 13 1 = 0) (hofs : g.ofs = 0) (hlast : g.flags.testBit 2 = true)
    (hpart : (s.m.stn k).part = none) (hcfg : (s.m.stn k).cfg = none) :
    Completes (exec (.stationConfigure k f) s) fun t => OnlyStation k s t ∧ PassesOn k g f s t ∧
      (t.m.stn k).cfg = some g.wholeConfig ∧ (t.m.stn k).lastSeq = none ∧ (t.m.stn k).joined = false := by
  have hconfig := Station.config_whole hactive hofs hlast hpart hcfg
  refine completes_setStn_pass (x := (s.m.stn k).config g) ?_ (by rw [hconfig]; rfl) (by rw [hconfig]; rfl)
    fun t honly hpass hstn => ⟨honly, hpass, ?_⟩
  · simp [Mach.configRecv, hf, htype, hlen, hpath]
  · rw [hstn, hconfig]
    exact ⟨rfl, rfl, rfl⟩

/-! ### Sync (R295 to R297) -/

/-- A Sync of a primary sets the entry's state of synchronisation and goes on with its correction. -/
theorem stationSync_completes {k : StnKey} {f : List Byte} {g : Tel} {s : State} (hf : Tel.ofBytes f = some g)
    (residence delay : BitVec 32) (within : Bool) (htype : g.type = 7) (hsync : fieldAt g.payload 0 1 % 16 = 0)
    (hecho : g.flags.testBit 1 = false) :
    Completes (exec (.stationSync k f residence delay within) s) fun t =>
      OnlyStation k s t ∧ (t.m.stn k).unsync = !within ∧ (t.m.stn k).primQuiet = false ∧
      PassesOn k g ({ g with payload := overlay g.payload 8 (beBytes 8
        ((beNat ((g.payload.drop 8).take 8) + 65536 * (residence.toNat + delay.toNat)) % 2 ^ 64)) } : Tel).bytes s t := by
  refine completes_setStn_pass (x := { s.m.stn k with unsync := !within, primQuiet := false }) ?_ rfl rfl
    fun t honly hpass hstn => ⟨honly, by rw [hstn], by rw [hstn], hpass⟩
  simp [Mach.syncRecv, hf, htype, hsync, hecho]

end Sys2Proof.Machine
end

section
open Sys2Proof Sys2Proof.Machine

/-- Settles O42: an entry takes of each telegram what is its own, keeps itself alone, and passes the telegram on. The places
of a Sync's type and correction are those of R230's message (compare log entry 32). -/
theorem stationTelegrams : Obligations.StationTelegrams := by
  unfold Obligations.StationTelegrams
  intro k f g s hf
  exact ⟨fun _ htype hcfg hpend hgen hjoined hsample hdirect hlen hfrom hto =>
      collectorInsert_completes hf htype hcfg hpend hgen hjoined hsample hdirect hlen hfrom hto,
    fun _ now htype hcfg hlen hfrom hto => stationOutputReceive_completes hf now htype hcfg ⟨hlen, hfrom, hto⟩,
    fun _ now htype hcfg hlen hplace hkind hid hflags hnew =>
      stationActionReceive_completes hf now htype hcfg hlen hplace hkind hid hflags hnew,
    fun htype hlen hpath hactive hofs hlast hpart hcfg =>
      stationConfigure_completes hf htype hlen hpath hactive hofs hlast hpart hcfg,
    fun recs htype hlen hdirect => stationEnumerate_completes hf recs htype hlen hdirect,
    fun residence delay within htype hsync hecho => stationSync_completes hf residence delay within htype hsync hecho⟩

end

section
/-! SUPPORT. Plant time: what a set, a step, a rate and a lock leave of the registers and of the tick, and the timestamps
that the FIFO takes and gives (R281 to R286, R291 to R294, R308). -/

namespace Sys2Proof.Machine

/-! ### Numbers of 64 bits -/

/-- A wrapped integer is its remainder (R65). -/
theorem wrapInt_eq_emod (w : Nat) (i : Int) : (wrapInt w i : Int) = i.emod (2 ^ w) := by
  rw [wrapInt, Int.toNat_of_nonneg (Int.emod_nonneg _ (by positivity))]
  push_cast
  rfl

theorem wrapInt_lt (w : Nat) (i : Int) : wrapInt w i < 2 ^ w := by
  have hpos : (0 : Int) < 2 ^ w := by positivity
  have hlt := Int.emod_lt_of_pos i hpos
  have heq := wrapInt_eq_emod w i
  zify
  exact heq ▸ hlt

namespace Mach

theorem rg64_lt (m : Mach) (a : Nat) : m.rg64 a < 2 ^ 64 := by
  have hlo := m.rg_lt a
  have hhi := m.rg_lt (a + 4)
  unfold rg64
  omega

theorem Keeps.rg64 {as : List Nat} {m m' : Mach} (h : Keeps as m m') {a : Nat} (ha : a ∉ as ∧ a ∉ ledgerRegs)
    (hhi : a + 4 ∉ as ∧ a + 4 ∉ ledgerRegs) : m'.rg64 a = m.rg64 a := rg64_congr (h a ha.1 ha.2) (h _ hhi.1 hhi.2)

theorem rg64_emit (m : Mach) (o : Out) (a : Nat) : (m.emit o).rg64 a = m.rg64 a := rfl

theorem fld_emit (m : Mach) (o : Out) (a hi lo : Nat) : (m.emit o).fld a hi lo = m.fld a hi lo := rfl

/-! ### Sets of plant time (R284) -/

section
variable (m : Mach) (t src : Nat)

theorem setTime_tick : (m.setTime t src).tick = { m.tick with now := t % 2 ^ 64, frac := 0 } := by simp [setTime]

theorem setTime_tmb : (m.setTime t src).tmb = m.tmb := by simp [setTime]

/-- The module with plant time set, before a register shows it (R284). -/
def atTime : Mach := { m with tick := { m.tick with now := t % 2 ^ 64, frac := 0 } }

/-- After the flag and the source, a set of plant time writes the time and its record. -/
theorem keeps_setTime_shown : Keeps [TMB_TIME, TMB_TIME + 4]
    (((m.atTime t).setBit TMB_STAT 0 true).setFld TMB_STAT 3 1 src) (m.setTime t src) :=
  ((Keeps.refl _ _).wr64 (by simp) (by simp) (t % 2 ^ 64)).ledger 0x0700 8 0 m.tick.now (m.tick.now / 2 ^ 32)

theorem keeps_setTime : Keeps [TMB_STAT, TMB_TIME, TMB_TIME + 4] m (m.setTime t src) :=
  ((((Keeps.refl _ m).of_regs (m'' := m.atTime t) rfl).setBit (by simp) 0 true).setFld (by simp) 3 1 src).trans
    ((m.keeps_setTime_shown t src).mono (by simp))

theorem setTime_valid : (m.setTime t src).timeValid = true := by
  rw [timeValid, (m.keeps_setTime_shown t src).bit (by decide) (by decide),
    bit_setFld_field _ _ _ _ _ _ (by decide) (by decide) (by decide), bit_setBit_same _ _ _ _ (by decide)]

theorem setTime_source : (m.setTime t src).fld TMB_STAT 3 1 = src % 8 := by
  rw [(m.keeps_setTime_shown t src).fld (by decide) (by decide), fld_setFld_same _ _ _ _ _ (by decide) (by decide)]
  rfl

theorem setTime_lock : (m.setTime t src).bit TMB_STAT 4 = m.bit TMB_STAT 4 := by
  rw [(m.keeps_setTime_shown t src).bit (by decide) (by decide),
    bit_setFld_field _ _ _ _ _ _ (by decide) (by decide) (by decide), bit_setBit_field _ _ _ _ _ (by decide) (by decide)]
  rfl

theorem setTime_time : (m.setTime t src).rg64 TMB_TIME = t % 2 ^ 64 := by
  have hrecord (n : Mach) (code src arg0 arg1 arg2 : Nat) :
      (n.ledger code src arg0 arg1 arg2).rg64 TMB_TIME = n.rg64 TMB_TIME :=
    ((Keeps.refl [] n).ledger code src arg0 arg1 arg2).rg64 (by decide) (by decide)
  rw [setTime, hrecord, rg64_wr64, Nat.mod_mod]

/-- A cut of the firing in progress shows in the scheduler's state alone (R284). -/
theorem keeps_cutTick : Keeps [KLN_SCHSTAT] m m.cutTick :=
  ((Keeps.refl _ m).of_regs (m'' := m.undoTick) (m.still_undoTick 0).regs).trans
    (((Keeps.refl _ m.undoTick).of_regs rfl).setBit (by simp) 3 false)

/-- A request that is taken sets plant time, in BENCH after a cut of the firing in progress (R284). -/
theorem timeSetGo_taken (hpower : m.mode ≠ 0) (hfree : ¬(4 ≤ m.mode ∧ m.timeValid = true)) :
    ∃ n, Keeps [KLN_SCHSTAT] m n ∧ (m.timeSetGo src).regs = (n.setTime (m.rg64 TMB_SET) src).regs ∧
      (m.timeSetGo src).tick = (n.setTime (m.rg64 TMB_SET) src).tick := by
  have hcut : Keeps [KLN_SCHSTAT] m (if m.mode = 3 ∧ m.bit KLN_SCHCTL 0 then m.cutTick else m) := by
    split
    · exact m.keeps_cutTick
    · exact Keeps.refl _ m
  refine ⟨_, hcut, ?_⟩
  rw [timeSetGo, if_neg hpower, if_neg hfree, ← hcut.rg64 (a := TMB_SET) (by decide) (by decide)]
  dsimp only
  split <;> exact ⟨rfl, rfl⟩

end

/-! ### Steps of plant time (R285, R286) -/

section
variable (m : Mach) (d : Int)

theorem stepTime_tick : (m.stepTime d).tick = { m.tick with now := wrapInt 64 (m.tick.now + d) } := by simp [stepTime]

/-- The step waits for the boundary (R286). -/
def stepWaits : Mach := { m with tmb := { m.tmb with step := some d, carried := false } }

theorem keeps_stepTime : Keeps [TMB_TIME, TMB_TIME + 4] m (m.stepTime d) :=
  (((Keeps.refl _ m).of_regs (m'' := { m with tick := { m.tick with now := wrapInt 64 (m.tick.now + d) } }) rfl).wr64
    (by simp) (by simp) (wrapInt 64 (m.tick.now + d))).ledger
    0x0701 8 0 (wrapInt 64 d) (wrapInt 64 d / 2 ^ 32)

theorem stepTime_time : (m.stepTime d).rg64 TMB_TIME = wrapInt 64 (m.tick.now + d) := by
  have hrecord (n : Mach) (code src arg0 arg1 arg2 : Nat) :
      (n.ledger code src arg0 arg1 arg2).rg64 TMB_TIME = n.rg64 TMB_TIME :=
    ((Keeps.refl [] n).ledger code src arg0 arg1 arg2).rg64 (by decide) (by decide)
  rw [stepTime, hrecord, rg64_wr64, Nat.mod_eq_of_lt (wrapInt_lt 64 _)]

end

/-- A request for a step that no earlier one delays: beyond the limit it is refused, in a primary it waits for the
boundary, and elsewhere plant time moves (R285, R286). -/
theorem timeStepGo_taken {m : Mach} {d : Int} (hd : d = Int.bmod (m.rg64 TMB_STEP) (2 ^ 64)) (hpower : m.mode ≠ 0)
    (hsome : m.rg64 TMB_STEP ≠ 0) (hresync : m.mode ≠ 4) (hstandby : m.mode ≠ 5) (hfree : m.tmb.step = none) :
    m.timeStepGo =
      if m.stepLimit < d.natAbs then
        ((m.setBit TMB_STAT 6 true).ledger 0x0702 8 0 (m.rg64 TMB_STEP) (m.rg64 TMB_STEP / 2 ^ 32)).emit
          (.status "JUMP_REFUSED")
      else if m.mode = 6 then
        ((m.stepWaits d).setBit TMB_STAT 5 true).emit (.status "OK")
      else (m.stepTime d).emit (.status "OK") := by
  simp only [timeStepGo, hpower, hsome, hresync, hstandby, hfree, signed_64, ← hd, stepWaits, or_self, Option.isSome_none,
    Bool.false_eq_true, if_false]

/-! ### The rate (R281, R282) -/

/-- A rate in range is stored; another is refused with a record (R281, R282). -/
theorem addendWrite_range (m : Mach) (hi w : Nat) {v : Nat}
    (hv : v = (tabGet (BitVec.ofNat 32 (m.rg TMB_ADDEND)) m.loHeld TMB_ADDEND).toNat + 2 ^ 32 * (hi % 8)) :
    (m.addendWrite hi w).tick = m.tick ∧
      if 0x3FFCB923B ≤ v ∧ v ≤ 0x400346DC5 then
        (m.addendWrite hi w).rg64 TMB_ADDEND = v ∧ Keeps [TMB_ADDEND, TMB_ADDEND + 4] m (m.addendWrite hi w)
      else Keeps [] m (m.addendWrite hi w) := by
  subst hv
  have hsame : Keeps [] m { m with loHeld := tabErase m.loHeld TMB_ADDEND 1 } := (Keeps.refl _ m).of_regs rfl
  have hlo := (tabGet (BitVec.ofNat 32 (m.rg TMB_ADDEND)) m.loHeld TMB_ADDEND).isLt
  unfold addendWrite
  extract_lets lo n v
  have hword : v < 2 ^ 64 := by omega
  by_cases hrange : 0x3FFCB923B ≤ v ∧ v ≤ 0x400346DC5
  · rw [if_neg (by omega), if_pos hrange, rg64_wr64, Nat.mod_eq_of_lt hword]
    exact ⟨rfl, rfl, (hsame.mono (List.nil_subset _)).wr64 (by simp) (by simp) v⟩
  · rw [if_pos (by omega), if_neg hrange]
    exact ⟨ledger_tick _ _ _ _ _ _, hsame.ledger _ _ _ _ _⟩

/-! ### Lock (R283, R294) -/

/-- The wait for lock is over (R283). -/
def endWait (m : Mach) : Mach := { m with tmb := { m.tmb with wait := false } }

/-- TMB_STAT shows the lock of the servo; a change is recorded (R294). -/
def showLock (m : Mach) (lock : Bool) : Mach :=
  if lock = m.bit TMB_STAT 4 then m
  else (m.setBit TMB_STAT 4 lock).ledger (if lock then 0x0704 else 0x0705) 8 0 0 0

section
variable (m : Mach) (lock : Bool)

theorem showLock_shows : (m.showLock lock).bit TMB_STAT 4 = lock := by
  unfold showLock
  split
  next hsame => exact hsame.symm
  next =>
    rw [((Keeps.refl [] _).ledger _ _ _ _ _).bit (by decide) (by decide), bit_setBit_same _ _ _ _ (by decide)]

theorem keeps_showLock : Keeps [TMB_STAT] m (m.showLock lock) := by
  unfold showLock
  split
  · exact Keeps.refl _ m
  · exact ((Keeps.refl _ m).setBit (by simp) _ _).ledger _ _ _ _ _

theorem showLock_tick : (m.showLock lock).tick = m.tick := by
  unfold showLock
  split <;> simp

theorem showLock_tmb : (m.showLock lock).tmb = m.tmb := by
  unfold showLock
  split <;> simp

end

end Mach

/-! ### Timestamps (R293, R308) -/

/-- The word of TMB_TSINFO that shows a timestamp (R308). -/
def Stamp.info (e : Stamp) : Nat := e.seqid * 2 ^ 16 + e.mtype * 2 ^ 12 + b2n e.sent * 2 ^ 11 + e.port * 2 ^ 8 + 1

/-- The fields of the word, for a timestamp whose parts fit them. -/
theorem Stamp.info_fields {e : Stamp} (hseq : e.seqid < 2 ^ 16) (htype : e.mtype < 16) (hport : e.port < 8) :
    e.info < 2 ^ 32 ∧ bits e.info 31 16 = e.seqid ∧ bits e.info 15 12 = e.mtype ∧ e.info.testBit 11 = e.sent ∧
      bits e.info 10 8 = e.port ∧ e.info.testBit 0 = true := by
  have hle := b2n_le e.sent
  have hsent : e.info / 2 ^ 11 % 2 = b2n e.sent := by unfold info; omega
  have hvalid : e.info / 2 ^ 0 % 2 = 1 := by unfold info; omega
  refine ⟨by unfold info; omega, by unfold bits info; omega, by unfold bits info; omega, ?_,
    by unfold bits info; omega, ?_⟩
  · rw [Nat.testBit_eq_decide_div_mod_eq, hsent]
    cases e.sent <;> rfl
  · rw [Nat.testBit_eq_decide_div_mod_eq, hvalid]
    rfl

/-- The oldest timestamp leaves the FIFO and is shown (R308). -/
def Mach.popStamp (m : Mach) (e : Stamp) (rest : List Stamp) : Mach :=
  ((({ m with tmb := { m.tmb with fifo := rest } } : Mach).setFld TMB_TSSTAT 6 0 rest.length).wr TMB_TSINFO e.info).wr64
    TMB_TSTIME e.time

section
variable (m : Mach) (e : Stamp) (rest : List Stamp)

theorem Mach.keeps_popStamp_shown : Keeps [TMB_TSTIME, TMB_TSTIME + 4]
    ((({ m with tmb := { m.tmb with fifo := rest } } : Mach).setFld TMB_TSSTAT 6 0 rest.length).wr TMB_TSINFO e.info)
    (m.popStamp e rest) :=
  (Keeps.refl _ _).wr64 (by simp) (by simp) e.time

theorem Mach.keeps_popStamp : Keeps [TMB_TSSTAT, TMB_TSINFO, TMB_TSTIME, TMB_TSTIME + 4] m (m.popStamp e rest) :=
  ((((Keeps.refl _ m).of_regs (m'' := { m with tmb := { m.tmb with fifo := rest } }) rfl).setFld (by simp) 6 0
    rest.length).wr (by simp) e.info).trans ((m.keeps_popStamp_shown e rest).mono (by simp))

theorem Mach.popStamp_fifo : (m.popStamp e rest).tmb.fifo = rest := rfl

theorem Mach.popStamp_info (hword : e.info < 2 ^ 32) : (m.popStamp e rest).rg TMB_TSINFO = e.info := by
  rw [m.keeps_popStamp_shown e rest _ (by decide) (by decide), rg_wr_same, Nat.mod_eq_of_lt hword]

theorem Mach.popStamp_count (hrest : rest.length < 64) : (m.popStamp e rest).fld TMB_TSSTAT 6 0 = rest.length := by
  rw [(m.keeps_popStamp_shown e rest).fld (by decide) (by decide), fld_wr_other _ _ _ _ _ _ (by decide),
    fld_setFld_same _ _ _ _ _ (by decide) (by decide)]
  exact Nat.mod_eq_of_lt (by omega)

theorem Mach.popStamp_time (htime : e.time < 2 ^ 64) : (m.popStamp e rest).rg64 TMB_TSTIME = e.time := by
  rw [popStamp, rg64_wr64, Nat.mod_eq_of_lt htime]

end

/-- A message that the module sends has left it (R292). -/
def Mach.ptpSent (m : Mach) (sent : Bool) (mtype p : Nat) : Mach := if sent then m.emit (.ptp mtype p) else m

theorem Mach.ptpSent_regs (m : Mach) (sent : Bool) (mtype p : Nat) : (m.ptpSent sent mtype p).regs = m.regs := by
  cases sent <;> rfl

theorem Mach.ptpSent_tmb (m : Mach) (sent : Bool) (mtype p : Nat) : (m.ptpSent sent mtype p).tmb = m.tmb := by
  cases sent <;> rfl

/-- The FIFO takes a timestamp while it has room (R293, R308). -/
theorem Mach.stampPut_room (m : Mach) (e : Stamp) (hroom : m.tmb.fifo.length < 64) :
    (m.stampPut e).tmb.fifo = m.tmb.fifo ++ [e] ∧ Keeps [TMB_TSSTAT] m (m.stampPut e) := by
  rw [stampPut, if_neg (by omega)]
  exact ⟨rfl, ((Keeps.refl _ m).of_regs rfl).setFld (by simp) _ _ _⟩

/-- The time of a stamp is corrected by the latency of its port, modulo 64 bits (R293). -/
theorem latency_corrected (sent : Bool) (time : BitVec 64) (tx rx : Nat) (hrx : rx < 2 ^ 16) :
    (if sent then time.toNat + tx else time.toNat + 2 ^ 64 - rx) % 2 ^ 64 =
      (((time.toNat : Int) + (if sent then (tx : Int) else -(rx : Int))).emod (2 ^ 64)).toNat := by
  cases sent
  · simp only [Bool.false_eq_true, if_false]
    change _ = (((time.toNat : Int) + -(rx : Int)) % (2 ^ 64)).toNat
    omega
  · simp only [if_true]
    change _ = (((time.toNat : Int) + (tx : Int)) % (2 ^ 64)).toNat
    omega

end Sys2Proof.Machine
end

section
/-! SUPPORT. The commands of plant time (R283 to R286, R293, R294, R308, R499). -/

namespace Sys2Proof.Machine

/-- A module that serves is powered (R33). -/
theorem Mach.mode_ne_zero {m : Mach} (h : m.dead = false) : m.mode ≠ 0 := by
  intro hmode
  simp [dead, hmode] at h

section
variable {s : State} (hdead : s.m.dead = false)
include hdead

theorem timeSet_completes (ptp : Bool) (hfree : ¬(4 ≤ s.m.mode ∧ s.m.timeValid = true)) :
    Completes (exec (.timeSet ptp) s) fun t =>
      t.m.tick.now = s.m.rg64 TMB_SET ∧ t.m.tick.frac = 0 ∧ t.m.timeValid = true ∧
      t.m.fld TMB_STAT 3 1 = (if ptp then 2 else 4) ∧ t.m.rg64 TMB_TIME = s.m.rg64 TMB_SET ∧
      KeepsRegs s t [KLN_SCHSTAT, TMB_STAT, TMB_TIME, TMB_TIME + 4] ∧ SameCores s t := by
  have hword := Nat.mod_eq_of_lt (s.m.rg64_lt TMB_SET)
  obtain ⟨n, hcut, hregs, htick⟩ := s.m.timeSetGo_taken (if ptp then 2 else 4) (Mach.mode_ne_zero hdead) hfree
  have hset : Mach.Keeps [] (n.setTime (s.m.rg64 TMB_SET) (if ptp then 2 else 4))
      (s.m.timeSetGo (if ptp then 2 else 4)) := (Mach.Keeps.refl _ _).of_regs hregs
  rw [Mach.setTime_tick, hword] at htick
  refine completes_change hdead rfl ⟨by rw [htick], by rw [htick], ?_, ?_, ?_, ?_, rfl, rfl, rfl⟩
  · exact (hset.bit (by simp) (by decide) 0).trans (n.setTime_valid _ _)
  · rw [hset.fld (by simp) (by decide), n.setTime_source]
    cases ptp <;> rfl
  · rw [hset.rg64 (by decide) (by decide), n.setTime_time, hword]
  · exact (hcut.mono (by simp)).trans (((n.keeps_setTime _ _).mono (by simp)).trans (hset.mono (by simp)))

theorem timeSet_locked (ptp : Bool) (hmode : 4 ≤ s.m.mode) (hvalid : s.m.timeValid = true) :
    Completes (exec (.timeSet ptp) s) fun t => t = { s with m := s.m.emit (.status "TIME_LOCKED") } :=
  completes_change hdead ((if_neg (Mach.mode_ne_zero hdead)).trans (if_pos ⟨hmode, hvalid⟩)) rfl

theorem timeStep_completes {d : Int} (hd : d = Int.bmod (s.m.rg64 TMB_STEP) (2 ^ 64)) (hsome : s.m.rg64 TMB_STEP ≠ 0)
    (hresync : s.m.mode ≠ 4) (hstandby : s.m.mode ≠ 5) (hfree : s.m.tmb.step = none) :
    Completes (exec .timeStep s) fun t => SameCores s t ∧
      if s.m.stepLimit < d.natAbs then t.m.bit TMB_STAT 6 = true ∧ t.m.tick = s.m.tick ∧ KeepsRegs s t [TMB_STAT]
      else if s.m.mode = 6 then
        t.m.tmb.step = some d ∧ t.m.bit TMB_STAT 5 = true ∧ t.m.tick = s.m.tick ∧ KeepsRegs s t [TMB_STAT]
      else (t.m.tick.now : Int) = (s.m.tick.now + d).emod (2 ^ 64) ∧ t.m.rg64 TMB_TIME = t.m.tick.now ∧
        KeepsRegs s t [TMB_TIME, TMB_TIME + 4] := by
  have hgo := Mach.timeStepGo_taken hd (Mach.mode_ne_zero hdead) hsome hresync hstandby hfree
  by_cases hlimit : s.m.stepLimit < d.natAbs
  · have hrecord := (s.m.setBit TMB_STAT 6 true).ledger_frame 0x0702 8 0 (s.m.rg64 TMB_STEP) (s.m.rg64 TMB_STEP / 2 ^ 32)
    simp only [hlimit, if_true]
    exact completes_change hdead (hgo.trans (if_pos hlimit)) ⟨⟨rfl, rfl, rfl⟩,
      (hrecord.bit_notMem (by decide) 6).trans (s.m.bit_setBit_same _ _ _ (by decide)), hrecord.tick,
      (((Mach.Keeps.refl _ s.m).setBit (by simp) _ _).ledger _ _ _ _ _).of_regs rfl⟩
  by_cases hmode : s.m.mode = 6
  · have hkeeps : Mach.Keeps [TMB_STAT] s.m ((s.m.stepWaits d).setBit TMB_STAT 5 true) :=
      ((Mach.Keeps.refl _ s.m).of_regs (m'' := s.m.stepWaits d) rfl).setBit (by simp) 5 true
    simp only [hlimit, hmode, if_true, if_false]
    exact completes_change hdead ((hgo.trans (if_neg hlimit)).trans (if_pos hmode)) ⟨⟨rfl, rfl, rfl⟩, rfl,
      (s.m.stepWaits d).bit_setBit_same TMB_STAT 5 true (by decide), rfl, hkeeps.of_regs rfl⟩
  · have hnow : (s.m.stepTime d).tick.now = wrapInt 64 (s.m.tick.now + d) := by rw [s.m.stepTime_tick d]
    have hwrapped : ((s.m.stepTime d).tick.now : Int) = (s.m.tick.now + d).emod (2 ^ 64) := by
      rw [hnow, wrapInt_eq_emod]
    have hshown : (s.m.stepTime d).rg64 TMB_TIME = (s.m.stepTime d).tick.now := by rw [s.m.stepTime_time d, hnow]
    simp only [hlimit, hmode, if_false]
    exact completes_change hdead ((hgo.trans (if_neg hlimit)).trans (if_neg hmode))
      ⟨⟨rfl, rfl, rfl⟩, hwrapped, hshown, (s.m.keeps_stepTime d).of_regs rfl⟩

theorem addendWrite_completes (hi : BitVec 32) (w : Writer) {v : Nat}
    (hv : v = (tabGet (BitVec.ofNat 32 (s.m.rg TMB_ADDEND)) s.m.loHeld TMB_ADDEND).toNat + 2 ^ 32 * (hi.toNat % 8)) :
    Completes (exec (.addendWrite hi w) s) fun t => SameCores s t ∧ t.m.tick = s.m.tick ∧
      if 0x3FFCB923B ≤ v ∧ v ≤ 0x400346DC5 then t.m.rg64 TMB_ADDEND = v ∧ KeepsRegs s t [TMB_ADDEND, TMB_ADDEND + 4]
      else KeepsRegs s t [] := by
  have hrange := s.m.addendWrite_range hi.toNat w hv
  exact completes_access hdead rfl ⟨⟨rfl, rfl, rfl⟩, hrange⟩

theorem timestampPop_completes {e : Stamp} {rest : List Stamp} (hfifo : s.m.tmb.fifo = e :: rest)
    (htime : e.time < 2 ^ 64) (hrest : rest.length < 64) (hseq : e.seqid < 2 ^ 16) (htype : e.mtype < 16)
    (hport : e.port < 8) : Completes (exec .timestampPop s) fun t =>
      t.m.tmb.fifo = rest ∧ t.m.rg64 TMB_TSTIME = e.time ∧ t.m.fld TMB_TSINFO 31 16 = e.seqid ∧
      t.m.fld TMB_TSINFO 15 12 = e.mtype ∧ t.m.bit TMB_TSINFO 11 = e.sent ∧ t.m.fld TMB_TSINFO 10 8 = e.port ∧
      t.m.bit TMB_TSINFO 0 = true ∧ t.m.fld TMB_TSSTAT 6 0 = rest.length ∧
      KeepsRegs s t [TMB_TSSTAT, TMB_TSINFO, TMB_TSTIME, TMB_TSTIME + 4] ∧ SameCores s t := by
  obtain ⟨hword, hseqid, hmtype, hsent, hplace, hvalid⟩ := Stamp.info_fields hseq htype hport
  have hinfo := (Mach.rg_emit _ (.data (leBytes 4 e.info)) _).trans (s.m.popStamp_info e rest hword)
  have hkeeps := (s.m.keeps_popStamp e rest).of_regs (m'' := (s.m.popStamp e rest).emit (.data (leBytes 4 e.info))) rfl
  refine completes_change hdead (m := (s.m.popStamp e rest).emit (.data (leBytes 4 e.info)))
    ?_ ⟨s.m.popStamp_fifo e rest, (Mach.rg64_emit _ _ _).trans (s.m.popStamp_time e rest htime), ?_, ?_, ?_, ?_, ?_,
      (Mach.fld_emit _ _ _ _ _).trans (s.m.popStamp_count e rest hrest), hkeeps, rfl, rfl, rfl⟩
  · simp only [hfifo, Mach.popStamp, Stamp.info]
  · exact (congrArg (bits · 31 16) hinfo).trans hseqid
  · exact (congrArg (bits · 15 12) hinfo).trans hmtype
  · exact (congrArg (Nat.testBit · 11) hinfo).trans hsent
  · exact (congrArg (bits · 10 8) hinfo).trans hplace
  · exact (congrArg (Nat.testBit · 0) hinfo).trans hvalid

theorem ptpMessage_completes (p : Fin 2) (sent : Bool) (mtype : BitVec 4) (seqid : BitVec 16) (time : BitVec 64)
    (hport : s.m.ptpPort p = true) (hmay : sent = true → s.m.ptpMaySend mtype.toNat = true) (hevent : mtype.toNat ≤ 3)
    (hroom : s.m.tmb.fifo.length < 64) : Completes (exec (.ptpMessage p sent mtype seqid time) s) fun t =>
      t.m.tmb.fifo = s.m.tmb.fifo ++ [⟨p, sent, mtype.toNat, seqid.toNat,
        (((time.toNat : Int) + (if sent then (s.m.fld (TMB_LAT p) 31 16 : Int) else -(s.m.fld (TMB_LAT p) 15 0 : Int))).emod
          (2 ^ 64)).toNat⟩] ∧ KeepsRegs s t [TMB_TSSTAT] ∧ SameCores s t := by
  let m := s.m.ptpSent sent mtype.toNat p
  have hregs : m.regs = s.m.regs := s.m.ptpSent_regs sent mtype.toNat p
  have htmb : m.tmb = s.m.tmb := s.m.ptpSent_tmb sent mtype.toNat p
  have hpass : ¬(!s.m.ptpPort p || (sent && !s.m.ptpMaySend mtype.toNat)) = true := by cases sent <;> simp [hport, hmay]
  have hlatency := latency_corrected sent time (m.fld (TMB_LAT p) 31 16) (m.fld (TMB_LAT p) 15 0)
    (bits_lt (m.rg (TMB_LAT p)) 15 0)
  obtain ⟨hput, hkeeps⟩ := m.stampPut_room ⟨p, sent, mtype.toNat, seqid.toNat, (if sent then
    time.toNat + m.fld (TMB_LAT p) 31 16 else time.toNat + 2 ^ 64 - m.fld (TMB_LAT p) 15 0) % 2 ^ 64⟩ (htmb ▸ hroom)
  refine completes_change hdead ((if_neg hpass).trans (if_neg (by omega)))
    ⟨hput.trans ?_, ((Mach.Keeps.refl _ s.m).of_regs hregs).trans hkeeps, rfl, rfl, rfl⟩
  rw [htmb, hlatency, Mach.fld_of_regs hregs, Mach.fld_of_regs hregs]

theorem ptpLockChange_completes (lock : Bool) (time : BitVec 64) : Completes (exec (.ptpLockChange lock time) s) fun t =>
    t.m.bit TMB_STAT 4 = lock ∧ KeepsRegs s t [TMB_STAT, TMB_TIME, TMB_TIME + 4] ∧ SameCores s t ∧
    if lock = true ∧ s.m.tmb.wait = true then t.m.tick.now = time.toNat ∧ t.m.timeValid = true ∧ t.m.tmb.wait = false
    else t.m.tick = s.m.tick ∧ t.m.tmb = s.m.tmb := by
  have hshows := s.m.showLock_shows lock
  have hkeeps : Mach.Keeps [TMB_STAT, TMB_TIME, TMB_TIME + 4] s.m (s.m.showLock lock) :=
    (s.m.keeps_showLock lock).mono (by simp)
  have htick := s.m.showLock_tick lock
  have htmb := s.m.showLock_tmb lock
  by_cases hset : lock = true ∧ s.m.tmb.wait = true
  · have hpass : (lock && (s.m.showLock lock).tmb.wait) = true := by rw [htmb, hset.1, hset.2]; rfl
    have hnow : ((s.m.showLock lock).endWait.setTime time.toNat 2).tick.now = time.toNat := by
      rw [Mach.setTime_tick]
      exact Nat.mod_eq_of_lt time.isLt
    have hended : ((s.m.showLock lock).endWait.setTime time.toNat 2).tmb.wait = false := by
      rw [Mach.setTime_tmb]
      rfl
    refine completes_change hdead (m := (s.m.showLock lock).endWait.setTime time.toNat 2) (if_pos hpass)
      ⟨(Mach.setTime_lock _ _ _).trans hshows,
        (hkeeps.of_regs (m'' := (s.m.showLock lock).endWait) rfl).trans (Mach.keeps_setTime _ _ _), ⟨rfl, rfl, rfl⟩, ?_⟩
    rw [if_pos hset]
    exact ⟨hnow, Mach.setTime_valid _ _ _, hended⟩
  · have hpass : ¬(lock && (s.m.showLock lock).tmb.wait) = true := by rw [htmb, Bool.and_eq_true]; exact hset
    refine completes_change hdead (m := s.m.showLock lock) (if_neg hpass) ⟨hshows, hkeeps, ⟨rfl, rfl, rfl⟩, ?_⟩
    rw [if_neg hset]
    exact ⟨htick, htmb⟩

theorem ptpWaitExpiry_completes (hwait : s.m.tmb.wait = true) : Completes (exec .ptpWaitExpiry s) fun t =>
    t.m.tmb.wait = false ∧ t.m.tick = s.m.tick ∧ KeepsRegs s t [] ∧ SameCores s t :=
  completes_change hdead (if_pos hwait) ⟨congrArg Tmb.wait (Mach.ledger_tmb _ _ _ _ _ _), Mach.ledger_tick _ _ _ _ _ _,
    ((Mach.Keeps.refl [] s.m).of_regs (m'' := s.m.endWait) rfl).ledger 0x0705 8 0 0 0, rfl, rfl, rfl⟩

theorem ppsPulse_completes (hvalid : s.m.timeValid = true) :
    Completes (exec .ppsPulse s) fun t => t = { s with m := s.m.emit .pps } :=
  completes_change hdead (if_pos hvalid) rfl

end

end Sys2Proof.Machine
end

section
open Sys2Proof Sys2Proof.Machine

/-- Settles O29: a set, a step and a lock are each followed once through what they leave of the tick and of the registers,
and a timestamp through the FIFO. In a primary a step only comes to wait; the guard moves plant time later (R286, log
entry 141). -/
theorem plantTimeCommands : Obligations.PlantTimeCommands := by
  unfold Obligations.PlantTimeCommands
  intro s hdead
  exact ⟨fun ptp hfree => timeSet_completes hdead ptp hfree,
    fun ptp hmode hvalid => timeSet_locked hdead ptp hmode hvalid,
    fun hsome hresync hstandby hfree => timeStep_completes hdead rfl hsome hresync hstandby hfree,
    fun hi w => addendWrite_completes hdead hi w rfl,
    fun _ _ hfifo htime hrest hseq htype hport => timestampPop_completes hdead hfifo htime hrest hseq htype hport,
    fun p sent mtype seqid time hport hmay hevent hroom =>
      ptpMessage_completes hdead p sent mtype seqid time hport hmay hevent hroom,
    fun lock time => ptpLockChange_completes hdead lock time,
    fun hwait => ptpWaitExpiry_completes hdead hwait,
    fun hvalid => ppsPulse_completes hdead hvalid⟩

end

section
/-! SUPPORT. The role line and the change to STANDBY: what they leave of the registers, and that only the change itself
moves the mode (R307, R310, R313, R332, R476). -/

namespace Sys2Proof.Machine

namespace Mach

/-! ### The role line (R310, R313) -/

theorem gxTransmit_wantMode (m : Mach) (on : Bool) : (m.gxTransmit on).wantMode = m.wantMode :=
  foldl_keeps wantMode (fun m p => setBit_wantMode m (GXP_CTL p) 1 on) _ m

theorem gxTransmit_pair (m : Mach) (on : Bool) : (m.gxTransmit on).pair = m.pair :=
  foldl_keeps pair (fun m p => setBit_pair m (GXP_CTL p) 1 on) _ m

/-- The transmitters write the control registers of the ports alone (R33, R215). -/
theorem rg_gxTransmit (m : Mach) (on : Bool) {a : Nat} (ha : ∀ p, a ≠ GXP_CTL p) :
    (m.gxTransmit on).rg a = m.rg a :=
  foldl_keeps (fun m => rg m a) (fun m p => rg_setBit_other m _ _ _ _ (ha p)) _ m

theorem ptlStat_ne_gxpCtl (p : Nat) : PTL_STAT ≠ GXP_CTL p := by
  simp only [PTL_STAT, GXP_CTL, gxpBase]
  omega

/-- A released line shows no output (R310). -/
theorem lineRelease_shows (m : Mach) : m.lineRelease.fld PTL_STAT 8 7 = 0 :=
  fld_setFld_same _ _ _ _ _ (by decide) (by decide)

/-- A standby whose partner is silent has diverged and wants RESYNC (R330). -/
def silentPartner (m : Mach) : Mach := { m with
  pair := { m.pair with diverged := true, heldAct := [], heldOut := [], waitAct := false, waitOut := false }
  wantMode := some 4 }

/-- The gate's test is noted (R341). -/
def gateTested (m : Mach) (released : Bool) : Mach := { m with pair := { m.pair with gateOk := released } }

/-- A primary whose line reads released wants HALTED, and its driver and its output are off (R313). -/
theorem roleLost_releases {m : Mach} (hmode : m.mode = 6) (hdriver : m.pair.driver = true) :
    m.roleLost.wantMode = some 7 ∧ m.roleLost.pair.driver = false ∧ m.roleLost.fld PTL_STAT 8 7 = 0 := by
  rw [roleLost, if_neg (by simp [hmode, hdriver])]
  refine ⟨?_, ?_, ?_⟩
  · rw [ledger_wantMode, gxTransmit_wantMode]
    rfl
  · rw [ledger_pair, gxTransmit_pair]
    rfl
  · rw [(ledger_frame _ _ _ _ _ _).fld_notMem (by decide), fld, rg_gxTransmit _ _ ptlStat_ne_gxpCtl]
    exact lineRelease_shows _

/-! ### The change to STANDBY (R307, R332, R476) -/

theorem instant_gxTransmit (m : Mach) (on : Bool) : (m.gxTransmit on).instant = m.instant := by
  refine List.foldlRecOn _ _ (motive := fun n : Mach => n.instant = m.instant) rfl fun n hn p hp => ?_
  have hport := (countFrom_mem hp).2
  rw [instant_setBit n _ _ _ (by simp only [GXP_CTL, gxpBase, CUR_MODE]; omega), hn]

theorem instant_lineRelease (m : Mach) : m.lineRelease.instant = m.instant :=
  (instant_setFld _ _ _ _ _ (by decide)).trans (instant_congr rfl rfl)

theorem instant_enterStandby (m : Mach) (old : Nat) : (m.enterStandby old).instant = m.instant := by
  unfold enterStandby
  extract_lets p jrn tmb opened shown
  have hopened : opened.instant = m.instant := rfl
  have hshown : shown.instant = m.instant := by
    rw [instant_setBit _ _ _ _ (by decide), instant_setBit _ _ _ _ (by decide), instant_setBit _ _ _ _ (by decide),
      instant_gxTransmit, hopened]
  split
  · rw [instant_setFld _ _ _ _ _ (by decide), consecClear, instant_setFld _ _ _ _ _ (by decide), hshown]
  · rw [instant_lineRelease, hshown]

theorem instant_canRole (m : Mach) (p : Nat) (primary : Bool) : (m.canRole p primary).instant = m.instant := by
  have hbase (k : Nat) : cfdBase p + k ≠ CUR_MODE := by simp only [cfdBase, CUR_MODE]; omega
  have hctl : CFD_CTL p ≠ CUR_MODE := hbase 0
  unfold canRole
  extract_lets on c lost
  have hlost : lost.instant = m.instant := by
    refine (instant_setFld _ _ _ _ _ (hbase 0x1C)).trans (instant_congr ?_ ?_) <;> (unfold setCan; split <;> rfl)
  split
  · rw [instant_wr _ _ _ (hbase 4), instant_setBit _ _ _ _ hctl]
  · split
    · rw [instant_wr _ _ _ (hbase 4), instant_setBit _ _ _ _ hctl, canShow, instant_wr _ _ _ (hbase 0x20), hlost]
    · rfl

theorem instant_drive (m : Mach) (n : Nat) (v : Bool) : (m.drive n v).instant = m.instant := by
  unfold drive
  extract_lets m
  split
  · rw [instant_setBit _ _ _ _ (by decide)]
    rfl
  · rfl

theorem instant_driveRole (m : Mach) (on : Bool) : (m.driveRole on).instant = m.instant := by
  unfold driveRole
  split
  · rfl
  · split
    · refine (foldl_keeps instant (fun m n => ?_) _ _).trans (instant_setBit _ _ _ _ (by decide))
      split
      · exact instant_drive _ _ _
      · rfl
    · exact instant_wr _ _ _ (by decide)

theorem instant_hostShow (m : Mach) : m.hostShow.instant = m.instant :=
  foldl_keeps instant (fun m p => by
    have hstat : HST_STAT p ≠ CUR_MODE := by simp only [HST_STAT, CUR_MODE]; omega
    rw [instant_setBit _ _ _ _ hstat, instant_setBit _ _ _ _ hstat]) _ m

theorem instant_modeRole (m : Mach) : m.modeRole.instant = m.instant := by
  unfold modeRole
  extract_lets prim ports shown
  have hports : ports.instant = m.instant := foldl_keeps instant (fun m p => instant_canRole m p prim) _ m
  have hshown : shown.instant = m.instant := by
    rw [instant_hostShow, instant_setFld _ _ _ _ _ (by decide), instant_driveRole, hports]
  split
  · exact hshown
  · rw [instant_setBit _ _ _ _ (by decide), hshown]

/-- A mode change shows its mode (R33, R476). -/
theorem mode_modeShow (m : Mach) {md : Nat} (hmd : md < 8) : (m.modeShow md).mode = md := by
  have hshow : (m.modeShow md).instant =
      ((m.wr CUR_MODE (m.mode * 2 ^ 8 + md)).ledger 0x0F01 11 (16 * m.mode + md) 0 0).instant := by
    rw [modeShow, bkpTick, instant_wr64 _ _ _ (by decide) (by decide), setBkpByte, instant_setFld _ _ _ _ _ (by decide)]
  rw [(eq_of_instant hshow).1, mode, fld, (ledger_frame _ _ _ _ _ _).rg_notMem (by decide), rg_wr_same]
  norm_num [bits]
  omega

/-- The change to STANDBY, whatever mode it leaves. -/
theorem mode_modeSet_standby (m : Mach) (solo : Bool) : (m.modeSet 5 solo).mode = 5 := by
  have hset : (m.modeSet 5 solo).instant = ((m.modeLeave 5).modeShow 5).instant :=
    calc (m.modeSet 5 solo).instant
      _ = (((m.modeLeave 5).modeShow 5).enterStandby m.mode).modeRole.instant := instant_congr rfl rfl
      _ = ((m.modeLeave 5).modeShow 5).instant := by rw [instant_modeRole, instant_enterStandby]
  rw [(eq_of_instant hset).1, mode_modeShow _ (by decide)]

/-- A swap ends its primary's service: the module stands by (R332). -/
theorem mode_swapDo {m : Mach} (hmode : m.mode = 6) (hdriver : m.pair.driver = false) : m.swapDo.mode = 5 := by
  have hdone (n : Mach) : n.swapDone.roleCount.instant = n.instant := by
    rw [roleCount, instant_wr64 _ _ _ (by decide) (by decide), instant_incFld _ _ _ _ (by decide), swapDone,
      instant_ledger]
    rfl
  rw [swapDo, if_pos (by simp [hmode, hdriver]), (eq_of_instant (hdone _)).1, mode_modeSet_standby]

end Mach
end Sys2Proof.Machine
end

section
/-! SUPPORT. The commands of the role and the limits that end a standby's service (R289, R310 to R313, R328 to R333, R341,
R342). -/

namespace Sys2Proof.Machine

/-! ### The role line (R310 to R313, R341) -/

section
variable {s : State} (hdead : s.m.dead = false)
include hdead

theorem roleSamplePoint_own (part : Bool) : Completes (exec (.roleSamplePoint true part) s) fun t =>
    t.m.bit PTL_STAT 8 = true ∧ t.m.bit PTL_STAT 9 = part ∧ KeepsRegs s t [PTL_STAT] ∧ SameCores s t :=
  completes_change hdead rfl
    ⟨(Mach.bit_setBit_field _ _ _ _ _ (by decide) (by decide)).trans (Mach.bit_setBit_same _ _ _ _ (by decide)),
      Mach.bit_setBit_same _ _ _ _ (by decide),
      ((Mach.Keeps.refl _ s.m).setBit (by simp) 8 true).setBit (by simp) 9 part, rfl, rfl, rfl⟩

section
variable (hmode : s.m.mode = 6) (hdriver : s.m.pair.driver = true)
include hmode hdriver

theorem roleSamplePoint_lost (part : Bool) : Completes (exec (.roleSamplePoint false part) s) fun t =>
    t.m.wantMode = some 7 ∧ t.m.pair.driver = false ∧ t.m.fld PTL_STAT 8 7 = 0 ∧ SameCores s t := by
  have hkeeps : Mach.Keeps [PTL_STAT] s.m ((s.m.setBit PTL_STAT 8 false).setBit PTL_STAT 9 part) :=
    ((Mach.Keeps.refl _ s.m).setBit (by simp) 8 false).setBit (by simp) 9 part
  obtain ⟨hwant, hreleased, hshown⟩ := Mach.roleLost_releases
    ((hkeeps.fld (by decide) (by decide) 2 0).trans hmode) hdriver
  exact completes_change hdead (if_neg Bool.false_ne_true) ⟨hwant, hreleased, hshown, rfl, rfl, rfl⟩

theorem roleLost_completes : Completes (exec .roleLost s) fun t =>
    t.m.wantMode = some 7 ∧ t.m.pair.driver = false ∧ t.m.fld PTL_STAT 8 7 = 0 ∧ SameCores s t := by
  obtain ⟨hwant, hreleased, hshown⟩ := Mach.roleLost_releases hmode hdriver
  exact completes_change hdead rfl ⟨hwant, hreleased, hshown, rfl, rfl, rfl⟩

end

theorem keeperRelease_completes : Completes (exec .keeperRelease s) fun t =>
    t.m.fld PTL_STAT 8 7 = 0 ∧ KeepsRegs s t [PTL_STAT] ∧ SameCores s t :=
  completes_change hdead rfl
    ⟨Mach.fld_setFld_same _ _ _ _ _ (by decide) (by decide), keepsRegs_setFld s _ _ _ _, rfl, rfl, rfl⟩

theorem roleContention_completes (hmode : s.m.mode = 6) (hslot : s.m.bit CUR_PAIR 1 = true) :
    Completes (exec .roleContention s) fun t =>
      t.m.fld PTL_STAT 8 7 = 0 ∧ t.m.bit PTL_STAT 9 = true ∧ KeepsRegs s t [PTL_STAT] ∧ SameCores s t :=
  completes_change hdead (if_pos ⟨hmode, hslot⟩)
    ⟨(Mach.fld_setBit_field _ _ _ _ _ _ (by decide) (by decide) (by decide)).trans
        (Mach.fld_setFld_same _ _ _ _ _ (by decide) (by decide)),
      Mach.bit_setBit_same _ _ _ _ (by decide),
      ((Mach.Keeps.refl _ s.m).setFld (by simp) 8 7 0).setBit (by simp) 9 true, rfl, rfl, rfl⟩

theorem roleGateTest_completes (released : Bool) (hmode : s.m.mode = 5) (hpartner : s.m.bit PTL_STAT 9 = true) :
    Completes (exec (.roleGateTest released) s) fun t =>
      t.m.pair.gateOk = released ∧ KeepsRegs s t [] ∧ SameCores s t := by
  have htest : ¬(s.m.mode ≠ 5 ∨ (!s.m.bit PTL_STAT 9) = true) := by simp [hmode, hpartner]
  have hkeeps : Mach.Keeps [] s.m (s.m.gateTested released) := (Mach.Keeps.refl [] s.m).of_regs rfl
  cases released with
  | true => exact completes_change hdead ((if_neg htest).trans (if_pos rfl)) ⟨rfl, hkeeps, rfl, rfl, rfl⟩
  | false =>
    exact completes_change hdead ((if_neg htest).trans (if_neg Bool.false_ne_true))
      ⟨congrArg Pair.gateOk (Mach.ledger_pair _ _ _ _ _ _), hkeeps.ledger 0x080B 5 0 0 0, rfl, rfl, rfl⟩

/-! ### The claim and the swap (R332, R333) -/

theorem claimWaitExpiry_completes (hclaiming : s.m.claiming = true) (hpartner : s.m.bit PTL_STAT 9 = false) :
    Completes (exec .claimWaitExpiry s) fun t => KeepsRegs s t [] ∧ SameCores s t ∧
      if s.m.pair.lastRole = 6 ∧ s.m.pair.partial_ = false then t.m.pair.claim = 2
      else t.m.pair.claim = 4 ∧ t.m.wantMode = some 7 := by
  have hends : ¬((!s.m.claiming) = true ∨ s.m.bit PTL_STAT 9 = true) := by simp [hclaiming, hpartner]
  by_cases hmay : s.m.pair.lastRole = 6 ∧ s.m.pair.partial_ = false
  · simp only [hmay, and_self, if_true]
    exact completes_change hdead ((if_neg hends).trans (if_pos (by simp [hmay])))
      ⟨fun _ _ _ => rfl, ⟨rfl, rfl, rfl⟩, rfl⟩
  · simp only [hmay, if_false]
    exact completes_change hdead ((if_neg hends).trans (if_neg (by simpa using hmay)))
      ⟨fun _ _ _ => rfl, ⟨rfl, rfl, rfl⟩, rfl, rfl⟩

theorem claim_completes (w : Writer) (hmode : s.m.mode = 7) (hwhole : s.m.pair.partial_ = false)
    (hwithheld : s.m.pair.claim = 4) (hpartner : s.m.bit PTL_STAT 9 = false) : Completes (exec (.claim w) s) fun t =>
      t.m.pair.claim = 2 ∧ t.m.out = s.m.out ++ [.status "OK"] ∧ KeepsRegs s t [] ∧ SameCores s t :=
  completes_access hdead (((if_neg (not_not.mpr hmode)).trans (if_neg (by simp [hwhole]))).trans
      (if_neg (by simp [hwithheld, hpartner])))
    ⟨rfl, rfl, fun _ _ _ => rfl, rfl, rfl, rfl⟩

theorem swap_completes (w : Writer) (hfree : s.m.swapRefuse = 0) : Completes (exec (.swap w) s) fun t =>
    (s.m.swapTick, 1) ∈ t.m.pair.events ∧ t.m.out = s.m.out ++ [.status "OK"] ∧ SameCores s t := by
  refine completes_access hdead (m := (s.m.eventPut s.m.swapTick 1).emit (.status "OK")) (by simp only [hfree])
    ⟨?_, rfl, rfl, rfl, rfl⟩
  exact List.mem_append_right _ (List.mem_singleton_self _)

theorem maintenanceSwap_completes (hmode : s.m.mode = 6) (hdue : s.m.swapDue = true) (hphase : s.m.tick.phase = 0)
    (hdriver : s.m.pair.driver = false) :
    Completes (exec .maintenanceSwap s) fun t => t.m.mode = 5 ∧ SameCores s t :=
  completes_change hdead (if_pos ⟨hdue, hphase⟩) ⟨Mach.mode_swapDo hmode hdriver, rfl, rfl, rfl⟩

/-! ### What ends a standby's service (R289, R328, R330, R342) -/

section
variable (hmode : s.m.mode = 5)
include hmode

theorem partnerLinkLost_completes (hpair : s.m.pair.diverged = false) (hsilent : 2 ≤ s.m.pair.silent)
    (hpartner : s.m.bit PTL_STAT 9 = true) : Completes (exec .partnerLinkLost s) fun t =>
      t.m.wantMode = some 4 ∧ t.m.pair.diverged = true ∧ t.m.bit PTL_STAT 6 = false ∧ KeepsRegs s t [PTL_STAT] ∧
      SameCores s t := by
  have hrecord := (s.m.silentPartner.setBit PTL_STAT 6 false).ledger_frame 0x0804 5 0 0 0
  have hkeeps : Mach.Keeps [PTL_STAT] s.m (s.m.silentPartner.setBit PTL_STAT 6 false) :=
    ((Mach.Keeps.refl _ s.m).of_regs (m'' := s.m.silentPartner) rfl).setBit (by simp) 6 false
  have hlost : ¬(s.m.mode ≠ 5 ∨ s.m.pair.diverged = true ∨ s.m.pair.silent < 2 ∨ (!s.m.bit PTL_STAT 9) = true) := by
    simp only [hmode, hpair, hpartner, Nat.not_lt.mpr hsilent]
    decide
  exact completes_change hdead (if_neg hlost)
    ⟨hrecord.wantMode, congrArg Pair.diverged hrecord.pair,
      (hrecord.bit_notMem (by decide) 6).trans (Mach.bit_setBit_same _ _ _ _ (by decide)),
      hkeeps.ledger _ _ _ _ _, rfl, rfl, rfl⟩

theorem pairTimeLimit_completes (hlimit : 4 ≤ s.m.tmb.exceeds) : Completes (exec .pairTimeLimit s) fun t =>
    t.m.bit TMB_STAT 7 = true ∧ KeepsRegs s t [TMB_STAT] ∧ SameCores s t := by
  cases hshown : s.m.bit TMB_STAT 7 with
  | true =>
    exact completes_change hdead (if_neg (by simp [hshown])) ⟨hshown, fun _ _ _ => rfl, rfl, rfl, rfl⟩
  | false =>
    have hrecord := (s.m.setBit TMB_STAT 7 true).ledger_frame 0x0706 8 0 0 0
    exact completes_change hdead (if_pos ⟨hmode, hlimit, by simp [hshown]⟩)
      ⟨(hrecord.bit_notMem (by decide) 7).trans (Mach.bit_setBit_same _ _ _ _ (by decide)),
        ((Mach.Keeps.refl _ s.m).setBit (by simp) 7 true).ledger _ _ _ _ _, rfl, rfl, rfl⟩

theorem timeokLimit_completes (hlimit : 1024 ≤ s.m.tmb.bad) (hwant : s.m.wantMode = none) :
    Completes (exec .timeokLimit s) fun t => t = { s with m := { s.m with wantMode := some 4 } } :=
  completes_change hdead (if_pos ⟨hmode, hlimit, by simp [hwant]⟩) rfl

theorem rejoinLimit_completes (hpair : s.m.pair.diverged = true) (hwant : s.m.wantMode = some 4)
    (hlimit : s.m.fld PTL_CFG 15 12 < s.m.pair.divTimes.length) : Completes (exec .rejoinLimit s) fun t =>
      t.m.wantMode = some 7 ∧ KeepsRegs s t [] ∧ SameCores s t :=
  completes_change hdead (if_pos ⟨hpair, hwant, hmode, hlimit⟩) ⟨Mach.ledger_wantMode _ _ _ _ _ _,
    ((Mach.Keeps.refl [] s.m).of_regs (m'' := { s.m with wantMode := some 7 }) rfl).ledger 0x0803 5 0 0 0, rfl, rfl, rfl⟩

end

end

end Sys2Proof.Machine
end

section
open Sys2Proof Sys2Proof.Machine

/-- Settles O35: what the line shows and the driver does is followed once through a lost role and once through a swap; the
other commands are each a change of their own. What KEEPER_RELEASE shows is log entry 57, and that a partial checkpoint
withholds the claim of a LASTROLE PRIMARY is log entry 67. -/
theorem roleCommands : Obligations.RoleCommands := by
  unfold Obligations.RoleCommands
  intro w s hdead lost
  exact ⟨fun part => roleSamplePoint_own hdead part,
    fun hmode hdriver => ⟨fun part => roleSamplePoint_lost hdead hmode hdriver part,
      roleLost_completes hdead hmode hdriver⟩,
    keeperRelease_completes hdead,
    fun hmode hslot => roleContention_completes hdead hmode hslot,
    fun released hmode hpartner => roleGateTest_completes hdead released hmode hpartner,
    fun hclaiming hpartner => claimWaitExpiry_completes hdead hclaiming hpartner,
    fun hmode hwhole hwithheld hpartner => claim_completes hdead w hmode hwhole hwithheld hpartner,
    fun hfree => swap_completes hdead w hfree,
    fun hmode hdue hphase hdriver => maintenanceSwap_completes hdead hmode hdue hphase hdriver,
    fun hmode hpair hsilent hpartner => partnerLinkLost_completes hdead hmode hpair hsilent hpartner,
    fun hmode hlimit => pairTimeLimit_completes hdead hmode hlimit,
    fun hmode hlimit hwant => timeokLimit_completes hdead hmode hlimit hwant,
    fun hmode hpair hwant hlimit => rejoinLimit_completes hdead hmode hpair hwant hlimit⟩

end

section
/-! SUPPORT. The real-time clock: the next second and the alarm, the release of HALT, the shadows, and a lost backup domain
(R299 to R305, R309). -/

namespace Sys2Proof.Machine

/-- The next second fits the registers that show it (R299, R300). -/
theorem nextSecond_lt {time date tm d : Nat} (h : nextSecond time date = some (tm, d)) (hdate : date < 2 ^ 32) :
    tm < 2 ^ 32 ∧ d < 2 ^ 32 := by
  have hyear := bits_lt date 23 16
  have hmonth := bits_lt date 11 8
  have hday := bits_lt date 4 0
  have hhour := bits_lt time 20 16
  have hminute := bits_lt time 13 8
  have hsecond := bits_lt time 5 0
  unfold nextSecond at h
  extract_lets y mo dy hr mi sec at h
  split_ifs at h <;> (obtain ⟨rfl, rfl⟩ := Prod.mk.inj (Option.some.inj h); omega)

/-- A field that a mask covers reads the same through it. -/
theorem bits_and_covered {mask hi lo : Nat} (hmask : ∀ i < hi - lo + 1, mask.testBit (lo + i) = true) (v : Nat) :
    bits (v &&& mask) hi lo = bits v hi lo := by
  refine Nat.eq_of_testBit_eq fun i => ?_
  rw [testBit_bits, testBit_bits, Nat.testBit_and]
  by_cases hi' : i < hi - lo + 1
  · rw [hmask i hi', Bool.and_true]
  · simp only [hi', decide_false, Bool.false_and]

namespace Mach

/-! ### The alarm (R304, R305) -/

/-- What the alarm and its hold change of the clock: bits 2 to 5 of RTC_STAT and the alarm's own enable; neither HALT nor
VLOST (R304, R305). -/
structure AlarmOnly (m m' : Mach) : Prop where
  keeps : Keeps [RTC_CTL, RTC_STAT] m m'
  halt  : m'.bit RTC_CTL 0 = m.bit RTC_CTL 0
  shown : m'.bit RTC_STAT 0 = m.bit RTC_STAT 0
  vlost : m'.bit RTC_STAT 6 = m.bit RTC_STAT 6

namespace AlarmOnly

theorem refl (m : Mach) : AlarmOnly m m := ⟨Keeps.refl _ m, rfl, rfl, rfl⟩

theorem trans {m m' m'' : Mach} (h : AlarmOnly m m') (h' : AlarmOnly m' m'') : AlarmOnly m m'' :=
  ⟨h.keeps.trans h'.keeps, h'.halt.trans h.halt, h'.shown.trans h.shown, h'.vlost.trans h.vlost⟩

theorem stat (m : Mach) {k : Nat} (hk : k ∈ [2, 3, 4, 5]) (v : Bool) : AlarmOnly m (m.setBit RTC_STAT k v) := by
  simp only [List.mem_cons, List.not_mem_nil, or_false] at hk
  exact ⟨(Keeps.refl _ m).setBit (by simp) k v, bit_setBit_other _ _ _ _ _ _ (by decide),
    bit_setBit_field _ _ _ _ _ (by omega) (by omega), bit_setBit_field _ _ _ _ _ (by omega) (by omega)⟩

theorem disarm (m : Mach) : AlarmOnly m (m.setBit RTC_CTL 1 false) :=
  ⟨(Keeps.refl _ m).setBit (by simp) 1 false, bit_setBit_field _ _ _ _ _ (by decide) (by decide),
    bit_setBit_other _ _ _ _ _ _ (by decide), bit_setBit_other _ _ _ _ _ _ (by decide)⟩

theorem fire (m : Mach) (skipped : Bool) : AlarmOnly m (m.alarmFire skipped) := by
  have hshown := (stat m (k := 2) (by simp) true).trans (stat _ (k := 3) (by simp) skipped)
  unfold alarmFire
  dsimp only
  split
  · exact hshown.trans (disarm _)
  · exact hshown

end AlarmOnly

/-- A fired alarm shows (R304). -/
theorem alarmFire_shows (m : Mach) (skipped : Bool) : (m.alarmFire skipped).bit RTC_STAT 2 = true := by
  have hshown : ((m.setBit RTC_STAT 2 true).setBit RTC_STAT 3 skipped).bit RTC_STAT 2 = true := by
    rw [bit_setBit_field _ _ _ _ _ (by decide) (by decide), bit_setBit_same _ _ _ _ (by decide)]
  unfold alarmFire
  dsimp only
  split
  · rw [bit_setBit_other _ _ _ _ _ _ (by decide), hshown]
  · exact hshown

/-- The alarm matches by the calendar and its own two registers. -/
theorem alarmMatches_congr {as : List Nat} {m m' : Mach} (h : Keeps as m m')
    (has : RTC_ALMTIME ∉ as ∧ RTC_TIME ∉ as ∧ RTC_ALMDATE ∉ as ∧ RTC_DATE ∉ as) : m'.alarmMatches = m.alarmMatches := by
  obtain ⟨halmtime, htime, halmdate, hdate⟩ := has
  rw [alarmMatches, h _ halmtime (by decide), h _ htime (by decide), h _ halmdate (by decide), h _ hdate (by decide),
    alarmMatches]

/-! ### Seconds (R299) -/

/-- The calendar shows a new second. -/
def showSecond (m : Mach) (tm d : Nat) : Mach := ((m.wr RTC_TIME tm).wr RTC_DATE d).wr RTC_SUB 0

/-- HOLD ends with the first second past the value that it waits for (R305). -/
def holdPast (m : Mach) : Mach :=
  if m.bit RTC_STAT 4 && decide (m.rtc.haltSec < m.rtcSeconds) then m.setBit RTC_STAT 4 false else m

/-- The alarm is matched, unless HOLD is set (R304, R305). -/
def alarmTry (m : Mach) : Mach :=
  if m.bit RTC_CTL 1 && !m.bit RTC_STAT 4 && m.alarmMatches then m.alarmFire false else m

section
variable (m : Mach)

theorem keeps_showSecond (tm d : Nat) : Keeps [RTC_TIME, RTC_DATE, RTC_SUB] m (m.showSecond tm d) :=
  (((Keeps.refl _ m).wr (by simp) tm).wr (by simp) d).wr (by simp) 0

theorem showSecond_shows {tm d : Nat} (htm : tm < 2 ^ 32) (hd : d < 2 ^ 32) :
    (m.showSecond tm d).rg RTC_TIME = tm ∧ (m.showSecond tm d).rg RTC_DATE = d := by
  rw [showSecond, rg_wr_other _ _ _ _ (by decide), rg_wr_other _ _ _ _ (by decide), rg_wr_same,
    rg_wr_other _ _ _ _ (by decide), rg_wr_same, Nat.mod_eq_of_lt htm, Nat.mod_eq_of_lt hd]
  exact ⟨rfl, rfl⟩

theorem alarmOnly_holdPast : AlarmOnly m m.holdPast := by
  unfold holdPast
  split
  · exact AlarmOnly.stat m (by simp) false
  · exact AlarmOnly.refl m

theorem alarmOnly_alarmTry : AlarmOnly m m.alarmTry := by
  unfold alarmTry
  split
  · exact AlarmOnly.fire m false
  · exact AlarmOnly.refl m

/-- An enabled alarm that no HOLD holds back fires in the second that it matches (R304). -/
theorem alarm_fires (harmed : m.bit RTC_CTL 1 = true) (hfree : m.bit RTC_STAT 4 = false)
    (hmatch : m.holdPast.alarmTry.alarmMatches = true) : m.holdPast.alarmTry.bit RTC_STAT 2 = true := by
  have hpast : m.holdPast = m := if_neg (by simp [hfree])
  rw [hpast, alarmMatches_congr m.alarmOnly_alarmTry.keeps (by decide)] at hmatch
  rw [hpast, alarmTry, if_pos (by simp [harmed, hfree, hmatch]), alarmFire_shows]

/-! ### HALT (R302, R305) -/

/-- The value at which the clock is halted is kept (R302). -/
def haltValue (sub : Nat) : Mach := { m with rtc := { m.rtc with haltSec := m.rtcSeconds, haltSub := sub } }

/-- The clock goes on (R302). -/
def clockGoes : Mach := (m.setBit RTC_CTL 0 false).setBit RTC_STAT 0 false

theorem keeps_clockGoes : Keeps [RTC_CTL, RTC_STAT] m m.clockGoes :=
  ((Keeps.refl _ m).setBit (by simp) 0 false).setBit (by simp) 0 false

theorem clockGoes_shows : m.clockGoes.bit RTC_CTL 0 = false ∧ m.clockGoes.bit RTC_STAT 0 = false := by
  refine ⟨?_, bit_setBit_same _ _ _ _ (by decide)⟩
  rw [clockGoes, bit_setBit_other _ _ _ _ _ _ (by decide), bit_setBit_same _ _ _ _ (by decide)]

theorem clockGoes_vlost : m.clockGoes.bit RTC_STAT 6 = m.bit RTC_STAT 6 := by
  rw [clockGoes, bit_setBit_field _ _ _ _ _ (by decide) (by decide), bit_setBit_other _ _ _ _ _ _ (by decide)]

theorem clockGoes_seconds : m.clockGoes.rtcSeconds = m.rtcSeconds := by
  rw [rtcSeconds, m.keeps_clockGoes _ (by decide) (by decide), m.keeps_clockGoes _ (by decide) (by decide), rtcSeconds]

end

/-- A halted clock with a date that exists goes on; beyond that its alarm alone acts, and HOLD is set where the calendar has
been put back (R302, R305). -/
theorem rtcRelease_goes {m : Mach} (hhalt : m.bit RTC_CTL 0 = true) (hdate : dateExists (m.rg RTC_DATE) = true) :
    AlarmOnly m.clockGoes m.rtcRelease ∧ (m.rtcSeconds < m.rtc.haltSec → m.rtcRelease.bit RTC_STAT 4 = true) := by
  rw [rtcRelease, if_neg (by simp [hhalt]), if_neg (by simp [hdate])]
  extract_lets going hs hb ws wb stop day skipped at_ fired
  have hseconds : ws = m.rtcSeconds := m.clockGoes_seconds
  have hfired : AlarmOnly going fired := by
    unfold fired
    split
    · exact AlarmOnly.fire going true
    · exact AlarmOnly.refl going
  have hback : hs = m.rtc.haltSec := rfl
  split
  · exact ⟨AlarmOnly.stat going (by simp) true, fun _ => bit_setBit_same _ _ _ _ (by decide)⟩
  next hahead =>
    refine ⟨?_, fun hlt => absurd (.inl (by omega)) hahead⟩
    split
    · split
      · split
        · exact hfired.trans (AlarmOnly.stat fired (by simp) true)
        · exact hfired.trans (AlarmOnly.fire fired false)
      · exact hfired
    · exact AlarmOnly.refl going

/-- A release leaves every register but those of the control and the state, and VLOST. -/
theorem rtcRelease_leaves (m : Mach) :
    Keeps [RTC_CTL, RTC_STAT] m m.rtcRelease ∧ m.rtcRelease.bit RTC_STAT 6 = m.bit RTC_STAT 6 := by
  by_cases hhalt : m.bit RTC_CTL 0 = true
  · by_cases hdate : dateExists (m.rg RTC_DATE) = true
    · obtain ⟨halarm, -⟩ := rtcRelease_goes hhalt hdate
      exact ⟨m.keeps_clockGoes.trans halarm.keeps, halarm.vlost.trans m.clockGoes_vlost⟩
    · rw [rtcRelease, if_neg (by simp [hhalt]), if_pos (by simp [hdate])]
      exact ⟨(AlarmOnly.stat m (by simp) true).keeps, (AlarmOnly.stat m (by simp) true).vlost⟩
  · rw [rtcRelease, if_pos (by simp [hhalt])]
    exact ⟨Keeps.refl _ m, rfl⟩

/-! ### Shadows (R301) -/

/-- The first read under shadowing freezes the three registers (R301). -/
def freezeShadow (m : Mach) (live : Nat × Nat × Nat) : Mach :=
  if m.shadowOn && m.rtc.shadow.isNone then
    ({ m with rtc := { m.rtc with shadow := some live } }).setBit RTC_STAT 1 true else m

section
variable (m : Mach) (live : Nat × Nat × Nat)

theorem freezeShadow_out : (m.freezeShadow live).out = m.out := by
  unfold freezeShadow
  split <;> rfl

theorem keeps_freezeShadow : Keeps [RTC_STAT] m (m.freezeShadow live) := by
  unfold freezeShadow
  split
  · exact ((Keeps.refl _ m).of_regs (m'' := { m with rtc := { m.rtc with shadow := some live } }) rfl).setBit (by simp) 1
      true
  · exact Keeps.refl _ m

/-- Under shadowing the shadows then hold what the read finds. -/
theorem freezeShadow_shadow : (m.freezeShadow live).rtc.shadow =
    if m.shadowOn then some (m.rtc.shadow.getD live) else m.rtc.shadow := by
  unfold freezeShadow
  cases m.shadowOn with
  | false => rfl
  | true => cases hshadow : m.rtc.shadow <;> simp [hshadow]

theorem keeps_shadowDrop : Keeps [RTC_STAT] m m.shadowDrop :=
  ((Keeps.refl _ m).of_regs (m'' := { m with rtc := { m.rtc with shadow := none } }) rfl).setBit (by simp) 1 false

end

/-! ### The backup domain (R299, R309) -/

/-- A register of a range that is reset holds its value after power-on. -/
theorem rg_resetRegs (m : Mach) (lo hi a : Nat) :
    (m.resetRegs lo hi).rg a = if lo ≤ a ∧ a < lo + (hi - lo) then (regReset a).toNat else m.rg a := by
  simp only [rg, resetRegs, tabGet_tabErase]
  split <;> rfl

/-- The backup RAM after a lost supply (R309; log entry 26). -/
def backupRamLost (m : Mach) : Mach :=
  (countFrom 0 32).foldl (fun m k => let (v, m) := m.free; m.wr (RTC_BKP k) v) m

/-- The calendar and the backup RAM after a lost supply hold free values (R309; log entry 26). -/
def backupValuesLost (m : Mach) : Mach :=
  let (t, m) := m.free
  let (d, m) := m.free
  let (x, m) := m.free
  (((m.wr RTC_TIME (t &&& (fm 20 16 + fm 13 8 + fm 5 0))).wr RTC_DATE (d &&& (fm 23 16 + fm 11 8 + fm 4 0))).wr RTC_SUB
    (x % 2 ^ 15)).backupRamLost

/-- Only the calendar and the backup RAM have lost their values. -/
theorem rg_backupValuesLost (m : Mach) {a : Nat} (hcal : a ∉ [RTC_TIME, RTC_DATE, RTC_SUB])
    (hram : ∀ k < 32, a ≠ RTC_BKP k) : m.backupValuesLost.rg a = m.rg a := by
  have hlost (n : Mach) : n.backupRamLost.rg a = n.rg a := by
    refine List.foldlRecOn _ _ (motive := fun x : Mach => x.rg a = n.rg a) rfl fun x hx k hk => ?_
    have hk' := (countFrom_mem hk).2
    exact (rg_wr_other _ _ _ _ (hram k (by omega))).trans hx
  simp only [List.mem_cons, List.not_mem_nil, or_false, not_or] at hcal
  obtain ⟨htime, hdate, hsub⟩ := hcal
  unfold backupValuesLost
  dsimp only
  rw [hlost, rg_wr_other _ _ _ _ hsub, rg_wr_other _ _ _ _ hdate, rg_wr_other _ _ _ _ htime]
  rfl

/-- The backup domain after its supply was lost (R299, R309). -/
def backupLost (m : Mach) : Mach :=
  (({ m with rtc := {} } : Mach).resetRegs 0x080C0000 0x080D0000).backupValuesLost.setBit RTC_STAT 6 true

theorem rg_backupLost (m : Mach) {a : Nat} (hstat : a ≠ RTC_STAT) (hcal : a ∉ [RTC_TIME, RTC_DATE, RTC_SUB])
    (hram : ∀ k < 32, a ≠ RTC_BKP k) :
    m.backupLost.rg a = if 0x080C0000 ≤ a ∧ a < 0x080D0000 then (regReset a).toNat else m.rg a := by
  rw [backupLost, rg_setBit_other _ _ _ _ _ hstat, rg_backupValuesLost _ hcal hram, rg_resetRegs]
  rfl

theorem rg_backupLost_outside (m : Mach) {a : Nat} (ha : a < 0x080C0000 ∨ 0x080D0000 ≤ a) :
    m.backupLost.rg a = m.rg a := by
  have hstat : a ≠ RTC_STAT := by simp only [RTC_STAT]; omega
  have hcal : a ∉ [RTC_TIME, RTC_DATE, RTC_SUB] := by
    simp only [List.mem_cons, List.not_mem_nil, or_false, RTC_TIME, RTC_DATE, RTC_SUB]
    omega
  have hram : ∀ k < 32, a ≠ RTC_BKP k := fun k hk => by simp only [RTC_BKP]; omega
  rw [rg_backupLost m hstat hcal hram, if_neg (by omega)]

end Mach
end Sys2Proof.Machine
end

section
/-! SUPPORT. The commands of the real-time clock (R299 to R305, R309). -/

namespace Sys2Proof.Machine

/-! ### What reaches the clock in every module (R299, R301, R303, R309) -/

section
variable {s : State}

theorem rtcSecond_completes {tm d : Nat} (hgoing : s.m.bit RTC_CTL 0 = false)
    (hnext : nextSecond (s.m.rg RTC_TIME) (s.m.rg RTC_DATE) = some (tm, d)) : Completes (exec .rtcSecond s) fun t =>
      t.m.rg RTC_TIME = tm ∧ t.m.rg RTC_DATE = d ∧ t.m.rg RTC_SUB = 0 ∧
      (s.m.bit RTC_CTL 1 = true → s.m.bit RTC_STAT 4 = false → t.m.alarmMatches = true → t.m.bit RTC_STAT 2 = true) ∧
      KeepsRegs s t [RTC_TIME, RTC_DATE, RTC_SUB, RTC_STAT, RTC_CTL] ∧ SameCores s t := by
  obtain ⟨htm, hd⟩ := nextSecond_lt hnext (s.m.rg_lt RTC_DATE)
  have hkeeps := s.m.keeps_showSecond tm d
  have hshown := s.m.showSecond_shows htm hd
  have halarm := (s.m.showSecond tm d).alarmOnly_holdPast.keeps.trans (Mach.alarmOnly_alarmTry _).keeps
  refine completes_mod (f := fun _ => (s.m.showSecond tm d).holdPast.alarmTry) ?_ ⟨?_, ?_, ?_, ?_, ?_, rfl, rfl, rfl⟩
  · refine congrArg (fun n : Mach => Host.Outcome.next { s with m := n }) ?_
    exact (if_neg (by simp [hgoing])).trans (by simp only [hnext]; rfl)
  · exact (halarm _ (by decide) (by decide)).trans hshown.1
  · exact (halarm _ (by decide) (by decide)).trans hshown.2
  · exact (halarm _ (by decide) (by decide)).trans (Mach.rg_wr_same _ _ _)
  · exact fun harmed hfree => Mach.alarm_fires _ ((hkeeps.bit (by decide) (by decide) 1).trans harmed)
      ((hkeeps.bit (by decide) (by decide) 4).trans hfree)
  · exact (hkeeps.mono (by simp)).trans (halarm.mono (by simp))

theorem rtcTrimWindow_completes : Completes (exec .rtcTrimWindow s) fun t =>
    t = { s with m := { s.m with rtc := { s.m.rtc with trim := s.m.rg RTC_TRIM } } } :=
  completes_mod rfl rfl

theorem shadowRelease_completes : Completes (exec .shadowRelease s) fun t =>
    t.m.rtc.shadow = none ∧ t.m.bit RTC_STAT 1 = false ∧ KeepsRegs s t [RTC_STAT] ∧ SameCores s t :=
  completes_mod (f := Mach.shadowDrop) rfl
    ⟨rfl, Mach.bit_setBit_same _ _ _ _ (by decide), s.m.keeps_shadowDrop, rfl, rfl, rfl⟩

theorem exec_backupSupplyLost : exec .backupSupplyLost s = .next (s.mod Mach.backupLost) := rfl

theorem backupSupplyLost_completes : Completes (exec .backupSupplyLost s) fun t =>
    t.m.bit RTC_STAT 6 = true ∧ t.m.rg RTC_CTL = (regReset RTC_CTL).toNat ∧
    t.m.rg RTC_ALMTIME = (regReset RTC_ALMTIME).toNat ∧ t.m.rg RTC_TRIM = (regReset RTC_TRIM).toNat ∧
    (∀ a, a < 0x080C0000 ∨ 0x080D0000 ≤ a → t.m.rg a = s.m.rg a) ∧ SameCores s t := by
  have hreset {a : Nat} (ha : a ∈ [RTC_CTL, RTC_ALMTIME, RTC_TRIM]) : s.m.backupLost.rg a = (regReset a).toNat := by
    simp only [List.mem_cons, List.not_mem_nil, or_false] at ha
    rcases ha with rfl | rfl | rfl <;> exact s.m.rg_backupLost (by decide) (by decide) (by decide)
  exact completes_mod exec_backupSupplyLost ⟨Mach.bit_setBit_same _ _ _ _ (by decide), hreset (by simp), hreset (by simp),
    hreset (by simp), fun _ ha => s.m.rg_backupLost_outside ha, rfl, rfl, rfl⟩

end

/-! ### What reaches the clock of a module that serves (R299 to R302, R304, R305) -/

section
variable {s : State} (hdead : s.m.dead = false)
include hdead

theorem rtcHaltSet_completes (sub : BitVec 15) (hgoing : s.m.bit RTC_CTL 0 = false) :
    Completes (exec (.rtcHaltSet sub) s) fun t =>
      t.m.rg RTC_SUB = sub.toNat ∧ t.m.bit RTC_CTL 0 = true ∧ t.m.bit RTC_STAT 0 = true ∧
      KeepsRegs s t [RTC_SUB, RTC_CTL, RTC_STAT] ∧ SameCores s t := by
  have hkeeps : Mach.Keeps [RTC_SUB, RTC_CTL, RTC_STAT] s.m
      ((((s.m.haltValue sub.toNat).wr RTC_SUB sub.toNat).setBit RTC_CTL 0 true).setBit RTC_STAT 0 true) :=
    ((((Mach.Keeps.refl _ s.m).of_regs (m'' := s.m.haltValue sub.toNat) rfl).wr (by simp) _).setBit (by simp) 0
      true).setBit (by simp) 0 true
  have hfits : sub.toNat < 2 ^ 32 := by omega
  refine completes_change hdead (if_neg (by simp [hgoing])) ⟨?_, ?_, ?_, hkeeps, rfl, rfl, rfl⟩
  · rw [Mach.rg_setBit_other _ _ _ _ _ (by decide), Mach.rg_setBit_other _ _ _ _ _ (by decide), Mach.rg_wr_same,
      Nat.mod_eq_of_lt hfits]
  · rw [Mach.bit_setBit_other _ _ _ _ _ _ (by decide), Mach.bit_setBit_same _ _ _ _ (by decide)]
  · exact Mach.bit_setBit_same _ _ _ _ (by decide)

theorem rtcRelease_completes (hhalt : s.m.bit RTC_CTL 0 = true) : Completes (exec .rtcRelease s) fun t =>
    SameCores s t ∧ KeepsRegs s t [RTC_CTL, RTC_STAT] ∧
    if dateExists (s.m.rg RTC_DATE) then t.m.bit RTC_CTL 0 = false ∧ t.m.bit RTC_STAT 0 = false ∧
      (s.m.rtcSeconds < s.m.rtc.haltSec → t.m.bit RTC_STAT 4 = true)
    else t.m.bit RTC_CTL 0 = true ∧ t.m.bit RTC_STAT 5 = true := by
  refine completes_change (f := Mach.rtcRelease) hdead rfl ⟨⟨rfl, rfl, rfl⟩, s.m.rtcRelease_leaves.1, ?_⟩
  by_cases hdate : dateExists (s.m.rg RTC_DATE) = true
  · obtain ⟨halarm, hback⟩ := Mach.rtcRelease_goes hhalt hdate
    obtain ⟨hgoes, hshown⟩ := s.m.clockGoes_shows
    rw [if_pos hdate]
    exact ⟨halarm.halt.trans hgoes, halarm.shown.trans hshown, hback⟩
  · have hrefused : s.m.rtcRelease = s.m.setBit RTC_STAT 5 true :=
      (if_neg (by simp [hhalt])).trans (if_pos (by simp [hdate]))
    rw [if_neg hdate]
    dsimp only
    rw [hrefused]
    exact ⟨(Mach.bit_setBit_other _ _ _ _ _ _ (by decide)).trans hhalt, Mach.bit_setBit_same _ _ _ _ (by decide)⟩

theorem rtcShadowRead_completes (r : RtcReg) (sub : BitVec 15) {live v : Nat × Nat × Nat}
    (hlive : live = (if s.m.bit RTC_CTL 0 then s.m.rg RTC_SUB else sub.toNat, s.m.rg RTC_TIME, s.m.rg RTC_DATE))
    (hv : v = if s.m.shadowOn then s.m.rtc.shadow.getD live else live) :
    Completes (exec (.rtcShadowRead r sub) s) fun t =>
      t.m.out = s.m.out ++ [.data (leBytes 4 (match r with | .sub => v.1 | .time => v.2.1 | .date => v.2.2))] ∧
      t.m.rtc.shadow = (if r = .date then none else if s.m.shadowOn then some v else s.m.rtc.shadow) ∧
      KeepsRegs s t [RTC_STAT] ∧ SameCores s t := by
  have hout := s.m.freezeShadow_out live
  have hkeeps := s.m.keeps_freezeShadow live
  have hshadow : (s.m.freezeShadow live).rtc.shadow = if s.m.shadowOn then some v else s.m.rtc.shadow := by
    rw [Mach.freezeShadow_shadow, hv]
    cases s.m.shadowOn <;> rfl
  subst hlive hv
  cases r with
  | sub => exact completes_change hdead rfl ⟨congrArg (· ++ _) hout, hshadow, hkeeps.of_regs rfl, rfl, rfl, rfl⟩
  | time => exact completes_change hdead rfl ⟨congrArg (· ++ _) hout, hshadow, hkeeps.of_regs rfl, rfl, rfl, rfl⟩
  | date =>
    exact completes_change hdead rfl
      ⟨congrArg (· ++ _) hout, rfl, (hkeeps.of_regs rfl).trans (Mach.keeps_shadowDrop _), rfl, rfl, rfl⟩

/-- A value in range is stored in the fields of an alarm register and clears HOLD; another is refused (R305, R309). -/
theorem alarmValue_completes {w : Writer} {f : Mach → Mach} {range : Bool} {a mask : Nat} {v : BitVec 32}
    {fields : List (Nat × Nat)} (ha : a ∈ [RTC_ALMTIME, RTC_ALMDATE])
    (hfields : ∀ k ∈ fields, ∀ i < k.1 - k.2 + 1, mask.testBit (k.2 + i) = true)
    (hf : f s.m = if range = true then (s.m.wr a (v.toNat &&& mask)).setBit RTC_STAT 4 false
      else s.m.refuse 0x0C01 w a v.toNat) : Completes (.next (s.access w f)) fun t =>
      SameCores s t ∧ KeepsRegs s t [RTC_ALMTIME, RTC_ALMDATE, RTC_CTL, RTC_STAT] ∧ (range = true →
        t.m.bit RTC_STAT 4 = false ∧ ∀ k ∈ fields, t.m.fld a k.1 k.2 = bits v.toNat k.1 k.2) := by
  cases hrange : range with
  | false =>
    exact completes_access hdead (hf.trans (if_neg (by simp [hrange])))
      ⟨⟨rfl, rfl, rfl⟩, (Mach.Keeps.refl _ s.m).ledger _ _ _ _ _, nofun⟩
  | true =>
    have hfits : v.toNat &&& mask < 2 ^ 32 := lt_of_le_of_lt Nat.and_le_left v.isLt
    have hstat : a ≠ RTC_STAT := by
      simp only [List.mem_cons, List.not_mem_nil, or_false] at ha
      rcases ha with rfl | rfl <;> decide
    have hkeeps := ((Mach.Keeps.refl _ s.m).wr (List.mem_append_left [RTC_CTL, RTC_STAT] ha) (v.toNat &&& mask)).setBit
      (a := RTC_STAT) (by simp) 4 false
    refine completes_access hdead (hf.trans (if_pos hrange))
      ⟨⟨rfl, rfl, rfl⟩, hkeeps, fun _ => ⟨Mach.bit_setBit_same _ _ _ _ (by decide), fun k hk => ?_⟩⟩
    rw [Mach.fld_setBit_other _ _ _ _ _ _ _ hstat, Mach.fld, Mach.rg_wr_same, Nat.mod_eq_of_lt hfits,
      bits_and_covered (hfields k hk)]

theorem alarmRearm_completes (a : AlarmWrite) (w : Writer) : Completes (exec (.alarmRearm a w) s) fun t =>
    SameCores s t ∧ KeepsRegs s t [RTC_ALMTIME, RTC_ALMDATE, RTC_CTL, RTC_STAT] ∧
    match a with
    | .time v => Mach.timeInRange v.toNat = true →
      t.m.bit RTC_STAT 4 = false ∧ ∀ k ∈ [(31, 29), (20, 16), (13, 8), (5, 0)],
        t.m.fld RTC_ALMTIME k.1 k.2 = bits v.toNat k.1 k.2
    | .date v => Mach.dateInRange v.toNat = true →
      t.m.bit RTC_STAT 4 = false ∧ ∀ k ∈ [(31, 29), (23, 16), (11, 8), (4, 0)],
        t.m.fld RTC_ALMDATE k.1 k.2 = bits v.toNat k.1 k.2
    | .almen on => t.m.bit RTC_CTL 1 = on ∧ t.m.bit RTC_STAT 4 = false := by
  cases a with
  | time v => exact alarmValue_completes hdead (by simp) (by decide) rfl
  | date v => exact alarmValue_completes hdead (by simp) (by decide) rfl
  | almen on =>
    refine completes_access hdead rfl ⟨⟨rfl, rfl, rfl⟩, ?_, ?_, Mach.bit_setBit_same _ _ _ _ (by decide)⟩
    · exact ((Mach.Keeps.refl _ s.m).setBit (by simp) 1 on).setBit (by simp) 4 false
    · exact (Mach.bit_setBit_other _ _ _ _ _ _ (by decide)).trans (Mach.bit_setBit_same _ _ _ _ (by decide))

theorem vlostClear_completes : Completes (exec .vlostClear s) fun t =>
    t.m.bit RTC_STAT 6 = false ∧ KeepsRegs s t [RTC_CTL, RTC_STAT] ∧ SameCores s t := by
  obtain ⟨hkeeps, hvlost⟩ := (s.m.setBit RTC_STAT 6 false).rtcRelease_leaves
  exact completes_change (f := fun m => (m.setBit RTC_STAT 6 false).rtcRelease) hdead rfl
    ⟨hvlost.trans (Mach.bit_setBit_same _ _ _ _ (by decide)),
      ((Mach.Keeps.refl _ s.m).setBit (by simp) 6 false).trans hkeeps, rfl, rfl, rfl⟩

end

end Sys2Proof.Machine
end

section
open Sys2Proof Sys2Proof.Machine

/-- Settles O30: each command of the clock is its own change of the block, of which the alarm and HOLD touch their own bits
alone. What the backup domain holds after a lost supply is log entry 26, and is free where the statement is silent. -/
theorem realTimeClockCommands : Obligations.RealTimeClockCommands := by
  unfold Obligations.RealTimeClockCommands
  intro s
  exact ⟨fun _ _ hgoing hnext => rtcSecond_completes hgoing hnext, rtcTrimWindow_completes, shadowRelease_completes,
    backupSupplyLost_completes, fun hdead => ⟨fun sub hgoing => rtcHaltSet_completes hdead sub hgoing,
      fun hhalt => rtcRelease_completes hdead hhalt,
      fun r sub => rtcShadowRead_completes hdead r sub rfl rfl,
      fun a w => alarmRearm_completes hdead a w, vlostClear_completes hdead⟩⟩

end

section
/-! SUPPORT. The partner link: what a frame that arrives and messages that leave change (R317 to R319). -/

namespace Sys2Proof.Machine

/-- A field of bytes is a number of so many bytes. -/
theorem fieldAt_lt (bs : List Byte) (o n : Nat) : fieldAt bs o n < 2 ^ (8 * n) :=
  (leNat_lt _).trans_le (Nat.pow_le_pow_right (by decide) (Nat.mul_le_mul_left 8 (List.length_take_le n _)))

/-- A field of the bytes after the first ones. -/
theorem fieldAt_drop (bs : List Byte) (k o n : Nat) : fieldAt (bs.drop k) o n = fieldAt bs (k + o) n := by
  rw [fieldAt, fieldAt, List.drop_drop]

namespace Mach

/-- Nothing differs but what the link has sent and what of it waits for its acknowledgment (R317, R318). -/
def Sends (m m' : Mach) : Prop :=
  ∃ q l o, m' = { m with pair := { m.pair with mseq := q, sent := l }, out := o }

theorem Sends.refl (m : Mach) : Sends m m := ⟨m.pair.mseq, m.pair.sent, m.out, rfl⟩

theorem Sends.trans {m m' m'' : Mach} (h : Sends m m') (h' : Sends m' m'') : Sends m m'' := by
  obtain ⟨_, _, _, rfl⟩ := h
  obtain ⟨q, l, o, rfl⟩ := h'
  exact ⟨q, l, o, rfl⟩

theorem sendLink_sends (m : Mach) (type : Nat) (payload : List Byte) : Sends m (m.sendLink type payload) := by
  unfold sendLink
  split
  · exact Sends.refl m
  · exact ⟨_, _, _, rfl⟩

/-- Messages that leave one after another. -/
theorem Sends.foldl {α : Type} {f : Mach → α → Mach} (hf : ∀ m x, Sends m (f m x)) (l : List α) (m : Mach) :
    Sends m (l.foldl f m) :=
  List.foldlRecOn l f (motive := Sends m) (Sends.refl m) fun _ h x _ => h.trans (hf _ x)

/-- A message changes no register. -/
theorem Sends.keeps {m m' : Mach} (h : Sends m m') (as : List Nat) : Keeps as m m' := by
  obtain ⟨_, _, _, rfl⟩ := h
  exact Keeps.refl as m

theorem Sends.mem {m m' : Mach} (h : Sends m m') : m'.mem = m.mem := by
  obtain ⟨_, _, _, rfl⟩ := h
  rfl

/-- An acknowledgment is the last of what leaves, and changes nothing else (R319). -/
theorem sendLack_eq (m : Mach) (cls mseq : Nat) : ∃ o, m.sendLack cls mseq = { m with out := o } := by
  unfold sendLack
  split
  · exact ⟨m.out, rfl⟩
  · exact ⟨_, rfl⟩

end Mach

/-- A frame of its type that arrives on a link that is up is acknowledged, and its message is handled (R317 to R319). -/
theorem completes_recv {s : State} (hdead : s.m.dead = false) (hup : s.m.linkUp = true) {type cls mseq tick : Nat}
    {f p : List Byte} (hframe : frameOf type f = some (cls, mseq, tick, p)) {act : Mach → Nat → Nat → List Byte → Mach}
    {g : List Out → Mach} {P : State → Prop} (hact : ∀ o, act { s.m with out := o } mseq tick p = g o)
    (h : ∀ o, P { s with m := g o }) : Completes (.next (s.live fun m => m.linkRecv type f act)) P := by
  obtain ⟨o, ho⟩ := s.m.sendLack_eq cls mseq
  refine completes_change hdead (m := g o) ?_ (h o)
  simp only [Mach.linkRecv, hup, hframe, Bool.not_true, Bool.false_eq_true, if_false, ho, hact]

end Sys2Proof.Machine
end

section
/-! SUPPORT. What a module shares with its partner, the tick, the journal and the wanted mode, and that Ledger records,
stores, admission and telegrams leave it alone (R321, R345, R420, R441). -/

namespace Sys2Proof.Machine

/-- What a module keeps of its partner, its tick and its journal, and the mode that it wants. -/
structure Shared where
  pair : Pair
  tick : Tick
  jrn : Jrn
  wantMode : Option Nat

namespace Mach

/-- What a module shares with its partner as it stands. -/
def shared (m : Mach) : Shared := ⟨m.pair, m.tick, m.jrn, m.wantMode⟩

section
variable {m : Mach} {x : Shared} (h : m.shared = x)
include h

theorem pair_of_shared : m.pair = x.pair := h ▸ rfl
theorem tick_of_shared : m.tick = x.tick := h ▸ rfl
theorem jrn_of_shared : m.jrn = x.jrn := h ▸ rfl
theorem wantMode_of_shared : m.wantMode = x.wantMode := h ▸ rfl

end

/-! ### Registers, memory and the Ledger -/

theorem shared_setFld (m : Mach) (a hi lo v : Nat) : (m.setFld a hi lo v).shared = m.shared := rfl
theorem shared_setBit (m : Mach) (a k : Nat) (v : Bool) : (m.setBit a k v).shared = m.shared := rfl
theorem shared_incFld (m : Mach) (a hi lo : Nat) : (m.incFld a hi lo).shared = m.shared := rfl
theorem shared_putWords (m : Mach) (a : Nat) (bs : List Byte) : (m.putWords a bs).shared = m.shared := rfl
theorem shared_withLabel (m : Mach) (x : Label) : ({ m with label := x } : Mach).shared = m.shared := rfl

theorem shared_withGx (m : Mach) (x : Gx) : ({ m with gx := x } : Mach).shared = m.shared := rfl

theorem LedgerFrame.shared {m m' : Mach} (h : LedgerFrame m m') : m'.shared = m.shared := by
  simp only [Mach.shared, h.pair, h.tick, h.jrn, h.wantMode]

theorem shared_eccWriteWord (m : Mach) (w cls : Nat) (whole : Bool) : (m.eccWriteWord w cls whole).shared = m.shared := by
  unfold eccWriteWord
  split
  · rfl
  · split
    · rfl
    · rfl
    · exact (ledger_frame _ _ _ _ _ _).shared
    · exact (ledger_frame _ _ _ _ _ _).shared

theorem shared_store (m : Mach) (a : Nat) (bs : List Byte) (cls : Nat) : (m.store a bs cls).shared = m.shared :=
  foldl_keeps shared (fun m w => shared_eccWriteWord m w cls _) _ m

theorem shared_masterCheck (m : Mach) (cls inst a kind : Nat) : (m.masterCheck cls inst a kind).2.shared = m.shared := by
  unfold masterCheck
  split
  · rfl
  · split
    · rfl
    · split
      · split
        · rfl
        · refine (ledger_frame _ _ _ _ _ _).shared.trans ?_
          split <;> rfl
      · rfl

theorem shared_masterWrite (m : Mach) (cls inst a : Nat) (bs : List Byte) :
    (m.masterWrite cls inst a bs).2.shared = m.shared := by
  unfold masterWrite
  refine foldl_keeps (fun r : Bool × Mach => r.2.shared) ?_ _ _
  rintro ⟨ok, m⟩ x
  dsimp only
  split
  · exact (shared_store _ _ _ _).trans (m.shared_masterCheck cls inst x 1)
  · exact m.shared_masterCheck cls inst x 1

/-! ### Telegrams (R225, R248, R249) -/

theorem shared_capture (m : Mach) (p : Nat) (f : List Byte) (sent bad : Bool) :
    (m.capture p f sent bad).shared = m.shared := by
  unfold capture
  split
  · rfl
  · extract_lets rcd wrapped a
    have hwrapped : wrapped.shared = m.shared := by
      unfold wrapped captureEnd
      split
      · split <;> rfl
      · rfl
    split
    · exact hwrapped
    · split
      rename_i written hwritten
      have hkept : written.shared = m.shared := by rw [← hwrapped, ← wrapped.shared_masterWrite 3 p a rcd, hwritten]
      exact (shared_setFld _ _ _ _ _).trans ((written.shared_withGx _).trans hkept)

theorem shared_gxOuts (m : Mach) (l : List (Nat × List Byte)) : (m.gxOuts l).shared = m.shared :=
  foldl_keeps shared (f := fun m (e : Nat × List Byte) => m.gxOut e.1 e.2)
    (fun m e => m.shared_capture e.1 e.2 true false) l m

/-! ### Admission and the label (R441, R466) -/

theorem shared_labelStart (m : Mach) : m.labelStart.shared = m.shared := by
  unfold labelStart
  split
  · extract_lets marked
    have hmarked : marked.shared = m.shared := by
      unfold marked
      split
      · exact m.shared_putWords _ _
      · rfl
    rw [shared_setFld, shared_setBit, shared_setBit, shared_setFld, hmarked]
  · rw [(ledger_frame _ _ _ _ _ _).shared, shared_setFld, shared_setBit, shared_setBit]

theorem shared_labelWrite (m : Mach) : m.labelWrite.shared = m.shared := by
  unfold labelWrite
  split
  · rfl
  · exact (shared_withLabel _ _).trans ((shared_putWords _ _ _).trans (m.shared_putWords _ _))

theorem shared_admStart (m : Mach) (q : AdmReq) : (m.admStart q).shared = m.shared := by
  unfold admStart
  split
  · exact m.ledgerFlush_frame.shared
  · exact m.shared_labelStart
  · exact m.shared_labelWrite
  · exact m.shared_setBit _ _ _
  · rfl

theorem shared_admTry (boundary : Bool) (m : Mach) (q : AdmReq) : (admTry boundary m q).shared = m.shared := by
  unfold admTry
  split
  · exact shared_admStart _ q
  · rfl

theorem shared_admShow (m : Mach) : m.admShow.shared = m.shared := by
  unfold admShow
  refine (foldl_keeps shared (fun m c => ?_) _ _).trans ?_
  · rw [shared_setFld, shared_setFld]
  · rw [shared_setBit, shared_setBit, shared_setFld]

theorem shared_admEvaluate (m : Mach) (boundary : Bool) : (m.admEvaluate boundary).shared = m.shared :=
  (shared_admShow _).trans
    (foldl_keeps shared (fun m _ => foldl_keeps shared (fun m q => shared_admTry boundary m q) _ m) _ m)

theorem shared_admWait (m : Mach) (cls : Nat) (who : AdmWho) : (m.admWait cls who).shared = m.shared := by
  unfold admWait
  split
  · rfl
  · extract_lets q adm asked
    have hasked : asked.shared = m.shared := shared_admEvaluate _ _
    split
    · exact (shared_incFld _ _ _ _).trans hasked
    · exact hasked

theorem shared_admDrop (m : Mach) (who : AdmWho) : (m.admDrop who).shared = m.shared := shared_admEvaluate _ _

/-! The registers of admission and of what a grant starts (R425, R449, R466, R378). -/

/-- The registers that an evaluation of requests may show. -/
def admRegs : List Nat := [LBL_STAT, ADM_STAT, DDC_STAT] ++ (countFrom 1 7).map ADM_CSTAT

theorem keeps_labelStart (m : Mach) : Keeps admRegs m m.labelStart := by
  have hstat : LBL_STAT ∈ admRegs := by decide
  unfold labelStart
  split
  · extract_lets marked
    have hmarked : Keeps admRegs m marked := by
      unfold marked
      split
      · exact (Keeps.refl _ m).of_regs rfl
      · exact Keeps.refl _ m
    exact (((hmarked.setFld hstat _ _ _).setBit hstat _ _).setBit hstat _ _).setFld hstat _ _ _
  · exact ((((Keeps.refl _ m).setBit hstat _ _).setBit hstat _ _).setFld hstat _ _ _).ledger _ _ _ _ _

theorem labelWrite_regs (m : Mach) : m.labelWrite.regs = m.regs := by
  unfold labelWrite
  split
  · rfl
  · extract_lets act seq copied headed lab
    show headed.regs = m.regs
    exact (putWords_regs _ _ _).trans (m.putWords_regs _ _)

theorem keeps_admStart (m : Mach) (q : AdmReq) : Keeps admRegs m (m.admStart q) := by
  unfold admStart
  split
  · exact fun _ _ hl => m.ledgerFlush_frame.rg_notMem hl
  · exact m.keeps_labelStart
  · exact (Keeps.refl _ m).of_regs m.labelWrite_regs
  · exact (Keeps.refl _ m).setBit (by decide) _ _
  · exact Keeps.refl _ m

theorem keeps_admTry (boundary : Bool) (m : Mach) (q : AdmReq) : Keeps admRegs m (admTry boundary m q) := by
  unfold admTry
  split
  · refine Keeps.trans ?_ (keeps_admStart _ q)
    exact (Keeps.refl _ m).of_regs rfl
  · exact Keeps.refl _ m

theorem keeps_admShow (m : Mach) : Keeps admRegs m m.admShow := by
  have hstat : ADM_STAT ∈ admRegs := by decide
  unfold admShow
  extract_lets totalled shown
  have hshown : Keeps admRegs m shown :=
    (((Keeps.refl _ m).setFld hstat _ _ _).setBit hstat _ _).setBit hstat _ _
  refine List.foldlRecOn _ _ (motive := Keeps admRegs m) hshown fun n hn c hc => ?_
  have hcstat : ADM_CSTAT c ∈ admRegs := List.mem_append_right _ (List.mem_map_of_mem hc)
  exact (hn.setFld hcstat _ _ _).setFld hcstat _ _ _

theorem keeps_admEvaluate (m : Mach) (boundary : Bool) : Keeps admRegs m (m.admEvaluate boundary) := by
  refine (Keeps.foldl (fun m c => Keeps.foldl (keeps_admTry boundary) _ m) _ m).trans (keeps_admShow _)

theorem keeps_admDrop (m : Mach) (who : AdmWho) : Keeps admRegs m (m.admDrop who) := by
  refine Keeps.trans ?_ (keeps_admEvaluate _ _)
  exact (Keeps.refl _ m).of_regs rfl

end Mach
end Sys2Proof.Machine
end

section
/-! SUPPORT. The messages of a tick's exchange in the module that takes them: INPUT, DELTA, the digests, and notices
(R319, R321, R323, R325, R327). -/

namespace Sys2Proof.Machine

/-- What the partner's INPUT leaves in the pair, and the registers that show it (R321). -/
structure Hearing where
  partIn : List Byte
  heard : Bool
  silent : Nat
  health : Nat
  shown : Bool
  offset : Nat

namespace Mach

/-- What a module has heard of its partner in the tick. -/
def hearing (m : Mach) : Hearing :=
  ⟨m.pair.partIn, m.pair.heard, m.pair.silent, m.rg PTL_PHEALTH, m.bit PTL_STAT 10, m.rg TMB_PAIROFS⟩

/-! ### INPUT (R321, R323) -/

theorem hearing_wr (m : Mach) {a : Nat} (h : a ∉ [PTL_PHEALTH, PTL_STAT, TMB_PAIROFS]) (v : Nat) :
    (m.wr a v).hearing = m.hearing := by
  simp only [List.mem_cons, List.not_mem_nil, or_false, not_or] at h
  obtain ⟨hhealth, hstat, hofs⟩ := h
  simp only [hearing, bit, rg_wr_other _ _ _ _ (Ne.symm hhealth), rg_wr_other _ _ _ _ (Ne.symm hstat),
    rg_wr_other _ _ _ _ (Ne.symm hofs), wr_pair]

/-- Of the bits of PTL_STAT one shows that the partner is heard. -/
theorem hearing_setBit_stat (m : Mach) {k : Nat} (hk : k < 32) (h : 10 ≠ k) (v : Bool) :
    (m.setBit PTL_STAT k v).hearing = m.hearing := by
  simp only [hearing, bit_setBit_field _ _ _ _ _ hk h, setBit_pair,
    rg_setBit_other _ _ _ _ _ (show PTL_PHEALTH ≠ PTL_STAT by decide),
    rg_setBit_other _ _ _ _ _ (show TMB_PAIROFS ≠ PTL_STAT by decide)]

theorem hearing_wr64 (m : Mach) {a : Nat} (h : a ∉ [PTL_PHEALTH, PTL_STAT, TMB_PAIROFS])
    (h' : a + 4 ∉ [PTL_PHEALTH, PTL_STAT, TMB_PAIROFS]) (v : Nat) : (m.wr64 a v).hearing = m.hearing :=
  (hearing_wr _ h' _).trans (m.hearing_wr h _)

theorem hearing_ledger (m : Mach) (code src arg0 arg1 arg2 : Nat) :
    (m.ledger code src arg0 arg1 arg2).hearing = m.hearing := by
  have hrecord := m.ledger_frame code src arg0 arg1 arg2
  simp only [hearing, hrecord.pair, hrecord.rg_notMem (show PTL_PHEALTH ∉ ledgerRegs by decide),
    hrecord.rg_notMem (show TMB_PAIROFS ∉ ledgerRegs by decide), hrecord.bit_notMem (show PTL_STAT ∉ ledgerRegs by decide)]

theorem hearing_modKiln (m : Mach) (cl : Nat) (f : Kiln → Kiln) : (m.modKiln cl f).hearing = m.hearing := by
  simp only [hearing, modKiln_pair, rg_modKiln, bit_modKiln]

theorem hearing_eventAdopt (m : Mach) (tick kind : Nat) : (m.eventAdopt tick kind).hearing = m.hearing := by
  unfold eventAdopt
  extract_lets keep evs pr bound
  have hbound : bound.hearing = m.hearing := hearing_wr64 { m with pair := pr } (by decide) (by decide) tick
  split
  · rw [hearing_wr64 _ (by decide) (by decide), setFld, hearing_wr _ (by decide), hbound]
  · exact hbound

theorem hearing_stepAdopt (m : Mach) (v : Nat) : (m.stepAdopt v).hearing = m.hearing := by
  unfold stepAdopt
  split
  · rfl
  · exact hearing_wr _ (by decide) _

theorem hearing_diverge (m : Mach) (cmp : Nat) : (m.diverge cmp).hearing = m.hearing := by
  unfold diverge
  split
  · rfl
  · extract_lets shown recent t pr parted
    have hshown : shown.hearing = m.hearing := by
      rw [show shown = ((m.setBit PTL_STAT 11 true).setBit PTL_STAT 6 false).incFld PTL_DIVCNT 31 16 from rfl, incFld, setFld,
        hearing_wr _ (by decide), hearing_setBit_stat _ (by decide) (by decide), hearing_setBit_stat _ (by decide) (by decide)]
    clear_value shown
    have hparted : parted.hearing = shown.hearing := rfl
    rw [hearing_ledger, showFiring, setBit, setFld, hearing_wr _ (by decide), hparted, hshown]

theorem hearing_sends {m m' : Mach} (h : Sends m m') : m'.hearing = m.hearing := by
  obtain ⟨_, _, _, rfl⟩ := h
  rfl

/-- The module has the partner's INPUT (R321). -/
def heardInput (m : Mach) (p : List Byte) (ready : Bool) : Mach := { m with
  pair := { m.pair with partIn := p, heard := true, silent := 0 }
  pgm := { m.pgm with partReady := ready }
  upd := { m.upd with partProto := some (fieldAt p 60 2) } }

/-- It shows the partner's health and that it is heard. -/
def showInput (m : Mach) (p : List Byte) (ready : Bool) : Mach :=
  ((m.heardInput p ready).wr PTL_PHEALTH (fieldAt p 52 4)).setBit PTL_STAT 10 true

theorem hearing_withTmb (m : Mach) (x : Tmb) : ({ m with tmb := x } : Mach).hearing = m.hearing := rfl

/-- The offset of the pair is shown, and counts against its limit in a standby (R289). -/
theorem pairOffset_eq (m : Mach) (ofs : Nat) : ∃ x, m.pairOffset ofs = { m.wr TMB_PAIROFS ofs with tmb := x } := by
  unfold pairOffset
  extract_lets shown out
  split
  · exact ⟨shown.tmb, rfl⟩
  · exact ⟨_, rfl⟩

theorem hearing_showInput (m : Mach) (p : List Byte) (ready : Bool) {ofs : Nat} (hofs : ofs < 2 ^ 32) :
    ((m.showInput p ready).pairOffset ofs).hearing = ⟨p, true, 0, fieldAt p 52 4, true, ofs⟩ := by
  have hhealth : ((m.showInput p ready).wr TMB_PAIROFS ofs).rg PTL_PHEALTH = fieldAt p 52 4 := by
    rw [rg_wr_other _ _ _ _ (by decide), showInput, rg_setBit_other _ _ _ _ _ (by decide), rg_wr_same,
      Nat.mod_eq_of_lt (fieldAt_lt p 52 4)]
  have hshown : ((m.showInput p ready).wr TMB_PAIROFS ofs).bit PTL_STAT 10 = true :=
    (bit_wr_other _ _ _ _ _ (by decide)).trans (bit_setBit_same _ _ _ _ (by decide))
  have hoffset : ((m.showInput p ready).wr TMB_PAIROFS ofs).rg TMB_PAIROFS = ofs := by
    rw [rg_wr_same, Nat.mod_eq_of_lt hofs]
  obtain ⟨x, hx⟩ := (m.showInput p ready).pairOffset_eq ofs
  rw [hx, hearing_withTmb, hearing, hhealth, hshown, hoffset]
  rfl

/-- A standby, or a module in RESYNC, takes the event and the time step of its primary, judges its pair state and fills
what the primary lacks. -/
def answerInput (m : Mach) (p : List Byte) : Mach :=
  let m := (m.eventAdopt (fieldAt p 40 8) (fieldAt p 48 1)).stepAdopt (fieldAt p 56 4)
  let m := if m.mode = 5 then (if m.pairAgrees p then m.adoptDelivery (fieldAt p 16 8) else m.diverge 0) else m
  m.sendLink 0x02 m.fillPayload

theorem inputTake_eq (m : Mach) (p : List Byte) (ready : Bool) (ofs : Nat) : m.inputTake p ready ofs =
    if ((m.showInput p ready).pairOffset ofs).mode = 6 then (m.showInput p ready).pairOffset ofs
    else ((m.showInput p ready).pairOffset ofs).answerInput p := rfl

theorem hearing_answerInput (m : Mach) (p : List Byte) : (m.answerInput p).hearing = m.hearing := by
  unfold answerInput
  extract_lets stepped judged
  have hstepped : stepped.hearing = m.hearing := (hearing_stepAdopt _ _).trans (m.hearing_eventAdopt _ _)
  have hjudged : judged.hearing = stepped.hearing := by
    unfold judged
    split
    · split
      · exact (hearing_modKiln _ _ _).trans (hearing_modKiln _ _ _)
      · exact stepped.hearing_diverge 0
    · rfl
  rw [hearing_sends (judged.sendLink_sends _ _), hjudged, hstepped]

theorem hearing_inputTake (m : Mach) (p : List Byte) (ready : Bool) {ofs : Nat} (hofs : ofs < 2 ^ 32) :
    (m.inputTake p ready ofs).hearing = ⟨p, true, 0, fieldAt p 52 4, true, ofs⟩ := by
  have hheard := m.hearing_showInput p ready hofs
  rw [inputTake_eq]
  split
  · exact hheard
  · exact (hearing_answerInput _ p).trans hheard

theorem keeps_pairOffset (m : Mach) (ofs : Nat) : Keeps [PTL_PHEALTH, PTL_STAT, TMB_PAIROFS] m (m.pairOffset ofs) := by
  obtain ⟨x, hx⟩ := m.pairOffset_eq ofs
  rw [hx]
  exact ((Keeps.refl _ m).wr (by decide) ofs).of_regs rfl

theorem keeps_heardInput (m : Mach) (as : List Nat) (p : List Byte) (ready : Bool) : Keeps as m (m.heardInput p ready) :=
  (Keeps.refl as m).of_regs rfl

theorem keeps_showInput (m : Mach) (p : List Byte) (ready : Bool) (ofs : Nat) :
    Keeps [PTL_PHEALTH, PTL_STAT, TMB_PAIROFS] m ((m.showInput p ready).pairOffset ofs) := by
  have hshown : Keeps [PTL_PHEALTH, PTL_STAT, TMB_PAIROFS] m (m.showInput p ready) :=
    ((m.keeps_heardInput _ p ready).wr (by decide) _).setBit (by decide) 10 true
  exact hshown.trans ((m.showInput p ready).keeps_pairOffset ofs)

/-- A primary shows the partner's INPUT in three registers and does nothing else with it. -/
theorem keeps_inputTake_primary {m : Mach} (hmode : m.mode = 6) (p : List Byte) (ready : Bool) (ofs : Nat) :
    Keeps [PTL_PHEALTH, PTL_STAT, TMB_PAIROFS] m (m.inputTake p ready ofs) := by
  have hshown := m.keeps_showInput p ready ofs
  have hprimary : ((m.showInput p ready).pairOffset ofs).mode = 6 :=
    (hshown.fld (show CUR_MODE ∉ _ by decide) (by decide) 2 0).trans hmode
  rw [inputTake_eq, if_pos hprimary]
  exact hshown

/-! ### DELTA (R323) -/

/-- A block of the primary's image in its place (R322). -/
def putBlock (m : Mach) (k : Nat) (bs : List Byte) : Mach :=
  { m.putWords (m.blockAt k) bs with pair := { m.pair with deltas := m.pair.deltas + 1 } }

/-! ### Digests (R325 to R327) -/

/-- The digest of the partner that a module keeps: of its outputs, or of its actions. -/
def withPartDigest (m : Mach) (out : Bool) (d : Digest) : Mach :=
  { m with pair := if out then { m.pair with partOut := some d } else { m.pair with partAct := some d } }

/-- The partner's digest of a kind, and the module's own. -/
def partDigest (m : Mach) (out : Bool) : Option Digest := if out then m.pair.partOut else m.pair.partAct
def ownDigestOf (m : Mach) (out : Bool) : Option Digest := if out then m.pair.ownOut else m.pair.ownAct

/-- The telegrams of a kind wait for the partner's digest. -/
def waits (m : Mach) (out : Bool) : Bool := if out then m.pair.waitOut else m.pair.waitAct

/-- They leave. -/
def release (m : Mach) (out : Bool) : Mach := if out then m.sendOut else m.sendAct

/-- The actions that have waited leave, and nothing else of the pair changes (R325). -/
theorem shared_sendAct (m : Mach) :
    m.sendAct.shared = { m.shared with pair := { m.pair with heldAct := [], waitAct := false } } := shared_gxOuts _ _

/-- The outputs that have waited leave, and count as emitted (R325, R454). -/
theorem shared_sendOut (m : Mach) : m.sendOut.shared = { m.shared with
    pair := { m.pair with heldOut := [], waitOut := false }, tick := { m.tick with emitted := true } } :=
  shared_gxOuts _ _

theorem partDigest_sendAct (m : Mach) (out : Bool) : m.sendAct.partDigest out = m.partDigest out := by
  rw [partDigest, pair_of_shared m.shared_sendAct, partDigest]

theorem partDigest_sendOut (m : Mach) (out : Bool) : m.sendOut.partDigest out = m.partDigest out := by
  rw [partDigest, pair_of_shared m.shared_sendOut, partDigest]

theorem partDigest_diverge (m : Mach) (cmp : Nat) (out : Bool) : (m.diverge cmp).partDigest out = m.partDigest out := by
  unfold diverge
  split
  · rfl
  · rw [partDigest, ledger_pair]
    rfl

/-- The comparison leaves the partner's digests as they are. -/
theorem partDigest_judge (m : Mach) (out : Bool) : (m.judge out).partDigest out = m.partDigest out := by
  unfold judge
  split
  · rfl
  · extract_lets own part held go pr
    have hgo (n : Mach) : (go n).partDigest out = n.partDigest out := by
      unfold go
      split
      · rfl
      · split
        · exact n.partDigest_sendOut out
        · exact n.partDigest_sendAct out
    clear_value go own part held
    split
    · split
      · rfl
      · split
        · exact hgo m
        · split
          · exact hgo _
          · split
            · exact hgo m
            · split
              · rfl
              · exact m.partDigest_diverge _ out
    · rfl

/-- A standby that diverges says so, sends no copies any more, and wants RESYNC (R328). -/
theorem diverge_diverges {m : Mach} (hmode : m.mode = 5) (hwith : m.pair.diverged = false) (cmp : Nat) :
    (m.diverge cmp).pair.diverged = true ∧ (m.diverge cmp).wantMode = some 4 ∧ (m.diverge cmp).bit PTL_STAT 11 = true := by
  unfold diverge
  rw [if_neg (by simp [hmode, hwith])]
  extract_lets shown recent t pr parted
  have hrecord := parted.showFiring.ledger_frame 0x0801 5 cmp (parted.tickNo % 2 ^ 32) (parted.tickNo / 2 ^ 32)
  have hshown : shown.bit PTL_STAT 11 = true :=
    (bit_incFld_other _ _ _ _ _ _ (by decide)).trans
      ((bit_setBit_field _ _ _ _ _ (by decide) (by decide)).trans (bit_setBit_same _ _ _ _ (by decide)))
  clear_value shown
  refine ⟨congrArg Pair.diverged hrecord.pair, hrecord.wantMode, ?_⟩
  rw [hrecord.bit_notMem (by decide)]
  exact (bit_setBit_other _ _ _ _ _ _ (by decide)).trans hshown

section
variable {m : Mach} {out : Bool} {o d : Digest} (hmode : m.mode = 5) (hwith : m.pair.diverged = false)
  (hown : m.ownDigestOf out = some o) (hpart : m.partDigest out = some d) (htick : o.tick = d.tick) (hfired : o.kind = 0)
  (hkind : d.kind = 0) (hself : d.self = false)
include hmode hwith hown hpart htick hfired hkind hself

/-- Equal digests of a tick release what waits for them (R325). -/
theorem judge_equal (hvalue : d.value = o.value) : m.judge out = if m.waits out then m.release out else m := by
  unfold judge
  rw [if_neg (by simp [hmode, hwith])]
  extract_lets own part held go pr
  change own = some o at hown
  change part = some d at hpart
  rw [hown, hpart]
  have hheld : m.waits out = held := rfl
  clear_value held
  cases held with
  | false => simp [hheld, htick, hfired, hkind, hself, hvalue, go]
  | true => simp [hheld, htick, hfired, hkind, hself, hvalue, go, release]

/-- Different digests of a tick are a divergence (R327). -/
theorem judge_differs (hvalue : d.value ≠ o.value) : ∃ cmp, m.judge out = m.diverge cmp := by
  unfold judge
  rw [if_neg (by simp [hmode, hwith])]
  extract_lets own part held go pr
  change own = some o at hown
  change part = some d at hpart
  rw [hown, hpart]
  exact ⟨if o.kind = 0 ∧ !held then 5 else if out then 3 else 2, by simp [htick, hfired, hkind, hself, hvalue]⟩

end

end Mach
end Sys2Proof.Machine
end

section
/-! SUPPORT. A tick's exchange with the partner, one statement per message (R319, R321 to R327). -/

namespace Sys2Proof.Machine

namespace Mach

/-- The module without a fixed swap. -/
def withoutSwap (m : Mach) : Mach := { m with pair := { m.pair with events := m.pair.events.filter fun e => e.2 ≠ 1 } }

/-- A swap that is cancelled leaves no fixed swap (R332). -/
theorem swapCancel_leaves (m : Mach) : (∀ e ∈ m.swapCancel.pair.events, e.2 ≠ 1) ∧
    m.swapCancel.pair.partDiv = m.pair.partDiv ∧ Keeps [] m m.swapCancel := by
  unfold swapCancel
  split
  case isTrue =>
    have hkeeps : Keeps [] m m.withoutSwap := (Keeps.refl _ m).of_regs rfl
    have hpair : (m.withoutSwap.ledger 0x0806 5 0 0 0).pair = m.withoutSwap.pair := (ledger_frame _ _ _ _ _ _).pair
    have hdiv : (m.withoutSwap.ledger 0x0806 5 0 0 0).pair.partDiv = m.pair.partDiv := by
      rw [hpair]
      rfl
    refine ⟨fun e he => ?_, hdiv, hkeeps.ledger 0x0806 5 0 0 0⟩
    replace he : e ∈ (m.withoutSwap.ledger 0x0806 5 0 0 0).pair.events := he
    rw [hpair] at he
    exact of_decide_eq_true (List.mem_filter.1 he).2
  case isFalse hnone => exact ⟨fun e he hswap => hnone (List.any_eq_true.2 ⟨e, he, decide_eq_true hswap⟩), rfl, Keeps.refl _ m⟩

/-- What waits for a digest leaves (R325). -/
theorem release_act (m : Mach) : m.sendAct.pair.waitAct = false ∧ m.sendAct.pair.heldAct = [] ∧
    m.sendAct.pair.diverged = m.pair.diverged ∧ m.sendAct.pair.waitOut = m.pair.waitOut := by
  simp only [pair_of_shared m.shared_sendAct, and_self]

theorem release_out (m : Mach) : m.sendOut.pair.waitOut = false ∧ m.sendOut.pair.heldOut = [] ∧
    m.sendOut.tick.emitted = true ∧ m.sendOut.pair.diverged = m.pair.diverged ∧ m.sendOut.pair.waitAct = m.pair.waitAct := by
  simp only [pair_of_shared m.shared_sendOut, tick_of_shared m.shared_sendOut, and_self]

/-- What a standby does with two digests of a tick: what waits leaves when they are equal, and a divergence begins when they
are not (R325, R327). -/
theorem judge_outcome {m : Mach} {out : Bool} {o d : Digest} (hmode : m.mode = 5) (hwith : m.pair.diverged = false)
    (hown : m.ownDigestOf out = some o) (hpart : m.partDigest out = some d) (htick : o.tick = d.tick) (hfired : o.kind = 0)
    (hkind : d.kind = 0) (hself : d.self = false) :
    (d.value = o.value → (m.judge out).pair.diverged = false ∧ (m.waits out = true → m.judge out = m.release out)) ∧
    (d.value ≠ o.value → (m.judge out).pair.diverged = true ∧ (m.judge out).wantMode = some 4 ∧
      (m.judge out).bit PTL_STAT 11 = true) := by
  refine ⟨fun hvalue => ?_, fun hvalue => ?_⟩
  · rw [judge_equal hmode hwith hown hpart htick hfired hkind hself hvalue]
    split
    · refine ⟨Eq.trans ?_ hwith, fun _ => rfl⟩
      cases out with
      | false => exact m.release_act.2.2.1
      | true => exact m.release_out.2.2.2.1
    · next h => exact ⟨hwith, fun hwait => absurd hwait h⟩
  · obtain ⟨cmp, hjudge⟩ := judge_differs hmode hwith hown hpart htick hfired hkind hself hvalue
    rw [hjudge]
    exact diverge_diverges hmode hwith cmp

end Mach

section
variable {s : State} (hdead : s.m.dead = false)
include hdead

/-- A standby's wait for a digest ends, and what waited leaves (R325). -/
theorem digestTimeout_completes (hmode : s.m.mode = 5) (hwait : s.m.pair.waitAct = true ∨ s.m.pair.waitOut = true) :
    Completes (exec .digestTimeout s) fun t =>
      t.m.pair.waitAct = false ∧ t.m.pair.waitOut = false ∧ t.m.bit PTL_STAT 13 = true ∧ SameCores s t := by
  let acted := if s.m.pair.waitAct then s.m.sendAct else s.m
  let left := if acted.pair.waitOut then acted.sendOut else acted
  have hacted : acted.pair.waitAct = false := by
    unfold acted
    split
    · exact s.m.release_act.1
    · next h => exact Bool.eq_false_iff.2 h
  have hleft : left.pair.waitAct = false ∧ left.pair.waitOut = false := by
    unfold left
    split
    · exact ⟨acted.release_out.2.2.2.2.trans hacted, acted.release_out.1⟩
    · next h => exact ⟨hacted, Bool.eq_false_iff.2 h⟩
  have hgate : ¬(s.m.mode ≠ 5 ∨ !(s.m.pair.waitAct || s.m.pair.waitOut)) := by
    rcases hwait with h | h <;> simp [hmode, h]
  exact completes_change hdead (m := left.setBit PTL_STAT 13 true) (if_neg hgate)
    ⟨hleft.1, hleft.2, Mach.bit_setBit_same _ _ _ _ (by decide), rfl, rfl, rfl⟩

variable (hup : s.m.linkUp = true) {cls mseq tick : Nat} {f p : List Byte}
include hup

theorem inputMessage_completes (ready : Bool) (ofs : BitVec 32) (hframe : frameOf 0x01 f = some (cls, mseq, tick, p))
    (hlen : p.length = 1296) (htick : tick = s.m.tickNo) (hphase : s.m.tick.phase = 1) (hrec : s.m.reconciles = true)
    (hfilled : s.m.pair.filled = false) (hheard : s.m.pair.heard = false) :
    Completes (exec (.inputMessage f ready ofs) s) fun t => t.m.pair.partIn = p ∧ t.m.pair.heard = true ∧
      t.m.pair.silent = 0 ∧ t.m.rg PTL_PHEALTH = fieldAt p 52 4 ∧ t.m.bit PTL_STAT 10 = true ∧
      t.m.rg TMB_PAIROFS = ofs.toNat ∧ SameCores s t ∧
      (s.m.mode = 6 → KeepsRegs s t [PTL_PHEALTH, PTL_STAT, TMB_PAIROFS]) := by
  refine completes_recv hdead hup hframe (g := fun o => ({ s.m with out := o } : Mach).inputTake p ready ofs.toNat)
    (fun o => if_neg ?_) fun o => ?_
  · rintro (h | h | h | h | h | h)
    · exact h hlen
    · exact h htick
    · exact Bool.false_ne_true ((Bool.eq_false_of_not_eq_true' h).symm.trans hrec)
    · exact h hphase
    · exact Bool.false_ne_true (hfilled.symm.trans h)
    · exact Bool.false_ne_true (hheard.symm.trans h)
  · have h := Mach.hearing_inputTake { s.m with out := o } p ready ofs.isLt
    exact ⟨congrArg Hearing.partIn h, congrArg Hearing.heard h, congrArg Hearing.silent h, congrArg Hearing.health h,
      congrArg Hearing.shown h, congrArg Hearing.offset h, ⟨rfl, rfl, rfl⟩,
      fun hmode => Mach.keeps_inputTake_primary (m := { s.m with out := o }) hmode p ready ofs.toNat⟩

theorem fillMessage_completes (hframe : frameOf 0x02 f = some (cls, mseq, tick, p)) (htick : tick = s.m.tickNo)
    (hphase : s.m.tick.phase = 1) (hmode : s.m.mode = 6) (hfilled : s.m.pair.filled = false)
    (hheard : s.m.pair.heard = true) :
    Completes (exec (.fillMessage f) s) fun t => t.m.pair.filled = true ∧ SameCores s t := by
  let filled (o : List Out) : Mach := (Mach.fillTake p.length { s.m with out := o } p).2
  refine completes_recv hdead hup hframe (g := fun o => (({ filled o with pair := { (filled o).pair with filled := true } } :
    Mach).setFld PTL_ADOPT 31 16 (Mach.fillTake p.length { s.m with out := o } p).1).sendDeltas) (fun o => if_neg ?_) fun o => ?_
  · rintro (h | h | h | h | h)
    · exact h hmode
    · exact h htick
    · exact h hphase
    · exact Bool.false_ne_true (hfilled.symm.trans h)
    · exact Bool.false_ne_true ((Bool.eq_false_of_not_eq_true' h).symm.trans hheard)
  · exact ⟨filled_of_stand (Mach.stand_sendDeltas _), rfl, rfl, rfl⟩

theorem deltaMessage_completes (hframe : frameOf 0x03 f = some (cls, mseq, tick, p)) (htick : tick = s.m.tickNo)
    (hphase : s.m.tick.phase = 1) (hmode : s.m.mode = 5) (hadopted : s.m.tick.adopted = false)
    (hheard : s.m.pair.heard = true) (hblock : fieldAt p 0 2 ≤ 88) (hlen : p.length = 8 + Mach.blockLen (fieldAt p 0 2)) :
    Completes (exec (.deltaMessage f) s) fun t =>
      t.m.mem.ldBytes (s.m.blockAt (fieldAt p 0 2)) (Mach.blockLen (fieldAt p 0 2)) = p.drop 8 ∧
      (∀ x, x < s.m.blockAt (fieldAt p 0 2) ∨ s.m.blockAt (fieldAt p 0 2) + Mach.blockLen (fieldAt p 0 2) ≤ x →
        t.m.mem.ld8 x = s.m.mem.ld8 x) ∧
      t.m.fld PTL_ADOPT 15 8 = min 255 (s.m.pair.deltas + 1) ∧ KeepsRegs s t [PTL_ADOPT] ∧ SameCores s t := by
  have hbytes : (p.drop 8).length = Mach.blockLen (fieldAt p 0 2) := by rw [List.length_drop]; omega
  refine completes_recv hdead hup hframe (g := fun o => (({ s.m with out := o } : Mach).putBlock (fieldAt p 0 2)
    (p.drop 8)).setFld PTL_ADOPT 15 8 (min 255 (s.m.pair.deltas + 1))) (fun o => if_neg ?_) fun o => ?_
  · rintro (⟨-, h⟩ | h | h | h | h | h | h)
    · exact h hmode
    · exact h htick
    · exact h hphase
    · exact Bool.false_ne_true (hadopted.symm.trans h)
    · exact Bool.false_ne_true ((Bool.eq_false_of_not_eq_true' h).symm.trans hheard)
    · omega
    · exact h hlen
  · refine ⟨?_, fun x hx => ?_, ?_, ?_, rfl, rfl, rfl⟩
    · rw [← hbytes]
      exact Memory.ldBytes_stBytes (p.drop 8) s.m.mem _
    · exact Memory.ld8_stBytes_other (p.drop 8) s.m.mem (s.m.blockAt (fieldAt p 0 2)) x (by omega)
    · exact (Mach.fld_setFld_same _ _ _ _ _ (by decide) (by decide)).trans (Nat.mod_eq_of_lt (by omega))
    · exact (((Mach.Keeps.refl _ s.m).of_regs rfl : Mach.Keeps [PTL_ADOPT] s.m (({ s.m with out := o } : Mach).putBlock
        (fieldAt p 0 2) (p.drop 8))).setFld (List.mem_singleton_self _) 15 8 _)

theorem finalMessage_completes (hframe : frameOf 0x04 f = some (cls, mseq, tick, p)) (htick : tick = s.m.tickNo)
    (hphase : s.m.tick.phase = 1) (hmode : s.m.mode = 5) (hadopted : s.m.tick.adopted = false)
    (hheard : s.m.pair.heard = true) (hlen : p.length = 16) : Completes (exec (.finalMessage f) s) fun t =>
      t.m.pair.finalDig = some (fieldAt p 8 8) ∧ KeepsRegs s t [] ∧ SameCores s t := by
  refine completes_recv hdead hup hframe (g := fun o => { s.m with
    out := o, pair := { s.m.pair with finalDig := some (fieldAt p 8 8) } }) (fun o => if_neg ?_) fun o => ?_
  · rintro (⟨-, h⟩ | h | h | h | h | h)
    · exact h hmode
    · exact h htick
    · exact h hphase
    · exact Bool.false_ne_true (hadopted.symm.trans h)
    · exact Bool.false_ne_true ((Bool.eq_false_of_not_eq_true' h).symm.trans hheard)
    · exact h hlen
  · exact ⟨rfl, (Mach.Keeps.refl [] s.m).of_regs rfl, rfl, rfl, rfl⟩

theorem noticeMessage_completes (hframe : frameOf 0x07 f = some (cls, mseq, tick, p)) (hlen : p.length = 8)
    (hmode : s.m.mode = 6) (hcause : fieldAt p 0 1 ∈ [1, 2, 3]) : Completes (exec (.noticeMessage f) s) fun t =>
      t.m.pair.partDiv = true ∧ (∀ e ∈ t.m.pair.events, e.2 ≠ 1) ∧ KeepsRegs s t [] ∧ SameCores s t := by
  let parted (o : List Out) : Mach := { s.m with out := o, pair := { s.m.pair with partDiv := true } }
  refine completes_recv hdead hup hframe (g := fun o => (parted o).swapCancel) (fun o => ?_) fun o => ?_
  · have hprimary : ({ s.m with out := o } : Mach).mode = 6 := hmode
    have hnotice : fieldAt p 0 1 = 1 ∨ fieldAt p 0 1 = 2 ∨ fieldAt p 0 1 = 3 := by simpa using hcause
    exact (if_neg (not_not.2 hlen)).trans ((if_pos hprimary).trans (if_pos hnotice))
  · obtain ⟨hevents, hdiv, hkeeps⟩ := (parted o).swapCancel_leaves
    have hparted : Mach.Keeps [] s.m (parted o) := (Mach.Keeps.refl [] s.m).of_regs rfl
    exact ⟨hdiv, hevents, hparted.trans hkeeps, rfl, rfl, rfl⟩

theorem actdigMessage_completes (hframe : frameOf 0x05 f = some (cls, mseq, tick, p)) (hlen : p.length = 16) {d : Digest}
    (hd : (⟨tick, fieldAt p 0 8, fieldAt p 8 1, (fieldAt p 9 1).testBit 0⟩ : Digest) = d) :
    Completes (exec (.actdigMessage f) s) fun t => t.m.pair.partAct = some d ∧ SameCores s t ∧
      ∀ o, s.m.mode = 5 → s.m.pair.diverged = false → s.m.pair.ownAct = some o → o.tick = tick → o.kind = 0 →
        d.kind = 0 → d.self = false →
        (d.value = o.value → t.m.pair.diverged = false ∧ (s.m.pair.waitAct = true →
          t.m.pair.waitAct = false ∧ t.m.pair.heldAct = [])) ∧
        (d.value ≠ o.value → t.m.pair.diverged = true ∧ t.m.wantMode = some 4 ∧ t.m.bit PTL_STAT 11 = true) := by
  let kept (o : List Out) : Mach := ({ s.m with out := o } : Mach).withPartDigest false d
  refine completes_recv hdead hup hframe (g := fun o => (kept o).judge false) (fun o => ?_) fun o => ?_
  · rw [if_neg (not_not.2 hlen), hd]
    rfl
  · refine ⟨(kept o).partDigest_judge false, ⟨rfl, rfl, rfl⟩, fun own hmode hwith hown htick hfired hkind hself => ?_⟩
    obtain ⟨hequal, hdiffers⟩ := Mach.judge_outcome (m := kept o) (out := false) hmode hwith hown rfl
      (htick.trans (congrArg Digest.tick hd)) hfired hkind hself
    refine ⟨fun hvalue => ⟨(hequal hvalue).1, fun hwait => ?_⟩, hdiffers⟩
    dsimp only
    rw [(hequal hvalue).2 hwait]
    exact ⟨(kept o).release_act.1, (kept o).release_act.2.1⟩

theorem outdigMessage_completes (hframe : frameOf 0x06 f = some (cls, mseq, tick, p)) (hlen : p.length = 16) {d : Digest}
    (hd : (⟨tick, fieldAt p 0 8, fieldAt p 8 1, (fieldAt p 9 1).testBit 0⟩ : Digest) = d) :
    Completes (exec (.outdigMessage f) s) fun t => t.m.pair.partOut = some d ∧ SameCores s t ∧
      ∀ o, s.m.mode = 5 → s.m.pair.diverged = false → s.m.pair.ownOut = some o → o.tick = tick → o.kind = 0 →
        d.kind = 0 → d.self = false →
        (d.value = o.value → t.m.pair.diverged = false ∧ (s.m.pair.waitOut = true →
          t.m.pair.waitOut = false ∧ t.m.pair.heldOut = [] ∧ t.m.tick.emitted = true)) ∧
        (d.value ≠ o.value → t.m.pair.diverged = true ∧ t.m.wantMode = some 4 ∧ t.m.bit PTL_STAT 11 = true) := by
  let kept (o : List Out) : Mach := ({ s.m with out := o } : Mach).withPartDigest true d
  refine completes_recv hdead hup hframe (g := fun o => (kept o).judge true) (fun o => ?_) fun o => ?_
  · rw [if_neg (not_not.2 hlen), hd]
    rfl
  · refine ⟨(kept o).partDigest_judge true, ⟨rfl, rfl, rfl⟩, fun own hmode hwith hown htick hfired hkind hself => ?_⟩
    obtain ⟨hequal, hdiffers⟩ := Mach.judge_outcome (m := kept o) (out := true) hmode hwith hown rfl
      (htick.trans (congrArg Digest.tick hd)) hfired hkind hself
    refine ⟨fun hvalue => ⟨(hequal hvalue).1, fun hwait => ?_⟩, hdiffers⟩
    dsimp only
    rw [(hequal hvalue).2 hwait]
    obtain ⟨hwait, hheld, hemitted, -⟩ := (kept o).release_out
    exact ⟨hwait, hheld, hemitted⟩

end

end Sys2Proof.Machine
end

section
open Sys2Proof Sys2Proof.Machine

/-- Settles O44: each message of the tick's exchange is taken under its own conditions, and a digest is compared with the
module's own. -/
theorem partnerExchange : Obligations.PartnerExchange := by
  unfold Obligations.PartnerExchange
  intro f cls mseq tick p s hdead hup
  exact ⟨fun ready ofs hframe hlen hopen => inputMessage_completes hdead hup ready ofs hframe hlen hopen.1 hopen.2,
    fun hframe hopen => fillMessage_completes hdead hup hframe hopen.1 hopen.2,
    fun hframe hopen => deltaMessage_completes hdead hup hframe hopen.1 hopen.2,
    fun hframe hopen => finalMessage_completes hdead hup hframe hopen.1 hopen.2,
    fun hframe hlen => actdigMessage_completes hdead hup hframe hlen rfl,
    fun hframe hlen => outdigMessage_completes hdead hup hframe hlen rfl,
    fun hmode hwait => digestTimeout_completes hdead hmode hwait,
    fun hframe hlen hmode hcause => noticeMessage_completes hdead hup hframe hlen hmode hcause⟩

end

section
/-! SUPPORT. What a store and a master's write leave in memory (R375, R383, R385). -/

namespace Sys2Proof.Machine

theorem mem_countFrom_iff {a n x : Nat} : x ∈ countFrom a n ↔ a ≤ x ∧ x < a + n :=
  ⟨countFrom_mem, fun h => mem_countFrom h.1 h.2⟩

/-- Nothing differs but memory and its check states, and there the bytes of a write stand at their addresses. -/
def Wrote (m : Mach) (a : Nat) (bs : List Byte) (m' : Mach) : Prop :=
  ∃ mem ecc, m' = { m with mem := mem, ecc := ecc } ∧ ∀ x, mem.ld8 x = (m.mem.stBytes a bs).ld8 x

namespace Wrote

variable {m m' : Mach} {a : Nat} {bs : List Byte} (h : Wrote m a bs m')
include h

theorem keeps (as : List Nat) : Mach.Keeps as m m' := by
  obtain ⟨_, _, rfl, -⟩ := h
  exact Mach.Keeps.refl as m

theorem shared : m'.shared = m.shared := by
  obtain ⟨_, _, rfl, -⟩ := h
  rfl

theorem ld8_other {x : Nat} (hx : x < a ∨ a + bs.length ≤ x) : m'.mem.ld8 x = m.mem.ld8 x := by
  obtain ⟨_, _, rfl, hmem⟩ := h
  exact (hmem x).trans (Memory.ld8_stBytes_other bs m.mem a x hx)

theorem ldBytes : m'.mem.ldBytes a bs.length = bs := by
  obtain ⟨_, _, rfl, hmem⟩ := h
  exact (Memory.ldBytes_congr fun i _ => hmem (a + i)).trans (Memory.ldBytes_stBytes bs m.mem a)

end Wrote

namespace Mach

/-! ### Whole words (R375) -/

/-- A store of whole words writes its bytes with fresh check bits and does nothing else. -/
theorem store_words (m : Mach) {a : Nat} {bs : List Byte} (cls : Nat) (ha : a % 8 = 0) (hb : bs.length % 8 = 0) :
    ∃ ecc, m.store a bs cls = { m with mem := m.mem.stBytes a bs, ecc := ecc } := by
  suffices h : ∃ ecc, (countFrom (a / 8) ((a + bs.length + 7) / 8 - a / 8)).foldl (fun m w =>
      m.eccWriteWord w cls (decide (a ≤ 8 * w) && decide (8 * w + 8 ≤ a + bs.length))) m = { m with ecc := ecc } by
    obtain ⟨ecc, h⟩ := h
    exact ⟨ecc, by rw [store, h]⟩
  refine List.foldlRecOn _ _ (motive := fun n => ∃ ecc, n = ({ m with ecc := ecc } : Mach)) ⟨m.ecc, rfl⟩ fun n hn w hw => ?_
  obtain ⟨ecc, rfl⟩ := hn
  have hrange := countFrom_mem hw
  have hwhole : (decide (a ≤ 8 * w) && decide (8 * w + 8 ≤ a + bs.length)) = true := by
    simp only [Bool.and_eq_true, decide_eq_true_eq]
    omega
  exact ⟨_, by rw [hwhole, eccWriteWord, if_pos rfl]⟩

/-! ### A master's write in bursts (R383, R385) -/

/-- Without regions none covers an address (R382). -/
theorem regionOf_none {m : Mach} (h : m.mpu = []) (cls a : Nat) : ∀ n, m.regionOf cls a n = none
  | 0 => rfl
  | n + 1 => by
    have hnone : (tabGet (⟨0, 0⟩ : Region) m.mpu (16 * cls + n)).covers a = false := by
      rw [h]
      simp [tabGet, Region.covers, bits]
    rw [regionOf, hnone]
    exact regionOf_none h cls a n

/-- A class with a path to an array that is no DDR5 may write there while no region stands against it (R19, R383). -/
theorem masterCheck_free {m : Mach} (hfree : m.mpu = []) {cls x : Nat} (hpath : pathOf cls (placeOf x) true = true)
    (hddr : placeOf x ≠ .ddr) (inst : Nat) : m.masterCheck cls inst x 1 = (.ok, m) := by
  simp only [masterCheck, decide_true, hpath, Bool.not_true, Bool.false_eq_true, if_false, hddr, false_and,
    regionOf_none hfree]

/-- The end of the burst that begins at an address. -/
def burstStop (a n x : Nat) : Nat := min (a + n) ((x / 256 + 1) * 256)

/-- One burst of a write. -/
def writeBurst (cls inst a : Nat) (bs : List Byte) (r : Bool × Mach) (x : Nat) : Bool × Mach :=
  let (ok, m) := r
  let (c, m) := m.masterCheck cls inst x 1
  match c with
  | .ok => (ok, m.store x ((bs.drop (x - a)).take (burstStop a bs.length x - x)) cls)
  | _ => (false, m)

theorem masterWrite_eq (m : Mach) (cls inst a : Nat) (bs : List Byte) :
    m.masterWrite cls inst a bs = (bursts a bs.length).foldl (writeBurst cls inst a bs) (true, m) := rfl

section
variable {cls a : Nat} {bs : List Byte} (ha : a % 8 = 0) (hb : bs.length % 8 = 0)
include ha hb

/-- A burst of words that lies in the write leaves the written bytes in its own place. -/
theorem writeBurst_stored {m : Mach} (hfree : m.mpu = []) {x : Nat} (hx : x = a ∨ x % 256 = 0) (hlo : a ≤ x)
    (hhi : x < a + bs.length) (hpath : pathOf cls (placeOf x) true = true) (hddr : placeOf x ≠ .ddr) (inst : Nat) (ok : Bool) :
    ∃ mem ecc, writeBurst cls inst a bs (ok, m) x = (ok, { m with mem := mem, ecc := ecc }) ∧ ∀ y, mem.ld8 y =
      if x ≤ y ∧ y < burstStop a bs.length x then (m.mem.stBytes a bs).ld8 y else m.mem.ld8 y := by
  have hlen : ((bs.drop (x - a)).take (burstStop a bs.length x - x)).length = burstStop a bs.length x - x := by
    rw [List.length_take, List.length_drop, burstStop]
    omega
  have hword : x % 8 = 0 := by omega
  have hwords : ((bs.drop (x - a)).take (burstStop a bs.length x - x)).length % 8 = 0 := by
    rw [hlen, burstStop]
    omega
  obtain ⟨ecc, hstore⟩ := m.store_words cls hword hwords
  refine ⟨_, ecc, by rw [writeBurst, masterCheck_free hfree hpath hddr]; exact congrArg _ hstore, fun y => ?_⟩
  rw [Memory.ld8_stBytes, Memory.ld8_stBytes, hlen]
  have hstop : x ≤ burstStop a bs.length x ∧ burstStop a bs.length x ≤ a + bs.length := by rw [burstStop]; omega
  obtain ⟨hafter, hwithin⟩ := hstop
  by_cases hy : x ≤ y ∧ y < burstStop a bs.length x
  · rw [if_pos (by omega), if_pos hy, if_pos (by omega), List.getD_eq_getElem?_getD, List.getElem?_take,
      if_pos (by omega), List.getElem?_drop, ← List.getD_eq_getElem?_getD, show x - a + (y - x) = y - a by omega]
  · rw [if_neg (by omega), if_neg hy]

/-- Bursts one after another leave the written bytes where one of them lies. -/
theorem writeBursts_stored (inst : Nat) (ok : Bool) : ∀ (l : List Nat) {m : Mach}, m.mpu = [] →
    (∀ x ∈ l, (x = a ∨ x % 256 = 0) ∧ a ≤ x ∧ x < a + bs.length ∧ pathOf cls (placeOf x) true = true ∧ placeOf x ≠ .ddr) →
    ∃ mem ecc, l.foldl (writeBurst cls inst a bs) (ok, m) = (ok, { m with mem := mem, ecc := ecc }) ∧ ∀ y,
      ((∃ x ∈ l, x ≤ y ∧ y < burstStop a bs.length x) → mem.ld8 y = (m.mem.stBytes a bs).ld8 y) ∧
      ((∀ x ∈ l, ¬(x ≤ y ∧ y < burstStop a bs.length x)) → mem.ld8 y = m.mem.ld8 y)
  | [], m, _, _ => ⟨m.mem, m.ecc, rfl, fun _ => ⟨fun ⟨_, hx, _⟩ => absurd hx List.not_mem_nil, fun _ => rfl⟩⟩
  | x :: l, m, hfree, hl => by
    obtain ⟨⟨hx, hlo, hhi, hpath, hddr⟩, hrest⟩ := List.forall_mem_cons.1 hl
    obtain ⟨mem, ecc, hburst, hmem⟩ := writeBurst_stored ha hb hfree hx hlo hhi hpath hddr inst ok
    obtain ⟨mem', ecc', hbursts, hmem'⟩ := writeBursts_stored inst ok l (m := { m with mem := mem, ecc := ecc }) hfree hrest
    refine ⟨mem', ecc', by rw [List.foldl_cons, hburst]; exact hbursts, fun y => ⟨fun hsome => ?_, fun hnone => ?_⟩⟩
    · obtain ⟨hin, hout⟩ := hmem' y
      have hwritten : (mem.stBytes a bs).ld8 y = (m.mem.stBytes a bs).ld8 y := by
        rw [Memory.ld8_stBytes, Memory.ld8_stBytes, hmem y]
        split
        · rfl
        · next hy => rw [if_neg (by rw [burstStop]; omega)]
      by_cases hcover : ∃ x ∈ l, x ≤ y ∧ y < burstStop a bs.length x
      · exact (hin hcover).trans hwritten
      · have hfirst : x ≤ y ∧ y < burstStop a bs.length x := by
          obtain ⟨x', hx', hy⟩ := hsome
          rcases List.mem_cons.1 hx' with rfl | hx'
          · exact hy
          · exact absurd ⟨x', hx', hy⟩ hcover
        exact (hout fun x' hx' hy => hcover ⟨x', hx', hy⟩).trans ((hmem y).trans (if_pos hfirst))
    · obtain ⟨hfirst, hothers⟩ := List.forall_mem_cons.1 hnone
      exact ((hmem' y).2 hothers).trans ((hmem y).trans (if_neg hfirst))

/-- A master's write of whole words where its class has a path and no region stands leaves its bytes in memory and does
nothing else (R385). -/
theorem masterWrite_stored {m : Mach} (hfree : m.mpu = [])
    (hpath : ∀ x, a ≤ x → x < a + bs.length → pathOf cls (placeOf x) true = true ∧ placeOf x ≠ .ddr) (inst : Nat) :
    Wrote m a bs (m.masterWrite cls inst a bs).2 := by
  have hmem_bursts (x : Nat) : x ∈ bursts a bs.length ↔ (x = a ∨ x % 256 = 0 ∧ a / 256 + 1 ≤ x / 256) ∧ x < a + bs.length := by
    simp only [bursts, List.mem_filter, List.mem_cons, List.mem_map, mem_countFrom_iff, decide_eq_true_eq]
    constructor
    · rintro ⟨rfl | ⟨k, hk, rfl⟩, hx⟩ <;> omega
    · rintro ⟨rfl | ⟨hx, hk⟩, hhi⟩
      · exact ⟨.inl rfl, hhi⟩
      · exact ⟨.inr ⟨x / 256, by omega, by omega⟩, hhi⟩
  obtain ⟨mem, ecc, hwrite, hmem⟩ := writeBursts_stored ha hb inst true (bursts a bs.length) hfree fun x hx => by
    obtain ⟨hstart, hhi⟩ := (hmem_bursts x).1 hx
    exact ⟨by omega, by omega, hhi, hpath x (by omega) hhi⟩
  refine ⟨mem, ecc, by rw [masterWrite_eq, hwrite], fun y => ?_⟩
  by_cases hy : a ≤ y ∧ y < a + bs.length
  · refine (hmem y).1 ⟨max a (y / 256 * 256), (hmem_bursts _).2 (by omega), by omega, ?_⟩
    rw [burstStop]
    omega
  · rw [Memory.ld8_stBytes_other _ _ _ _ (by omega)]
    refine (hmem y).2 fun x hx hcover => hy ?_
    have hstart := (hmem_bursts x).1 hx
    rw [burstStop] at hcover
    omega

end

/-! ### Stores outside the Ledger's rings (R375, R421) -/

/-- An address outside the Ledger's rings. -/
def OffRings (x : Nat) : Prop := ¬(0x03A00000 ≤ x ∧ x < 0x03B00000) ∧ ¬(0x10000000 ≤ x ∧ x < 0x11000000)

/-- The check state of a word that is written leaves the bytes of memory: only a Ledger record writes some. -/
theorem ld8_eccWriteWord (m : Mach) (w cls : Nat) (whole : Bool) {x : Nat} (hx : OffRings x) :
    (m.eccWriteWord w cls whole).mem.ld8 x = m.mem.ld8 x := by
  obtain ⟨hvolatile, hkept⟩ := hx
  unfold eccWriteWord
  split
  · rfl
  · split
    · rfl
    · rfl
    · exact (ledger_frame _ _ _ _ _ _).ld8 x hvolatile hkept
    · exact (ledger_frame _ _ _ _ _ _).ld8 x hvolatile hkept

theorem ld8_store (m : Mach) (a : Nat) (bs : List Byte) (cls : Nat) {x : Nat} (hx : OffRings x) :
    (m.store a bs cls).mem.ld8 x = (m.mem.stBytes a bs).ld8 x := by
  have hwords := foldl_keeps (fun m : Mach => m.mem.ld8 x) (fun m w => ld8_eccWriteWord m w cls
    (decide (a ≤ 8 * w) && decide (8 * w + 8 ≤ a + bs.length)) hx) (countFrom (a / 8) ((a + bs.length + 7) / 8 - a / 8)) m
  refine (Memory.ld8_stBytes bs _ a x).trans ?_
  rw [hwords, Memory.ld8_stBytes]

theorem ldBytes_store (m : Mach) (a : Nat) (bs : List Byte) (cls : Nat) (h : ∀ i < bs.length, OffRings (a + i)) :
    (m.store a bs cls).mem.ldBytes a bs.length = bs :=
  (Memory.ldBytes_congr fun i hi => m.ld8_store a bs cls (h i hi)).trans (Memory.ldBytes_stBytes bs m.mem a)

theorem ldBytes_store_other (m : Mach) (a : Nat) (bs : List Byte) (cls : Nat) {b n : Nat} (h : ∀ i < n, OffRings (b + i))
    (hapart : b + n ≤ a ∨ a + bs.length ≤ b) : (m.store a bs cls).mem.ldBytes b n = m.mem.ldBytes b n :=
  (Memory.ldBytes_congr fun i hi => m.ld8_store a bs cls (h i hi)).trans
    (Memory.ldBytes_stBytes_other bs m.mem a b n hapart)

end Mach
end Sys2Proof.Machine
end

section
/-! SUPPORT. What a standby or a module in RESYNC keeps of its primary's changes, and the link's frames and lanes (R316, R318,
R319, R336). -/

namespace Sys2Proof.Machine

namespace Mach

/-- One part that is a whole stream gives its bytes (R319). -/
theorem streamAdd_whole (m : Mach) (type tick : Nat) (data : List Byte) : m.streamAdd type tick 0 data.length data =
    (some data, { m with pair := { m.pair with rx := assocDel m.pair.rx type } }) := by
  simp [streamAdd]

/-- A bit of a field of a register. -/
theorem bit_of_fld (m : Mach) (a : Nat) {hi lo k : Nat} (hk : k < hi - lo + 1) :
    m.bit a (lo + k) = (m.fld a hi lo).testBit k := by
  rw [fld, testBit_bits, decide_eq_true hk, Bool.true_and, bit]

/-- A field with a set bit is not zero. -/
theorem fld_ne_zero {m : Mach} {a hi lo k : Nat} (hk : k < hi - lo + 1) (h : m.bit a (lo + k) = true) : m.fld a hi lo ≠ 0 := by
  intro hzero
  rw [m.bit_of_fld a hk, hzero, Nat.zero_testBit] at h
  exact Bool.false_ne_true h

/-- A link with a lane is up while no frame has gone unacknowledged too often (R316, R318). -/
theorem linkUp_of_lane {m : Mach} (hctl : m.bit PTL_CTL 0 = true) {k : Nat} (hk : k < 2)
    (hlane : m.bit PTL_STAT (4 + k) = true) (hsure : m.pair.dead = false) : m.linkUp = true := by
  have hlanes : m.fld PTL_STAT 5 4 ≠ 0 := fld_ne_zero hk hlane
  simp [linkUp, hctl, hlanes, hsure]

theorem dead_of_linkUp {m : Mach} (h : m.linkUp = true) : m.pair.dead = false := by
  simp only [linkUp, Bool.and_eq_true, Bool.not_eq_true'] at h
  exact h.2

theorem Sends.dead {m m' : Mach} (h : Sends m m') : m'.pair.dead = m.pair.dead := by
  obtain ⟨_, _, _, rfl⟩ := h
  rfl

/-- Asking again shows RESYNC's state at most and keeps the link as it is (R335). -/
theorem reqAgain_leaves (m : Mach) : Keeps [PTL_RSSTAT] m m.reqAgain ∧ m.reqAgain.pair.dead = m.pair.dead := by
  unfold reqAgain
  split
  · have hsends := (m.setFld PTL_RSSTAT 2 0 1).sendLink_sends 0x40 ((m.setFld PTL_RSSTAT 2 0 1).reqBytes 0 0)
    exact ⟨((Keeps.refl _ m).setFld (by simp) 2 0 1).trans (hsends.keeps _), hsends.dead⟩
  · split
    · have hsends := m.sendLink_sends 0x40 (m.reqBytes 2 0)
      exact ⟨hsends.keeps _, hsends.dead⟩
    · exact ⟨Keeps.refl _ m, rfl⟩

/-- A link that comes up starts afresh, and RESYNC's state is all that its registers show of it (R316, R335). -/
theorem linkFresh_leaves (m : Mach) : Keeps [PTL_RSSTAT] m m.linkFresh ∧ m.linkFresh.pair.dead = false := by
  obtain ⟨hkeeps, hsure⟩ :=
    reqAgain_leaves { m with pair := { m.pair with dead := false, sent := [], rx := [], mseq := [0, 0, 0, 0, 0] } }
  exact ⟨((Keeps.refl _ m).of_regs rfl).trans hkeeps, hsure⟩

/-- A client state as a session gives it stands in journal SRAM (R319, R350). -/
theorem clientWrite_leaves (m : Mach) {k : Nat} (hk : k < 256) {data : List Byte} (hlen : data.length = 12) (key : List Byte) :
    (m.clientWrite k data key).mem.ldBytes (cliAt k) 12 = data ∧
    assocGet (m.clientWrite k data key).jrn.keys k = some key := by
  refine ⟨?_, assocGet_assocPut_same _ _ _⟩
  have hoff : ∀ i < 12, OffRings (cliAt k + i) := fun i hi => by
    unfold OffRings cliAt
    omega
  have hmirror : cliAt k + 12 ≤ mirrorOf (cliAt k) := by
    unfold mirrorOf cliAt
    omega
  let written := (m.jst (cliAt k) data).jst (cliAt k + 12) ((data.drop 8).take 4)
  have hcopied : (written.toMirror (cliAt k) 64).mem.ldBytes (cliAt k) 12 = written.mem.ldBytes (cliAt k) 12 :=
    ldBytes_store_other _ _ _ 5 hoff (.inl hmirror)
  have hwritten : written.mem.ldBytes (cliAt k) 12 = (m.jst (cliAt k) data).mem.ldBytes (cliAt k) 12 :=
    ldBytes_store_other _ _ _ 5 hoff (.inl (le_refl _))
  have hfirst : (m.jst (cliAt k) data).mem.ldBytes (cliAt k) 12 = data := by
    rw [← hlen]
    exact ldBytes_store m (cliAt k) data 5 fun i hi => hoff i (hlen ▸ hi)
  exact hcopied.trans (hwritten.trans hfirst)

/-- The link has a path to the process image and to Kiln SRAM, and to track SRAM (R19). -/
theorem linkPath {x : Nat} (h : x < 0x01800000 ∨ 0x02000000 ≤ x ∧ x < 0x02800000 ∨ 0x03000000 ≤ x ∧ x < 0x03400000) :
    pathOf 4 (placeOf x) true = true ∧ placeOf x ≠ .ddr := by
  unfold placeOf
  rcases h with h | h | h
  · rw [if_pos h]
    exact ⟨rfl, nofun⟩
  · rw [if_neg (by omega), if_pos h]
    exact ⟨rfl, nofun⟩
  · rw [if_neg (by omega), if_neg (by omega), if_pos h]
    exact ⟨rfl, nofun⟩

end Mach

section
variable {s : State} (hdead : s.m.dead = false)
include hdead

theorem linkLane_completes (lane : Fin 2) (hboth : s.m.fld PTL_STAT 5 4 = 3) (hcut : s.m.pair.serveCut = none) :
    Completes (exec (.linkLane lane) s) fun t => t.m.bit PTL_STAT (4 + lane.val) = false ∧
      t.m.bit PTL_STAT (5 - lane.val) = true ∧ KeepsRegs s t [PTL_STAT] ∧ SameCores s t := by
  have hup (k : Fin 2) : s.m.bit PTL_STAT (4 + k.val) = true := by
    rw [s.m.bit_of_fld PTL_STAT (hi := 5) (lo := 4) k.isLt, hboth]
    revert k
    decide
  have hother : 5 - lane.val = 4 + (1 - lane).val := by revert lane; decide
  let lost := (s.m.setBit PTL_STAT (4 + lane.val) false).ledger 0x0805 5 lane.val 0 0
  have hrecord : Mach.LedgerFrame (s.m.setBit PTL_STAT (4 + lane.val) false) lost := Mach.ledger_frame _ _ _ _ _ _
  have hlost : lost.bit PTL_STAT (4 + lane.val) = false :=
    (hrecord.bit_notMem (a := PTL_STAT) (by decide) _).trans (Mach.bit_setBit_same _ _ _ _ (by omega))
  have hkept : lost.bit PTL_STAT (5 - lane.val) = true := by
    rw [hrecord.bit_notMem (by decide), Mach.bit_setBit_field _ _ _ _ _ (by omega) (by omega), hother]
    exact hup (1 - lane)
  have hlanes : lost.fld PTL_STAT 5 4 ≠ 0 := Mach.fld_ne_zero (k := (1 - lane).val) (1 - lane).isLt (hother ▸ hkept)
  have hnocut : ¬(lost.pair.serveCut.isSome = true ∧ lost.cutRoom < lost.cutSize) := by
    rw [hrecord.pair, Mach.setBit_pair, hcut]
    exact fun h => Bool.false_ne_true h.1
  refine completes_change hdead (m := lost) ?_ ⟨hlost, hkept, ?_, rfl, rfl, rfl⟩
  · rw [if_pos (hup lane)]
    exact (if_neg hlanes).trans (if_neg hnocut)
  · exact ((Mach.Keeps.refl _ s.m).setBit (by simp) _ false).ledger _ _ _ _ _

theorem partnerLinkStart_completes (lane : Fin 2) (delay : BitVec 16) (hctl : s.m.bit PTL_CTL 0 = true) :
    Completes (exec (.partnerLinkStart lane delay) s) fun t => t.m.bit PTL_STAT (4 + lane.val) = true ∧
      t.m.rg PTL_DELAY = delay.toNat ∧ t.m.linkUp = true ∧ SameCores s t ∧
      (s.m.linkUp = true → KeepsRegs s t [PTL_STAT, PTL_DELAY]) := by
  let shown := (s.m.setBit PTL_STAT (4 + lane.val) true).wr PTL_DELAY delay.toNat
  have hkeeps : Mach.Keeps [PTL_STAT, PTL_DELAY] s.m shown :=
    ((Mach.Keeps.refl _ s.m).setBit (by simp) _ true).wr (by simp) _
  have hlane : shown.bit PTL_STAT (4 + lane.val) = true :=
    (Mach.bit_wr_other _ _ _ _ _ (by decide)).trans (Mach.bit_setBit_same _ _ _ _ (by omega))
  have hdelay : shown.rg PTL_DELAY = delay.toNat :=
    (Mach.rg_wr_same _ _ _).trans (Nat.mod_eq_of_lt (delay.isLt.trans (by decide)))
  have hctl' : shown.bit PTL_CTL 0 = true := (hkeeps.bit (by decide) (by decide) 0).trans hctl
  refine completes_change hdead (m := if s.m.linkUp then shown else shown.linkFresh) (if_pos hctl) ?_
  cases hup : s.m.linkUp with
  | true => exact ⟨hlane, hdelay, Mach.linkUp_of_lane hctl' lane.isLt hlane (Mach.dead_of_linkUp (m := s.m) hup), ⟨rfl, rfl, rfl⟩,
      fun _ => hkeeps⟩
  | false =>
    obtain ⟨hfresh, hsure⟩ := shown.linkFresh_leaves
    have hlane' : shown.linkFresh.bit PTL_STAT (4 + lane.val) = true := (hfresh.bit (by decide) (by decide) _).trans hlane
    exact ⟨hlane', (hfresh PTL_DELAY (by decide) (by decide)).trans hdelay,
      Mach.linkUp_of_lane ((hfresh.bit (by decide) (by decide) 0).trans hctl') lane.isLt hlane' hsure, ⟨rfl, rfl, rfl⟩, nofun⟩

variable (hup : s.m.linkUp = true)
include hup

/-- A frame without an acknowledgment is sent again, and after three times the link counts as down (R318). -/
theorem frameResendTimeout_completes (k : Fin 5) (q : BitVec 32) {x : SentFrame}
    (hsent : s.m.pair.sent.find? (fun x => x.cls = k.val ∧ x.mseq = q.toNat) = some x) :
    Completes (exec (.frameResendTimeout k q) s) fun t => KeepsRegs s t [] ∧ SameCores s t ∧
      if x.again < 3 then t.m.out = s.m.out ++ [.link x.bytes] else t.m.linkUp = false ∧ t.m.pair.sent = [] := by
  refine completes_change hdead (m := s.m.resend k.val q.toNat) (if_pos hup) ?_
  rw [Mach.resend, hsent]
  dsimp only
  split
  · exact ⟨fun _ _ _ => rfl, ⟨rfl, rfl, rfl⟩, rfl⟩
  · exact ⟨fun _ _ _ => rfl, ⟨rfl, rfl, rfl⟩, Bool.and_false _, rfl⟩

variable {cls mseq tick : Nat} {f p : List Byte}

/-- An acknowledgment ends the resends of its frame (R318, R319). -/
theorem lackMessage_completes (hframe : frameOf 0x7F f = some (cls, mseq, tick, p)) (hlen : p.length = 4) :
    Completes (exec (.lackMessage f) s) fun t =>
      t.m.pair.sent = s.m.pair.sent.filter (fun x => ¬(x.cls = cls ∧ x.mseq = leNat p)) ∧
      KeepsRegs s t [] ∧ SameCores s t := by
  refine completes_change hdead (m := { s.m with pair := { s.m.pair with
    sent := s.m.pair.sent.filter fun x => !(x.cls == cls && x.mseq == leNat p) } }) ?_
    ⟨List.filter_congr fun x _ => ?_, fun _ _ _ => rfl, rfl, rfl, rfl⟩
  · simp only [hup, hframe, hlen, Bool.not_true, Bool.false_eq_true, if_false, ne_eq, not_true_eq_false]
  · rw [Bool.eq_iff_iff]
    simp

theorem imageMessage_completes (hframe : frameOf 0x30 f = some (cls, mseq, tick, p)) (hlen : 16 ≤ p.length)
    (hmode : s.m.mode = 5) (hkind : fieldAt p 8 1 = 1) (hofs : fieldAt p 0 4 = 0)
    (htotal : fieldAt p 4 4 = (p.drop 16).length) : Completes (exec (.imageMessage f) s) fun t =>
      t.m.waitingCat = p.drop 16 ∧ KeepsRegs s t [] ∧ SameCores s t := by
  let rest := assocDel s.m.pair.rx (Mach.imageKey 1)
  refine completes_recv hdead hup hframe (g := fun o => { s.m with out := o, pair := { s.m.pair with
    rx := assocPut rest Mach.catWaits ⟨tick, (p.drop 16).length, p.drop 16⟩ } }) (fun o => ?_) fun o => ?_
  · rw [if_neg (Nat.not_lt.2 hlen), Mach.imagePart, hkind, hofs, htotal]
    simp only [Mach.streamAdd_whole, Mach.imageTake]
    exact (if_neg (by decide)).trans ((if_pos hmode).trans (if_pos trivial))
  · exact ⟨by simp [Mach.waitingCat, assocGet_assocPut_same], fun _ _ _ => rfl, rfl, rfl, rfl⟩

theorem forceMessage_completes (hframe : frameOf 0x31 f = some (cls, mseq, tick, p)) (hmode : s.m.mode = 5)
    (hone : fieldAt p 4 2 = 1) (hlen : p.length = 24) (hlast : (fieldAt p 6 1).testBit 0 = false) :
    Completes (exec (.forceMessage f) s) fun t =>
      t.m.pgm.frcRx = s.m.pgm.frcRx ++ [Mach.fitemOf (p.drop 8)] ∧ KeepsRegs s t [] ∧ SameCores s t := by
  refine completes_recv hdead hup hframe (g := fun o => { s.m with out := o, pgm := { s.m.pgm with
    frcRx := s.m.pgm.frcRx ++ [Mach.fitemOf (p.drop 8)] } }) (fun o => ?_) fun o => ⟨rfl, fun _ _ _ => rfl, rfl, rfl, rfl⟩
  have hreplicates : ({ s.m with out := o } : Mach).replicates = true := by
    have hstandby : ({ s.m with out := o } : Mach).mode = 5 := hmode
    simp [Mach.replicates, hstandby]
  have hitem : (p.drop 8).take 16 = p.drop 8 := List.take_of_length_le (by rw [List.length_drop]; omega)
  have hcount : countFrom 0 1 = [0] := rfl
  rw [if_neg (by simp [hlen, hreplicates]), Mach.forceTake, hlast]
  simp [hone, hlen, hitem, hcount]

theorem sessionMessage_completes (hframe : frameOf 0x32 f = some (cls, mseq, tick, p)) (hmode : s.m.mode = 5)
    (hop : fieldAt p 0 2 = 1) (hlen : p.length = 60) (hofs : fieldAt p 8 4 = 0) (htotal : fieldAt p 12 4 = 44) :
    Completes (exec (.sessionMessage f) s) fun t =>
      assocGet t.m.jrn.keys (fieldAt p 4 4 % 256) = some (p.drop 28) ∧
      t.m.mem.ldBytes (Mach.cliAt (fieldAt p 4 4 % 256)) 12 = (p.drop 16).take 12 ∧ SameCores s t := by
  let taken (o : List Out) : Mach := { s.m with
    out := o, pair := { s.m.pair with rx := assocDel s.m.pair.rx 0x10001 } }
  have hdata : (p.drop 16).length = 44 := by rw [List.length_drop, hlen]
  have hkey : ((p.drop 16).drop 12).take 32 = p.drop 28 := by
    rw [List.drop_drop]
    exact List.take_of_length_le (by rw [List.length_drop]; omega)
  refine completes_recv hdead hup hframe (g := fun o => (taken o).clientWrite (fieldAt p 4 4 % 256) ((p.drop 16).take 12)
    (p.drop 28)) (fun o => ?_) fun o => ?_
  · have hreplicates : ({ s.m with out := o } : Mach).replicates = true := by
      have hstandby : ({ s.m with out := o } : Mach).mode = 5 := hmode
      simp [Mach.replicates, hstandby]
    rw [if_neg (by simp [hlen, hreplicates]), Mach.sessionPart, hop, hofs, htotal, ← hdata]
    simp only [Mach.streamAdd_whole, Mach.sessionTake, hkey]
    rfl
  · have hwidth : ((p.drop 16).take 12).length = 12 := by rw [List.length_take, hdata]; rfl
    obtain ⟨hbytes, hkeys⟩ := (taken o).clientWrite_leaves (Nat.mod_lt (fieldAt p 4 4) (by decide)) hwidth (p.drop 28)
    exact ⟨hkeys, hbytes, rfl, rfl, rfl⟩

theorem outblkMessage_completes (hframe : frameOf 0x33 f = some (cls, mseq, tick, p)) (hmode : s.m.mode = 4)
    (haccepted : s.m.pair.accepted = true) (hlen : p.length = 1032) (hblock : fieldAt p 0 2 ≤ 79) (hfree : s.m.mpu = [])
    (hbuf : s.m.tick.outBuf ≤ 1) : Completes (exec (.outblkMessage f) s) fun t =>
      let a := Mach.outBase s.m.tick.outBuf + 1024 * fieldAt p 0 2
      t.m.mem.ldBytes a 1024 = p.drop 8 ∧ (∀ x, x < a ∨ a + 1024 ≤ x → t.m.mem.ld8 x = s.m.mem.ld8 x) ∧
      KeepsRegs s t [] ∧ SameCores s t := by
  let a := Mach.outBase s.m.tick.outBuf + 1024 * fieldAt p 0 2
  have hbytes : (p.drop 8).length = 1024 := by rw [List.length_drop, hlen]
  refine completes_recv hdead hup hframe (g := fun o => (({ s.m with out := o } : Mach).masterWrite 4 0 a (p.drop 8)).2)
    (fun o => if_neg ?_) fun o => ?_
  · rintro (h | h | h | h)
    · exact h hmode
    · exact Bool.false_ne_true ((Bool.eq_false_of_not_eq_true' h).symm.trans haccepted)
    · exact h hlen
    · omega
  · have ha : a = 0x02140000 + 0x20000 * s.m.tick.outBuf + 1024 * fieldAt p 0 2 := rfl
    have hwrote : Wrote { s.m with out := o } a (p.drop 8) (({ s.m with out := o } : Mach).masterWrite 4 0 a (p.drop 8)).2 :=
      Mach.masterWrite_stored (m := { s.m with out := o }) (a := a) (bs := p.drop 8) (by omega) (by omega) hfree (fun x hlo hhi => Mach.linkPath (by omega)) 0
    have hread := hwrote.ldBytes
    rw [hbytes] at hread
    exact ⟨hread, fun x hx => hwrote.ld8_other (hbytes.symm ▸ hx), hwrote.keeps [], rfl, rfl, rfl⟩

end

end Sys2Proof.Machine
end

section
open Sys2Proof Sys2Proof.Machine

/-- Settles O46: each message leaves what it carries in its own place, and the link resends and loses lanes as R316 and R318
say. -/
theorem replicatedChanges : Obligations.ReplicatedChanges := by
  unfold Obligations.ReplicatedChanges
  intro f cls mseq tick p s hdead
  exact ⟨fun hup => ⟨imageMessage_completes hdead hup, forceMessage_completes hdead hup, sessionMessage_completes hdead hup,
      outblkMessage_completes hdead hup, lackMessage_completes hdead hup,
      fun k q _ hsent => frameResendTimeout_completes hdead hup k q hsent⟩,
    linkLane_completes hdead, partnerLinkStart_completes hdead⟩

end

section
/-! SUPPORT. Rejoining: what a primary that serves keeps of its service, and what a module in RESYNC takes (R320, R335 to
R340). -/

namespace Sys2Proof.Machine

namespace Mach

/-! ### The primary's service (R335 to R339) -/

/-- Whether a primary serves a checkpoint, its pass, and its cut. -/
def service (m : Mach) : Bool × Nat × Option Nat := (m.pair.serving, m.pair.pass, m.pair.serveCut)

theorem Sends.service {m m' : Mach} (h : Sends m m') : m'.service = m.service := by
  obtain ⟨_, _, _, rfl⟩ := h
  rfl

theorem service_of_shared {m m' : Mach} (h : m'.shared = m.shared) : m'.service = m.service := by
  simp only [service, pair_of_shared h, shared]

theorem service_sendImage (m : Mach) (kind : Nat) (bs : List Byte) : (m.sendImage kind bs).service = m.service :=
  (Sends.foldl (fun m _ => m.sendLink_sends 0x30 _) _ m).service

/-- What of the emitted output image has been sent does not belong to the service. -/
theorem service_withSent (m : Mach) (x : Memory) :
    ({ m with pair := { m.pair with outSent := x } } : Mach).service = m.service := rfl

theorem service_sendBlocks (m : Mach) (ks : List Nat) : (m.sendBlocks ks).service = m.service :=
  foldl_keeps service (fun m k => (sendLink_sends _ 0x33 _).service.trans
    (m.service_withSent (m.pair.outSent.stBytes (1024 * k) (m.outBlock k)))) ks m

theorem service_sendMirror (m : Mach) (recs : List (List Byte)) : (m.sendMirror recs).service = m.service :=
  (Sends.foldl (fun m _ => m.sendLink_sends 0x41 _) _ m).service

theorem service_mirrorSync (m : Mach) : m.mirrorSync.service = m.service := by
  unfold mirrorSync
  extract_lets recs sent pr
  exact m.service_sendMirror recs

theorem service_sendPages (m : Mach) (ps : List Nat) : (m.sendPages ps).service = m.service :=
  (Sends.foldl (fun m _ => m.sendLink_sends 0x42 _) ps m.mirrorSync).service.trans m.service_mirrorSync

/-- A service that starts has no pass and no cut yet (R335). -/
theorem service_serveStart (m : Mach) (q : ReqMsg) : (m.serveStart q).service = (true, 0, none) := by
  unfold serveStart
  extract_lets pr started shown catalogued imaged
  have hshown : shown.service = (true, 0, none) := rfl
  have hcatalogued : catalogued.service = shown.service := by
    unfold catalogued
    split
    · rfl
    · exact shown.service_sendImage _ _
  have himaged : imaged.service = catalogued.service := by
    unfold imaged
    split
    · rfl
    · exact catalogued.service_sendImage _ _
  rw [service_of_shared (shared_admWait _ _ _), service_sendBlocks, himaged, hcatalogued, hshown]

/-- The next pass has the next number and the same cut (R337). -/
theorem service_passNext (m : Mach) : m.passNext.service = (m.pair.serving, m.pair.pass + 1, m.pair.serveCut) :=
  service_sendPages _ _

/-! ### REQ and its answer (R320, R335) -/

/-- A module keeps the format that its partner's REQ names (R320). -/
def heardReq (m : Mach) (q : ReqMsg) : Mach := { m with upd := { m.upd with partProto := some q.proto } }

/-- A primary answers a request, and serves one that it accepts. -/
theorem reqTake_primary {m : Mach} (hmode : m.mode = 6) {q : ReqMsg} (hclaim : q.flags.testBit 1 = false) : m.reqTake q =
    if m.reqRefuse q = 0 then ((m.heardReq q).sendReq 1 (m.reqRefuse q)).serveStart q
    else (m.heardReq q).sendReq 1 (m.reqRefuse q) := by
  have hprimary : (m.heardReq q).mode = 6 := hmode
  have hfirst : ¬((m.heardReq q).claiming = true ∧ q.flags.testBit 1 = true) := by simp [hclaim]
  exact (if_neg hfirst).trans ((if_neg (not_not.2 hprimary)).trans (if_neg (by simp [hclaim])))

/-- A module in RESYNC shows why it is refused, or is accepted (R335). -/
theorem answerTake_resync {m : Mach} (hmode : m.mode = 4) (hopen : m.pair.accepted = false) {q : ReqMsg}
    (hclaim : q.flags.testBit 1 = false) (tick : Nat) :
    (q.refuse ≠ 0 → m.answerTake tick q = (m.heardReq q).setFld PTL_RSSTAT 31 24 q.refuse) ∧
    (q.refuse = 0 → (m.answerTake tick q).pair.accepted = true ∧ (m.answerTake tick q).pair.pageWritten = false) := by
  have hresync : (m.heardReq q).mode = 4 := hmode
  have hopen' : (m.heardReq q).pair.accepted = false := hopen
  have hfirst : ¬((m.heardReq q).claiming = true ∧ q.flags.testBit 1 = true) := by simp [hclaim]
  have hsecond : ¬((m.heardReq q).mode ≠ 4 ∨ (m.heardReq q).pair.accepted = true ∨ q.flags.testBit 1 = true) := by
    simp [hresync, hopen', hclaim]
  refine ⟨fun hrefuse => (if_neg hfirst).trans ((if_neg hsecond).trans (if_pos hrefuse)), fun haccept => ?_⟩
  have htaken : ∃ n : Mach, n.pair.accepted = true ∧ n.pair.pageWritten = false ∧ m.answerTake tick q = n.admWait 2 .pages :=
    ⟨_, rfl, rfl, (if_neg hfirst).trans ((if_neg hsecond).trans (if_neg (not_not.2 haccept)))⟩
  obtain ⟨n, haccepted, hwritten, htaken⟩ := htaken
  rw [htaken, pair_of_shared (n.shared_admWait 2 .pages)]
  exact ⟨haccepted, hwritten⟩

/-- The type of a frame is its first byte (R317). -/
theorem frameBytes_head (cls mseq tick : Nat) (p : List Byte) : (frameBytes 0x40 cls mseq tick p).head? = some 0x40 := by
  simp [frameBytes, leBytes]

theorem sendLink_out {m : Mach} (hup : m.linkUp = true) (type : Nat) (p : List Byte) : ∃ cls mseq tick,
    (m.sendLink type p).out = m.out ++ [.link (frameBytes type cls mseq tick p)] :=
  ⟨(linkClass type).getD 0, m.pair.mseq.getD ((linkClass type).getD 0) 0, m.tickNo,
    by rw [sendLink, if_neg (by simp [hup])]; rfl⟩

/-- The link is a matter of two registers and of what has gone unacknowledged. -/
theorem Keeps.linkUp {as : List Nat} {m m' : Mach} (h : Keeps as m m') (hctl : PTL_CTL ∉ as) (hstat : PTL_STAT ∉ as)
    (hsure : m'.pair.dead = m.pair.dead) : m'.linkUp = m.linkUp := by
  rw [Mach.linkUp, h.bit hctl (by decide), h.fld hstat (by decide), hsure, Mach.linkUp]

/-! ### Pages and MIRROR records (R337, R338) -/

/-- A page has been written, and its pass is shown (R337, R344). -/
def pageShown (m : Mach) (pass : Nat) : Mach :=
  (({ m with pair := { m.pair with pageWritten := true } }).setFld PTL_RSSTAT 15 8 pass).setFld PTL_RSSTAT 2 0
    (if pass = 1 then 2 else 3)

theorem keeps_pageShown (m : Mach) (pass : Nat) : Keeps [PTL_RSSTAT] m (m.pageShown pass) := by
  have hmarked : Keeps [PTL_RSSTAT] m { m with pair := { m.pair with pageWritten := true } } := (Keeps.refl _ m).of_regs rfl
  exact (hmarked.setFld (List.mem_singleton_self _) 15 8 pass).setFld (List.mem_singleton_self _) 2 0 _

theorem pageShown_pass (m : Mach) (pass : Nat) : (m.pageShown pass).fld PTL_RSSTAT 15 8 = pass % 256 :=
  (fld_setFld_field _ _ _ _ _ _ _ (by decide) (by decide) (by decide) (by decide)).trans
    (fld_setFld_same _ _ _ _ _ (by decide) (by decide))

theorem pageTake_kiln {m : Mach} {p : List Byte} (halign : fieldAt p 0 6 % 4096 = 0) (hkiln : fieldAt p 0 6 < 0x01800000) :
    m.pageTake p = (m.masterWrite 4 0 (fieldAt p 0 6) (p.drop 8)).2.pageShown (fieldAt p 6 1) := by
  have hplace : placeOf (fieldAt p 0 6) = .kiln := if_pos hkiln
  have hpage : m.pageWrite (fieldAt p 0 6) (p.drop 8) = (m.masterWrite 4 0 (fieldAt p 0 6) (p.drop 8)).2 := by
    rw [pageWrite, hplace]
  rw [pageTake, if_neg (not_not.2 halign), hpage]
  rfl

theorem mirrorTake_track {m : Mach} {r : List Byte} (hlen : r.length = 12) (htrack : fieldAt r 0 4 < 0x400000) :
    m.mirrorTake r = (m.masterWrite 4 0 (0x03000000 + fieldAt r 0 4) (r.drop 4)).2 := by
  have hdata : (r.drop 4).take 8 = r.drop 4 := List.take_of_length_le (by rw [List.length_drop]; omega)
  have hword : (fieldAt r 0 4).testBit 31 = false :=
    Nat.testBit_lt_two_pow (htrack.trans (by decide))
  have hofs : fieldAt r 0 4 % 2 ^ 31 = fieldAt r 0 4 := Nat.mod_eq_of_lt (htrack.trans (by decide))
  simp only [mirrorTake, hword, hofs, hdata, Bool.false_eq_true, if_false]
  exact if_neg (Nat.not_le.2 htrack)

/-! ### The number of the tick through a cut (R339) -/

theorem tickNo_regsTake (m : Mach) (a : Nat) (skip : List Nat) (bs : List Byte)
    (h : ∀ k, 4 * k ∉ skip → KLN_TICKNO + 4 < a + 4 * k ∨ a + 4 * k < KLN_TICKNO) : (m.regsTake a skip bs).tickNo = m.tickNo := by
  refine foldl_keeps tickNo (fun m k => ?_) _ m
  split
  · rfl
  · next hskip =>
    have hk : 4 * k ∉ skip := fun hk => hskip (by simpa using hk)
    have hlo : KLN_TICKNO ≠ a + 4 * k := by
      rcases h k hk with h | h <;> omega
    have hhi : KLN_TICKNO + 4 ≠ a + 4 * k := by
      rcases h k hk with h | h <;> omega
    rw [tickNo, rg64, rg_wr_other _ _ _ _ hlo, rg_wr_other _ _ _ _ hhi, tickNo, rg64]

theorem tickNo_setRecState (m : Mach) (n v : Nat) : (m.setRecState n v).tickNo = m.tickNo := tickNo_of_regs rfl

theorem tickNo_withJrn (m : Mach) (x : Jrn) : ({ m with jrn := x } : Mach).tickNo = m.tickNo := tickNo_of_regs rfl

theorem tickNo_orderCmtno (m : Mach) (cmt : Nat) : (m.orderCmtno cmt).tickNo = m.tickNo := by
  refine (foldl_keeps tickNo (fun m o => ?_) _ _).trans (m.tickNo_withJrn _)
  split
  · exact m.tickNo_setRecState o.n 2
  · rfl

theorem tickNo_acjShow (m : Mach) : m.acjShow.tickNo = m.tickNo := by
  unfold acjShow
  extract_lets cells filled lagged
  rw [setBit, setBit, tickNo_setFld _ _ _ _ _ (by decide), tickNo_setFld _ _ _ _ _ (by decide)]
  unfold lagged filled
  rw [tickNo_setFld _ _ _ _ _ (by decide), tickNo_setFld _ _ _ _ _ (by decide), tickNo_setFld _ _ _ _ _ (by decide)]

theorem tickNo_blockRegs (m : Mach) (b : List Byte) : (m.blockRegs b).tickNo = m.tickNo := by
  have hno : KLN_TICKNO = 0x08000010 := rfl
  unfold blockRegs journalTake
  extract_lets part kiln core ports deadline f journal next pointers
  have hkiln : kiln.tickNo = m.tickNo := m.tickNo_regsTake _ _ _ fun k hk => by
    simp only [List.mem_cons, List.not_mem_nil, or_false] at hk
    omega
  have hcore : core.tickNo = kiln.tickNo := kiln.tickNo_regsTake _ _ _ fun k _ => by omega
  have hports : ports.tickNo = core.tickNo := foldl_keeps tickNo (fun m p => by
    rw [tickNo_wr _ _ _ (tickNo_lt_aseq p), tickNo_wr _ _ _ (by simp only [hno, GXP_OSEQ, gxpBase]; omega)]) _ core
  have hdeadline : deadline.tickNo = ports.tickNo := ports.tickNo_regsTake _ _ _ fun k _ => by omega
  have hjournal : journal.tickNo = deadline.tickNo := deadline.tickNo_regsTake _ _ _ fun k _ => by omega
  rw [tickNo_orderCmtno]
  unfold pointers next
  rw [tickNo_wr64 _ _ _ (by decide), tickNo_wr64 _ _ _ (by decide), tickNo_wr64 _ _ _ (by decide), hjournal, hdeadline,
    hports, hcore, hkiln]

theorem tickNo_engineTake (m : Mach) : m.engineTake.tickNo = m.tickNo := by
  unfold engineTake dleShow
  rw [tickNo_wr _ _ _ (by decide), tickNo_wr _ _ _ (by decide)]
  exact tickNo_of_regs rfl

theorem tickNo_deliverRec (m : Mach) (n : Nat) : (m.deliverRec n).tickNo = m.tickNo :=
  (tickNo_store _ _ _ _).trans (m.tickNo_setRecState n 3)

theorem tickNo_completeRec (m : Mach) (tick : Nat) (e : Nat × Nat) : (m.completeRec tick e).tickNo = m.tickNo := by
  unfold completeRec
  exact (tickNo_withJrn _ _).trans ((tickNo_store _ _ _ _).trans (m.tickNo_setRecState e.1 4))

theorem tickNo_commitApply (m : Mach) (tick : Nat) (bs : List Byte) : (m.commitApply tick bs).tickNo = m.tickNo := by
  unfold commitApply
  extract_lets kept news comps delivered completed pointed slots lagged
  have hkept : kept.tickNo = m.tickNo := (tickNo_store _ _ _ _).trans (tickNo_store _ _ _ _)
  have hdelivered : delivered.tickNo = kept.tickNo := foldl_keeps tickNo tickNo_deliverRec _ kept
  have hcompleted : completed.tickNo = delivered.tickNo := foldl_keeps tickNo (fun m e => m.tickNo_completeRec tick e) _ delivered
  have hpointed : pointed.tickNo = completed.tickNo :=
    (tickNo_wr64 _ _ _ (by decide)).trans (tickNo_wr64 _ _ _ (by decide))
  rw [tickNo_acjShow, ← hkept, ← hdelivered, ← hcompleted, ← hpointed]
  exact tickNo_of_regs rfl

theorem tickNo_lastCommitTake (m : Mach) (c : Nat) : (m.lastCommitTake c).tickNo = m.tickNo := by
  unfold lastCommitTake
  split
  · split
    · exact m.tickNo_commitApply _ _
    · rfl
  · rfl

theorem tickNo_headPut (m : Mach) (b : Nat) (h : BankHead) : (m.headPut b h).tickNo = m.tickNo := tickNo_of_regs rfl

theorem tickNo_copyWords (m : Mach) (src dst n : Nat) : (m.copyWords src dst n).tickNo = m.tickNo := tickNo_of_regs rfl

theorem tickNo_forcesTake (m : Mach) : m.forcesTake.tickNo = m.tickNo := tickNo_of_regs rfl

theorem tickNo_bankTake (m : Mach) : m.bankTake.tickNo = m.tickNo :=
  (tickNo_headPut _ _ _).trans (m.tickNo_copyWords _ _ _)

/-- A complete cut takes the primary's state, but the tick is the module's own (R320, R339). -/
theorem tickNo_cutApply (m : Mach) (c : Nat) (b : List Byte) : (m.cutApply c b).tickNo = m.tickNo := by
  unfold cutApply
  extract_lets taken jr loaded
  have htaken : taken.tickNo = m.tickNo := by
    unfold taken
    rw [tickNo_lastCommitTake, tickNo_engineTake, tickNo_forcesTake, tickNo_blockRegs]
  clear_value taken
  have hloaded : loaded.tickNo = taken.tickNo := taken.tickNo_withJrn _
  rw [tickNo_setFld _ _ _ _ _ (by decide), tickNo_acjShow, tickNo_copyWords, tickNo_bankTake, hloaded, htaken]

/-- A cut is complete with its state block (R320). -/
theorem cutApply_shown (m : Mach) (c : Nat) (b : List Byte) : (m.cutApply c b).fld PTL_RSSTAT 2 0 = 4 :=
  fld_setFld_same _ _ _ _ _ (by decide) (by decide)

/-- A complete cut is fixed for its tick (R339). -/
def cutFixed (m : Mach) (c : Nat) : Mach := { m with pair := { m.pair with cutAt := some c, cutOk := true } }

theorem tickNo_cutFixed (m : Mach) (c : Nat) : (m.cutFixed c).tickNo = m.tickNo := tickNo_of_regs rfl

theorem fld_cutFixed (m : Mach) (c a hi lo : Nat) : (m.cutFixed c).fld a hi lo = m.fld a hi lo := rfl

/-- A whole state block for the coming tick is applied and fixes its cut (R339). -/
theorem cutTake_early {m : Mach} {p : List Byte} (hnext : fieldAt p 0 8 = m.tickNo + 1)
    (hcheck : crc32c ((p.drop 8).take 4092) = fieldAt p 4100 4) :
    m.cutTake p = (m.cutApply (fieldAt p 0 8) (p.drop 8)).cutFixed (fieldAt p 0 8) := by
  have hok : decide (crc32c ((p.drop 8).take 4092) = fieldAt (p.drop 8) 4092 4) = true := by
    rw [fieldAt_drop]
    exact decide_eq_true hcheck
  have hearly : decide (fieldAt p 0 8 = m.tickNo + 1) = true := decide_eq_true hnext
  simp only [cutTake, hok, hearly, Bool.true_or, Bool.not_true, Bool.false_eq_true, if_false, if_true]
  rfl

/-! ### The end of a RESYNC (R340) -/

/-- RESYNC that ends leaves the module for HALTED. -/
def resyncLeft (m : Mach) : Mach := { m with
  wantMode := some 7
  pair := { m.pair with
    accepted := false, cutAt := none, cutOk := false
    partial_ := m.pair.partial_ || m.pair.pageWritten } }

theorem resyncAbort_eq {m : Mach} (hmode : m.mode = 4) (hstays : m.wantMode ≠ some 7) : m.resyncAbort =
    (((m.resyncLeft.setFld PTL_RSSTAT 2 0 0).setBit PTL_STAT 6 false).admDrop .pages).ledger 0x0809 5 0 0 0 :=
  if_neg (by simp [hmode, hstays])

theorem resyncAbort_leaves {m : Mach} (hmode : m.mode = 4) (hstays : m.wantMode ≠ some 7) :
    m.resyncAbort.wantMode = some 7 ∧ m.resyncAbort.pair = m.resyncLeft.pair ∧ m.resyncAbort.fld PTL_RSSTAT 2 0 = 0 ∧
    m.resyncAbort.bit PTL_STAT 6 = false := by
  rw [resyncAbort_eq hmode hstays]
  have hwant : m.resyncLeft.wantMode = some 7 := rfl
  generalize m.resyncLeft = n at hwant ⊢
  have hphase : ((n.setFld PTL_RSSTAT 2 0 0).setBit PTL_STAT 6 false).fld PTL_RSSTAT 2 0 = 0 :=
    (fld_setBit_other _ _ _ _ _ _ _ (by decide)).trans (fld_setFld_same _ _ _ _ _ (by decide) (by decide))
  have hsync : ((n.setFld PTL_RSSTAT 2 0 0).setBit PTL_STAT 6 false).bit PTL_STAT 6 = false :=
    bit_setBit_same _ _ _ _ (by decide)
  have hshared : ((n.setFld PTL_RSSTAT 2 0 0).setBit PTL_STAT 6 false).shared = n.shared := rfl
  generalize (n.setFld PTL_RSSTAT 2 0 0).setBit PTL_STAT 6 false = shown at hphase hsync hshared ⊢
  have hkeeps : Keeps admRegs shown ((shown.admDrop .pages).ledger 0x0809 5 0 0 0) :=
    (shown.keeps_admDrop .pages).ledger _ _ _ _ _
  have hleft : ((shown.admDrop .pages).ledger 0x0809 5 0 0 0).shared = n.shared :=
    (ledger_frame _ _ _ _ _ _).shared.trans ((shown.shared_admDrop .pages).trans hshared)
  exact ⟨(wantMode_of_shared hleft).trans hwant, pair_of_shared hleft,
    (hkeeps.fld (by decide) (by decide) 2 0).trans hphase, (hkeeps.bit (by decide) (by decide) 6).trans hsync⟩

end Mach
end Sys2Proof.Machine
end

section
/-! SUPPORT. The commands of a rejoining, one statement each (R319, R320, R335 to R340). -/

namespace Sys2Proof.Machine

section
variable {s : State} (hdead : s.m.dead = false)
include hdead

theorem resyncPassEnd_completes (hmode : s.m.mode = 6) (hserves : s.m.pair.serving = true) (hpass : s.m.pair.pass ≠ 0)
    (hcut : s.m.pair.serveCut = none) : Completes (exec .resyncPassEnd s) fun t => SameCores s t ∧
      if s.m.cutFits = true then t.m.pair.serveCut = some (s.m.tickNo + 2) ∧ t.m.fld PTL_RSSTAT 2 0 = 4
      else t.m.pair.serveCut = none ∧ t.m.pair.pass = s.m.pair.pass + 1 := by
  refine completes_change hdead (m := s.m.passEnd) (if_neg (by simp [hmode, hserves, hpass, hcut])) ⟨⟨rfl, rfl, rfl⟩, ?_⟩
  rw [Mach.passEnd]
  split
  · refine ⟨rfl, ?_⟩
    rw [Mach.showPass, Mach.fld_wr_other _ _ _ _ _ _ (by decide),
      Mach.fld_setFld_field _ _ _ _ _ _ _ (by decide) (by decide) (by decide) (by decide),
      Mach.fld_setFld_same _ _ _ _ _ (by decide) (by decide)]
    rfl
  · have hnext := s.m.service_passNext
    exact ⟨(congrArg (·.2.2) hnext).trans hcut, congrArg (·.2.1) hnext⟩

/-- RSREQ in HALTED wants RESYNC, unless a partial checkpoint bars the module from it. -/
theorem rsreq_completes (w : Writer) (hmode : s.m.mode = 7) : Completes (exec (.rsreq w) s) fun t => KeepsRegs s t [] ∧
    SameCores s t ∧
    if s.m.pair.partial_ = true then t.m.out = s.m.out ++ [.status "NOT_READY"] ∧ t.m.wantMode = s.m.wantMode
    else t.m.out = s.m.out ++ [.status "OK"] ∧ t.m.wantMode = some 4 := by
  let asked : Mach := if s.m.pair.partial_ = true then s.m.emit (.status "NOT_READY")
    else ({ s.m with wantMode := some 4, notReady := false }).emit (.status "OK")
  refine completes_access hdead (m := asked) ?_ ?_
  · exact (if_neg (by simp [hmode])).trans (if_neg (by simp [hmode]))
  · unfold asked
    split
    · exact ⟨fun _ _ _ => rfl, ⟨rfl, rfl, rfl⟩, rfl, rfl⟩
    · exact ⟨fun _ _ _ => rfl, ⟨rfl, rfl, rfl⟩, rfl, rfl⟩

theorem rsabort_completes (w : Writer) (hmode : s.m.mode = 4) (hstays : s.m.wantMode ≠ some 7) :
    Completes (exec (.rsabort w) s) fun t => t.m.wantMode = some 7 ∧ t.m.pair.accepted = false ∧
      t.m.pair.partial_ = (s.m.pair.partial_ || s.m.pair.pageWritten) ∧ t.m.fld PTL_RSSTAT 2 0 = 0 ∧
      t.m.bit PTL_STAT 6 = false ∧ SameCores s t := by
  obtain ⟨hwant, hpair, hphase, hsync⟩ := Mach.resyncAbort_leaves hmode hstays
  exact completes_access hdead (f := Mach.resyncAbort) rfl
    ⟨hwant, congrArg Pair.accepted hpair, congrArg Pair.partial_ hpair, hphase, hsync, rfl, rfl, rfl⟩

variable (hup : s.m.linkUp = true)
include hup

/-- A module in RESYNC that has no acceptance asks again (R335). -/
theorem reqRetry_completes (hmode : s.m.mode = 4) (hopen : s.m.pair.accepted = false) :
    Completes (exec .reqRetry s) fun t => (∃ b, t.m.out = s.m.out ++ [.link b] ∧ b.head? = some 0x40) ∧
      t.m.fld PTL_RSSTAT 2 0 = 1 ∧ KeepsRegs s t [PTL_RSSTAT] ∧ SameCores s t := by
  let shown := s.m.setFld PTL_RSSTAT 2 0 1
  have hkeeps : Mach.Keeps [PTL_RSSTAT] s.m shown := (Mach.Keeps.refl _ s.m).setFld (by simp) 2 0 1
  have hsends : Mach.Sends shown (shown.sendReq 0 0) := shown.sendLink_sends 0x40 _
  have hup' : shown.linkUp = true := (hkeeps.linkUp (by decide) (by decide) rfl).trans hup
  obtain ⟨cls, mseq, tick, hout⟩ := Mach.sendLink_out hup' 0x40 (shown.reqBytes 0 0)
  refine completes_change hdead (m := shown.sendReq 0 0) (if_pos (by simp [hmode, hopen]))
    ⟨⟨_, hout, Mach.frameBytes_head _ _ _ _⟩, ?_, hkeeps.trans (hsends.keeps _), rfl, rfl, rfl⟩
  exact ((hsends.keeps []).fld (a := PTL_RSSTAT) (by decide) (by decide) 2 0).trans
    (Mach.fld_setFld_same _ _ _ _ _ (by decide) (by decide))

variable {cls mseq tick : Nat} {f p : List Byte}

theorem reqMessage_completes (hframe : frameOf 0x40 f = some (cls, mseq, tick, p)) (hlen : p.length = 40)
    (hflags : fieldAt p 2 1 = 0) (hmode : s.m.mode = 6) : Completes (exec (.reqMessage f) s) fun t => SameCores s t ∧
      if s.m.reqRefuse (reqOf p) = 0 then t.m.pair.serving = true ∧ t.m.pair.pass = 0
      else t.m.pair.serving = s.m.pair.serving ∧ KeepsRegs s t [] := by
  let heard (o : List Out) : Mach := ({ s.m with out := o } : Mach).heardReq (reqOf p)
  let answered (o : List Out) : Mach := (heard o).sendReq 1 (s.m.reqRefuse (reqOf p))
  have hclaim : (reqOf p).flags.testBit 1 = false := by
    show (fieldAt p 2 1).testBit 1 = false
    rw [hflags]
    decide
  refine completes_recv hdead hup hframe (g := fun o => if s.m.reqRefuse (reqOf p) = 0 then (answered o).serveStart (reqOf p)
    else answered o) (fun o => ?_) fun o => ⟨⟨rfl, rfl, rfl⟩, ?_⟩
  · rw [if_neg (by simp [hlen, hflags])]
    exact Mach.reqTake_primary (m := { s.m with out := o }) hmode hclaim
  · dsimp only
    split
    · have hserves := (answered o).service_serveStart (reqOf p)
      exact ⟨congrArg (·.1) hserves, congrArg (·.2.1) hserves⟩
    · have hsends : Mach.Sends (heard o) (answered o) := (heard o).sendLink_sends 0x40 _
      exact ⟨congrArg (·.1) hsends.service, ((Mach.Keeps.refl [] s.m).of_regs rfl : Mach.Keeps [] s.m (heard o)).trans
        (hsends.keeps [])⟩

theorem reqAnswer_completes (hframe : frameOf 0x40 f = some (cls, mseq, tick, p)) (hlen : p.length = 40)
    (hflags : fieldAt p 2 1 = 1) (hmode : s.m.mode = 4) (hopen : s.m.pair.accepted = false) :
    Completes (exec (.reqAnswer f) s) fun t => SameCores s t ∧
      if fieldAt p 3 1 = 0 then t.m.pair.accepted = true ∧ t.m.pair.pageWritten = false
      else t.m.fld PTL_RSSTAT 31 24 = fieldAt p 3 1 ∧ t.m.pair.accepted = false ∧ KeepsRegs s t [PTL_RSSTAT] := by
  have hclaim : (reqOf p).flags.testBit 1 = false := by
    show (fieldAt p 2 1).testBit 1 = false
    rw [hflags]
    decide
  refine completes_recv hdead hup hframe (g := fun o => ({ s.m with out := o } : Mach).answerTake tick (reqOf p))
    (fun o => if_neg (by simp [hlen, hflags])) fun o => ⟨⟨rfl, rfl, rfl⟩, ?_⟩
  obtain ⟨hrefused, haccepted⟩ := Mach.answerTake_resync (m := { s.m with out := o }) hmode hopen hclaim tick
  split
  · next hrefuse => exact haccepted hrefuse
  · next hrefuse =>
    have hcode : fieldAt p 3 1 < 2 ^ (31 - 24 + 1) := fieldAt_lt p 3 1
    have hheard : Mach.Keeps [PTL_RSSTAT] s.m (({ s.m with out := o } : Mach).heardReq (reqOf p)) :=
      (Mach.Keeps.refl _ s.m).of_regs rfl
    have hopen' : (({ s.m with out := o } : Mach).heardReq (reqOf p)).pair.accepted = false := hopen
    dsimp only
    rw [hrefused hrefuse]
    generalize ({ s.m with out := o } : Mach).heardReq (reqOf p) = heard at hheard hopen' ⊢
    exact ⟨(Mach.fld_setFld_same heard _ _ _ _ (by decide) (by decide)).trans (Nat.mod_eq_of_lt hcode), hopen',
      hheard.setFld (List.mem_singleton_self _) 31 24 _⟩

section
variable (hmode : s.m.mode = 4) (haccepted : s.m.pair.accepted = true)
include hmode haccepted

theorem pageMessage_completes (hframe : frameOf 0x42 f = some (cls, mseq, tick, p)) (hlen : p.length = 4104)
    (halign : fieldAt p 0 6 % 4096 = 0) (hkiln : fieldAt p 0 6 < 0x01800000) (hfree : s.m.mpu = []) :
    Completes (exec (.pageMessage f) s) fun t =>
      t.m.mem.ldBytes (fieldAt p 0 6) 4096 = p.drop 8 ∧
      (∀ x, x < fieldAt p 0 6 ∨ fieldAt p 0 6 + 4096 ≤ x → t.m.mem.ld8 x = s.m.mem.ld8 x) ∧
      t.m.pair.pageWritten = true ∧ t.m.fld PTL_RSSTAT 15 8 = fieldAt p 6 1 ∧
      KeepsRegs s t [PTL_RSSTAT] ∧ SameCores s t := by
  have hbytes : (p.drop 8).length = 4096 := by rw [List.length_drop, hlen]
  refine completes_recv hdead hup hframe (g := fun o => ({ s.m with out := o } : Mach).pageTake p) (fun o => if_neg ?_)
    fun o => ?_
  · rintro (h | h | h)
    · exact h hmode
    · exact Bool.false_ne_true ((Bool.eq_false_of_not_eq_true' h).symm.trans haccepted)
    · exact h hlen
  · have hwrote : Wrote { s.m with out := o } (fieldAt p 0 6) (p.drop 8)
        (({ s.m with out := o } : Mach).masterWrite 4 0 (fieldAt p 0 6) (p.drop 8)).2 :=
      Mach.masterWrite_stored (m := { s.m with out := o }) (a := fieldAt p 0 6) (bs := p.drop 8) (by omega) (by omega) hfree
        (fun x hlo hhi => Mach.linkPath (by omega)) 0
    rw [Mach.pageTake_kiln halign hkiln]
    generalize (({ s.m with out := o } : Mach).masterWrite 4 0 (fieldAt p 0 6) (p.drop 8)).2 = written at hwrote ⊢
    have hread := hwrote.ldBytes
    have hother (x : Nat) (hx : x < fieldAt p 0 6 ∨ fieldAt p 0 6 + 4096 ≤ x) :=
      hwrote.ld8_other (x := x) (hbytes.symm ▸ hx)
    have hkeeps : Mach.Keeps [PTL_RSSTAT] s.m written := hwrote.keeps [PTL_RSSTAT]
    have hpass : fieldAt p 6 1 < 256 := fieldAt_lt p 6 1
    rw [hbytes] at hread
    exact ⟨hread, hother, rfl, (written.pageShown_pass _).trans (Nat.mod_eq_of_lt hpass),
      hkeeps.trans (written.keeps_pageShown _), rfl, rfl, rfl⟩

theorem mirrorMessage_completes (hframe : frameOf 0x41 f = some (cls, mseq, tick, p)) (hlen : p.length = 12)
    (htrack : fieldAt p 0 4 < 0x400000) (halign : fieldAt p 0 4 % 8 = 0) (hfree : s.m.mpu = []) :
    Completes (exec (.mirrorMessage f) s) fun t =>
      t.m.mem.ldBytes (0x03000000 + fieldAt p 0 4) 8 = p.drop 4 ∧
      (∀ x, x < 0x03000000 + fieldAt p 0 4 ∨ 0x03000008 + fieldAt p 0 4 ≤ x → t.m.mem.ld8 x = s.m.mem.ld8 x) ∧
      KeepsRegs s t [] ∧ SameCores s t := by
  let a := 0x03000000 + fieldAt p 0 4
  have ha : a = 0x03000000 + fieldAt p 0 4 := rfl
  have hbytes : (p.drop 4).length = 8 := by rw [List.length_drop, hlen]
  have hrecord : (p.drop (12 * 0)).take 12 = p := List.take_of_length_le (le_of_eq hlen)
  refine completes_recv hdead hup hframe (g := fun o => (({ s.m with out := o } : Mach).masterWrite 4 0 a (p.drop 4)).2)
    (fun o => ?_) fun o => ?_
  · rw [if_neg, hlen]
    · show ({ s.m with out := o } : Mach).mirrorTake ((p.drop (12 * 0)).take 12) = _
      rw [hrecord]
      exact Mach.mirrorTake_track hlen htrack
    · rintro (h | h | h)
      · exact h hmode
      · exact Bool.false_ne_true ((Bool.eq_false_of_not_eq_true' h).symm.trans haccepted)
      · omega
  · have hwrote : Wrote { s.m with out := o } a (p.drop 4) (({ s.m with out := o } : Mach).masterWrite 4 0 a (p.drop 4)).2 :=
      Mach.masterWrite_stored (m := { s.m with out := o }) (a := a) (bs := p.drop 4) (by omega) (by omega) hfree
        (fun x hlo hhi => Mach.linkPath (by omega)) 0
    have hread := hwrote.ldBytes
    rw [hbytes] at hread
    exact ⟨hread, fun x hx => hwrote.ld8_other (by omega), hwrote.keeps [], rfl, rfl, rfl⟩

/-- A complete cut for the coming tick fixes it; the module leaves RESYNC at the boundary (R339). -/
theorem cutMessage_completes (hframe : frameOf 0x43 f = some (cls, mseq, tick, p)) (hlen : p.length = 4104)
    (hnext : fieldAt p 0 8 = s.m.tickNo + 1) (hcheck : crc32c ((p.drop 8).take 4092) = fieldAt p 4100 4) :
    Completes (exec (.cutMessage f) s) fun t => t.m.pair.cutAt = some (fieldAt p 0 8) ∧ t.m.pair.cutOk = true ∧
      t.m.fld PTL_RSSTAT 2 0 = 4 ∧ SameCores s t := by
  let applied (o : List Out) : Mach := ({ s.m with out := o } : Mach).cutApply (fieldAt p 0 8) (p.drop 8)
  have hshown (o : List Out) : ((applied o).cutFixed (fieldAt p 0 8)).fld PTL_RSSTAT 2 0 = 4 :=
    (Mach.fld_cutFixed _ _ _ _ _).trans (Mach.cutApply_shown _ _ _)
  refine completes_recv hdead hup hframe (g := fun o => (applied o).cutFixed (fieldAt p 0 8)) (fun o => ?_) fun o =>
    ⟨rfl, rfl, hshown o, rfl, rfl, rfl⟩
  have htaken : ({ s.m with out := o } : Mach).cutTake p = (applied o).cutFixed (fieldAt p 0 8) :=
    Mach.cutTake_early (m := { s.m with out := o }) hnext hcheck
  have htick : ((applied o).cutFixed (fieldAt p 0 8)).tickNo = s.m.tickNo :=
    (Mach.tickNo_cutFixed _ _).trans (Mach.tickNo_cutApply _ _ _)
  have hahead : ¬(((applied o).cutFixed (fieldAt p 0 8)).pair.cutAt = some ((applied o).cutFixed (fieldAt p 0 8)).tickNo) := by
    rw [htick]
    intro h
    have hsame : fieldAt p 0 8 = s.m.tickNo := Option.some.inj h
    omega
  rw [if_neg, htaken]
  · exact if_neg hahead
  · rintro (h | h | h)
    · exact h hmode
    · exact Bool.false_ne_true ((Bool.eq_false_of_not_eq_true' h).symm.trans haccepted)
    · exact h hlen

end

end

end Sys2Proof.Machine
end

section
open Sys2Proof Sys2Proof.Machine

/-- Settles O47: each step of a rejoining does its own work on either side of the link. That a partial checkpoint bars RSREQ
too is log entry 67, and what an abort leaves partial is log entry 66. -/
theorem rejoinCommands : Obligations.RejoinCommands := by
  unfold Obligations.RejoinCommands
  intro f cls mseq tick p w s hdead
  exact ⟨fun hup => ⟨fun hframe hlen => ⟨reqMessage_completes hdead hup hframe hlen, reqAnswer_completes hdead hup hframe hlen⟩,
      reqRetry_completes hdead hup,
      fun hmode haccepted => ⟨pageMessage_completes hdead hup hmode haccepted, mirrorMessage_completes hdead hup hmode haccepted,
        cutMessage_completes hdead hup hmode haccepted⟩⟩,
    resyncPassEnd_completes hdead, rsreq_completes hdead w, rsabort_completes hdead w⟩

end

section
/-! SUPPORT. The journal between the modules: commit streams, confirmations, orders and the mirror (R319, R327, R345 to R352,
R355). -/

namespace Sys2Proof.Machine

namespace Mach

/-! ### Commit streams and confirmations (R319, R327, R352) -/

/-- A standby takes a commit stream that comes whole (R319). -/
theorem commitPart_whole {m : Mach} {tick : Nat} {p : List Byte} (hmode : m.mode = 5) (hwith : m.pair.diverged = false)
    (hofs : fieldAt p 0 4 = 0) (htotal : fieldAt p 4 4 = (p.drop 8).length) (hheader : 64 ≤ (p.drop 8).length) :
    m.commitPart tick p = ({ m with pair := { m.pair with rx := assocDel m.pair.rx 0x10 } } : Mach).commitStandby tick (p.drop 8) := by
  rw [commitPart, hofs, htotal]
  simp only [streamAdd_whole]
  exact (if_neg (Nat.not_lt.2 hheader)).trans (if_pos ⟨hmode, by simp [hwith]⟩)

/-- The open commit of a tick. -/
theorem commit_of_tick {m : Mach} {c : Commit} {tick : Nat} (hcommit : m.jrn.commit = some c) (htick : c.tick = tick) :
    m.jrn.commit.filter (fun c => c.tick = tick) = some c := by
  rw [hcommit]
  simp [htick]

/-- A CHECK that differs from the module's own is a divergence, whatever the stream's bytes make (R327, R352). -/
theorem commitCompare_differs {m : Mach} {tick : Nat} {bs : List Byte} {c : Commit} (hcommit : m.jrn.commit = some c)
    (htick : c.tick = tick) (hkept : m.pair.skipCommit = false) (hcheck : fieldAt bs 60 4 ≠ fieldAt c.header 60 4) :
    m.commitCompare tick bs = (m.sendConfirm 3 (streamCheck bs)).diverge 4 := by
  have hdiffers : ¬(streamCheck bs = fieldAt bs 60 4 ∧ streamCheck bs = fieldAt c.header 60 4) :=
    fun h => hcheck (h.1.symm.trans h.2)
  unfold commitCompare
  simp only [commit_of_tick hcommit htick, hkept, hdiffers, Bool.false_eq_true, or_self, if_false]

theorem Sends.mode {m m' : Mach} (h : Sends m m') : m'.mode = m.mode :=
  (h.keeps []).fld (by decide) (by decide) 2 0

theorem Sends.diverged {m m' : Mach} (h : Sends m m') : m'.pair.diverged = m.pair.diverged := by
  obtain ⟨_, _, _, rfl⟩ := h
  rfl

/-- A commit is not complete while neither the partner nor the mirror has it (R352). -/
theorem committed_false {m : Mach} (hmode : m.mode = 6) (hsolo : m.solo = false) {c : Commit}
    (hopen : c.partner = false ∨ c.ownMirror = false ∧ c.partMirror = false) : m.committed c = false := by
  rw [committed, if_neg (by simp [hsolo]), if_pos hmode]
  rcases hopen with h | ⟨h, h'⟩ <;> simp [*]

/-- A commit that is not complete stays open. -/
theorem commitTry_open {m : Mach} {c : Commit} (hcommit : m.jrn.commit = some c) (hopen : m.committed c = false) :
    m.commitTry = m := by
  simp [commitTry, hcommit, hopen]

/-- The open commit of a tick after a change. -/
theorem commitMap_eq {m : Mach} {tick : Nat} {c : Commit} (hcommit : m.jrn.commit = some c) (htick : c.tick = tick)
    (f : Commit → Commit) : m.commitMap tick f = { m with jrn := { m.jrn with commit := some (f c) } } := by
  simp [commitMap, hcommit, htick]

/-- The partner's commit record agrees: the commit is marked, and stands open without a mirror (R352). -/
theorem confirmTake_agrees {m : Mach} {tick check : Nat} {c : Commit} (hmode : m.mode = 6) (hphase : m.tick.phase ≠ 3)
    (hcommit : m.jrn.commit = some c) (htick : c.tick = tick) (hsolo : m.solo = false)
    (hcheck : check = fieldAt c.header 60 4) (hown : c.ownMirror = false) (hpart : c.partMirror = false) :
    m.confirmTake tick 1 check = { m with jrn := { m.jrn with commit := some { c with partner := true } } } := by
  let marked : Mach := { m with jrn := { m.jrn with commit := some { c with partner := true } } }
  have hmap : m.commitMap tick (fun c => { c with partner := true, partMirror := c.partMirror || decide (1 = 2) }) = marked := by
    rw [commitMap_eq hcommit htick]
    simp [marked]
  have htry : marked.commitTry = marked :=
    commitTry_open rfl (committed_false (m := marked) hmode hsolo (.inr ⟨hown, hpart⟩))
  unfold confirmTake
  simp only [commit_of_tick hcommit htick]
  rw [if_neg (by simp [hcheck]), hmap, htry]
  exact if_neg hphase

/-- The partner has diverged in its commit record (R327, R328). -/
theorem confirmTake_differs {m : Mach} {tick check : Nat} {c : Commit} (hcommit : m.jrn.commit = some c)
    (htick : c.tick = tick) (hpart : m.partMode = 5) : m.confirmTake tick 3 check = m.partnerDiverged 4 := by
  unfold confirmTake
  simp only [commit_of_tick hcommit htick, true_or, if_true]
  exact if_pos hpart

/-- The module whose partner has diverged. -/
def withPartDiv (m : Mach) : Mach := { m with pair := { m.pair with partDiv := true } }

theorem partnerDiverged_leaves {m : Mach} (hmode : m.mode = 6) (hsolo : m.solo = false) (hwith : m.pair.partDiv = false)
    (cmp : Nat) : (m.partnerDiverged cmp).pair.partDiv = true ∧ (m.partnerDiverged cmp).jrn = m.jrn ∧
    Keeps [] m (m.partnerDiverged cmp) := by
  have hfirst : m.partnerDiverged cmp = m.withPartDiv.ledger 0x0802 5 cmp (m.tickNo % 2 ^ 32) (m.tickNo / 2 ^ 32) :=
    if_neg (by simp [hmode, hsolo, hwith])
  have hdiv : m.withPartDiv.pair.partDiv = true := rfl
  have hjrn : m.withPartDiv.jrn = m.jrn := rfl
  have hkeeps : Keeps [] m m.withPartDiv := (Keeps.refl _ m).of_regs rfl
  rw [hfirst]
  generalize m.withPartDiv = n at hdiv hjrn hkeeps ⊢
  have hrecord := n.ledger_frame 0x0802 5 cmp (m.tickNo % 2 ^ 32) (m.tickNo / 2 ^ 32)
  exact ⟨(congrArg Pair.partDiv hrecord.pair).trans hdiv, hrecord.jrn.trans hjrn, hkeeps.ledger _ _ _ _ _⟩

/-! ### Orders at the replica (R355) -/

/-- The record, the cell and the client state that an entry of an ORDER message writes. -/
def orderKept (m : Mach) (b : List Byte) : Mach :=
  let m := (m.jst (recordAt (fieldAt ((b.drop 16).take (32 + fieldAt b 10 2)) 0 8)) (b.take 16)).jst (cellAt (fieldAt b 8 2))
    ((b.drop 16).take (32 + fieldAt b 10 2))
  (m.cliPut (fieldAt b 1 1) 12 4 (fieldAt b 4 4)).cliPut (fieldAt b 1 1) 16 2 (m.cliF (fieldAt b 1 1) 16 2 + 1)

/-- The number of an order is known to the replica, and the order waits for its commit. -/
def orderNoted (m : Mach) (mseq n tacc : Nat) : Mach :=
  let next := max 1 m.nextAcc
  let gaps := if next ≤ n then m.jrn.gaps ++ countFrom next (n - next) else m.jrn.gaps.filter (· ≠ n)
  let m := if next ≤ n then m.wr64 ACJ_NEXT (n + 1) else m
  { m with jrn := { m.jrn with
      gaps := gaps
      pend := m.jrn.pend ++ [⟨n, m.tickNo, [], 0, mseq, true, false, false, true⟩]
      tacc := tabPut 0 m.jrn.tacc (n % 65536) tacc } }

/-- The entry of an order that the replica does not hold is taken, and nothing of the message follows its bytes. -/
theorem orderEntry_new {m : Mach} {bs cell : List Byte} {n : Nat} (hkind : fieldAt bs 0 1 = 1)
    (hcell : ((bs.drop 4).drop 16).take (32 + fieldAt (bs.drop 4) 10 2) = cell) (hn : fieldAt cell 0 8 = n)
    (hnew : m.accLive n = false ∨ m.recState n = 0) (mseq : Nat) : m.orderEntry mseq bs =
    ((m.orderKept (bs.drop 4)).orderNoted mseq n (fieldAt cell 8 8),
      (bs.drop 4).drop (48 + fieldAt (bs.drop 4) 10 2)) := by
  have hheld : ¬((m.accLive n && decide (m.recState n ≠ 0)) = true) := by
    rcases hnew with h | h <;> simp [h]
  subst hn hcell
  exact (if_pos hkind).trans (if_neg hheld)

theorem orderNoted_mem (m : Mach) (mseq n tacc : Nat) : (m.orderNoted mseq n tacc).mem = m.mem := by
  unfold orderNoted
  extract_lets next gaps numbered
  show numbered.mem = m.mem
  unfold numbered
  split <;> rfl

theorem orderNoted_jrn (m : Mach) (mseq n tacc : Nat) : (m.orderNoted mseq n tacc).jrn.cmtno = m.jrn.cmtno ∧
    ∃ o : PendOrder, o.n = n ∧ o.ownMirror = false ∧ (m.orderNoted mseq n tacc).jrn.pend = m.jrn.pend ++ [o] := by
  unfold orderNoted
  extract_lets next gaps numbered
  have hjrn : numbered.jrn = m.jrn := by
    unfold numbered
    split <;> rfl
  have hcmtno : numbered.jrn.cmtno = m.jrn.cmtno := congrArg Jrn.cmtno hjrn
  have hpend : numbered.jrn.pend = m.jrn.pend := congrArg Jrn.pend hjrn
  exact ⟨hcmtno, ⟨n, numbered.tickNo, [], 0, mseq, true, false, false, true⟩, rfl, rfl, congrArg (· ++ _) hpend⟩

/-- Records, cells and client states stand apart in journal SRAM (R348 to R350), and apart from the Ledger's rings. -/
theorem orderKept_mem (m : Mach) {b cell : List Byte} {n : Nat} (hlen : fieldAt b 10 2 ≤ 256)
    (hbytes : b.length = 48 + fieldAt b 10 2) (hcell : fieldAt b 8 2 < 3184)
    (hdata : (b.drop 16).take (32 + fieldAt b 10 2) = cell) (hn : fieldAt cell 0 8 = n) :
    (m.orderKept b).mem.ldBytes (recordAt n) 16 = b.take 16 ∧
    (m.orderKept b).mem.ldBytes (cellAt (fieldAt b 8 2)) (32 + fieldAt b 10 2) = cell := by
  have hk : fieldAt b 1 1 < 256 := fieldAt_lt b 1 1
  have hrecord : (b.take 16).length = 16 := by rw [List.length_take]; omega
  have hwidth : cell.length = 32 + fieldAt b 10 2 := by rw [← hdata, List.length_take, List.length_drop]; omega
  have hfour : (leBytes 4 (fieldAt b 4 4)).length = 4 := leBytes_length _ _
  unfold orderKept
  rw [hdata, hn]
  extract_lets placed
  let told := placed.cliPut (fieldAt b 1 1) 12 4 (fieldAt b 4 4)
  let counted := told.cliPut (fieldAt b 1 1) 16 2 (placed.cliF (fieldAt b 1 1) 16 2 + 1)
  have hapart {a k : Nat} (hoff : ∀ i < k, OffRings (a + i)) (hlo : 0x03810000 ≤ a) :
      counted.mem.ldBytes a k = placed.mem.ldBytes a k :=
    (ldBytes_store_other told _ _ 5 hoff (.inr (by rw [leBytes_length, cliAt]; omega))).trans
      (ldBytes_store_other placed _ _ 5 hoff (.inr (by rw [leBytes_length, cliAt]; omega)))
  have hoffRecord : ∀ i < 16, OffRings (recordAt n + i) := fun i hi => by
    unfold OffRings recordAt
    omega
  have hoffCell : ∀ i < 32 + fieldAt b 10 2, OffRings (cellAt (fieldAt b 8 2) + i) := fun i hi => by
    unfold OffRings cellAt
    omega
  refine ⟨(hapart hoffRecord (by unfold recordAt; omega)).trans ?_, (hapart hoffCell (by unfold cellAt; omega)).trans ?_⟩
  · refine (ldBytes_store_other _ _ _ 5 hoffRecord (.inr ?_)).trans ?_
    · rw [hwidth, cellAt, recordAt]
      omega
    · have hread := ldBytes_store m (recordAt n) (b.take 16) 5 (fun i hi => hoffRecord i (hrecord ▸ hi))
      rw [hrecord] at hread
      exact hread
  · have hread := ldBytes_store (m.jst (recordAt n) (b.take 16)) (cellAt (fieldAt b 8 2)) cell 5
      (fun i hi => hoffCell i (hwidth ▸ hi))
    rw [hwidth] at hread
    exact hread

/-- An order above the committed numbers waits on, and nothing of memory changes for it (R355, R356). -/
theorem orderCmtno_waits {m : Mach} {cmt : Nat} {o : PendOrder} (hpend : m.jrn.pend = [o]) (hahead : cmt < o.n) :
    m.orderCmtno cmt = { m with jrn := { m.jrn with cmtno := max m.jrn.cmtno cmt, pend := [o] } } := by
  have hnow : [o].filter (fun o => decide (o.n ≤ cmt)) = [] := by simp [hahead]
  have hlater : [o].filter (fun o => decide (cmt < o.n) || !o.ownMirror) = [o] := by simp [hahead]
  rw [orderCmtno, hpend, hnow, hlater]
  rfl

/-- The counts that the journal shows are registers alone (R367). -/
theorem acjShow_leaves (m : Mach) : m.acjShow.mem = m.mem ∧ m.acjShow.jrn = m.jrn := by
  simp only [acjShow, setBit_mem, setFld_mem, setBit_jrn, setFld_jrn, and_self]

theorem Sends.jrn {m m' : Mach} (h : Sends m m') : m'.jrn = m.jrn := by
  obtain ⟨_, _, _, rfl⟩ := h
  rfl

theorem orderKept_shared (m : Mach) (b : List Byte) : (m.orderKept b).shared = m.shared := by
  unfold orderKept cliPut jst
  extract_lets placed
  rw [shared_store, shared_store]
  unfold placed
  rw [shared_store, shared_store]

/-- A message with an order that the replica does not hold: its record and its cell are kept, and it waits (R355, R356). -/
theorem orderEntries_new {m : Mach} {b : List Byte} {n len cmt mseq fuel : Nat} (hfuel : 0 < fuel)
    (hn : fieldAt b 20 8 = n) (hlen : fieldAt b 14 2 = len) (hkind : fieldAt b 0 1 = 1) (hbytes : b.length = 52 + len)
    (hshort : len ≤ 256) (hcell : fieldAt b 12 2 < 3184) (hnew : m.accLive n = false ∨ m.recState n = 0) (hahead : cmt < n)
    (hpend : m.jrn.pend = []) :
    let t := (m.orderEntries mseq fuel b).orderCmtno cmt
    t.mem.ldBytes (recordAt n) 16 = (b.drop 4).take 16 ∧
    t.mem.ldBytes (cellAt (fieldAt b 12 2)) (32 + len) = b.drop 20 ∧
    t.jrn.cmtno = max m.jrn.cmtno cmt ∧ t.jrn.pend.map (·.n) = [n] := by
  have hfield (o k : Nat) : fieldAt (b.drop 4) o k = fieldAt b (4 + o) k := fieldAt_drop b 4 o k
  have hwidth : fieldAt (b.drop 4) 10 2 = len := (hfield 10 2).trans hlen
  have hdata : ((b.drop 4).drop 16).take (32 + fieldAt (b.drop 4) 10 2) = b.drop 20 := by
    rw [hwidth, List.drop_drop]
    exact List.take_of_length_le (by rw [List.length_drop]; omega)
  have hnumber : fieldAt (b.drop 20) 0 8 = n := (fieldAt_drop b 20 0 8).trans hn
  have hrest : ((b.drop 4).drop (48 + fieldAt (b.drop 4) 10 2)).length < 12 := by
    rw [hwidth, List.length_drop, List.length_drop]
    omega
  have hentries : m.orderEntries mseq fuel b = (m.orderKept (b.drop 4)).orderNoted mseq n (fieldAt (b.drop 20) 8 8) := by
    obtain ⟨k, rfl⟩ := Nat.exists_eq_add_of_lt hfuel
    rw [Nat.zero_add, orderEntries, if_neg (by omega), orderEntry_new hkind hdata hnumber hnew mseq]
    cases k with
    | zero => rfl
    | succ k => exact if_pos hrest
  obtain ⟨hrecord, hcells⟩ := m.orderKept_mem (b := b.drop 4) (cell := b.drop 20) (n := n) (by omega)
    (by rw [List.length_drop]; omega) (by rw [hfield]; exact hcell) hdata hnumber
  rw [hfield, hwidth] at hcells
  have hjrn : (m.orderKept (b.drop 4)).jrn = m.jrn := jrn_of_shared (m.orderKept_shared _)
  obtain ⟨hcmtno, x, hx, -, hwaits⟩ := (m.orderKept (b.drop 4)).orderNoted_jrn mseq n (fieldAt (b.drop 20) 8 8)
  rw [hjrn, hpend, List.nil_append] at hwaits
  have hmem := (m.orderKept (b.drop 4)).orderNoted_mem mseq n (fieldAt (b.drop 20) 8 8)
  rw [hentries, orderCmtno_waits hwaits (hx ▸ hahead)]
  refine ⟨?_, ?_, ?_, congrArg (fun k => [k]) hx⟩
  · exact (congrArg (·.ldBytes (recordAt n) 16) hmem).trans hrecord
  · exact (congrArg (·.ldBytes (cellAt (fieldAt b 12 2)) (32 + len)) hmem).trans hcells
  · exact congrArg (max · cmt) (hcmtno.trans (congrArg Jrn.cmtno hjrn))

/-! ### Orders at the primary (R345, R347) -/

/-- A committed order no longer waits, its record says so, and its number is the highest (R347). -/
theorem orderCommit_leaves (m : Mach) (o : PendOrder) : (m.orderCommit o).jrn.pend = m.jrn.pend.filter (·.n ≠ o.n) ∧
    (m.orderCommit o).jrn.cmtno = max m.jrn.cmtno o.n ∧ (m.orderCommit o).mem = m.mem.stN (recordAt o.n) 1 2 :=
  ⟨rfl, rfl, rfl⟩

/-- Commits write records alone: memory above journal SRAM reads as before (R348). -/
theorem ld8_orderCommits (m : Mach) {x : Nat} (hx : 0x03A00000 ≤ x) : m.orderCommits.mem.ld8 x = m.mem.ld8 x := by
  unfold orderCommits
  split
  · rfl
  · refine (congrArg (·.ld8 x) (acjShow_leaves _).1).trans ?_
    refine foldl_keeps (fun m : Mach => m.mem.ld8 x) (fun m o => ?_) _ m
    rw [(m.orderCommit_leaves o).2.2]
    exact Memory.ld8_stBytes_other _ _ _ _ (.inr (by rw [leBytes_length, recordAt]; omega))

/-! ### The mirror (R345, R351) -/

/-- The bytes that the mirror takes are those of journal SRAM, and it writes nothing below itself. -/
theorem toMirror_leaves (m : Mach) (a n : Nat) :
    (m.toMirror a n).mem.ldBytes (mirrorOf a) n = m.mem.ldBytes a n ∧
    ∀ {b k : Nat}, (∀ i < k, OffRings (b + i)) → b + k ≤ mirrorOf a ∨ mirrorOf a + n ≤ b →
      (m.toMirror a n).mem.ldBytes b k = m.mem.ldBytes b k := by
  have hwidth : (m.mem.ldBytes a n).length = n := Memory.ldBytes_length _ _ _
  have hread := m.ldBytes_store (mirrorOf a) (m.mem.ldBytes a n) 5 fun i _ => by
    unfold OffRings mirrorOf
    omega
  rw [hwidth] at hread
  exact ⟨hread, fun hoff hapart => m.ldBytes_store_other (mirrorOf a) _ 5 hoff (hwidth.symm ▸ hapart)⟩

/-- A change of an order that waits is one of the journal's lists alone. -/
theorem pendMap_leaves (m : Mach) (n : Nat) (f : PendOrder → PendOrder) :
    (m.pendMap n f).mem = m.mem ∧ (m.pendMap n f).mode = m.mode := ⟨rfl, rfl⟩

/-- An order and its cell written to the mirror, and the commits that follow (R345, R351). -/
theorem mirrorOrder_leaves (m : Mach) {n c len : Nat} (hcell : c < 3184) (hlen : len ≤ 256) {m' : Mach}
    (h : m'.mem = ((m.toMirror (recordAt n) 16).toMirror (cellAt c) (32 + len)).mem) :
    m'.orderCommits.mem.ldBytes (mirrorOf (recordAt n)) 16 = m.mem.ldBytes (recordAt n) 16 ∧
    m'.orderCommits.mem.ldBytes (mirrorOf (cellAt c)) (32 + len) = m.mem.ldBytes (cellAt c) (32 + len) := by
  obtain ⟨hfirst, hkept⟩ := m.toMirror_leaves (recordAt n) 16
  obtain ⟨hsecond, hkept'⟩ := (m.toMirror (recordAt n) 16).toMirror_leaves (cellAt c) (32 + len)
  have hrecord : 0x11100000 ≤ mirrorOf (recordAt n) := by
    unfold mirrorOf recordAt
    omega
  have hcells : 0x11000000 ≤ mirrorOf (cellAt c) ∧ mirrorOf (cellAt c) + (32 + len) ≤ 0x11100000 := by
    unfold mirrorOf cellAt
    omega
  have hpool : 0x03800000 ≤ cellAt c ∧ cellAt c + (32 + len) ≤ 0x03900000 := by
    unfold cellAt
    omega
  have hafter {a k : Nat} (ha : 0x11000000 ≤ a) : m'.orderCommits.mem.ldBytes a k =
      ((m.toMirror (recordAt n) 16).toMirror (cellAt c) (32 + len)).mem.ldBytes a k := by
    rw [← h]
    exact Memory.ldBytes_congr fun i _ => m'.ld8_orderCommits (by omega)
  constructor
  · refine (hafter (by omega)).trans ((hkept' (fun i _ => ?_) (by omega)).trans hfirst)
    unfold OffRings
    omega
  · refine (hafter (by omega)).trans (hsecond.trans (hkept (fun i _ => ?_) (by omega)))
    unfold OffRings
    omega

end Mach
end Sys2Proof.Machine
end

section
/-! SUPPORT. The commands of the replicated journal, one statement each (R319, R327, R345, R347, R351, R352, R355). -/

namespace Sys2Proof.Machine

section
variable {s : State} (hdead : s.m.dead = false)
include hdead

/-- The mirror of a primary holds an order and its cell (R345, R351). -/
theorem mirrorOrder_completes {o : PendOrder} {n : BitVec 64} (hn : n.toNat = o.n) (hmode : s.m.mode = 6)
    (hpend : s.m.jrn.pend = [o]) (hown : o.ownMirror = false) (hcell : s.m.recCell o.n < 3184)
    (hlen : s.m.recLen o.n ≤ 256) : Completes (exec (.mirrorWriteComplete (.order n)) s) fun t =>
      t.m.mem.ldBytes (Mach.mirrorOf (Mach.recordAt o.n)) 16 = s.m.mem.ldBytes (Mach.recordAt o.n) 16 ∧
      t.m.mem.ldBytes (Mach.mirrorOf (Mach.cellAt (s.m.recCell o.n))) (32 + s.m.recLen o.n) =
        s.m.mem.ldBytes (Mach.cellAt (s.m.recCell o.n)) (32 + s.m.recLen o.n) ∧ SameCores s t := by
  let recorded := s.m.toMirror (Mach.recordAt o.n) 16
  let mirrored := recorded.toMirror (Mach.cellAt (s.m.recCell o.n)) (32 + s.m.recLen o.n)
  let marked := mirrored.pendMap o.n fun x => { x with ownMirror := true }
  have hfind : (s.m.jrn.pend.find? fun x => x.n = n.toNat ∧ !x.ownMirror) = some o := by
    rw [hpend, hn]
    simp [hown]
  obtain ⟨hmem, hmarked⟩ := mirrored.pendMap_leaves o.n fun x => { x with ownMirror := true }
  have hmode' : marked.mode = 6 := by
    have hkeeps : Mach.Keeps (Mach.accessRegs 5) s.m mirrored :=
      (s.m.keeps_store 5 _ _).trans (recorded.keeps_store 5 _ _)
    exact hmarked.trans ((hkeeps.fld (a := CUR_MODE) (by decide) (by decide) 2 0).trans hmode)
  obtain ⟨hrecord, hcells⟩ := s.m.mirrorOrder_leaves (n := o.n) hcell hlen (m' := marked) hmem
  refine completes_change hdead (m := marked.orderCommits) ?_ ⟨hrecord, hcells, rfl, rfl, rfl⟩
  simp only [hfind]
  rw [if_pos hmode']

/-- The mirror of a primary holds the header of a commit that the partner has not confirmed (R351, R352). -/
theorem mirrorCommit_completes {c : Commit} {n : BitVec 64} (hcommit : s.m.jrn.commit = some c) (htick : c.tick = n.toNat)
    (hown : c.ownMirror = false) (hpart : c.partner = false) (hmode : s.m.mode = 6) (hsolo : s.m.solo = false) :
    Completes (exec (.mirrorWriteComplete (.commit n)) s) fun t =>
      t.m.mem.ldBytes (Mach.mirrorHeaderAt c.tick) c.header.length = c.header ∧
      t.m.jrn.commit = some { c with ownMirror := true } ∧ SameCores s t := by
  let kept := s.m.jst (Mach.mirrorHeaderAt c.tick) c.header
  let marked : Mach := { kept with jrn := { kept.jrn with commit := some { c with ownMirror := true } } }
  have hkeeps : Mach.Keeps (Mach.accessRegs 5) s.m kept := s.m.keeps_store 5 _ _
  have hmode' : marked.mode = 6 := (hkeeps.fld (a := CUR_MODE) (by decide) (by decide) 2 0).trans hmode
  have hsolo' : marked.solo = false := (hkeeps.bit (a := CUR_PAIR) (by decide) (by decide) 0).trans hsolo
  have hcommit' : kept.jrn.commit = some c :=
    (congrArg Jrn.commit (Mach.jrn_of_shared (s.m.shared_store _ _ 5))).trans hcommit
  have hread : kept.mem.ldBytes (Mach.mirrorHeaderAt c.tick) c.header.length = c.header :=
    s.m.ldBytes_store _ _ 5 fun i _ => by
      unfold Mach.OffRings Mach.mirrorHeaderAt
      omega
  have htry : marked.commitTry = marked := Mach.commitTry_open rfl (Mach.committed_false hmode' hsolo' (.inl hpart))
  refine completes_change hdead (m := marked) ?_ ⟨hread, rfl, rfl, rfl, rfl⟩
  have hgate : ¬(c.tick ≠ n.toNat ∨ c.ownMirror = true) := by simp [htick, hown]
  have hquiet : ¬(marked.mode = 5 ∧ c.partner = true) := by simp [hpart]
  simp only [hcommit, if_neg hgate]
  rw [Mach.commitMap_eq hcommit' rfl]
  exact (congrArg Mach.commitTry (if_neg hquiet)).trans htry

variable (hup : s.m.linkUp = true) {cls mseq tick : Nat} {f p : List Byte}
include hup

section
variable (hframe : frameOf 0x10 f = some (cls, mseq, tick, p)) (hmode : s.m.mode = 5) (hwith : s.m.pair.diverged = false)
  (hofs : fieldAt p 0 4 = 0) (hheader : 64 ≤ (p.drop 8).length) (htotal : fieldAt p 4 4 = (p.drop 8).length)
include hframe hmode hwith hofs hheader htotal

/-- A commit stream that comes before the standby's own firing has ended waits for it (log entry 82). -/
theorem commitMessage_early (htick : tick = s.m.tickNo) (hfires : s.m.tick.fires = true) (hruns : s.m.tick.ended = false) :
    Completes (exec (.commitMessage f) s) fun t => assocGet t.m.pair.rx Mach.earlyCommit =
      some ⟨tick, (p.drop 8).length, p.drop 8⟩ ∧ KeepsRegs s t [] ∧ SameCores s t := by
  let rest := assocDel s.m.pair.rx 0x10
  refine completes_recv hdead hup hframe (g := fun o => { s.m with out := o, pair := { s.m.pair with
    rx := assocPut rest Mach.earlyCommit ⟨tick, (p.drop 8).length, p.drop 8⟩ } }) (fun o => ?_) fun o =>
      ⟨assocGet_assocPut_same _ _ _, fun _ _ _ => rfl, rfl, rfl, rfl⟩
  have hlen : ¬p.length < 8 := by
    rw [List.length_drop] at hheader
    omega
  rw [if_neg hlen, Mach.commitPart_whole (m := { s.m with out := o }) hmode hwith hofs htotal hheader]
  exact if_pos ⟨htick, hfires, by simp [hruns]⟩

/-- A commit stream whose CHECK differs from the standby's own begins a divergence (R327). -/
theorem commitMessage_differs {c : Commit} (hended : s.m.tick.ended = true) (hcommit : s.m.jrn.commit = some c)
    (hown : c.tick = tick) (hkept : s.m.pair.skipCommit = false)
    (hcheck : fieldAt (p.drop 8) 60 4 ≠ fieldAt c.header 60 4) :
    Completes (exec (.commitMessage f) s) fun t => t.m.pair.diverged = true ∧ t.m.wantMode = some 4 ∧
      t.m.bit PTL_STAT 11 = true ∧ SameCores s t := by
  let taken (o : List Out) : Mach := { s.m with out := o, pair := { s.m.pair with rx := assocDel s.m.pair.rx 0x10 } }
  let answered (o : List Out) : Mach := (taken o).sendConfirm 3 (Mach.streamCheck (p.drop 8))
  refine completes_recv hdead hup hframe (g := fun o => (answered o).diverge 4) (fun o => ?_) fun o => ?_
  · have hlen : ¬p.length < 8 := by
      rw [List.length_drop] at hheader
      omega
    have hlate : ¬(tick = (taken o).tickNo ∧ (taken o).tick.fires = true ∧ (!(taken o).tick.ended) = true) := by
      have hended' : (taken o).tick.ended = true := hended
      simp [hended']
    rw [if_neg hlen, Mach.commitPart_whole (m := { s.m with out := o }) hmode hwith hofs htotal hheader]
    exact (if_neg hlate).trans (Mach.commitCompare_differs (m := taken o) hcommit hown hkept hcheck)
  · have hsends : Mach.Sends (taken o) (answered o) := (taken o).sendLink_sends 0x11 _
    obtain ⟨hdiverged, hwant, hshown⟩ :=
      Mach.diverge_diverges (m := answered o) (hsends.mode.trans hmode) (hsends.diverged.trans hwith) 4
    exact ⟨hdiverged, hwant, hshown, rfl, rfl, rfl⟩

end

section
variable {c : Commit} (hframe : frameOf 0x11 f = some (cls, mseq, tick, p)) (hlen : p.length = 8) (hmode : s.m.mode = 6)
  (hcommit : s.m.jrn.commit = some c) (htick : c.tick = tick) (hsolo : s.m.solo = false)
include hframe hlen hmode hcommit htick hsolo

theorem confirmMessage_agrees (hphase : s.m.tick.phase ≠ 3) (hresult : fieldAt p 0 1 = 1)
    (hcheck : fieldAt p 4 4 = fieldAt c.header 60 4) (hown : c.ownMirror = false) (hpart : c.partMirror = false) :
    Completes (exec (.confirmMessage f) s) fun t => t.m.jrn.commit = some { c with partner := true } ∧
      KeepsRegs s t [] ∧ SameCores s t := by
  refine completes_recv hdead hup hframe (g := fun o => { s.m with out := o, jrn := { s.m.jrn with
    commit := some { c with partner := true } } }) (fun o => ?_) fun o => ⟨rfl, fun _ _ _ => rfl, rfl, rfl, rfl⟩
  have hgate : ¬(({ s.m with out := o } : Mach).mode ≠ 6 ∨ p.length ≠ 8) := by
    rintro (h | h)
    · exact h hmode
    · exact h hlen
  rw [if_neg hgate, hresult]
  exact Mach.confirmTake_agrees (m := { s.m with out := o }) hmode hphase hcommit htick hsolo hcheck hown hpart

theorem confirmMessage_differs (hresult : fieldAt p 0 1 = 3) (hstandby : s.m.partMode = 5)
    (hwith : s.m.pair.partDiv = false) : Completes (exec (.confirmMessage f) s) fun t =>
      t.m.pair.partDiv = true ∧ t.m.jrn.commit = some c ∧ KeepsRegs s t [] ∧ SameCores s t := by
  refine completes_recv hdead hup hframe (g := fun o => ({ s.m with out := o } : Mach).partnerDiverged 4) (fun o => ?_)
    fun o => ?_
  · have hgate : ¬(({ s.m with out := o } : Mach).mode ≠ 6 ∨ p.length ≠ 8) := by
      rintro (h | h)
      · exact h hmode
      · exact h hlen
    rw [if_neg hgate, hresult]
    exact Mach.confirmTake_differs (m := { s.m with out := o }) hcommit htick hstandby
  · obtain ⟨hdiv, hjrn, hkeeps⟩ := Mach.partnerDiverged_leaves (m := { s.m with out := o }) hmode hsolo hwith 4
    exact ⟨hdiv, (congrArg Jrn.commit hjrn).trans hcommit, hkeeps, rfl, rfl, rfl⟩

end

/-- The standby takes an order that it does not hold: its record and its cell, and it waits for its commit (R355). -/
theorem orderMessage_completes {b : List Byte} {n len : Nat} (hframe : frameOf 0x20 f = some (cls, mseq, tick, p))
    (hmode : s.m.mode = 5) (hb : p.drop 8 = b) (hn : fieldAt b 20 8 = n) (hlen : fieldAt b 14 2 = len)
    (hkind : fieldAt b 0 1 = 1) (hbytes : b.length = 52 + len) (hshort : len ≤ 256) (hcell : fieldAt b 12 2 < 3184)
    (hnew : s.m.accLive n = false ∨ s.m.recState n = 0) (hahead : fieldAt p 0 8 < n) (hpend : s.m.jrn.pend = []) :
    Completes (exec (.orderMessage f) s) fun t =>
      t.m.mem.ldBytes (Mach.recordAt n) 16 = (b.drop 4).take 16 ∧
      t.m.mem.ldBytes (Mach.cellAt (fieldAt b 12 2)) (32 + len) = b.drop 20 ∧
      t.m.jrn.cmtno = max s.m.jrn.cmtno (fieldAt p 0 8) ∧ t.m.jrn.pend.map (·.n) = [n] ∧ SameCores s t := by
  let taken (o : List Out) : Mach :=
    ((({ s.m with out := o } : Mach).orderEntries mseq p.length b).orderCmtno (fieldAt p 0 8)).acjShow
  have hsends (o : List Out) := (taken o).sendLink_sends 0x21 (leBytes 4 mseq ++ leBytes 1 0 ++ leBytes 3 0)
  have hfuel : 0 < p.length := by
    have hp := List.length_drop (i := 8) (l := p)
    rw [hb, hbytes] at hp
    omega
  refine completes_recv hdead hup hframe (g := fun o => (taken o).sendLink 0x21 (leBytes 4 mseq ++ leBytes 1 0 ++ leBytes 3 0))
    (fun o => ?_) fun o => ?_
  · have hgate : ¬((({ s.m with out := o } : Mach).mode ≠ 4 ∨
        (!({ s.m with out := o } : Mach).pair.accepted) = true) ∧ ({ s.m with out := o } : Mach).mode ≠ 5) :=
      fun h => h.2 hmode
    rw [if_neg hgate, hb]
  · obtain ⟨hrecord, hcells, hcmtno, hwaits⟩ := Mach.orderEntries_new (m := { s.m with out := o }) (mseq := mseq) hfuel hn hlen
      hkind hbytes hshort hcell hnew hahead hpend
    obtain ⟨hmem, hjrn⟩ :=
      ((({ s.m with out := o } : Mach).orderEntries mseq p.length b).orderCmtno (fieldAt p 0 8)).acjShow_leaves
    dsimp only
    rw [(hsends o).mem, (hsends o).jrn, hmem, hjrn]
    exact ⟨hrecord, hcells, hcmtno, hwaits, rfl, rfl, rfl⟩

/-- The standby's acknowledgment commits an order whose mirror is written (R345, R347). -/
theorem orderackMessage_completes {o : PendOrder} (hframe : frameOf 0x21 f = some (cls, mseq, tick, p))
    (hacts : s.m.actsPrimary = true) (hlen : p.length = 8) (hpend : s.m.jrn.pend = [o]) (hmseq : o.mseq = fieldAt p 0 4)
    (hown : o.ownMirror = true) : Completes (exec (.orderackMessage f) s) fun t =>
      t.m.jrn.pend = [] ∧ t.m.jrn.cmtno = max s.m.jrn.cmtno o.n ∧ t.m.recState o.n = 2 ∧ SameCores s t := by
  let acked : PendOrder := { o with acked := true, partMirror := o.partMirror || (fieldAt p 4 1).testBit 0 }
  let waits (out : List Out) (l : List PendOrder) : Mach := { s.m with out := out, jrn := { s.m.jrn with pend := l } }
  let told (out : List Out) : Mach := waits out [acked]
  have hmode : s.m.mode = 6 := by
    simp only [Mach.actsPrimary, Bool.and_eq_true, decide_eq_true_eq] at hacts
    exact hacts.1
  have hordered (out : List Out) : (told out).ordered acked = true := by
    have hmirror : acked.ownMirror = true := hown
    have hack : acked.acked = true := rfl
    simp [Mach.ordered, hmirror, hack]
  refine completes_recv hdead hup hframe (g := fun out => ((told out).orderCommit acked).acjShow) (fun out => ?_) fun out => ?_
  · have hgate : ¬(({ s.m with out := out } : Mach).mode ≠ 6 ∨ p.length ≠ 8) := by
      rintro (h | h)
      · exact h hmode
      · exact h hlen
    have hacts' : ¬((!(told out).actsPrimary) = true) := by
      have hacts' : (told out).actsPrimary = true := hacts
      simp [hacts']
    have hready : (told out).jrn.pend.filter (told out).ordered = [acked] := by
      show [acked].filter (told out).ordered = [acked]
      simp [hordered]
    have hcommits : (told out).orderCommits = ((told out).orderCommit acked).acjShow := by
      rw [Mach.orderCommits, if_neg hacts', hready]
      rfl
    rw [if_neg hgate, ← hcommits]
    refine congrArg (fun l => (waits out l).orderCommits) ?_
    show s.m.jrn.pend.map _ = [acked]
    rw [hpend]
    exact congrArg (fun x => [x]) (if_pos hmseq)
  · obtain ⟨hleft, hcmtno, hmem⟩ := (told out).orderCommit_leaves acked
    obtain ⟨hmem', hjrn'⟩ := ((told out).orderCommit acked).acjShow_leaves
    refine ⟨?_, ?_, ?_, rfl, rfl, rfl⟩
    · refine (congrArg Jrn.pend hjrn').trans (hleft.trans ?_)
      show [acked].filter _ = []
      simp
    · exact (congrArg Jrn.cmtno hjrn').trans hcmtno
    · refine (congrArg (·.ldN (Mach.recordAt o.n) 1) (hmem'.trans hmem)).trans ?_
      exact Memory.ldN_stN _ _ _ _

end

end Sys2Proof.Machine
end

section
open Sys2Proof Sys2Proof.Machine

/-- Settles O45: each message of the replicated journal leaves its own part of it. That an early commit record is kept until
the standby's own is log entry 82, and the slot of a header in the mirror is log entry 96. -/
theorem replicatedJournal : Obligations.ReplicatedJournal := by
  unfold Obligations.ReplicatedJournal
  intro f cls mseq tick p s hdead hup
  exact ⟨fun hframe hmode hwith hofs hheader htotal =>
      ⟨commitMessage_early hdead hup hframe hmode hwith hofs hheader htotal,
        fun _ _ => commitMessage_differs hdead hup hframe hmode hwith hofs hheader htotal⟩,
    fun _ hframe hlen hmode hphase hcommit htick hsolo =>
      ⟨confirmMessage_agrees hdead hup hframe hlen hmode hcommit htick hsolo hphase,
        confirmMessage_differs hdead hup hframe hlen hmode hcommit htick hsolo⟩,
    fun hframe hmode => orderMessage_completes hdead hup hframe hmode rfl rfl rfl,
    fun _ hframe => orderackMessage_completes hdead hup hframe,
    fun o hmode hpend hown hcell hlen hn =>
      mirrorOrder_completes hdead (by rw [BitVec.toNat_ofNat, Nat.mod_eq_of_lt hn]) hmode hpend hown hcell hlen,
    fun _ _ hcommit htick hown hpart => mirrorCommit_completes hdead hcommit htick hown hpart⟩

end
